-- ==== Sys2Proof/Word.lean ====
section
/-! DEFINITION. The words of the block: bytes and the register widths the spec names. -/
namespace Sys2Proof

/-- One byte of a packet, a frame or a record. -/
abbrev Byte := BitVec 8

/-- A 32-bit word; IEEE 754 single-precision values are held as their bits. -/
abbrev Word32 := BitVec 32

/-- A 64-bit word; BAR0 registers are 64 bits wide (R493). -/
abbrev Word64 := BitVec 64

/-- An IEEE 754 single-precision value, as its bits. -/
abbrev F32 := BitVec 32

/-- An IEEE 754 double-precision value, as its bits. -/
abbrev F64 := BitVec 64

end Sys2Proof
end

