-- ==== Sys2Proof/Types/Common.lean ====
section
/-! DEFINITION. The plain types that commands, state and replies share: transports, module states, packet headers and indexed tables. -/
namespace Sys2Proof

/-- A sparse table: entries by index, indices strictly rising. An index not listed holds the table's default. -/
abbrev Tbl (α : Type) := List (Nat × α)

/-- The transports that carry command packets (R475, R476, R477). -/
inductive Transport where
  /-- The PCIe command and response rings. -/
  | pcie
  /-- A TLS connection, by its number. -/
  | tls (conn : Nat)
  /-- The pairing link. -/
  | pairing
  deriving DecidableEq, Repr

/-- The module states of R479. -/
inductive ModState where
  | off | retain | boot | snowdrop | idle | ready | serving | test | halted
  deriving DecidableEq, Repr

/-- The 32-byte packet header of R466. -/
structure Header where
  version : Nat := 2
  /-- bit 0 REPLY, bit 1 AUTH, bit 2 FORCE, bit 3 EXPERT. -/
  flags : Nat := 2
  opcode : Nat := 0
  tag : Nat := 0
  slice : Nat := 0xFFFF
  length : Nat := 0
  session : Nat := 0
  sequence : Nat := 0
  reserved : Nat := 0
  deriving DecidableEq, Repr

/-- What the self-tests of R390 find in the hardware (log 4): cells (block * 8 + cell) whose core test fails, whether the
loopback fails, whether the scrub met an uncorrected error and whether that lay in region H, and the known-answer tests. -/
structure SelfTest where
  cells : List Nat := []
  loopback : Bool := false
  scrub : Bool := false
  scrubHub : Bool := false
  /-- Known-answer tests that fail: the mask of R440. -/
  kat : Nat := 0
  deriving DecidableEq, Repr

/-- What cryptography finds in a command's own parameters (log 4): whether the tag of a wrapped key block passes; whether a
signature or a sign-and-verify test in the command passes; and what a self-test it starts finds. -/
structure Verdicts where
  tagPasses : Bool := false
  signed : Bool := true
  selftest : SelfTest := {}
  deriving DecidableEq, Repr

/-- A command as it stands after steps 1 to 3 of R469: its header, its transport, and the principal whose
authority it carries. -/
structure Call where
  hdr : Header := {}
  via : Transport := .pcie
  principal : Nat := 0xFFFF
  /-- The privilege code of R472, 0 to 3. -/
  privilege : Nat := 3
  /-- `none` for module scope, `some n` for a principal scoped to slice n. -/
  scope : Option Nat := none
  /-- Key of the HMAC trailers of a packet with a session number, its reply's and its completion's (R467, R468, R477). -/
  key : List Byte := []
  crypto : Verdicts := {}
  deriving DecidableEq, Repr

/-- A command packet as a transport delivers it (R466, R467). The cryptographic checks of its trailer are the
sender's environment's: their outcomes are operands. -/
structure Packet where
  hdr : Header := {}
  params : List Byte := []
  trailer : Nat := 32
  /-- The principal whose key made the signature, for a packet with session 0 (R467, R470). -/
  signer : Nat := 0xFFFF
  /-- The trailer verifies under the key its header names (R467). -/
  verifies : Bool := true
  /-- The trailer verifies under the public key carried in the key field of the parameters (R471). -/
  selfVerifies : Bool := false
  crypto : Verdicts := {}
  deriving DecidableEq, Repr

/-- Who holds a shared resource, as in the holder layout of R63: a kind code and an index. -/
structure Holder where
  kind : Nat := 0
  index : Nat := 0
  deriving DecidableEq, Repr

end Sys2Proof
end

