-- ==== Sys2Proof/Types/Time.lean ====
section
/-! DEFINITION. Calendula and the always-on island: the image's time section, the operands of the timing events, and the state of both units (R27 to R89). Each state field's docstring reads: what it is | width | rule | reset. -/
namespace Sys2Proof

/-- A time event unit as the Bloom's time section defines it, or as `TIME.TEU_CONFIG` does (R48, R63). -/
structure TeuConfig where
  unit : Nat := 0
  target : Nat := 0
  periodic : Bool := false
  activeLow : Bool := false
  index : Nat := 0
  startSec : Nat := 0
  startFrac : Nat := 0
  widthNs : Nat := 4
  periodPs : Nat := 0
  count : Nat := 0
  deriving DecidableEq, Repr

/-- The Bloom's time section (R28, R36, R37, R46, R47, R55, R62, R69). -/
structure TimeSection where
  profile : Nat := 1
  domain : Nat := 0
  clockType : Nat := 0
  l1sync : Nat := 0
  stepMode : Nat := 0
  preference : Nat := 0
  utcOffset : Nat := 37
  /-- Service in fallback permitted (R36). -/
  fallbackService : Bool := false
  /-- The path to the grandmaster is L1Sync end to end (R46). -/
  l1EndToEnd : Bool := false
  ppsAccuracyNs : Nat := 0
  driftPs : Nat := 70
  /-- Sync interval of 2^-n s as master, n in 0 to 4 (R37). -/
  logSync : Nat := 0
  /-- SyncE clock: ITU-T G.8262 EEC option 1 or 2 (R44). -/
  eec : Nat := 1
  /-- Upper 24 bits of SEC when seeding from the RTC (R69). -/
  epochHint : Nat := 0
  teus : List TeuConfig := []
  /-- The PTP ports that the image names, each a single port (true) or a pair, which R369 holds to the pairs' modes (log 119). -/
  ptpPorts : List (Bool × Nat) := []
  deriving DecidableEq, Repr

/-- One offset measurement of the servo (R31): theta is local minus source, in 2^-64 s. For PTP it is taken from the port's
own timestamps, before the corrections of R43. -/
structure Measurement where
  /-- 1 PTP, 2 PPS and IRIG-B. -/
  source : Nat := 1
  theta : Int := 0
  /-- PTP Sync interval of 2^-n s, n in 0 to 4; not used for PPS. -/
  logSync : Nat := 0
  deriving DecidableEq, Repr

/-- PTP message kinds on Ethertype 0x88F7 (R37). -/
inductive PtpKind where
  | announce | sync | followUp | pdelayReq | pdelayResp | pdelayRespFollowUp
  deriving DecidableEq, Repr

/-- A received PTP message: the fields the module acts on. The best-master decision of IEEE 1588-2019, which the
spec takes from that standard, arrives as `role`: the state the BMCA gives the port after this message. -/
structure PtpMessage where
  kind : PtpKind := .sync
  domain : Nat := 0
  sequence : Nat := 0
  source : Nat := 0
  twoStep : Bool := false
  correction : Int := 0
  grandmaster : Nat := 0
  stepsRemoved : Nat := 0
  utcOffset : Nat := 37
  utcValid : Bool := false
  leap61 : Bool := false
  leap59 : Bool := false
  /-- L1Sync TLV present, with txCoherent, rxCoherent and congruent all set (R44). -/
  l1Tlv : Bool := false
  l1Ready : Bool := false
  /-- Contents of an IEEE_C37_238 TLV, where the message carries one (R37). -/
  c37 : Option (List Byte) := none
  /-- What the port's own timestamps give with this message, before the corrections of R43, in 2^-64 s: the offset of a
  Sync that is one-step or of a Follow_Up, the link delay of a peer-delay response. -/
  measured : Int := 0
  /-- Port role after the BMCA: 0 disabled, 1 slave, 2 passive slave, 3 master, 4 passive. -/
  role : Nat := 4
  deriving DecidableEq, Repr

/-- A PTP message as it leaves a port: its timestamp, residence or turnaround in 2^-64 s; and, in an Announce, what the
module has from its parent, with the parent's IEEE_C37_238 TLV (R37, R39, R41, R42). -/
structure PtpSent where
  kind : PtpKind := .sync
  sequence : Nat := 0
  stamp : Int := 0
  /-- Messages of this kind come every 2^-n s. -/
  logInterval : Nat := 0
  grandmaster : Nat := 0
  stepsRemoved : Nat := 0
  utcOffset : Nat := 0
  leap61 : Bool := false
  leap59 : Bool := false
  c37 : Option (List Byte) := none
  deriving DecidableEq, Repr

/-- An edge as it reaches its target: edge sequence number, count of grid points passed over, the time at the ball in
2^-64 s with the output delay added, the pulse's width and polarity, and whether the ball is driven (R48, R51). -/
structure TeuEdge where
  unit : Nat := 0
  target : Nat := 0
  index : Nat := 0
  sequence : Nat := 0
  /-- SKIPPED. -/
  late : Bool := false
  skipped : Nat := 0
  time : Int := 0
  widthNs : Nat := 0
  activeLow : Bool := false
  drives : Bool := true
  deriving DecidableEq, Repr

/-- The time-quality fields of IEC 61850 (R45). -/
structure TimeQuality where
  accuracy : Nat := 31
  notSynchronized : Bool := true
  failure : Bool := true
  deriving DecidableEq, Repr

/-- A GOOSE control block that the module sends: an output stage's, a trigger group's, a location line's, the heartbeats of a
path, the beacons, or a program's frames to a station (R171, R223, R260, R325, R372, R404). -/
inductive GooseBlock where
  | stage (n : Nat)
  | group (n : Nat)
  | line (n : Nat)
  | heartbeat (path : Nat)
  | beacon
  | station (core station : Nat)
  deriving DecidableEq, Repr

/-- What sends a GOOSE control block of its own: an output stage, a trigger group, a location line, a heartbeat path, the
beacons, or a program (R171, R223, R260, R325, R372, R404). -/
inductive GooseSender where
  | stage | group | line | heartbeat | beacon | station
  deriving DecidableEq, Repr

/-- What an IRIG-B frame says of itself: its format B00x and its second within the minute (R55). -/
structure IrigSecond where
  format : Nat := 6
  second : Nat := 0
  deriving DecidableEq, Repr

/-- A GOOSE frame: its ports, its addressing where the Bloom gives one, and the fields of R171. -/
structure Goose where
  block : GooseBlock := .beacon
  ports : List Nat := []
  priority : Nat := 0
  vlan : Option Nat := none
  mac : Option Nat := none
  appid : Option Nat := none
  gocbRef : List Byte := []
  datSet : List Byte := []
  goId : List Byte := []
  timeAllowedMs : Nat := 4
  /-- Station time of the last change of stNum, and its quality (R45). -/
  t : Nat := 0
  quality : TimeQuality := {}
  stNum : Nat := 0
  sqNum : Nat := 0
  simulation : Bool := false
  /-- The Bloom's configuration revision, where it gives the block one. -/
  confRev : Option Nat := none
  ndsCom : Bool := false
  entries : Nat := 2
  /-- allData: the octet string, then the Quality's test bit. -/
  payload : List Byte := []
  test : Bool := false
  /-- Key that authenticates the frame, and its algorithm, which is its USE (R422). -/
  key : Nat := 0
  algorithm : Nat := 0
  /-- The security extension's key identifier and authentication value (R422, R426). -/
  keyId : Nat := 0
  tag : List Byte := []
  deriving DecidableEq, Repr

/-- The octets of a frame that IEC 62351-6 authenticates, its nonce with them; that standard gives them (log 4). -/
opaque Config.goosePdu : Goose → List Byte

/-- Sending state of a control block whose message is repeated: stNum, sqNum, repetitions sent, elapsed and station time of
the last new message, and its payload (R171, R223, R260). -/
structure GooseSend where
  sequence : Nat := 0
  sqNum : Nat := 0
  repeats : Nat := 0
  at_ : Nat := 0
  changedAt : Nat := 0
  payload : List Byte := []
  deriving DecidableEq, Repr

/-- A time event unit: configuration, progress and holder. -/
structure Teu where
  armed : Bool := false
  cfg : TeuConfig := {}
  /-- Next edge number n of START + n * PERIOD. -/
  next : Nat := 0
  /-- Number n of the last edge fired; none before the first. -/
  lastN : Option Nat := none
  /-- Edge sequence number; it never decreases (R51). -/
  sequence : Nat := 0
  fired : Nat := 0
  /-- Grid points passed over by a forward step, reported with the next edge. -/
  skipped : Nat := 0
  skipFlag : Bool := false
  /-- Station time at which the last edge fired: the next one needs another time (R51). -/
  lastAt : Option Nat := none
  /-- Elapsed time at which the pulse in progress ends (R48). -/
  pulse : Option Nat := none
  /-- Stopped while a pulse is in progress: it disarms when the pulse has ended (R64). -/
  stopping : Bool := false
  holderSlice : Nat := 0xFFFF
  holderOpcode : Nat := 0x0305
  holderObject : Nat := 0
  deriving DecidableEq, Repr

/-- One fine capture (R65). -/
structure Capture40 where
  sec : Nat := 0
  frac40 : Nat := 0
  edge : Nat := 0
  cls : Nat := 0
  sequence : Nat := 0
  deriving DecidableEq, Repr

/-- A fine-capture input: its queue of 16, drop count and edge bookkeeping (R52). -/
structure CaptureInput where
  queue : List Capture40 := []
  dropped : Nat := 0
  dropFlag : Bool := false
  sequence : Nat := 0
  /-- Elapsed time of the last edge captured, ns. -/
  lastEdge : Option Rat := none
  deriving DecidableEq, Repr

/-- A transparent-clock residence entry waiting for its Follow_Up (R42). -/
structure Residence where
  sequence : Nat := 0
  source : Nat := 0
  residence : Int := 0
  at_ : Nat := 0
  deriving DecidableEq, Repr

/-- A PTP port (R38 to R44). -/
structure PtpPort where
  ptp : Bool := false
  l1sync : Bool := false
  delayAsymmetry : Int := 0
  ingress : Int := 0
  egress : Int := 0
  role : Nat := 0
  l1Up : Bool := false
  l1Disabled : Bool := false
  residences : List Residence := []
  followDrops : Nat := 0
  /-- Elapsed times of the last usable Announce and Sync (R33). -/
  lastAnnounce : Option Nat := none
  lastSync : Option Nat := none
  /-- The port's own offset measurement and link delay, corrected (R40, R43). -/
  offset : Option Int := none
  linkDelay : Int := 0
  deriving DecidableEq, Repr

/-- Servo states of R33. -/
inductive Servo where
  | unset | seeded | acquiring | locked | holdover | fallback | fault
  deriving DecidableEq, Repr

/-- State of Calendula. -/
structure TimeState where
  /-- Station time SEC:FRAC, in 2^-64 s | 128 | R27 | 0 (R33: the counter runs from 0 at reset) -/
  now : Nat := 0
  /-- INC, 2^-64 s per TIME cycle | 64 | R30 | 36,893,488,147 (nominal) -/
  inc : Nat := 36893488147
  /-- INC over the last 64 measurement intervals, newest first | 64 x 64 | R31 | DESIGN CHOICE empty, so inc_learned is the nominal INC (log 5) -/
  incHist : List Nat := []
  /-- Servo gain kp, s^-1; none: the reset gain 0.5 / T_m | 32 | R31 R66 | 0.5 / T_m -/
  kp : Option F32 := none
  /-- Servo gain ki, s^-2; none: the reset gain 0.05 / T_m^2 | 32 | R31 R66 | 0.05 / T_m^2 -/
  ki : Option F32 := none
  /-- Slew limit, parts per 10^9 | 32 | R31 R66 | 100,000 -/
  slewPpb : Nat := 100000
  /-- Holdover drift coefficient D, ps/s | 16 | R47 | 70 -/
  driftPs : Nat := 70
  /-- Last filtered theta, 2^-64 s | 64 | R31 R59 | DESIGN CHOICE 0 (log 5) -/
  theta : Int := 0
  /-- Sum of theta_j, 2^-64 s | - | R31 | DESIGN CHOICE 0 (log 5) -/
  thetaSum : Int := 0
  /-- Servo state | 3 | R33 | UNSET (0) -/
  servo : Servo := .unset
  /-- Elapsed time at entry to the present servo state | - | R59 | 0 -/
  servoSince : Nat := 0
  /-- Elapsed time since which the servo stands in HOLDOVER or FALLBACK without a break | - | R254 | 0 -/
  unlockedSince : Nat := 0
  /-- Last measurements of the selected source, newest first, at most 8 | - | R33 | empty -/
  recent : List Int := []
  /-- Last measurements of the preferred source while the other one is in use, newest first, at most 8 | - | R33 R55 | empty -/
  candidate : List Int := []
  /-- Consecutive measurements within the lock bound | - | R33 | 0 -/
  within : Nat := 0
  /-- Source being measured: 0 none, 1 PTP, 2 PPS and IRIG-B (fallback shows as 3) | 8 | R59 | 0 -/
  source : Nat := 0
  /-- First-lock step taken since boot | 1 | R34 | 0 -/
  firstLock : Bool := false
  /-- A source has locked since boot | 1 | R67 | 0 -/
  lockedOnce : Bool := false
  /-- RTC OSF has been set at some time since boot | 1 | R67 | 1 (AON_STATUS.OSF resets to 1, R85) -/
  osfSinceBoot : Bool := true
  /-- Re-step pending, confirmed offset once 8 further measurements agree | - | R35 | none -/
  confirmed : Option Int := none
  /-- Exit from SERVING or TEST requested by FAULT | 1 | R35 | 0 -/
  exitRequest : Bool := false
  /-- Station-time steps since boot | 8 | R59 | 0 -/
  steps : Nat := 0
  /-- Slave port; none 0xFF | 8 | R59 | none -/
  slavePort : Option Nat := none
  /-- Grandmaster clockIdentity | 64 | R59 | 0 -/
  grandmaster : Nat := 0
  /-- stepsRemoved of the parent | 16 | R59 | 0 -/
  stepsRemoved : Nat := 0
  /-- UTC offset, leap61 and leap59 of the PTP parent while valid | 16+2 | R28 | none -/
  utcPtp : Option (Nat × Bool × Bool) := none
  /-- UTC offset, leap61 and leap59 of IRIG-B while valid | 16+2 | R28 | none -/
  utcIrig : Option (Nat × Bool × Bool) := none
  /-- UTC offset of the latest TIME.SET since the last swap | 16 | R28 R61 | none -/
  utcSet : Option Nat := none
  /-- Leap second ahead or just passed: TAI second at which the UTC day ends, the offset before it, and whether a second is inserted | 64+16+1 | R28 R56 | none -/
  leap : Option (Nat × Nat × Bool) := none
  /-- The last leap second that the source's offset has followed, in the same form | 64+16+1 | R28 | none -/
  leapDone : Option (Nat × Nat × Bool) := none
  /-- IEEE_C37_238 TLV of the parent's Announce | - | R37 | none -/
  c37 : Option (List Byte) := none
  /-- defaultDS clockClass | 8 | R39 | 248 -/
  clockClass : Nat := 248
  /-- defaultDS priority1 | 8 | R39 | 255 -/
  priority1 : Nat := 255
  /-- Elapsed time of the last PPS_IN edge | - | R33 | none -/
  ppsAt : Option Nat := none
  /-- Elapsed time of the last IRIG-B reference marker | - | R55 | none -/
  irigAt : Option Nat := none
  /-- Error bound at entry to HOLDOVER or FALLBACK, in 2^-64 ps; none unknown | - | R46 R47 | none -/
  e0 : Option Nat := none
  /-- Live time configuration: profile | 8 | R62 | DESIGN CHOICE 1 (log 5) -/
  profile : Nat := 1
  /-- Live time configuration: PTP domain | 8 | R62 | DESIGN CHOICE 0 (log 5) -/
  domain : Nat := 0
  /-- Live time configuration: clock type, 0 boundary, 1 transparent | 8 | R62 | DESIGN CHOICE 0 (log 5) -/
  clockType : Nat := 0
  /-- Live time configuration: L1Sync | 8 | R62 | DESIGN CHOICE 0 (log 5) -/
  l1sync : Nat := 0
  /-- Live time configuration: step mode | 8 | R62 | DESIGN CHOICE 0 (log 5) -/
  stepMode : Nat := 0
  /-- Live time configuration: source preference | 8 | R62 | DESIGN CHOICE 0 (log 5) -/
  preference : Nat := 0
  /-- Sync interval as master is 2^-n s, n; logSyncInterval is -n | 3 | R37 | 0 -/
  logSync : Nat := 0
  /-- EEC option of the SyncE clock | 2 | R44 | DESIGN CHOICE 1 (log 5) -/
  eec : Nat := 1
  /-- PTP ports 0 to 10 | - | R38 to R44 | corrections 0 (R43); enables DESIGN CHOICE off (log 5) -/
  ports : Tbl PtpPort := []
  /-- Input and output delays of the 11 timing balls, ps | 11 x 32 | R66 | DESIGN CHOICE 0 (log 5) -/
  ioDelay : Tbl Int := []
  /-- The 16 time event units | - | R48 to R51 | disarmed -/
  teus : Tbl Teu := []
  /-- The 6 fine-capture inputs: TRIG_IN0 to 3, PPS_IN, SYSREF | - | R52 R65 | empty -/
  captures : Tbl CaptureInput := []
  /-- Second named by the last IRIG-B frame and whether it is valid | 64+1 | R55 | none -/
  irig : Option (Nat × Bool) := none
  /-- Measurement interval T_m is 2^-n s, n | 3 | R31 | DESIGN CHOICE 0, 1 s (log 5) -/
  logTm : Nat := 0
  /-- Loop instances whose cycle start a unit has marked, oldest first | - | R48 R136 | none -/
  loopEdges : List Nat := []
  /-- Control cores whose next cycle a unit has released, oldest first | - | R48 R321 | none -/
  coreEdges : List (Nat × Nat) := []
  /-- Units that have fired and are not yet given to functions bound to them (the model's own, empty between steps) | - | R276 | empty -/
  edges : List Nat := []
  /-- The Bloom's units that wait to be armed: for the servo to leave UNSET, or for the pulse of a stopped unit to end | - | R50 R64 | none -/
  teusDue : List TeuConfig := []
  /-- Elapsed time since reset, 2^-64 s: station time without its steps | - | R29 R30 | 0 -/
  mono : Nat := 0
  deriving DecidableEq, Repr

/-- An alarm of the island (R77). -/
structure Alarm where
  armed : Bool := false
  /-- Alarm time as a count of 2^-15 s. -/
  at_ : Nat := 0
  deriving DecidableEq, Repr

/-- State of the real-time clock and the always-on island. -/
structure RtcState where
  /-- The RTC count SEC40:FRAC15 in 2^-15 s | 55 | R69 | DESIGN CHOICE 0 (log 5) -/
  count : Nat := 0
  /-- AON_STATUS | 32 | R85 | 0x0000_4003: OSF 1, CAUSE_FIRST 1, SQW_SEL 0b01, all else 0 -/
  status : Word32 := 0x4003#32
  /-- Alarms 0 and 1 | 2 x 56 | R77 | DESIGN CHOICE disarmed (log 5) -/
  alarms : Tbl Alarm := []
  /-- Wake period P in 1/256 s; 0 off | 32 | R78 | DESIGN CHOICE 0 (log 5) -/
  wakeP : Nat := 0
  /-- RTC count of the last wake firing | - | R79 | none -/
  wakeLast : Option Nat := none
  /-- RTC count up to which multiples of P have been handled | - | R79 | 0 -/
  wakeFrom : Int := 0
  /-- Multiples passed over at the last WAKE_SKIPPED | 32 | R79 R87 | 0 -/
  wakeSkips : Nat := 0
  /-- A forward step passed multiples: the next firing sets WAKE_SKIPPED | 1 | R79 | 0 -/
  wakePassed : Nat := 0
  /-- Shift to be added at the next oscillator edge | 16 | R84 | none -/
  shift : Option Int := none
  /-- Value to be written at the next oscillator edge by RTC.SET | 55 | R79 R87 | none -/
  write : Option Nat := none
  /-- Discipline writes the count from station time at the next oscillator edge | 1 | R83 | 0 -/
  writeStation : Bool := false
  /-- Last VBAT sample, mV | 16 | R71 R87 | DESIGN CHOICE 0 (log 5) -/
  vbatMv : Nat := 0
  /-- The oscillator is missing edges | 1 | R72 R89 | 0 -/
  oscStopped : Bool := false
  /-- Discipline interval, s | 16 | R87 | 64 -/
  interval : Nat := 64
  /-- Discipline on | 1 | R87 | 1 -/
  discipline : Bool := true
  /-- Elapsed time at the last completed discipline pass | - | R85 | none -/
  lastPass : Option Nat := none
  /-- Elapsed time at acceptance of the last RTC.SHIFT, and its counts (KL-07) | - | R586 | none -/
  lastShift : Option (Nat × Int) := none
  /-- Station time of the last oscillator edge | 128 | R82 | 0 -/
  edgeAt : Nat := 0
  /-- TIME cycles counted towards the next oscillator edge, times 128 | - | R69 | 0 -/
  phase : Nat := 0
  /-- VAON present | 1 | R70 | 1 -/
  vaon : Bool := true
  /-- VBAT at or above the retention threshold | 1 | R70 | DESIGN CHOICE present (log 5) -/
  vbat : Bool := true
  /-- Elapsed time since which VAON and VBAT are both below 1.8 V, the hold-up carrying the rail | - | R70 | none -/
  holdup : Option Nat := none
  /-- The hold-up was over when a supply came back: the rail can have fallen | - | R70 | 0 -/
  railFell : Bool := false
  /-- What has fired in RETAIN since the last boot, as in the RTC boot report | 8 | R76 | 0 -/
  firedRetain : Nat := 0
  /-- WAKE_N driven low | 1 | R77 | 0 -/
  wakeLow : Bool := false
  /-- Owner of SQW_TRIGOUT3: 0 low, 1 square wave, 2 time event unit | - | R80 R81 | 1 (square wave in BOOT, SQW_SEL = 1) -/
  sqwOwner : Nat := 1
  /-- Elapsed time until which the ball stays low at a change of owner | - | R81 | 0 -/
  sqwLowUntil : Nat := 0
  /-- Level of SQW_TRIGOUT3 | 1 | R80 R81 | 1 (the square wave owns the ball, and its rising edge is at FRAC15 = 0) -/
  sqwBall : Bool := true
  deriving DecidableEq, Repr

end Sys2Proof
end

