-- ==== Sys2Proof/Types/Acq.lean ====
section
/-! DEFINITION. The trigger and acquisition engine: the image's section, the JESD204C links, the pre-trigger ring, the captures and the record store (R211 to R243). State docstrings read: what it is | width | rule | reset. -/
namespace Sys2Proof

/-- A JESD204C link (R211, R240). -/
structure LinkConfig where
  lanes : Nat := 1
  first : Nat := 0
  converters : Nat := 1
  octets : Nat := 2
  samples : Nat := 1
  blocks : Nat := 1
  rbd : Nat := 0
  fs : Nat := 1000000
  latency : Nat := 0
  realign : Bool := false
  enable : Nat := 0
  /-- The time event unit that gives SYSREF. -/
  teu : Nat := 0
  deriving DecidableEq, Repr

/-- A mask test (R230, R239): vertices as ns after the trigger and value. -/
structure MaskTest where
  channel : Nat := 0
  enabled : Bool := false
  upper : List (Int × F32) := []
  lower : List (Int × F32) := []
  deriving DecidableEq, Repr

/-- A capture definition (R238). -/
structure CaptureConfig where
  mode : Nat := 0
  stopOnViolation : Bool := false
  sendCross : Bool := false
  lockEach : Bool := false
  autoarm : Bool := false
  trigIn : Nat := 0
  falling : Nat := 0
  channels : Nat := 0
  pre : Nat := 0
  post : Nat := 1
  timeoutMs : Nat := 1000
  gatherUs : Nat := 1000
  owner : Nat := 0
  sendGroup : Nat := 0
  groups : List Nat := []
  selectors : List Nat := []
  decisionSlice : Nat := 0xFFFF
  decisionFn : Nat := 0xFFFF
  decisionCode : Nat := 0
  masks : Tbl MaskTest := []
  deriving DecidableEq, Repr

/-- A trigger group's GOOSE identity (R223). -/
structure GroupConfig where
  gocbRef : List Byte := []
  datSet : List Byte := []
  goId : List Byte := []
  mac : Nat := 0
  key : Option Nat := none
  deriving DecidableEq, Repr

/-- The acquisition section of an image. -/
structure AcqSection where
  links : Tbl LinkConfig := []
  segments : Nat := 8
  storeBytes : Nat := 16777216
  captures : Tbl CaptureConfig := []
  /-- Engineering scale of each fast channel (R230). -/
  scales : Tbl F32 := []
  groups : Tbl GroupConfig := []
  deriving DecidableEq, Repr

/-- What a link's lanes report (R213). -/
inductive LinkReport where
  /-- 64 consecutive valid headers on every lane. -/
  | headerLock
  /-- Extended multiblock lock on every lane, with the largest lane skew in octets. -/
  | blockLock (skew : Nat)
  /-- Loss of sync header or multiblock lock on some lane. -/
  | loss
  deriving DecidableEq, Repr

/-- A stored sample of one link: its index, a code per converter (-32,768 invalid), the converters that clipped (R214, R215). -/
structure FastSample where
  n : Nat := 0
  codes : List Int := []
  clipped : List Nat := []
  deriving DecidableEq, Repr

/-- A link's state (R213 to R218). -/
structure LinkInst where
  cfg : LinkConfig := {}
  /-- 0 DOWN, 1 SH_LOCK, 2 EMB_LOCK, 3 ALIGNING, 4 DATA. -/
  state : Nat := 0
  /-- Elapsed time at entry to EMB_LOCK; the report of R213 has been written. -/
  since : Nat := 0
  reported : Bool := false
  /-- Nominal time of the SYSREF edge it aligned to, 2^-40 s. -/
  aligned : Nat := 0
  /-- Steps of station time since that edge, 2^-64 s, not yet in its index (R214). -/
  shift : Int := 0
  /-- Index of the next sample. -/
  next : Nat := 0
  crcErrors : Nat := 0
  headerErrors : Nat := 0
  phaseErrors : Nat := 0
  realigns : Nat := 0
  skew : Nat := 0
  invalid : Nat := 0
  /-- Its samples in the pre-trigger ring, newest first. -/
  ring : List FastSample := []
  deriving DecidableEq, Repr

/-- Where a trigger comes from (R219): an input and edge; a group; a comparator; a decision; the command; the timeout. -/
inductive TrigSource where
  | input (n : Nat) (falling : Bool)
  | cross (group : Nat)
  | chain (chain channel comparator : Nat)
  | decision (slice fn k code : Nat) (trip : Bool)
  | command (capture : Option Nat)
  | timeout (capture : Nat)
  deriving DecidableEq, Repr

/-- A trigger: its source, its time in 2^-40 s, and whether it comes from a suspect sender (R223). -/
structure Trigger where
  source : TrigSource := .command none
  time : Nat := 0
  suspect : Bool := false
  deriving DecidableEq, Repr

/-- A committed record: number, capture, owner, header of R234 without its locked bit, data. -/
structure CapRecord where
  number : Nat := 0
  capture : Nat := 0
  /-- The slice that it is mapped to, with its generation as the transfer began (R304). -/
  owner : Nat := 0
  generation : Nat := 1
  locked : Bool := false
  header : List Byte := []
  data : List Byte := []
  /-- Trigger time in 2^-40 s, and its channel mask, link rate, first index and samples, for the locator. -/
  time : Nat := 0
  channels : Nat := 0
  fs : Nat := 0
  first : Nat := 0
  samples : Nat := 0
  deltaPs : Int := 0
  /-- Time class and E in ns at its trigger. -/
  cls : Nat := 0
  errorNs : Nat := 0
  deriving DecidableEq, Repr

/-- What the mask tests of a record find (R230): the failing tests as a bitmask, the sample offset of the first violation and its channel,
the samples not tested. -/
structure MaskResult where
  failing : Nat := 0
  first : Option (Nat × Nat) := none
  untested : Nat := 0
  deriving DecidableEq, Repr

/-- A capture (R224 to R241). -/
structure Capture where
  cfg : CaptureConfig := {}
  /-- 0 STOPPED, 1 ARMED, 2 GATHERING, 3 POST, 4 COMMITTING. -/
  state : Nat := 0
  tuned : Bool := false
  byViolation : Bool := false
  /-- Elapsed time from which the AUTO timeout runs; none while withheld. -/
  since : Option Nat := none
  trigger : Trigger := {}
  /-- Time class, and E in ns, at the trigger. -/
  cls : Nat := 0
  errorNs : Nat := 0
  /-- Elapsed time at acceptance. -/
  accepted : Nat := 0
  /-- Secondary trigger times, first 8 in order of arrival, and how many more. -/
  secondary : List Nat := []
  more : Nat := 0
  /-- Samples of the record by link, oldest first. -/
  samples : Tbl (List FastSample) := []
  preShort : Bool := false
  truncated : Bool := false
  /-- Loopback residual when its trigger point became final, 2^-40 s. -/
  delta : Int := 0
  stopDue : Bool := false
  /-- Triggers ahead of station time, held until their samples exist (R222). -/
  held : List Trigger := []
  /-- The record being written, its number still open, and what its masks found (R224, R227). -/
  built : CapRecord := {}
  found : MaskResult := {}
  /-- The definition to take when the commit ends; inner none where the capture is no longer defined (R231, R232). -/
  follow : Option (Option CaptureConfig) := none
  records : Nat := 0
  triggers : Nat := 0
  secondaries : Nat := 0
  forced : Nat := 0
  forcedSuspended : Nat := 0
  noSpace : Nat := 0
  shorts : Nat := 0
  maskFailures : Nat := 0
  future : Nat := 0
  /-- Samples not tested because invalid (R230). -/
  untested : Nat := 0
  last : Nat := 0xFFFFFFFF
  deriving DecidableEq, Repr

/-- A received cross-trigger message (R223). -/
structure CrossMessage where
  group : Nat := 0
  /-- Its IEC 62351-6 authentication verifies under the group's key. -/
  authentic : Bool := true
  version : Nat := 1
  flags : Nat := 0
  moduleId : Nat := 0
  cls : Nat := 0
  sequence : Nat := 0
  sec : Nat := 0
  frac40 : Nat := 0
  deriving DecidableEq, Repr

/-- State of the trigger and acquisition engine. -/
structure AcqState where
  /-- Links 0 to 3 | - | R213 R241 | DOWN, not configured -/
  links : Tbl LinkInst := []
  /-- Segments of the capture SRAM that the pre-trigger ring holds | 4 | R217 | 0 -/
  segments : Nat := 0
  /-- The slice and object of the ACQ.ARM that claimed them | - | R63 R217 | 0 -/
  holder : Nat × Nat := (0xFFFF, 0)
  /-- Captures 0 to 15 | - | R224 R241 | STOPPED, undefined -/
  captures : Tbl Capture := []
  /-- The record store, newest first | - | R233 R234 | empty -/
  records : List CapRecord := []
  /-- Next record number | 32 | R233 | 0 -/
  nextRecord : Nat := 0
  /-- Triggers that have not reached the engine, oldest first | - | R219 | empty -/
  inFlight : List Trigger := []
  /-- Segments that the switch mirror ring holds, and the slice and object of the command that claimed them | 4 | R217 | 0 -/
  mirrorSegments : Nat := 0
  mirrorHolder : Nat × Nat := (0xFFFF, 0)
  /-- Loopback residual, 2^-40 s | - | R214 | 0 (log 5) -/
  delta : Int := 0
  /-- Trigger groups that have sent | - | R223 | none -/
  sends : Tbl GooseSend := []
  /-- Sequences acted on, by sender * 256 + group | 32 each | R223 | none -/
  seen : Tbl (List Nat) := []
  deriving DecidableEq, Repr

end Sys2Proof
end

