-- ==== Sys2Proof/Types/Command.lean ====
section
/-! DEFINITION. The command processor, the event recorder, start-up, fault handling and power: operands and state (R466 to R590, R515 to R577). State docstrings read: what it is | width | rule | reset. -/
namespace Sys2Proof

/-- A session of R473. -/
structure Session where
  number : Nat := 1
  principal : Nat := 0xFFFF
  privilege : Nat := 0
  scope : Option Nat := none
  via : Transport := .pcie
  /-- Idle timeout, s. -/
  timeout : Nat := 600
  /-- Sequence of the last packet accepted; none before the first. -/
  last : Option Nat := none
  /-- Elapsed time at the last packet accepted. -/
  usedAt : Nat := 0
  /-- The session key of R473. -/
  key : List Byte := []
  /-- Station second and number of `EVR.MARK` records in it (R557). -/
  markSecond : Nat := 0
  marks : Nat := 0
  deriving DecidableEq, Repr

/-- A command or response ring of R495. -/
structure Ring where
  base : Nat := 0
  log2Slots : Nat := 0
  slotShift : Nat := 0
  enable : Bool := false
  prod : Nat := 0
  cons : Nat := 0
  deriving DecidableEq, Repr

/-- The trailer a reply carries: 32 bytes of an HMAC under the session key, or a signature by the device identity key (R468). -/
inductive Trailer where
  | none
  | hmac (bytes : List Byte)
  | signature (bytes : List Byte)
  deriving DecidableEq, Repr

/-- A reply of R468. -/
structure Reply where
  hdr : Header := {}
  status : Nat := 0
  reason : Nat := 0
  stateWord : Nat := 0
  mask : Nat := 0
  payload : List Byte := []
  trailer : Trailer := .none
  deriving DecidableEq, Repr

/-- The commands that reply ST_ACCEPTED and owe a completion (R512). -/
inductive CompletionKind where
  | load | swap | quiesce (slice : Nat) | sliceReset (slice : Nat) | lupinOffer | fwLoad
  deriving DecidableEq, Repr

/-- A completion owed: the call it repeats and the mask its reply carries. -/
structure Completion where
  call : Call := {}
  mask : Nat := 0
  kind : CompletionKind := .load
  deriving DecidableEq, Repr

/-- A TLS connection to port 30270 (R476): its number and whether it came in on port 11. -/
structure TlsConn where
  number : Nat := 0
  onPort11 : Bool := true
  deriving DecidableEq, Repr

/-- State of the command processor and its transports. -/
structure CmdState where
  /-- Sessions open, at most 32 | - | R473 | none -/
  sessions : List Session := []
  /-- Last signed sequence accepted per principal since boot | 64 each | R474 | none -/
  lastSigned : Tbl Nat := []
  /-- Last sequence accepted from the partner since boot | 64 | R474 | none -/
  lastPartner : Option Nat := none
  /-- CMD_RING_BASE, CMD_RING_CFG, CMD_DOORBELL | 3 x 64 | R495 | 0 -/
  cmdRing : Ring := {}
  /-- RSP_RING_BASE, RSP_RING_CFG, RSP_DOORBELL | 3 x 64 | R495 | 0 -/
  rspRing : Ring := {}
  /-- INT_STATUS | 64 | R496 | 0 -/
  intStatus : Word64 := 0#64
  /-- INT_ENABLE | 64 | R496 | 0 -/
  intEnable : Word64 := 0#64
  /-- Contents of the host's command slots, by slot index mod slots | - | R475 | DESIGN CHOICE empty (log 5) -/
  slots : Tbl Packet := []
  /-- Replies held back while the response ring is full, oldest first | - | R475 | none -/
  waiting : List Reply := []
  /-- TLS connections, at most 8 | - | R476 | none -/
  tls : List TlsConn := []
  /-- Completions owed | - | R478 R512 | none -/
  owed : List Completion := []
  /-- STATE_WORD as last published in BAR0 | 32 | R480 R494 | 0x0000_0002 -/
  word : Nat := 2
  /-- STATE_SEQ | 32 | R494 | 0 -/
  wordSeq : Nat := 0
  deriving DecidableEq, Repr

/-- An event record of R546. -/
structure Record where
  seq : Nat := 0
  code : Nat := 0
  source : Nat := 0
  slice : Nat := 0xFFFF
  flags : Nat := 0
  payload : List Byte := []
  deriving DecidableEq, Repr

/-- A saved copy of the newest 256 records in boot flash (R556). -/
structure SavedCopy where
  records : List Record := []
  cause : Nat := 0
  crcOk : Bool := true
  deriving DecidableEq, Repr

/-- State of the event recorder. -/
structure EvrState where
  /-- Records held, newest first | 65,536 x 64 bytes; 1,024 in SNOWDROP | R553 R555 | empty -/
  ring : List Record := []
  /-- Next SEQ | 64 | R548 | 1 -/
  next : Nat := 1
  /-- Sequence floor F in boot flash | 64 | R548 | 0 (new module) -/
  floor : Nat := 0
  /-- Writing time owed for the records in the input queue, in TIME cycles (25 each, at 20 x 10^6 records/s) | 0 to 102,400 | R549 | 0 -/
  backlog : Nat := 0
  /-- The present run of drops: count, first CODE, last CODE, last SOURCE | - | R549 | none -/
  dropRun : Option (Nat × Nat × Nat × Nat) := none
  /-- Events held in BOOT, oldest first, at most 64 | - | R550 | empty -/
  bootQueue : List Record := []
  /-- Boot queue overflowed | 1 | R550 | 0 -/
  bootOverflow : Bool := false
  /-- RTC boot report of this boot written | 1 | R550 | 0 -/
  reported : Bool := false
  /-- Boot flash event areas, newest first, at most 2 | - | R556 | none -/
  saved : List SavedCopy := []
  /-- Writing stopped by a save | 1 | R556 | 0 -/
  stopped : Bool := false
  /-- Records of this boot are UNANCHORED | 1 | R555 | 0 -/
  unanchored : Bool := false
  /-- The sequence floor in flash can be read and written | 1 | R555 | DESIGN CHOICE yes (log 5) -/
  floorOk : Bool := true
  /-- Dropped since the last clear | 32 | R557 | 0 -/
  dropped : Nat := 0
  /-- Overwritten since the last clear | 32 | R557 | 0 -/
  overwritten : Nat := 0
  /-- EVR_CURSOR | 64 | R554 | 0 -/
  cursor : Word64 := 0#64
  /-- The second of the last time anchor, or of the start or step since | 64 | R551 R552 | 0 -/
  anchored : Nat := 0
  /-- A record is marked injected while an injected error is handled | 1 | R546 | 0 -/
  injecting : Bool := false
  deriving DecidableEq, Repr

/-- A firmware image A or B in boot flash, with the outcomes its verification gives (R515, R526). -/
structure FlashImage where
  firstStageOk : Bool := true
  firmwareOk : Bool := true
  compat : Nat := 1
  /-- Version: major, minor, patch and build, one byte each. -/
  version : Nat := 0
  /-- First 16 bytes of the SHA-512 of the module firmware. -/
  hash : List Byte := List.replicate 16 0#8
  /-- The image's bytes, as DIAG.FW_LOAD wrote them. -/
  bytes : List Byte := []
  deriving DecidableEq, Repr

/-- What a boot finds in the hardware and the flash (log 4): the step that hangs (0 first stage, 1 firmware, 2 memory,
3 keys, 4 links, 5 Bloom), the region whose die link fails, whether the stored Bloom's signature verifies, the known-answer
tests that fail (R440), the level of REFCLK_SEL, the ms that BOOT took, whether the sequence floor can be used (R555), and which
sealed key tables (R429) and saved event copies (R556) in flash no longer verify, newest first from 0. -/
structure BootOutcome where
  hang : Option Nat := none
  link : Option Nat := none
  bloomSigned : Bool := true
  kat : Nat := 0
  refclk : Nat := 0
  bootMs : Nat := 1400
  floorOk : Bool := true
  sealedBad : List Nat := []
  savedBad : List Nat := []
  deriving DecidableEq, Repr

/-- A firmware load in progress (R526). -/
structure FwLoad where
  session : Nat := 0
  total : Nat := 0
  fragments : Nat := 0
  image : Nat := 0
  prefer : Bool := false
  /-- Fragments received, by index, with their bytes. -/
  received : Tbl (List Byte) := []
  verifying : Bool := false
  deriving DecidableEq, Repr

/-- State of start-up. The boot-attempt counter itself is BOOT_COUNT of AON_STATUS. -/
structure BootState where
  /-- Causes of the last three failed starts, newest first | 3 x 8 | R521 | none (0) -/
  causes : List Nat := [0, 0, 0]
  /-- One-shot selection of an image | 1+1 | R518 | none -/
  oneShot : Option Nat := none
  /-- Preferred image selector in flash: 0 A, 1 B | 1 | R518 | DESIGN CHOICE A (log 5) -/
  preferred : Nat := 0
  /-- Running image: 0 A, 1 B | 1 | R518 R498 | DESIGN CHOICE A (log 5) -/
  running : Nat := 0
  /-- Image A in boot flash | - | R515 | DESIGN CHOICE a verified image (log 5) -/
  imageA : FlashImage := {}
  /-- Image B in boot flash | - | R515 | DESIGN CHOICE a verified image (log 5) -/
  imageB : FlashImage := {}
  /-- Boot watchdog running | 1 | R516 | 0 until the release of reset -/
  watchdog : Bool := false
  /-- Elapsed time at the release of reset | - | R516 | 0 -/
  watchedAt : Nat := 0
  /-- Firmware load in progress | - | R526 | none -/
  load : Option FwLoad := none
  /-- Elapsed time at entry to SERVING | - | R522 | none -/
  servingSince : Option Nat := none
  /-- A MOD.RESET has replied and BOOT is to be entered (the model's own, clear between steps) | - | R498 | 0 -/
  resetDue : Bool := false
  /-- Counter cleared by MOD.RESET, to be flagged in the next boot outcome record | 1 | R523 | 0 -/
  clearedByReset : Bool := false
  /-- SOURCE of the failing link of the newest cause 0x04 | 16 | R523 | 0xFFFF -/
  failedLink : Nat := 0xFFFF
  /-- RC_ code of the newest cause 0x05 | 16 | R523 | 0 -/
  bloomReason : Nat := 0
  /-- SNOWDROP_REASON | 8 | R480 R524 | 0 -/
  snowReason : Nat := 0
  /-- First 16 bytes of the SHA-512 of the Snowdrop firmware in ROM | 16 bytes | R523 | DESIGN CHOICE zeros (log 1) -/
  snowHash : List Byte := List.replicate 16 0#8
  deriving DecidableEq, Repr

/-- A fault log entry (R542). -/
structure FaultEntry where
  sequence : Nat := 0
  source : Nat := 0
  kind : Nat := 0
  action : Nat := 0
  sec : Nat := 0
  frac : Nat := 0
  deriving DecidableEq, Repr

/-- Cell values of a unit of region H, by its block field (R26). -/
def hubCell (block cell : Nat) : Bool :=
  match block with
  | 0x0 => cell ≤ 2
  | 0x1 => cell ≤ 3
  | 0x2 => cell ≤ 0x13 || cell == 0xFF
  | 0x3 => cell ≤ 0x10 || cell == 0xFF
  | 0x4 => cell ≤ 2
  | 0x5 => cell ≤ 7 || cell == 0xFF
  | 0x6 => cell == 0xFF
  | 0x7 => cell ≤ 0x7F
  | 0x8 => cell ≤ 0x3F
  | 0x9 => cell ≤ 0x1F || cell == 0xFF
  | 0xA => cell ≤ 0x3F || cell == 0xFF
  | 0xB => cell ≤ 1
  | 0xC => cell ≤ 1
  | 0xD => cell == 0xFF
  | 0xE => cell ≤ 3
  | 0xF => cell ≤ 3 || (0x11 ≤ cell && cell ≤ 0x17)
  | _ => false

/-- A SOURCE of region H: a listed instance of a listed unit (R24, R26). -/
def hubSource (s : Nat) : Bool := s < 0x1000 && hubCell (s / 256) (s % 256)

/-- An ECC error (R528): in a cell's L1, in a data line of L2 that a cell reads, or in DRAM behind a memory controller, where a
cell's item may be reading the line. Cells are named by block (die * 4 + block) and number. -/
inductive EccError where
  | l1 (block cell : Nat) (corrected : Bool)
  | l2 (block cell : Nat) (corrected : Bool)
  | dram (controller : Nat) (cell : Option (Nat × Nat)) (corrected : Bool)
  deriving DecidableEq, Repr

/-- Credits per link, in flits, of the virtual channels VC0 to VC7 (R537). -/
def channelCredits : List Nat := [128, 64, 64, 96, 64, 64, 64, 16]

/-- A die-to-die link (R537): credits left and the source served last, per virtual channel; its credits may be withdrawn (R534). -/
structure DieLink where
  credits : List Nat := channelCredits
  turn : List Nat := List.replicate 8 0
  withdrawn : Bool := false
  deriving DecidableEq, Repr

/-- State of the fault manager. -/
structure FaultState where
  /-- Fenced compute dies 0 to 5 | 6 | R534 | none -/
  fenced : List Nat := []
  /-- Times of uncorrected errors attributed to each cell (die*32 + block*8 + cell), newest first | - | R530 | none -/
  cellErrors : Tbl (List Nat) := []
  /-- Fault log, newest first, at most 1,024 | - | R542 | empty -/
  log : List FaultEntry := []
  /-- Sequence of the next fault log entry | 32 | R542 | 0 -/
  next : Nat := 0
  /-- Counter: kind 1 | 32 | R541 | 0 -/
  l1Corr : Nat := 0
  /-- Counter: kind 2 | 32 | R541 | 0 -/
  l1Unc : Nat := 0
  /-- Counter: kind 3 | 32 | R541 | 0 -/
  l2Corr : Nat := 0
  /-- Counter: kind 4 | 32 | R541 | 0 -/
  l2Unc : Nat := 0
  /-- Counter: kind 5 | 32 | R541 | 0 -/
  exceptions : Nat := 0
  /-- Counter: retries | 32 | R541 | 0 -/
  retries : Nat := 0
  /-- Counter: function failures | 32 | R541 | 0 -/
  failures : Nat := 0
  /-- Counter: kind 12 | 32 | R541 | 0 -/
  dramCorr : Nat := 0
  /-- Counter: kind 13 | 32 | R541 | 0 -/
  dramUnc : Nat := 0
  /-- Counter: link replays | 32 | R541 | 0 -/
  replays : Nat := 0
  /-- Counter: FENCE_DROP | 32 | R535 R541 | 0 -/
  fenceDrop : Nat := 0
  /-- Function failures per function (slice * 65536 + function) | 32 each | R531 | 0 -/
  perFunction : Tbl Nat := []
  /-- Unplaced slices | - | R535 | none -/
  unplaced : List Nat := []
  /-- Home block (die*4 + block) of each function (slice * 65536 + function) | - | R533 | none -/
  home : Tbl Nat := []
  /-- Injection since boot | 1 | R541 | 0 -/
  injected : Bool := false
  /-- Corrected errors since the last 0x1411 record per region code, the time of that record, the kind and SOURCE of the last error | - | R544 | 0 -/
  corrected : Tbl (Nat × Option Nat × Nat × Nat) := []
  /-- Die-to-die links by the region code at their far end | 8 x 8 | R537 | every channel's credits -/
  links : Tbl DieLink := []
  /-- SOURCE and kind of the error that last took a block or a die out of service | - | R542 | 0 -/
  cause : Nat × Nat := (0, 0)
  deriving DecidableEq, Repr

/-- State of the package's control pins and supplies. -/
structure PowerState where
  /-- RESET_N low | 1 | R567 R568 | 1 (low at reset) -/
  resetLow : Bool := true
  /-- Power-fail latched | 1 | R569 | 0 -/
  powerFail : Bool := false
  /-- THERM_N asserted | 1 | R576 | 0 -/
  therm : Bool := false
  /-- REFCLK_SEL sampled at the release of reset: 0 10 MHz, 1 25 MHz | 1 | R562 | DESIGN CHOICE 0 (log 5) -/
  refclkSel : Nat := 0
  /-- VOUT_COMMAND setpoint of VDD_C0 to VDD_C5, mV | 6 x 16 | R565 R567 | 800 -/
  setpoints : Tbl Nat := []
  deriving DecidableEq, Repr

end Sys2Proof
end

