-- ==== Sys2Proof/Types/Const.lean ====
section
/-! DEFINITION. The constellation: the image's section, the manifest, beacons and peers (R400 to R417). State docstrings read: what it is | width | rule | reset. -/
namespace Sys2Proof

/-- The data the module takes from one peer (R400). -/
structure PeerBinding where
  peer : Nat := 0
  streams : List Nat := []
  groups : List Nat := []
  lines : List Nat := []
  deriving DecidableEq, Repr

/-- The constellation section of an image (R400). -/
structure ConstSection where
  moduleId : Nat := 0
  constellation : Nat := 1
  gocbRef : List Byte := []
  datSet : List Byte := []
  goId : List Byte := []
  mac : Nat := 0
  vlan : Nat := 0
  key : Option Nat := none
  bindings : List PeerBinding := []
  deriving DecidableEq, Repr

/-- An entry of the manifest (R402). -/
structure ManifestEntry where
  moduleId : Nat := 0
  bValid : Bool := false
  a : List Byte := List.replicate 16 0#8
  b : List Byte := List.replicate 16 0#8
  deriving DecidableEq, Repr

/-- A manifest (R402). -/
structure Manifest where
  sequence : Nat := 0
  constellation : Nat := 0
  compatMin : Nat := 0
  compatMax : Nat := 0xFFFF
  entries : List ManifestEntry := []
  deriving DecidableEq, Repr

/-- Fragments of a manifest being loaded (R403). -/
structure Staged where
  sequence : Nat := 0
  fragments : Nat := 1
  parts : Tbl (List Byte) := []
  deriving DecidableEq, Repr

/-- A received beacon (R405), with whether its authentication verifies and whether it comes from the module's own MAC. -/
structure Beacon where
  authentic : Bool := true
  ownMac : Bool := false
  version : Nat := 1
  flags : Nat := 0
  moduleId : Nat := 0
  stateWord : Nat := 0
  partner : Nat := 0xFFFF
  partnerRole : Nat := 0xFF
  cls : Nat := 0
  compat : Nat := 0
  manifest : Nat := 0
  sec : Nat := 0
  frac : Nat := 0
  theta : Int := 0
  errorNs : Nat := 0
  sequence : Nat := 0
  fingerprint : List Byte := List.replicate 16 0#8
  deriving DecidableEq, Repr

/-- A peer of the table (R406, R410, R415). -/
structure Peer where
  beacon : Beacon := {}
  /-- Elapsed time of its last valid beacon. -/
  at_ : Nat := 0
  absent : Bool := false
  dissenting : Bool := false
  suspect : Bool := false
  causes : Nat := 0
  /-- Its last beacon was sent later than it arrived (R410). -/
  inversion : Bool := false
  deriving DecidableEq, Repr

/-- State of the constellation unit. -/
structure ConstState where
  /-- Committed manifest | - | R403 | none -/
  manifest : Option Manifest := none
  /-- Manifest being loaded | - | R403 | none -/
  staged : Option Staged := none
  /-- DISSENTING | 1 | R407 R409 | 0 -/
  dissenting : Bool := false
  /-- TIME-SUSPECT | 1 | R408 R409 | 0 -/
  suspect : Bool := false
  /-- Own causes at the last evaluation | 11 | R407 R408 | 0 -/
  causes : Nat := 0
  /-- Consecutive beacon evaluations without a cause of DISSENTING | - | R409 | 0 -/
  clean : Nat := 0
  /-- Elapsed time since which no cause of TIME-SUSPECT was found | - | R409 | none -/
  cleanSince : Option Nat := none
  /-- Dissent hold, beacon evaluations | 16 | R414 | 10 -/
  dissentHold : Nat := 10
  /-- Time hold, s | 16 | R414 | 10 -/
  timeHold : Nat := 10
  /-- Absent time, ms | 16 | R414 | 350 -/
  absentMs : Nat := 350
  /-- Beacon sequence and stNum | 32 | R405 | 0 -/
  sequence : Nat := 0
  /-- Number of the next beacon, in beacons since second 0 | - | R404 | 0 -/
  nextBeacon : Nat := 0
  /-- Peers heard | - | R406 R410 | none: ABSENT -/
  peers : Tbl Peer := []
  /-- Highest manifest sequence heard | 32 | R415 | 0 -/
  heard : Nat := 0
  /-- Second of the last ID_CLASH record | 64 | R406 | none -/
  clashSecond : Option Nat := none
  /-- Beacons sent | 32 | R415 | 0 -/
  sent : Nat := 0
  /-- Valid beacons received | 32 | R415 | 0 -/
  received : Nat := 0
  /-- Invalid beacons | 32 | R415 | 0 -/
  invalid : Nat := 0
  /-- ID_CLASH | 32 | R415 | 0 -/
  clashes : Nat := 0
  deriving DecidableEq, Repr

end Sys2Proof
end

