-- ==== Sys2Proof/Types/Ingest.lean ====
section
/-! DEFINITION. Sampled-value ingest and the aligner: the subscription table, frames, rows and the state of both units (R90 to R120). State docstrings read: what it is | width | rule | reset. -/
namespace Sys2Proof

/-- A channel of a subscription (R91): 0 current, 1 voltage, 2 other; its scale; its loop instance. -/
structure ChannelConfig where
  kind : Nat := 0
  scale : F32 := 0x3A83126F#32
  loop : Option Nat := none
  deriving DecidableEq, Repr

/-- A stream subscription (R91). -/
structure StreamConfig where
  /-- A pair 0 to 3 or, with `single`, a port 0 to 7. -/
  port : Nat := 0
  single : Bool := false
  appid : Nat := 0x4000
  mac : Nat := 0
  vlan : Nat := 0
  svId : List Byte := []
  confRev : Nat := 0
  rate : Nat := 4800
  asdus : Nat := 1
  channels : List ChannelConfig := []
  lExpNs : Nat := 250000
  horizon : Nat := 2
  hold : Nat := 2
  /-- 0 none; 1 HMAC-SHA-256; 2 AES-GMAC; 3 optional. -/
  auth : Nat := 0
  key : Option Nat := none
  deriving DecidableEq, Repr

/-- One ASDU of a frame: its counter, synchronisation and channel values with qualities. -/
structure Asdu where
  smpCnt : Nat := 0
  smpSynch : Nat := 2
  values : List (Int × Nat) := []
  deriving DecidableEq, Repr

/-- A sampled-value frame (R90). -/
structure SvFrame where
  appid : Nat := 0x4000
  mac : Nat := 0
  vlan : Nat := 0
  svId : List Byte := []
  confRev : Nat := 0
  sim : Bool := false
  ethertype : Nat := 0x88BA
  /-- VLAN tags: none, a priority tag or one IEEE 802.1Q tag. -/
  tags : Nat := 0
  /-- The optional field smpMod; 0 samples per nominal period. -/
  smpMod : Option Nat := none
  /-- Carries an option or optional field that R90 does not list. -/
  otherOption : Bool := false
  /-- Key identifier of the security extension; none without the extension. -/
  ext : Option Nat := none
  /-- The authentication value verifies under the key that the extension names. -/
  verifies : Bool := true
  asdus : List Asdu := []
  deriving DecidableEq, Repr

/-- A slot of a row (R99). -/
structure Slot where
  value : F32 := 0#32
  q : Nat := 0
  origin : Nat := 7
  flags : Nat := 0
  /-- The INT32 sample as received; 0 where the origin is not 0 (R447). -/
  count : Int := 0
  deriving DecidableEq, Repr

/-- An accepted sample of a stream: its index at the stream's rate when synchronised, its time, its values as received. -/
structure Sample where
  /-- s * rate + smpCnt, for a synchronised sample. -/
  index : Option Nat := none
  /-- Sample time t_s, 2^-64 s. -/
  time : Nat := 0
  smpCnt : Nat := 0
  smpSynch : Nat := 2
  values : List (Int × Nat) := []
  flags : Nat := 0
  arrival : Nat := 0
  deriving DecidableEq, Repr

/-- What became of one stream at one instant: formed from inputs, the last of which arrived at `stamp`; substituted at its
horizon `at_` with run `run`; or shut, by a block of the operator or by a closed gate. -/
inductive RowPart where
  | arrived (stamp : Nat)
  | substituted (run at_ : Nat)
  | shut (gate : Bool)
  deriving DecidableEq, Repr

/-- A row: its header fields and slots (R99, R101). -/
structure Row where
  k : Nat := 0
  /-- Grid rate, Hz. -/
  f : Nat := 4800
  slots : Tbl Slot := []
  /-- Arrival stamp of the first contributing frame. -/
  first : Option Nat := none
  parts : Tbl RowPart := []
  sim : Bool := false
  width : Nat := 0
  bloomSeq : Nat := 0
  /-- Provisional values were placed in it. -/
  provisional : Bool := false
  /-- smpSynch of the last input of each stream (R109). -/
  synch : Tbl Nat := []
  /-- Settlement: station time and whether at a horizon. -/
  settled : Option (Nat × Bool) := none
  /-- The latest horizon of its streams, in the exact unit (R168). -/
  horizon : Nat := 0
  deriving DecidableEq, Repr

/-- A stream's state and counters (R104, R107, R111, R114). -/
structure Stream where
  /-- 0 WAITING, 1 RUNNING, 2 HOLDING, 3 PREDICTING, 4 LOST; BLOCKED (5) while `blocked`. -/
  state : Nat := 0
  blocked : Bool := false
  /-- The gate of the peer it is bound to is closed for it (R411). -/
  gated : Bool := false
  run : Nat := 0
  /-- It holds a value received since it was last LOST, WAITING or blocked: it may be held (R104). -/
  mayHold : Bool := false
  tuned : Bool := false
  simUse : Bool := false
  lastSynch : Nat := 0
  anyFrame : Bool := false
  underSuccessor : Bool := false
  accepted : Nat := 0
  dup : Nat := 0
  dupDiff : Nat := 0
  late : Nat := 0
  early : Nat := 0
  malformed : Nat := 0
  confRev : Nat := 0
  authFail : Nat := 0
  wrongPort : Nat := 0
  simDrop : Nat := 0
  blockedDrop : Nat := 0
  held : Nat := 0
  predicted : Nat := 0
  invalid : Nat := 0
  latMin : Option Nat := none
  latMax : Nat := 0
  latMean : Nat := 0
  lastArrived : Nat := 0
  lExpNs : Nat := 250000
  horizon : Nat := 2
  hold : Nat := 2
  /-- H, N and L_exp from an instant on, as (k, H or 0, N or 0, L_exp or all ones), oldest first (R118). -/
  tune : List (Nat × Nat × Nat × Nat) := []
  /-- Elapsed time at the last authentication record (R95). -/
  authRecord : Option Nat := none
  /-- First instant past the grace period (R107). -/
  graceEnd : Nat := 0
  /-- Next instant whose outcome has not entered the run and the state. -/
  nextK : Nat := 0
  /-- Block or unblock that takes effect with the next row that opens (R117). -/
  blockReq : Option Bool := none
  /-- Slots of the last instant before a block or the closing of a gate (R110, R411). -/
  shutSlots : List Slot := []
  /-- Instants from which the stream starts anew from WAITING, after an unblock or the opening of a gate, with the first
  instant past each grace period; those not yet entered into the state (R107, R411). -/
  resets : List (Nat × Nat) := []
  /-- First instant of the subscription (R107). -/
  from_ : Nat := 0
  /-- The subscription goes on with another dataset or grid: its state comes from the old one's last instant (R107, R489). -/
  carried : Bool := false
  /-- Accepted samples still needed, newest first. -/
  samples : List Sample := []
  deriving DecidableEq, Repr

/-- Counters of a process-bus port (R115) and the frames of the present second (R93). -/
structure IngestPort where
  seen : Nat := 0
  unmatched : Nat := 0
  overrun : Nat := 0
  authFail : Nat := 0
  wrongPort : Nat := 0
  second : Nat := 0
  inSecond : Nat := 0
  deriving DecidableEq, Repr

/-- State of the ingest unit and the aligner. -/
structure IngestState where
  /-- Streams by index | - | R107 R111 R114 | WAITING, counters 0 -/
  streams : Tbl Stream := []
  /-- Process-bus ports 0 to 7 | - | R115 | 0 -/
  ports : Tbl IngestPort := []
  /-- Open rows, by rising k, at most 64 | - | R98 | empty -/
  open_ : List Row := []
  /-- Settled rows, newest first, at most 4,096 | - | R98 | empty -/
  ring : List Row := []
  /-- First instant of the Bloom in force that may open | 64 | R489 | 0 -/
  firstK : Nat := 0
  /-- First instant that is not of the Bloom on whose behalf ingest acts; none for the Bloom in force (the model's own, none between steps) | - | R489 | none -/
  endK : Option Nat := none
  /-- Instant above the newest opened row | 64 | R98 | 0 -/
  nextOpen : Nat := 0
  /-- Instant above the newest row passed to the consumers | 64 | R105 | 0 -/
  nextSettle : Nat := 0
  /-- Newest settled instant | 64 | R113 | 0 -/
  lastSettled : Nat := 0
  /-- Rows settled at a horizon since boot | 32 | R113 | 0 -/
  byHorizon : Nat := 0
  /-- SIM_ACCEPT | 1 | R108 | off -/
  simAccept : Bool := false
  /-- SIM_ACCEPT from the next row that opens | 1 | R117 | none -/
  simReq : Option Bool := none
  /-- SIM_ACCEPT in force for frames: that of the newest opened row | 1 | R108 | off -/
  simOn : Bool := false
  /-- Rows settled and not yet handed to their consumers, as Bloom sequence and instant, in instant order (empty between steps; the model's own) | - | R105 | empty -/
  handoff : List (Nat × Nat) := []
  /-- Rows opened and not yet dispatched on, as Bloom sequence and instant (empty between steps; the model's own) | - | R98 | empty -/
  opened : List (Nat × Nat) := []
  deriving DecidableEq, Repr

end Sys2Proof
end

