-- ==== Sys2Proof/Types/Fabric.lean ====
section
/-! DEFINITION. Work items, blocks, the budget, slices, the decision ledger and the CGO publisher: image sections and state (R146 to R182, R270 to R317, R590). State docstrings read: what it is | width | rule | reset. -/
namespace Sys2Proof

/-- A row of an action table (R158): channels named by stage and channel number. -/
structure Action where
  code : Nat := 1
  trip : Bool := true
  channels : List (Nat × Nat) := []
  deriving DecidableEq, Repr

/-- What a function is bound to (R276): settled rows, an assert of a chain, a committed record of a capture, or a unit. -/
inductive Binding where
  | row
  | chain (n : Nat)
  | capture (n : Nat)
  | unit (n : Nat)
  deriving DecidableEq, Repr

/-- A function of a slice's Bloom section (R109, R148, R158, R275 to R277, R486, R533). -/
structure FnConfig where
  slice : Nat := 1
  index : Nat := 0
  cls : Nat := 0
  entry : Nat := 0x10000
  argument : Nat := 0
  image : Nat := 0
  /-- Region code of the home block's die, 2 to 7 in a valid image, and the block number. -/
  region : Nat := 2
  block : Nat := 0
  /-- Demand in per mille of a cell. -/
  load : Nat := 0
  eligible : Bool := false
  streams : List Nat := []
  actions : List Action := []
  bind : Binding := .row
  enabled : Bool := true
  deriving DecidableEq, Repr

/-- A slice of the Bloom (R149, R179, R299, R300). -/
structure SliceConfig where
  slice : Nat := 1
  asid : Nat := 1
  base : Nat := 0
  size : Nat := 0x200000
  keyRoot : Nat := 0
  weight : Nat := 16
  engines : Nat := 1
  burst : Nat := 256
  itemRate : Nat := 100000
  recRate : Nat := 1000
  netRate : Nat := 100
  /-- Virtual address of the completion ring. -/
  ring : Nat := 0x100000000
  specMode : Nat := 0
  depthCap : Nat := 3
  lineCap : Nat := 256
  margin : Nat := 50
  deriving DecidableEq, Repr

/-- An output stage of the Bloom (R170), with its status identity (R370). -/
structure StageConfig where
  stage : Nat := 0
  mac : Nat := 0
  appid : Nat := 0
  gocbRef : List Byte := []
  datSet : List Byte := []
  goId : List Byte := []
  pair : Nat := 0
  vlan : Nat := 0
  priority : Nat := 0
  channels : Nat := 1
  key : Option Nat := none
  confRev : Nat := 0
  statusMac : Nat := 0
  statusRef : List Byte := []
  statusGoId : List Byte := []
  deriving DecidableEq, Repr

/-- The fabric part of an image: protect cells and set clocks by block, run-time limits of C0 to C4 in µs (R279, R282, R284). -/
structure FabricSection where
  protectCells : Tbl Nat := []
  clocks : Tbl Nat := []
  limits : List Nat := [50, 200, 2000, 10000, 100000]
  deriving DecidableEq, Repr

/-- The fields of a work descriptor that software gives (R275). -/
structure Descriptor where
  entry : Nat := 0
  argument : Nat := 0
  cls : Nat := 2
  flags : Nat := 0
  affinity : Nat := 0xFFFF
  image : Nat := 0
  deadline : Nat := 0
  release : Nat := 0
  k : Nat := 0xFFFFFFFFFFFFFFFF
  deriving DecidableEq, Repr

/-- A work item: its descriptor with the fields the module sets, and where it comes from. -/
structure Item where
  desc : Descriptor := {}
  slice : Nat := 0
  generation : Nat := 1
  sequence : Nat := 0
  ledger : Nat := 0xFFFF
  /-- Grid rate and Bloom sequence of the instant it names, for an item the module generated. -/
  grid : Nat := 4800
  bloomSeq : Nat := 0
  /-- Function index, for an item the module generated; its action table as it stood then. -/
  fn : Option Nat := none
  actions : List Action := []
  /-- A locator's item of slice 0: its line and the record (R257). -/
  locator : Option (Nat × Nat) := none
  /-- A core self-test of slice 0: the cell that it tests, and whether that cell fails it (R390). -/
  probe : Option (Nat × Bool) := none
  /-- Its row settled while the module was STANDBY (R381). -/
  standby : Bool := false
  retry : Bool := false
  /-- Put back at the head of its list (R280, R288). -/
  front : Bool := false
  deriving DecidableEq, Repr

/-- An item running on a cell. -/
structure Run where
  item : Item := {}
  since : Nat := 0
  /-- Decision code last reported. -/
  code : Nat := 0
  /-- The ASID in the cell's satp (R299). -/
  asid : Nat := 0
  /-- Its row window: header and slots as the row-read path presents them (R109, R273). -/
  view : List Byte := []
  deriving DecidableEq, Repr

/-- A block (R277 to R284, R292, R530, R532). -/
structure Block where
  /-- Ready items of every class, each class in its own order. -/
  ready : List Item := []
  delay : List Item := []
  slots : Tbl Item := []
  running : Tbl Run := []
  lastImage : Tbl (Nat × Nat) := []
  /-- Elapsed time since each local slot is empty (R528). -/
  emptySince : Tbl Nat := []
  protect : Nat := 2
  clock : Nat := 2200
  now : Nat := 2200
  changing : Option Nat := none
  badCells : List Nat := []
  quarantined : Bool := false
  tuned : Bool := false
  limits : List Nat := [50, 200, 2000, 10000, 100000]
  /-- The cell first in turn for the dispatcher (R23). -/
  cellTurn : Nat := 0
  /-- Protect cells, clock and limits from the next tick (R294). -/
  next : Option (Nat × Nat × List Nat) := none
  /-- Deficit round robin per class: the slice served and what is left of its quantum (R278). -/
  turn : Tbl (Nat × Nat) := []
  dispatched : Nat := 0
  overrun : Nat := 0
  missed : Nat := 0
  full : Nat := 0
  affinity : Nat := 0
  takenBack : Nat := 0
  windowAt : Nat := 0
  busy : Nat := 0
  busyC4 : Nat := 0
  lastBusy : Nat := 0
  lastC4 : Nat := 0
  deriving DecidableEq, Repr

/-- State of the budget controller (R285 to R287, R293, R295). -/
structure BudgetState where
  /-- Level in force: 0 GREEN, 1 AMBER, 2 RED | 2 | R285 | 0 -/
  level : Nat := 0
  /-- Level computed from the conditions | 2 | R285 | 0 -/
  computed : Nat := 0
  /-- A new level waits for its tick, with its causes | - | R286 | none -/
  due : Option (Nat × Nat) := none
  /-- Floor | 2 | R287 | 0 -/
  floor : Nat := 0
  /-- Power budget, 0.1 W; none: the variant's maximum | 16 | R291 | the variant's maximum -/
  budget : Option Nat := none
  /-- Thresholds T: AMBER entry, RED entry, RED exit, AMBER exit, 0.1 °C | 4 x 16 | R295 | 950, 1000, 970, 900 -/
  temps : List Int := [950, 1000, 970, 900]
  /-- Thresholds P in the same order, percent | 4 x 8 | R295 | 90, 100, 92, 85 -/
  powers : List Nat := [90, 100, 92, 85]
  /-- RED and AMBER exit holds, ms | 2 x 16 | R295 | 100, 1000 -/
  holds : Nat × Nat := (100, 1000)
  /-- Last temperature of each region, 0.1 °C; none: a sensor fault | 8 x 16 | R293 | DESIGN CHOICE 0 (log 5) -/
  sensed : Tbl (Option Int) := []
  /-- Power of the last 10 samples, 0.1 W, newest first | 10 x 16 | R285 | empty -/
  power : List Nat := []
  /-- Rails at or above 90 % of their limits, and at or above 95 % | 2 x 16 | R293 R285 | 0 -/
  rails90 : Nat := 0
  rails95 : Nat := 0
  /-- Consecutive samples that meet the RED and the AMBER entry | - | R285 | 0 -/
  redCount : Nat := 0
  amberCount : Nat := 0
  /-- Elapsed time from which the RED and AMBER exit conditions hold | - | R285 | none -/
  redExit : Option Nat := none
  amberExit : Option Nat := none
  /-- Level changes since the last clear | 32 | R293 | 0 -/
  changes : Nat := 0
  /-- Time in AMBER and RED since the last clear, 2^-64 s | 2 x 32 ms | R293 | 0 -/
  amberTime : Nat := 0
  redTime : Nat := 0
  /-- Elapsed time to which the two are counted | - | R293 | 0 -/
  countedAt : Nat := 0
  /-- Highest power since the last clear, 0.1 W | 16 | R293 | 0 -/
  powerMax : Nat := 0
  /-- Causes of the level | 5 | R293 | 0 -/
  causes : Nat := 0
  /-- Station time of the last level change | 96 | R293 | 0 -/
  changedAt : Nat := 0
  /-- Elapsed time at the last sample | - | R285 | none -/
  sampledAt : Option Nat := none
  deriving DecidableEq, Repr

/-- State of the execution fabric. -/
structure FabricState where
  /-- Blocks by die * 4 + block | - | R277 to R284 | empty lists, 2 protect cells, 2,200 MHz -/
  blocks : Tbl Block := []
  /-- Number of the last dispatcher tick, in 10 µs of station time | - | R281 | 0 -/
  lastTick : Nat := 0
  /-- Item sequence per slice | 32 each | R275 | 0 -/
  sequences : Tbl Nat := []
  /-- Committed memory: slice data in DRAM, by physical address, as listed bytes; an unlisted byte reads 0 | 64 GiB | R152 R300 | DESIGN CHOICE all zero (log 9) -/
  dram : List (Nat × Byte) := []
  /-- Decisions not yet taken by their consumers: slice, function, instant, code, trip, trigger point (the model's own, empty between steps) | - | R21 | empty -/
  decisions : List (Nat × Nat × Nat × Nat × Bool × Nat) := []
  /-- Bound events not yet given to functions (the model's own, empty between steps) | - | R276 | empty -/
  events : List Binding := []
  /-- Decisions of a STANDBY module, counted | 32 | R389 | 0 -/
  standbyDecisions : Nat := 0
  budget : BudgetState := {}
  /-- Deadline misses since the last record, and the elapsed time of that record, by slice * 8 + class | - | R283 | none -/
  misses : Tbl (Nat × Option Nat) := []
  deriving DecidableEq, Repr

/-- A DMA descriptor (R306). -/
structure DmaDesc where
  source : Nat := 0
  destination : Nat := 0
  length : Nat := 1
  engine : Nat := 0
  flags : Nat := 0
  tag : Nat := 0
  slice : Nat := 0
  generation : Nat := 1
  /-- Elapsed time of the call that posted it. -/
  posted : Nat := 0
  deriving DecidableEq, Repr

/-- A frame that waits in the NET receive engine, for a slice of a generation since an elapsed time (R304, R345). -/
structure RxFrame where
  slice : Nat := 0
  generation : Nat := 1
  since : Nat := 0
  bytes : List Byte := []
  deriving DecidableEq, Repr

/-- A completion on its way to a ring (R307). -/
structure DmaCompletion where
  slice : Nat := 0
  tag : Nat := 0
  status : Nat := 0
  engine : Nat := 0
  count : Nat := 0
  generation : Nat := 1
  deriving DecidableEq, Repr

/-- A slice (R300 to R316). -/
structure SliceInst where
  /-- 0 UNDEFINED, 1 RUNNING, 2 QUIESCING, 3 QUIESCED. -/
  state : Nat := 0
  cfg : SliceConfig := {}
  tuned : Bool := false
  resetSince : Bool := false
  zeroing : Bool := false
  generation : Nat := 1
  /-- Limits from the next tick (R316). -/
  next : Option SliceConfig := none
  /-- Admission reopens at the next tick (R312). -/
  resuming : Bool := false
  /-- Item bucket, 2^-64 items; byte buckets, 2^-64 bytes; elapsed time to which they are filled (R305). -/
  items : Nat := 0
  recBytes : Int := 0
  netBytes : Int := 0
  filledAt : Nat := 0
  itemsLimited : Nat := 0
  bytesLimited : Nat := 0
  quiesceDrop : Nat := 0
  cancelled : Nat := 0
  stale : Nat := 0
  resets : Nat := 0
  quiesces : Nat := 0
  /-- Next completion sequence and ring index. -/
  completion : Nat := 0
  deriving DecidableEq, Repr

/-- State of the slices and the shared DMA engines. -/
structure SliceState where
  /-- Slices 0 to 511; slice 0 is always RUNNING | - | R298 R300 | UNDEFINED; slice 0 as `slice0` (log 5) -/
  insts : Tbl SliceInst := []
  /-- REC engine: descriptors, the one in progress first, and its start | - | R304 | empty -/
  recQueue : List DmaDesc := []
  recSince : Nat := 0
  /-- NET transmit engine | - | R304 | empty -/
  netQueue : List DmaDesc := []
  netSince : Nat := 0
  /-- NET receive engine: buffers posted, in order | - | R304 R305 | empty -/
  rxQueue : List DmaDesc := []
  /-- NET receive engine: elapsed time at which it last let go of a buffer | 64 | R305 | 0 -/
  rxSince : Nat := 0
  /-- Frames that wait in the NET receive engine, with their slice and generation, oldest first | - | R304 R345 | empty -/
  rxFrames : List RxFrame := []
  /-- Completions posted and not yet written | - | R307 | empty -/
  completions : List DmaCompletion := []
  deriving DecidableEq, Repr

/-- A line of a speculation buffer (R152). -/
structure SpecLine where
  addr : Nat := 0
  /-- Last written by the speculative run. -/
  spec : Bool := true
  mask : Nat := 0
  data : List Byte := []
  deriving DecidableEq, Repr

/-- A ledger entry (R151 to R163, R180). -/
structure Entry where
  /-- 0 FREE, 1 SPECULATING, 2 DECIDED, 3 RERUNNING, 4 RESOLVED. -/
  state : Nat := 0
  slice : Nat := 0
  fn : Nat := 0
  k : Nat := 0
  mode : Nat := 1
  lineCap : Nat := 256
  margin : Nat := 50
  /-- Block (die * 4 + block) that owns the lines. -/
  block : Nat := 0
  /-- SOURCE of the cell of the speculative run, of its block until it starts; and of the rerun's cell (R180). -/
  specCell : Nat := 0
  rerunCell : Option Nat := none
  item : Item := {}
  snapshot : Row := {}
  spec : Option Nat := none
  settled : Option Nat := none
  decidedAt : Nat := 0
  /-- Lines freed by an abort or reused by the rerun (R153, R155). -/
  discarded : Nat := 0
  primed : Bool := false
  primes : List (Nat × Nat) := []
  deadline : Nat := 0
  lines : List SpecLine := []
  /-- First arrival stamp of the row, taken at settlement. -/
  first : Option Nat := none
  outcome : Nat := 0
  flags : Nat := 0
  badCode : Bool := false
  resolvedAt : Nat := 0
  /-- The rerun goes on fresh lines on the new home block (R532). -/
  faultOnFail : Bool := false
  deriving DecidableEq, Repr

/-- Counters of SPEC.STATUS (R177), per slice and for the module. -/
structure SpecCounters where
  opened : Nat := 0
  prime : Nat := 0
  confirmed : Nat := 0
  rescinded : Nat := 0
  agreed : Nat := 0
  differed : Nat := 0
  overflow : Nat := 0
  effect : Nat := 0
  overtaken : Nat := 0
  cancelled : Nat := 0
  faulted : Nat := 0
  depthLimited : Nat := 0
  ledgerFull : Nat := 0
  primeExpired : Nat := 0
  writeThrough : Nat := 0
  discarded : Nat := 0
  badCode : Nat := 0
  high : Nat := 0
  linesHigh : Nat := 0
  mean : Nat := 0
  deriving DecidableEq, Repr

/-- An output channel at the publisher (R167, R168, R172). -/
structure Chan where
  /-- 0 OPEN, 1 PRIMED, 2 OPERATED. -/
  state : Nat := 0
  command : Nat := 0
  entry : Nat := 0xFFFF
  cseq : Nat := 0
  /-- Highest cseq given to the channel, and highest in any status frame of its stage (R381). -/
  high : Nat := 0
  seen : Nat := 0
  k : Nat := 0
  deadlineNs : Nat := 0
  deadline : Nat := 0
  /-- Entries that have primed it. -/
  primers : List Nat := []
  primeSlice : Nat := 0
  /-- Instants of decisions to operate, given or absorbed, newest first, at most 4,096 (R169). -/
  trips : List Nat := []
  deriving DecidableEq, Repr

/-- A stage's control block at the publisher (R171). -/
structure StageOut where
  cfg : StageConfig := {}
  chans : Tbl Chan := []
  stNum : Nat := 0
  sqNum : Nat := 0
  changedAt : Nat := 0
  changedMono : Nat := 0
  /-- Repetitions sent since the last change. -/
  repeats : Nat := 0
  /-- A first frame has been sent and the publisher has not stopped. -/
  live : Bool := false
  /-- The Bloom dropped the stage (R166). -/
  dropped : Bool := false
  /-- Its identity under the Bloom before, while an entry of that Bloom is left (R166). -/
  old : Option StageConfig := none
  deriving DecidableEq, Repr

/-- State of the decision ledger and the publisher. -/
structure SpecState where
  /-- Entries 0 to 4,095 not FREE | - | R161 | FREE -/
  entries : Tbl Entry := []
  /-- Counters by slice; 0xFFFF the module | - | R177 | 0 -/
  counters : Tbl SpecCounters := []
  /-- Output stages by stage ID | - | R167 R171 | none -/
  stages : Tbl StageOut := []
  /-- First instant of the Bloom in force, below which older entries resolve | 64 | R166 | 0 -/
  since : Nat := 0
  /-- Functions of the Blooms before, by Bloom sequence | - | R166 | none -/
  oldFns : Tbl (List FnConfig) := []
  /-- Items that a quiesce cancelled and that do not run again: slice, function, instant | - | R162 | none -/
  spent : List (Nat × Nat × Nat) := []
  deriving DecidableEq, Repr

end Sys2Proof
end

