-- ==== Sys2Proof/Types/Pair.lean ====
section
/-! DEFINITION. Pairing: the image's pair section, heartbeats, stage status and the pairing engine's state (R370 to R399). State docstrings read: what it is | width | rule | reset. -/
namespace Sys2Proof

/-- The identity of the heartbeats on a path (R370). -/
structure HbIdentity where
  gocbRef : List Byte := []
  datSet : List Byte := []
  goId : List Byte := []
  mac : Nat := 0
  deriving DecidableEq, Repr

/-- The pair section of a Bloom (R370). -/
structure PairSection where
  rank : Nat := 1
  partner : Nat := 0
  key : Option Nat := none
  fingerprint : List Byte := List.replicate 16 0#8
  retain : Bool := true
  /-- Heartbeat identities on the pairing link and on the station bus. -/
  link : HbIdentity := {}
  station : HbIdentity := {}
  deriving DecidableEq, Repr

/-- The fields of a received heartbeat that the module acts on (R373); whether its authentication verifies. -/
structure Heartbeat where
  version : Nat := 1
  /-- 1 HEARTBEAT, 2 RELINQUISH. -/
  kind : Nat := 1
  path : Nat := 0
  rank : Nat := 2
  moduleId : Nat := 0
  partnerId : Nat := 0
  claim : Nat := 0
  stateWord : Nat := 0
  sequence : Nat := 0
  flags : Nat := 0
  fingerprint : List Byte := List.replicate 16 0#8
  verdict : Nat := 0
  authentic : Bool := true
  deriving DecidableEq, Repr

/-- A stage's status frame (R386): its identity, its payload, and whether its authentication verifies. -/
structure StageStatus where
  gocbRef : List Byte := []
  goId : List Byte := []
  mac : Nat := 0
  flags : Nat := 2
  stage : Nat := 0
  accepted : Nat := 0
  rejected : Nat := 0
  moduleId : Nat := 0xFFFF
  /-- Per channel: state, flags and cseq. -/
  channels : List (Nat × Nat × Nat) := []
  authentic : Bool := true
  deriving DecidableEq, Repr

/-- A fragment of a RETAIN image: of the fields it repeats from a heartbeat, those that say whose it is (R391). -/
structure RetainFragment where
  version : Nat := 1
  moduleId : Nat := 0
  partnerId : Nat := 0
  core : Nat := 0
  fragment : Nat := 0
  fragments : Nat := 1
  image : Nat := 0
  crc : Nat := 0
  identity : List Byte := List.replicate 16 0#8
  data : List Byte := []
  authentic : Bool := true
  deriving DecidableEq, Repr

/-- A program's retain image held for a core (R333, R391). -/
structure RetainImage where
  sequence : Nat := 0
  identity : List Byte := List.replicate 16 0#8
  data : List Byte := []
  deriving DecidableEq, Repr

/-- A partner image being received. -/
structure RetainPartial where
  image : Nat := 0
  fragments : Nat := 1
  crc : Nat := 0
  identity : List Byte := List.replicate 16 0#8
  parts : Tbl (List Byte) := []
  deriving DecidableEq, Repr

/-- One heartbeat path. -/
structure HbPath where
  live : Bool := false
  /-- Silence has been handled since the last valid heartbeat. -/
  silent : Bool := false
  /-- A path fault has been reported and not yet its end. -/
  faulted : Bool := false
  lastValid : Nat := 0
  heardSeq : Option Nat := none
  sent : Nat := 0
  nextDue : Nat := 0
  missed : Nat := 0
  faults : Nat := 0
  deriving DecidableEq, Repr

/-- State of the pairing engine. -/
structure PairState where
  /-- Role: 0 SOLO, 1 ACTIVE, 2 STANDBY, 3 CONTESTED | 4 | R378 | SOLO -/
  role : Nat := 0
  /-- Programs to stop (1), or to start warm after a switch-over (2) or a start (3), with a change of role (the model's own, empty between steps) | - | R320 R333 R381 | empty -/
  hooks : List Nat := []
  /-- Own claim, EPOCH and RANK | 32 | R380 | DESIGN CHOICE 0 (log 5) -/
  claim : Nat := 0
  /-- Highest EPOCH seen | 24 | R380 | 0 -/
  epochSeen : Nat := 0
  /-- Paths 0 pairing link, 1 station bus | - | R372 R375 | silent -/
  paths : Tbl HbPath := []
  /-- Partner's last claim | 32 | R395 | 0 -/
  partnerClaim : Nat := 0
  /-- Partner's last verdict; 0xFF none | 8 | R395 | none -/
  partnerVerdict : Nat := 0xFF
  /-- Partner's last role; 0xFF none | 8 | R395 | none -/
  partnerRole : Nat := 0xFF
  /-- Partner's last module state code | 4 | R379 R394 | 0 -/
  partnerState : Nat := 0
  /-- Consecutive pairing heartbeats that reported STANDBY | - | R379 | 0 -/
  partnerStandby : Nat := 0
  /-- Pair fingerprint mismatch in the last valid heartbeat | 1 | R374 | 0 -/
  mismatch : Bool := false
  /-- Elapsed time of the last clashing heartbeat, and of the last CODE 0x0F14 | - | R374 | none -/
  clashAt : Option Nat := none
  clashRecord : Option Nat := none
  /-- RANK_CLASH: clashing heartbeats | 32 | R374 | 0 -/
  rankClashes : Nat := 0
  /-- Yield hold | 1 | R384 | 0 -/
  hold : Bool := false
  /-- Elapsed time since which every reachable stage's claim is not live | - | R384 | none -/
  notLiveSince : Option Nat := none
  /-- RELINQUISH is sent in place of HEARTBEAT | 1 | R377 | 0 -/
  relinquish : Bool := false
  /-- The pairing engine stopped with a fatal error | 1 | R377 R536 | 0 -/
  stopped : Bool := false
  /-- Partner failure has been recognised and not yet ended | 1 | R376 | 0 -/
  partnerLost : Bool := false
  /-- Elapsed time at entry to SERVING or TEST, and whether a valid heartbeat has come since | - | R379 | none -/
  entered : Option Nat := none
  heardSince : Bool := false
  /-- Elapsed time of the first frame of the claim in CONTESTED | - | R382 | none -/
  contestAt : Option Nat := none
  /-- Elapsed time of the last role change | - | R395 | 0 -/
  roleAt : Nat := 0
  /-- Latest status of every stage, with its arrival (elapsed time) | - | R386 | none -/
  status : Tbl (StageStatus × Nat) := []
  /-- Counters | 32 each | R395 | 0 -/
  contests : Nat := 0
  contestsLost : Nat := 0
  invalid : Nat := 0
  rejections : Nat := 0
  yields : Nat := 0
  /-- Health: the last verdict and findings recorded | 8 + 8 | R387 R390 | HEALTHY, none -/
  verdict : Nat := 0
  findings : Nat := 0
  /-- Findings latched by tests and errors: bits 0 to 3 (bit 8: finding 0 in region H) | 9 | R387 | 0 -/
  latched : Nat := 0
  /-- Scrub period s, core test interval ms, known-answer interval s | 3 x 32 | R390 R397 | 86,400, 10,000, 60 -/
  scrubPeriod : Nat := 86400
  coreInterval : Nat := 10000
  katInterval : Nat := 60
  /-- Elapsed time of the start of the scrub pass and of the last core, loopback and known-answer test | - | R390 | 0 -/
  scrubAt : Nat := 0
  coreAt : Nat := 0
  loopAt : Nat := 0
  katAt : Nat := 0
  /-- Scrub passes completed, saturating | 16 | R387 | 0 -/
  scrubPasses : Nat := 0
  /-- Core tests passed and failed since boot | 2 x 32 | R387 | 0 -/
  corePassed : Nat := 0
  coreFailed : Nat := 0
  /-- A cell has failed in the core test under way | 1 | R390 | 0 -/
  coreBad : Bool := false
  /-- Elapsed time of the last complete self-test cycle, and the tests done in the present one | - | R387 | 0 -/
  cycleAt : Nat := 0
  cycleDone : Nat := 0
  /-- Next due time of RETAIN, elapsed time | - | R333 R391 | 0 -/
  retainAt : Nat := 0
  /-- Partner's complete retain images by core, with the elapsed time of arrival | - | R391 | none -/
  partnerRetain : Tbl (RetainImage × Nat) := []
  /-- Partner's images in parts | - | R391 | none -/
  partials : Tbl RetainPartial := []
  deriving DecidableEq, Repr

end Sys2Proof
end

