-- ==== Sys2Proof/Types/Phasor.lean ====
section
/-! DEFINITION. Phasors, synchrophasor streams and the fault locators: the image's sections and the state (R244 to R269). State docstrings read: what it is | width | rule | reset. -/
namespace Sys2Proof

/-- A phasor of a PMU block: a slot, or a positive sequence of three. -/
inductive PmuPhasor where
  | slot (s : Nat)
  | positive (a b c : Nat)
  deriving DecidableEq, Repr

/-- A PMU block: phasors, frequency set, analogue values by phasor, digital bits by output channel (stage, channel). -/
structure PmuBlock where
  station : List Byte := []
  phasors : List PmuPhasor := []
  freq : Nat × Nat × Nat := (0, 1, 2)
  analogues : List Nat := []
  digital : List (Nat × Nat) := []
  deriving DecidableEq, Repr

/-- An output stream. -/
structure SynchroConfig where
  stream : Nat := 0
  idcode : Nat := 0
  /-- 0 TCP, 1 UDP, 2 TCP for commands with UDP for data. -/
  transport : Nat := 0
  destination : Nat := 0
  rate : Nat := 50
  /-- 0 P, 1 M. -/
  cls : Nat := 0
  extended : Bool := false
  blocks : List PmuBlock := []
  /-- TCP and UDP ports on pair 4 (R361). -/
  tcpPort : Nat := 4712
  udpPort : Nat := 4713
  deriving DecidableEq, Repr

/-- A location line (R256). -/
structure LineConfig where
  line : Nat := 0
  capture : Nat := 0
  channels : List Nat := [0, 1, 2]
  /-- Front-end delays of phases a, b and c, ps. -/
  delays : List Int := [0, 0, 0]
  threshold : F32 := 0x42480000#32
  length : F32 := 0x47C35000#32
  dLength : F32 := 0x3F800000#32
  velocity : F32 := 0x43948000#32
  dVelocity : F32 := 0x3727C5AC#32
  /-- Module ID and line number of the far end. -/
  partner : Option (Nat × Nat) := none
  waitMs : Nat := 2000
  key : Option Nat := none
  voltages : List Nat := []
  currents : List Nat := []
  z1 : F32 × F32 := (0#32, 0#32)
  k0 : F32 × F32 := (0#32, 0#32)
  gocbRef : List Byte := []
  datSet : List Byte := []
  goId : List Byte := []
  deriving DecidableEq, Repr

/-- A committed phasor of one slot (R247). -/
structure Phasor where
  re : F32 := 0#32
  im : F32 := 0#32
  flags : Nat := 0
  substituted : Nat := 0
  deriving DecidableEq, Repr

/-- The phasors of one row. -/
structure PhasorRow where
  k : Nat := 0
  width : Nat := 0
  entries : Tbl Phasor := []
  deriving DecidableEq, Repr

/-- One PMU block of a data frame: STAT, phasors as magnitude and angle, frequency, ROCOF, analogue values, digital word. -/
structure PmuData where
  stat : Nat := 0
  phasors : List (F32 × F32) := []
  freq : F32 := 0#32
  rocof : F32 := 0#32
  analogues : List F32 := []
  digital : Nat := 0
  deriving DecidableEq, Repr

/-- One PMU block of a configuration frame: station name, FORMAT, its phasors, analogue values and digital bits, nominal frequency. -/
structure PmuHeader where
  station : List Byte := []
  format : Nat := 0
  phasors : List PmuPhasor := []
  analogues : List Nat := []
  digital : List (Nat × Nat) := []
  nominal : Nat := 50
  deriving DecidableEq, Repr

/-- A header (kind 3) or configuration frame (4 CFG-1, 5 CFG-2, 6 CFG-3) of a stream (R252, R253). -/
structure SynchroFrame where
  stream : Nat := 0
  kind : Nat := 4
  idcode : Nat := 0
  /-- UTC second, fraction in 1/TIME_BASE, leap bits and time quality. -/
  soc : Int := 0
  fraction : Nat := 0
  leap : Nat := 0
  quality : Nat := 15
  timeBase : Nat := 9600000
  dataRate : Nat := 50
  blocks : List PmuHeader := []
  deriving DecidableEq, Repr

/-- A synchrophasor stream (R251, R252, R267). -/
structure Synchro where
  cfg : SynchroConfig := {}
  enabled : Bool := true
  data : Bool := false
  client : Bool := false
  /-- Number of the last reporting time sent, in frames since second 0. -/
  last : Option Nat := none
  /-- It goes on from the newest reporting time and not from the last one sent. -/
  fresh : Bool := true
  sent : Nat := 0
  modified : Nat := 0
  errors : Nat := 0
  commands : Nat := 0
  ignored : Nat := 0
  latencyMax : Nat := 0
  deriving DecidableEq, Repr

/-- A local arrival of a line (R257, R263). -/
structure Arrival where
  /-- Arrival time, or inception where no wavefront was found, 2^-40 s. -/
  time : Nat := 0
  found : Bool := true
  /-- Elapsed time at which it was found. -/
  at_ : Nat := 0
  record : Nat := 0
  source : Nat := 0
  /-- The line's parameters as they stood when it was found (R268). -/
  cfg : LineConfig := {}
  /-- Time class, and error bound E in ns, at the arrival; all ones unknown. -/
  cls : Nat := 0
  errorNs : Nat := 0
  /-- What the impedance-based locator finds; none until its two instants have settled (R262). -/
  impedance : Option (Option F32) := none
  /-- Single-ended candidates, m from this end, in order of time. -/
  candidates : List F32 := []
  negative : Bool := false
  amplitude : F32 := 0#32
  /-- Number of its result once published. -/
  result : Option Nat := none
  deriving DecidableEq, Repr

/-- A published result (R267). -/
structure LocResult where
  number : Nat := 0
  method : Nat := 0
  flags : Nat := 0
  revision : Nat := 0
  time : Nat := 0
  distance : F32 := 0x7FC00000#32
  uncertainty : F32 := 0x7FC00000#32
  double : Option F32 := none
  single : Option F32 := none
  alternate : Option F32 := none
  impedance : Option F32 := none
  partner : Nat := 0xFFFF
  partnerClass : Nat := 0
  reject : Nat := 0
  record : Nat := 0
  deriving DecidableEq, Repr

/-- A line's locator (R256 to R264). -/
structure Line where
  cfg : LineConfig := {}
  usePartner : Bool := true
  sequence : Nat := 0
  /-- Arrivals, newest first. -/
  arrivals : List Arrival := []
  /-- The record last sent, and its repetitions (R260). -/
  send : Option GooseSend := none
  /-- Arrival records sent, by sequence. -/
  sentRecords : Tbl (List Byte) := []
  /-- Results, newest first. -/
  results : List LocResult := []
  nextResult : Nat := 0
  /-- Partner records that passed checks 1 to 8, with the elapsed time of arrival. -/
  held : List (List Byte × Nat) := []
  /-- Sequences that have passed check 8, by sender (R261). -/
  lastSeq : List (Nat × Nat) := []
  /-- Check that rejected a partner record since the last result; 0 none. -/
  reject : Nat := 0
  lastRejected : Bool := false
  found : Nat := 0
  accepted : Nat := 0
  rejected : Nat := 0
  published : Nat := 0
  revisions : Nat := 0
  /-- Records already looked at. -/
  done : List Nat := []
  deriving DecidableEq, Repr

/-- State of the phasor unit, the streamer and the locators. -/
structure PhasorState where
  /-- Phasors of settled rows, newest first, at most 4,096 | - | R246 R247 | empty -/
  ring : List PhasorRow := []
  /-- Sums of the recursive evaluation by slot: the instant they stand at, the window W, real and imaginary part | 2 x 64 each | R245 | none -/
  sums : Tbl (Nat × Nat × F64 × F64) := []
  /-- Settled rows that the streamer's windows may need, newest first, at most 16,384 | - | R249 R251 | empty -/
  rows : List Row := []
  /-- Synchrophasor streams 0 to 63 | - | R248 to R254 R267 | none -/
  streams : Tbl Synchro := []
  /-- Lines 0 to 31 | - | R256 to R264 R267 | none -/
  lines : Tbl Line := []
  deriving DecidableEq, Repr

end Sys2Proof
end

