-- ==== Sys2Proof/Types/Cycle.lean ====
section
/-! DEFINITION. Cyclic control programs: image section, operands and state (R318 to R334). State docstrings read: what it is | width | rule | reset. -/
namespace Sys2Proof

/-- A symbol of a program (R318, R329, R336). -/
structure Symbol where
  key : Nat := 0
  /-- Type code of R336. -/
  typ : Nat := 1
  /-- Width in bits. -/
  width : Nat := 1
  /-- A variable or constant of an elementary type of at most 64 bits. -/
  single : Bool := true
  /-- Offset in the retain layout. -/
  retain : Option Nat := none
  initial : Nat := 0
  /-- Where it stands in a station's image: an output, the station, the byte offset. -/
  place : Option (Bool × Nat × Nat) := none
  deriving DecidableEq, Repr

/-- Parameters of a program (R319): `none` for cycle source FREE. -/
structure CycleParams where
  teu : Option Nat := none
  minUs : Nat := 0
  watchdogUs : Nat := 20000
  windowUs : Nat := 200
  stale : Nat := 3
  autostart : Bool := true
  deriving DecidableEq, Repr

/-- A remote station of a program (R325): its path is a pair 0 to 4. -/
structure StationIo where
  station : Nat := 0
  pair : Nat := 4
  mac : Nat := 0
  gocbRef : List Byte := []
  datSet : List Byte := []
  goId : List Byte := []
  inLen : Nat := 0
  outLen : Nat := 0
  substitute : List Byte := []
  key : Option Nat := none
  deriving DecidableEq, Repr

/-- A cycle image (R318): its code is known by its hash. -/
structure CycleImage where
  core : Nat := 0
  code : List Byte := []
  params : CycleParams := {}
  retainSize : Nat := 0
  symbols : List Symbol := []
  stations : List StationIo := []
  deriving DecidableEq, Repr

/-- The function blocks of R324. -/
inductive BlockKind where
  | ton | tof | tp | ctu | ctd | ctud
  deriving DecidableEq, Repr

/-- A program's scan of a timer or counter: the instance by its symbol key, the inputs it is given (IN, CU or CD; CD of a CTUD; R;
LD; the preset, ns for a timer), and the symbols that take Q (or QU), QD and the elapsed time or count. -/
structure BlockScan where
  instance_ : Nat := 0
  kind : BlockKind := .ton
  in1 : Bool := false
  in2 : Bool := false
  reset : Bool := false
  load : Bool := false
  preset : Nat := 0
  q : Option Nat := none
  q2 : Option Nat := none
  value : Option Nat := none
  deriving DecidableEq, Repr

/-- What a body does to the variables, in its order: it writes one, or scans a function block (R321, R324). -/
inductive BodyOp where
  | write (key value : Nat)
  | scan (f : BlockScan)
  deriving DecidableEq, Repr

/-- A timer's or counter's instance: the inputs at its last scan, the elapsed time (ns) at which its time began, its outputs. -/
structure BlockInst where
  in1 : Bool := false
  in2 : Bool := false
  start : Nat := 0
  q : Bool := false
  q2 : Bool := false
  /-- Elapsed time of a timer, ns; count of a counter. -/
  value : Int := 0
  deriving DecidableEq, Repr

/-- An INPUT frame of a station (R325). -/
structure StationInput where
  core : Nat := 0
  station : Nat := 0
  version : Nat := 1
  kind : Nat := 2
  cycle : Nat := 0
  data : List Byte := []
  authentic : Bool := true
  deriving DecidableEq, Repr

/-- The snapshot of a cycle (R322): row, its phasors, channel states by stage (OPEN 0, OPERATED 2), state word, station time. -/
structure Snapshot where
  row : Option Row := none
  phasors : Option PhasorRow := none
  channels : List (Nat × List (Nat × Nat)) := []
  word : Nat := 0
  time : Nat := 0
  deriving DecidableEq, Repr

/-- A station's state in its program (R326 to R328, R338). -/
structure StationState where
  /-- 0 ONLINE, 1 STALE, 2 SUBSTITUTED, 3 WAITING. -/
  state : Nat := 3
  missing : Nat := 0
  /-- Cycle of the last valid INPUT since the restart. -/
  lastInput : Option Nat := none
  answered : Bool := false
  present : Bool := false
  /-- An OUTPUT was withheld since the last one sent. -/
  absent : Bool := false
  /-- The last valid INPUT image, and the image the program sees. -/
  image : List Byte := []
  seen : List Byte := []
  missed : Nat := 0
  dropouts : Nat := 0
  notQueued : Nat := 0
  returns : Nat := 0
  authFailures : Nat := 0
  deriving DecidableEq, Repr

/-- A control core's program (R318 to R338). -/
structure Program where
  /-- Image; none on an EMPTY core. -/
  image : Option CycleImage := none
  /-- Image to adopt at the next cycle start (R330). -/
  next : Option CycleImage := none
  /-- 0 EMPTY, 1 STOPPED, 2 RUNNING, 3 FAULTED. -/
  state : Nat := 0
  fault : Nat := 0
  params : CycleParams := {}
  /-- Parameters from the next cycle start (R330, R337). -/
  paramsNext : Option CycleParams := none
  tuned : Bool := false
  /-- 0 between cycles, 1 input phase, 2 body. -/
  phase : Nat := 0
  cycle : Nat := 0
  /-- A cycle has started since the restart. -/
  begun : Bool := false
  /-- Cycle after which values stand (R336). -/
  ended : Nat := 0
  /-- Elapsed time of the last cycle start. -/
  startedAt : Nat := 0
  /-- An edge of the cycle source waits for the start. -/
  edge : Bool := false
  stopDue : Bool := false
  snapshot : Snapshot := {}
  /-- Values of the variables, by symbol key. -/
  vars : Tbl Nat := []
  /-- Timers and counters that have been scanned, by symbol key (R324). -/
  blocks : Tbl BlockInst := []
  /-- The same after the last cycle end, as CYCLE.READ gives them (R336). -/
  read : Tbl Nat := []
  /-- Forces held, and those in force in this cycle. -/
  forces : Tbl Nat := []
  forcing : Tbl Nat := []
  /-- Writes of `CYCLE.WRITE` that wait, oldest command first. -/
  waiting : List (List (Nat × Nat)) := []
  /-- Committed retain image in hub SRAM, and whether its CRC-32C verifies. -/
  retained : Option RetainImage := none
  retainOk : Bool := true
  /-- Sequence of the next RETAIN image. -/
  sequence : Nat := 0
  lastCold : Bool := false
  becameCold : Bool := false
  lastNs : Nat := 0
  longestNs : Nat := 0
  meanNs : Nat := 0
  overlap : Nat := 0
  writes : Nat := 0
  inputLate : Nat := 0
  notQueued : Nat := 0
  /-- Stations, by station number. -/
  stations : Tbl StationState := []
  deriving DecidableEq, Repr

/-- State of the control cores. -/
structure CycleState where
  /-- Cores 0 to 3 | - | R318 to R338 | EMPTY -/
  programs : Tbl Program := []
  /-- Retain areas in flash by core, newest first, at most 2, each with its CRC's verdict | 2 x 64 KiB each | R334 | none -/
  flash : Tbl (List (RetainImage × Bool)) := []
  /-- stNum of the last station I/O frame of each control block, by gocbRef | 32 each | R325 R171 | none sent -/
  stNums : List (List Byte × Nat) := []
  deriving DecidableEq, Repr

end Sys2Proof
end

