-- ==== Sys2Proof/Types/Filter.lean ====
section
/-! DEFINITION. Filter and decimation chains: the image's section and the state of the 64 chains (R183 to R210). State docstrings read: what it is | width | rule | reset. -/
namespace Sys2Proof

/-- A stage of a cascade (R184): 1 CIC, 2 HB, 3 FIR. -/
structure FiltStage where
  kind : Nat := 3
  order : Nat := 0
  decimation : Nat := 1
  /-- HB length or FIR taps. -/
  taps : Nat := 0
  /-- Declared delay of a FIR that is not linear phase. -/
  delay : F32 := 0#32
  /-- FIR coefficients by tap. -/
  coefs : Tbl F32 := []
  deriving DecidableEq, Repr

/-- A chain of the Bloom (R184). -/
structure ChainConfig where
  chain : Nat := 0
  /-- FAST channels, or slots of settled rows. -/
  fast : Bool := false
  inputs : List Nat := []
  owner : Nat := 0
  ringSize : Nat := 1048576
  autostart : Bool := false
  stages : List FiltStage := []
  deriving DecidableEq, Repr

/-- Registers of one stage for one channel: integrators and combs of a CIC, the delay line of a HB or FIR, newest first (R186). -/
structure StageRegs where
  integrators : List (BitVec 72) := []
  combs : List (BitVec 72) := []
  line : List F32 := []
  deriving DecidableEq, Repr

/-- An output sample (R189, R190, R199). -/
structure FiltOut where
  /-- Stamp, 2^-64 s. -/
  time : Nat := 0
  flags : Nat := 0
  values : List F32 := []
  deriving DecidableEq, Repr

/-- A threshold comparator (R200 to R203): mode 0 OFF, 1 ABOVE, 2 BELOW, 3 MAGNITUDE. -/
structure Comparator where
  mode : Nat := 0
  level : F32 := 0#32
  hysteresis : F32 := 0#32
  holdoffMs : Nat := 10
  asserted : Bool := false
  /-- Elapsed time at its last record. -/
  recorded : Option Nat := none
  deriving DecidableEq, Repr

/-- A chain (R190 to R208). -/
structure Chain where
  cfg : ChainConfig := {}
  tuned : Bool := false
  /-- 0 STOPPED, 1 PRIMING, 2 RUNNING, 3 SUSPENDED. -/
  state : Nat := 0
  consumed : Nat := 0
  /-- Registers by stage * 8 + channel. -/
  regs : Tbl StageRegs := []
  /-- Countdown to good support, by channel. -/
  countdown : Tbl Nat := []
  /-- FAST inputs that wait for the other channels of their index: position, code, invalid. -/
  gathering : Tbl (List (Nat × Int × Bool)) := []
  /-- Output samples formed and not yet in the ring, oldest first. -/
  formed : List FiltOut := []
  /-- Entries of the ring, newest first. -/
  ring : List FiltOut := []
  newest : Nat := 0
  /-- The first output after PRIMING is still to come. -/
  firstDue : Bool := false
  /-- Last unflagged output per channel: stamp and value. -/
  lastGood : Tbl (Nat × F32) := []
  /-- Comparators by channel * 2 + number. -/
  comparators : Tbl Comparator := []
  asserts : Nat := 0
  withheld : Nat := 0
  questionable : Nat := 0
  suspensions : Nat := 0
  deriving DecidableEq, Repr

/-- State of the filter unit. -/
structure FiltState where
  /-- Chains 0 to 63 | - | R183 to R208 | STOPPED, undefined -/
  chains : Tbl Chain := []
  deriving DecidableEq, Repr

end Sys2Proof
end

