-- ==== Sys2Proof/Types/Loop.lean ====
section
/-! DEFINITION. The closed-loop engine: the image's loop section and the state of the 128 instances (R121 to R145). State docstrings read: what it is | width | rule | reset. -/
namespace Sys2Proof

/-- Gains and limits of an instance (R122). -/
structure LoopParams where
  f0 : Nat := 50
  reference : Nat := 0
  alternate : Option Nat := none
  profile : Nat := 2
  taps : Nat := 96
  kp : F32 := 0#32
  ki : F32 := 0#32
  kr : F32 := 0#32
  lambda : F32 := 0#32
  q0 : F32 := 0#32
  q1 : F32 := 0#32
  q2 : F32 := 0#32
  fLo : F32 := 0x42340000#32
  fHi : F32 := 0x425C0000#32
  gate : F32 := 0#32
  coastLimit : Nat := 48
  lockThr : F32 := 0x3B03126F#32
  unlockThr : F32 := 0x3C23D70A#32
  /-- GRID, or a time event unit 0 to 15. -/
  source : Option Nat := none
  deriving DecidableEq, Repr

/-- An instance of the Bloom's loop section. -/
structure LoopConfig where
  inst : Nat := 0
  params : LoopParams := {}
  deriving DecidableEq, Repr

/-- The learned period of one channel (R124, R132). -/
structure LoopMemory where
  slot : Nat := 0
  taps : List F32 := []
  init : Bool := false
  learned : Nat := 0
  /-- First instant at which the channel belongs to the group. -/
  since : Nat := 0
  deriving DecidableEq, Repr

/-- State of one instance (R123 to R140). -/
structure LoopInst where
  defined : Bool := false
  /-- 0 OFF, 1 WAITING, 2 ACQUIRING, 3 LOCKED, 4 COASTING, 5 LOST. -/
  state : Nat := 0
  params : LoopParams := {}
  tuned : Bool := false
  fallback : Bool := false
  /-- Values set by LOOP.PROFILE or LOOP.TUNE, applied at the next step. -/
  next : Option LoopParams := none
  /-- Values of a swap's Bloom and the first instant they apply to. -/
  swapNext : Option (Nat × LoopParams) := none
  resetReq : Bool := false
  /-- Phase of instant u + 1, and of instant u. -/
  theta : F32 := 0#32
  thetaU : F32 := 0#32
  d : F32 := 0#32
  integ : F32 := 0#32
  ebar : F32 := 0#32
  coast : Nat := 0
  onAlternate : Bool := false
  atLimit : Nat := 0
  inLock : Nat := 0
  unlock : Nat := 0
  refRun : Nat := 0
  altRun : Nat := 0
  /-- Newest instant whose step is complete, and the first instant to step. -/
  u : Nat := 0
  from_ : Nat := 0
  /-- The grid rate of its instants while rows of a grid that a swap has ended are still to be stepped; 0 the present grid (R489). -/
  grid : Nat := 0
  memories : List LoopMemory := []
  resets : Nat := 0
  coasts : Nat := 0
  lockLosses : Nat := 0
  gated : Nat := 0
  deriving DecidableEq, Repr

/-- State of the closed-loop engine. -/
structure LoopState where
  /-- Instances 0 to 127 | - | R121 to R140 | OFF -/
  insts : Tbl LoopInst := []
  deriving DecidableEq, Repr

end Sys2Proof
end

