-- ==== Sys2Proof/Types/Net.lean ====
section
/-! DEFINITION. The MACs and the switch: image section, operands and state (R341 to R369). State docstrings read: what it is | width | rule | reset. -/
namespace Sys2Proof

/-- Parameters of a port (R342, R341): speed 0 1 Gb/s, 1 10 Gb/s, 2 25 Gb/s, 3 internal; watermarks and cap in KiB. -/
structure PortConfig where
  enabled : Bool := true
  speed : Nat := 2
  fec : Bool := false
  pcp : Nat := 4
  floor : Nat := 0
  high : Nat := 512
  low : Nat := 256
  cap : Nat := 4096
  deriving DecidableEq, Repr

/-- A TCP or UDP port on pair 4 bound to a slice (R361). -/
structure PortBinding where
  tcp : Bool := true
  port : Nat := 0
  slice : Nat := 1
  deriving DecidableEq, Repr

/-- The network section of an image (R342, R345, R350, R361). -/
structure NetSection where
  /-- Ports that differ from the reset parameters. -/
  ports : Tbl PortConfig := []
  /-- Pair modes of pairs 0 to 3: 0 PRP, 1 HSR, 2 INDEPENDENT. -/
  modes : Tbl Nat := []
  /-- Path timeouts by pair, ms. -/
  timeouts : Tbl Nat := []
  /-- IPv4 and IPv6 addresses of pair 4 and of port 11. -/
  pair4 : Option Nat × Option Nat := (none, none)
  port11 : Option Nat × Option Nat := (none, none)
  bindings : List PortBinding := []
  /-- Multicast addresses subscribed for hub functions. -/
  multicast : List Nat := []
  /-- Command transport on pair 4 (R361, R476). -/
  tlsPair4 : Bool := false
  /-- Nodes the Bloom names, as pair and MAC (R350). -/
  nodes : List (Nat × Nat) := []
  deriving DecidableEq, Repr

/-- A frame in the switch: its input port, elapsed time of its last bit (or first cell), class, cells, and its bytes from
the destination MAC without the frame check. -/
structure QFrame where
  input : Nat := 0
  born : Nat := 0
  cls : Nat := 0
  cells : Nat := 1
  /-- Bytes without trailer and frame check. -/
  length : Nat := 64
  etype : Nat := 0
  bytes : List Byte := []
  /-- Cells of it that are in the output buffer (R359). -/
  here : Nat := 0
  /-- The ageing limit of its class when it was admitted, µs (R356, R366). -/
  limit : Nat := 0
  /-- Charged to the pool, not to the output's guarantee. -/
  pool : Bool := false
  /-- The slice whose NET transmit engine sent it, or to whose receive engine it goes. -/
  slice : Option Nat := none
  /-- That slice's generation (R304). -/
  generation : Nat := 1
  deriving DecidableEq, Repr

/-- A port of the switch (R341, R354 to R360, R367). -/
structure Port where
  cfg : PortConfig := {}
  /-- What NET.PORT_ENABLE has set, until the next swap (R366). -/
  forced : Option Bool := none
  link : Bool := false
  /-- Frames queued, each class in its own order. -/
  queue : List QFrame := []
  sending : Option QFrame := none
  step : Nat := 0
  /-- Elapsed time of the last underrun or decay. -/
  stepAt : Nat := 0
  /-- Elapsed time of the last 0x0E12 record. -/
  stepRecord : Option Nat := none
  /-- Elapsed time to which a received PAUSE holds transmission. -/
  held : Option Nat := none
  pausing : Bool := false
  /-- Elapsed time of the last PAUSE sent. -/
  pausedAt : Nat := 0
  rxFrames : Nat := 0
  txFrames : Nat := 0
  rxBytes : Nat := 0
  txBytes : Nat := 0
  fcsErr : Nat := 0
  runt : Nat := 0
  oversize : Nat := 0
  dup : Nat := 0
  outOfWindow : Nat := 0
  wrongLan : Nat := 0
  ownReturn : Nat := 0
  tableFull : Nat := 0
  noRoute : Nat := 0
  dropBuffer : Nat := 0
  dropAged : Nat := 0
  underrun : Nat := 0
  pauseTx : Nat := 0
  pauseRx : Nat := 0
  pauseIgnored : Nat := 0
  queueHigh : Nat := 0
  linkLosses : Nat := 0
  deriving DecidableEq, Repr

/-- A source's duplicate window (R348): highest sequence, sequences seen behind it, elapsed time of its last frame. -/
structure SeqWindow where
  mac : Nat := 0
  highest : Nat := 0
  seen : List Nat := []
  at_ : Nat := 0
  deriving DecidableEq, Repr

/-- A node of a pair (R350). -/
structure Node where
  mac : Nat := 0
  /-- Elapsed time of the last frame on path A, on path B. -/
  a : Option Nat := none
  b : Option Nat := none
  upA : Bool := false
  upB : Bool := false
  /-- A frame with a trailer or tag has been seen. -/
  tagged : Bool := false
  deriving DecidableEq, Repr

/-- A pair (R347 to R350). -/
structure PairNet where
  /-- 0 PRP, 1 HSR, 2 INDEPENDENT. -/
  mode : Nat := 0
  timeoutMs : Nat := 6000
  /-- Sequence number of the next frame sent. -/
  sequence : Nat := 0
  /-- Duplicate windows for delivery, and for pass-through from the even and from the odd port (HSR). -/
  windows : List SeqWindow := []
  passEven : List SeqWindow := []
  passOdd : List SeqWindow := []
  nodes : List Node := []
  deriving DecidableEq, Repr

/-- A rule of the mirror (R363). -/
structure MirrorRule where
  enable : Bool := false
  rx : Bool := false
  tx : Bool := false
  drops : Bool := false
  etype : Nat := 0
  ports : Nat := 0
  n : Nat := 1
  count : Nat := 0
  deriving DecidableEq, Repr

/-- An entry of the mirror ring (R364). -/
structure MirrorEntry where
  number : Nat := 0
  time : Nat := 0
  port : Nat := 0
  flags : Nat := 0
  reason : Nat := 0
  cls : Nat := 0
  length : Nat := 0
  rule : Nat := 0
  frame : List Byte := []
  deriving DecidableEq, Repr

/-- The mirror (R362 to R364). -/
structure Mirror where
  running : Bool := false
  rules : Tbl MirrorRule := []
  /-- Entries, newest first. -/
  ring : List MirrorEntry := []
  written : Nat := 0
  lost : Nat := 0
  /-- Microsecond of elapsed time of the newest entries, and how many in it. -/
  window : Nat × Nat := (0, 0)
  deriving DecidableEq, Repr

/-- State of the MACs and the switch. -/
structure NetState where
  /-- Ports 0 to 19 | - | R341 R342 R367 | R342's reset parameters; link DESIGN CHOICE down (log 5) -/
  ports : Tbl Port := []
  /-- Grant pointers of the central scheduler by output | 20 x 5 | R353 | DESIGN CHOICE 0 (log 5) -/
  grants : Tbl Nat := []
  /-- Accept pointers of the central scheduler by input | 20 x 5 | R353 | DESIGN CHOICE 0 (log 5) -/
  accepts : Tbl Nat := []
  /-- Pairs 0 to 4 | - | R342 R347 | PRP, 6,000 ms, nothing seen, sequence DESIGN CHOICE 0 (log 5) -/
  pairs : Tbl PairNet := []
  /-- Ageing limits by class, µs | 8 x 32 | R356 | 100,000 x 4, 10,000, 5,000, 2,000, 1,000 -/
  ageing : List Nat := [100000, 100000, 100000, 100000, 10000, 5000, 2000, 1000]
  /-- Elapsed time of the last ageing scan | - | R356 | 0 -/
  scannedAt : Nat := 0
  /-- Elapsed time at which the next supervision frames are due | - | R350 | 0 -/
  superviseAt : Nat := 0
  /-- MC_PARTIAL | 32 | R367 | 0 -/
  partials : Nat := 0
  /-- NO_ROUTE of all inputs | 32 | R367 | 0 -/
  noRoute : Nat := 0
  /-- Pool high water, cells | 32 | R367 | 0 -/
  poolHigh : Nat := 0
  /-- Mirror ring and rules | - | R362 R363 | stopped, no rule -/
  mirror : Mirror := {}
  /-- Base MAC address (fuse), low 3 bits zero | 48 | R343 | DESIGN CHOICE 0 (log 1) -/
  base : Nat := 0
  /-- Entries of the model's output record already carried to the output queues (the model's own) | - | log 6 | 0 -/
  carried : Nat := 0
  deriving DecidableEq, Repr

end Sys2Proof
end

