-- ==== Sys2Proof/Types/Image.lean ====
section
/-! DEFINITION. A Bloom or Bud image (R482): its header fields and the sections the other chapters define. Section layouts are the workbench's; sections are held as structures. -/
namespace Sys2Proof

/-- A principal of the access section (R470). -/
structure PrincipalConfig where
  number : Nat := 0
  privilege : Nat := 0
  scope : Option Nat := none
  deriving DecidableEq, Repr

/-- A configuration image. -/
structure Image where
  version : Nat := 1
  /-- 0: 4,800 Hz; 1: 14,400 Hz. -/
  grid : Nat := 0
  variants : Nat := 7
  steppings : Nat := 1
  compatMin : Nat := 0
  compatMax : Nat := 0xFFFF
  length : Nat := 0
  stage : Nat := 1
  stages : Nat := 1
  predecessor : List Byte := List.replicate 16 0#8
  /-- Workbench build identifier, and the count of sections. -/
  build : List Byte := List.replicate 16 0#8
  sections : Nat := 0
  /-- First 16 bytes of the SHA-512 of the image. -/
  fingerprint : List Byte := List.replicate 16 0#8
  /-- The image's layout is that of R482 and of the sections. -/
  wellFormed : Bool := true
  /-- Regions named anywhere in the image (R6). -/
  regions : List Nat := []
  access : List PrincipalConfig := []
  time : TimeSection := {}
  streams : List StreamConfig := []
  loops : List LoopConfig := []
  fns : List FnConfig := []
  slices : List SliceConfig := []
  outStages : List StageConfig := []
  fabric : FabricSection := {}
  pair : Option PairSection := none
  chains : List ChainConfig := []
  acq : AcqSection := {}
  /-- Station nominal frequency (R244). -/
  nominal : Nat := 50
  synchros : List SynchroConfig := []
  lines : List LineConfig := []
  constellation : Option ConstSection := none
  net : NetSection := {}
  cycles : List CycleImage := []
  /-- Tap list: stream indices Hollyhock receives, at most 16 (R446). -/
  tap : List Nat := []
  deriving DecidableEq, Repr

end Sys2Proof
end

