-- ==== Sys2Proof/Types/Key.lean ====
section
/-! DEFINITION. State of the key store (R418 to R443). Docstrings read: what it is | width | rule | reset. -/
namespace Sys2Proof

/-- A staged successor value (R427, R428). -/
structure Successor where
  value : List Byte := []
  keyId : Nat := 0
  kcv : Nat := 0
  version : Nat := 1
  /-- The CVK's successor carries a signature by the current CVK that verifies. -/
  signed : Bool := true
  deriving DecidableEq, Repr

/-- A key slot (R420 to R427). -/
structure KeySlot where
  /-- 0 FREE, 1 CURRENT, 2 STAGED, 3 VERIFIED, 4 ORPHANED. -/
  state : Nat := 0
  gen : Nat := 1
  use : Nat := 0
  /-- Parent slot, and its GEN when the key was created. -/
  parent : Nat := 0
  parentGen : Nat := 1
  /-- Owning slice; 0xFFFF the module. -/
  owner : Nat := 0xFFFF
  depth : Nat := 0
  /-- 0 derived, 1 imported, 2 hardware. -/
  origin : Nat := 0
  label : List Byte := []
  version : Nat := 1
  keyId : Nat := 0
  kcv : Nat := 0
  value : List Byte := []
  succ : Option Successor := none
  /-- Station time of the last commit. -/
  committed : Nat := 0
  deriving DecidableEq, Repr

/-- A sealed copy of the table in flash (R429). -/
structure SealedTable where
  epoch : Nat := 0
  slots : Tbl KeySlot := []
  counter : Nat := 0
  valid : Bool := true
  deriving DecidableEq, Repr

/-- A key command that waits: for the table write at the head, for its turn behind it (R429, R430). -/
structure KeyPending where
  opcode : Nat := 0
  call : Call := {}
  params : List Byte := []
  /-- Of a forced invalidation, whose effect is in force already: reply payload, old state and key ID (R435). -/
  ready : Option (List Byte × Nat × Nat) := none
  deriving DecidableEq, Repr

/-- State of the key store. -/
structure KeyState where
  /-- Slots 0 to 1,023 | - | R420 R421 R427 | slots 0 to 3 DUK, IDK, IMK, MRK; the others FREE -/
  slots : Tbl KeySlot := [(0, { state := 1, use := 0, depth := 0, origin := 2 }),
    (1, { state := 1, use := 2, depth := 1, parent := 0, label := [0x69#8, 0x64#8, 0x65#8, 0x6E#8, 0x74#8, 0x69#8, 0x74#8, 0x79#8] }),
    (2, { state := 1, use := 3, depth := 1, parent := 0, label := [0x69#8, 0x6D#8, 0x70#8, 0x6F#8, 0x72#8, 0x74#8] }),
    (3, { state := 1, use := 1, depth := 1, parent := 0, label := [0x6D#8, 0x6F#8, 0x64#8, 0x75#8, 0x6C#8, 0x65#8] })]
  /-- Store ZEROISED | 1 | R436 | 0 -/
  zeroised : Bool := false
  /-- Latest known-answer run failed | 1 | R438 R441 | 0 -/
  selftestFailed : Bool := false
  /-- TAMPER_N low | 1 | R436 | 0 -/
  tamperLow : Bool := false
  /-- Tamper epoch fuses blown | 0 to 64 | R437 | DESIGN CHOICE 0 (log 1) -/
  epoch : Nat := 0
  /-- A tamper whose fuse is still to be blown | 1 | R437 | 0 -/
  fuseDue : Bool := false
  /-- Aedgen counter | 64 | R432 | 0 -/
  counter : Nat := 0
  /-- Device unique key, conditioned | 64 bytes | R419 R436 | none until a boot reconstructs it -/
  duk : List Byte := []
  /-- Public key of the IDK, kept through a tamper | 133 bytes | R436 R438 | DESIGN CHOICE zeros until a boot derives it (log 1) -/
  idkPublic : List Byte := List.replicate 133 0#8
  /-- SHA-512 of the IDK public key | 64 bytes | R432 | DESIGN CHOICE zeros until a boot derives it (log 1) -/
  idkDigest : List Byte := List.replicate 64 0#8
  /-- Known-answer tests passed since boot | 32 | R441 | 0 -/
  passed : Nat := 0
  /-- Known-answer tests failed since boot | 32 | R441 | 0 -/
  failed : Nat := 0
  /-- Sealed flash areas, newest first, at most 2 | - | R429 | none -/
  areas : List SealedTable := []
  /-- Key commands that wait, oldest first | - | R429 R430 | none -/
  waiting : List KeyPending := []
  deriving DecidableEq, Repr

end Sys2Proof
end

