-- ==== Sys2Proof/Types/Lupin.lean ====
section
/-! DEFINITION. Hollyhock, the sealed metrology die: tap blocks, sealed parameters, registers, snapshots, log and state (R444 to R465). State docstrings read: what it is | width | rule | reset. -/
namespace Sys2Proof

/-- A channel of a tap entry: count, q, origin, flags (R447). -/
structure TapChannel where
  count : Int := 0
  q : Nat := 0
  origin : Nat := 7
  flags : Nat := 0
  deriving DecidableEq, Repr

/-- A tap block (R447). -/
structure TapBlock where
  k : Nat := 0
  grid : Nat := 0
  cls : Nat := 7
  utc : Nat := 0
  /-- Identity tag and eight channels per stream. -/
  entries : List (List Byte × List TapChannel) := []
  deriving DecidableEq, Repr

/-- A metering point of the sealed parameter set (R448). -/
structure MeterPoint where
  tag : List Byte := List.replicate 8 0#8
  /-- Channels of the voltages a, b, c and the currents a, b, c. -/
  channels : List Nat := [0, 1, 2, 3, 4, 5]
  /-- Sealed scale of each, V or A per count, in double precision. -/
  scales : List F64 := []
  f0 : Nat := 50
  periodMin : Nat := 15
  billingDay : Nat := 1
  mac : Nat := 0
  vlan : Nat := 0
  pcp : Nat := 4
  deriving DecidableEq, Repr

/-- A metrology image as Hollyhock finds it when the offer is verified (R459). -/
structure UpdateImage where
  /-- The signature verifies against the MUK. -/
  signed : Bool := true
  /-- The seal counter it is built for. -/
  counter : Nat := 1
  /-- Its layout is that of a metrology image. -/
  wellFormed : Bool := true
  points : List MeterPoint := []
  /-- First 16 bytes of the SHA-512 of the firmware and of the parameter set. -/
  firmware : List Byte := List.replicate 16 0#8
  parameters : List Byte := List.replicate 16 0#8
  deriving DecidableEq, Repr

/-- What a running demand period or second has gathered: energies in W s and var s, exact. -/
structure MeterSum where
  start : Nat := 0
  integrated : Nat := 0
  imported : Rat := 0
  net : Rat := 0
  reactive : Rat := 0
  uncertain : Bool := false
  mismatch : Bool := false
  deriving DecidableEq, Repr

/-- The registers of a point: A+, A-, R1 to R4 in W s and var s with their carried fractions, the maximum demand, the
start of its period, and the last billing month begun (R450, R451). -/
structure MeterRegs where
  energies : List Rat := List.replicate 6 0
  maxDemand : Nat := 0
  maxK : Nat := 0
  billing : Option Int := none
  period : Option MeterSum := none
  deriving DecidableEq, Repr

/-- What Hollyhock commits to its non-volatile memory (R461): registers, the last instant received, and the log with its
64-byte records, newest first. -/
structure MeterStore where
  regs : Tbl MeterRegs := []
  lastK : Option Nat := none
  /-- Ring records held and ever written. -/
  ring : List (List Byte) := []
  ringCount : Nat := 0
  /-- Protected records, and how many stand in the general part and in the tamper reserve. -/
  protected_ : List (List Byte) := []
  general : Nat := 0
  reserve : Nat := 0
  deriving DecidableEq, Repr

/-- A snapshot held: its sequence and 276 bytes. -/
structure MeterSnapshot where
  sequence : Nat := 0
  bytes : List Byte := []
  deriving DecidableEq, Repr

/-- An update offer in progress or under verification (R459, R464): the bytes of each fragment received, by its index. -/
structure UpdateOffer where
  total : Nat := 0
  fragments : Nat := 0
  received : Tbl (List Byte) := []
  deriving DecidableEq, Repr

/-- State of Hollyhock and of the hub's side of the tap. -/
structure LupinState where
  /-- State of R462 without UPDATING, VOID and LINK_DOWN: 1 to 3 | 3 | R462 | STARTING (1) -/
  base : Nat := 1
  /-- An offer is complete and under verification | 1 | R462 | 0 -/
  updating : Bool := false
  /-- Tampered and not yet adopted anew | 1 | R460 | 0 -/
  void : Bool := false
  /-- The die link to L is not trained | 1 | R462 | 1 (trained by the boot sequence) -/
  linkDown : Bool := true
  /-- Elapsed time at the last tap block accepted | - | R462 | 0 -/
  lastTapAt : Nat := 0
  /-- Tap blocks in Hollyhock's input queue, oldest first, at most 64 | - | R447 | empty -/
  inbox : List TapBlock := []
  /-- Tap blocks sent since boot | 32 | R464 | 0 -/
  sent : Nat := 0
  /-- TAP_DROP since boot | 32 | R447 | 0 -/
  dropped : Nat := 0
  /-- Sealed parameter set, at most 16 points | - | R448 | DESIGN CHOICE none (log 5) -/
  points : List MeterPoint := []
  /-- Seal counter | 32 | R459 | DESIGN CHOICE 0 (log 5) -/
  sealCount : Nat := 0
  /-- Tamper count, from which the HSK derives | 8 | R457 R460 | DESIGN CHOICE 0 (log 5) -/
  tampers : Nat := 0
  /-- Tamper count of the HSK in force; none while zeroised | - | R460 | DESIGN CHOICE 0 (log 5) -/
  key : Option Nat := some 0
  /-- Firmware hash | 16 bytes | R454 | DESIGN CHOICE zeros (log 1) -/
  firmware : List Byte := List.replicate 16 0#8
  /-- Parameter set hash | 16 bytes | R464 | DESIGN CHOICE zeros (log 1) -/
  parameters : List Byte := List.replicate 16 0#8
  /-- Registers and log | - | R450 R456 | DESIGN CHOICE 0 and empty (log 5) -/
  live : MeterStore := {}
  /-- Registers and log as last committed | - | R461 | DESIGN CHOICE none (log 5) -/
  saved : Option MeterStore := none
  /-- Grid of the last tap block accepted | 8 | R447 R451 | none -/
  grid : Option Nat := none
  /-- Usable instants of the last window and a quarter per point: k and six scaled values, newest first | - | R450 | empty -/
  instants : Tbl (List (Nat × List F64)) := []
  /-- The running second per point | - | R454 | none -/
  seconds : Tbl MeterSum := []
  /-- Next sequence of PERIOD and SECOND snapshots per point | 32 each | R454 | DESIGN CHOICE 0 (log 5) -/
  sequences : Tbl (Nat × Nat) := []
  /-- PERIOD snapshots per point, newest first, at most 4,096 | - | R454 | empty -/
  periodSnaps : Tbl (List MeterSnapshot) := []
  /-- SECOND snapshots per point, newest first, at most 64 | - | R454 | empty -/
  secondSnaps : Tbl (List MeterSnapshot) := []
  /-- PERIOD snapshots to be signed and sent: point, sequence, bytes 0 to 143 | - | R454 R455 | empty -/
  unsent : List (Nat × Nat × List Byte) := []
  /-- Tags without a point seen since power-up or restart | - | R449 | empty -/
  strangers : List (List Byte) := []
  /-- Rate check: instant and own time at its start | - | R453 | none -/
  rate : Option (Nat × Nat) := none
  /-- The last rate check failed | 1 | R464 | 0 -/
  rateBad : Bool := false
  /-- First instant past the 10 s after a change of grid rate in which KL-08's record may still come | - | R587 | none -/
  rateSlip : Option Nat := none
  /-- Own time of the last TIME_DISCONTINUITY for a repeated instant | - | R453 | none -/
  repeatedAt : Option Nat := none
  /-- Own time, ns since power-up, as last read | 64 | R456 | 0 -/
  own : Nat := 0
  /-- Update offer in progress or under verification | - | R459 R464 | none -/
  offer : Option UpdateOffer := none
  deriving DecidableEq, Repr

end Sys2Proof
end

