-- ==== Sys2Proof/Types/Out.lean ====
section
/-! DEFINITION. What leaves the module: replies, interrupts, frames, pin edges and writes to its flash and supplies. -/
namespace Sys2Proof

/-- One thing the module has put out. -/
inductive Out where
  /-- A reply; for PCIe, with the response slot it was written to (R475). -/
  | reply (via : Transport) (slot : Option Nat) (r : Reply)
  /-- MSI-X vector 0 raised (R496). -/
  | msix
  /-- An edge of a time event unit at its target (R48). -/
  | teuEdge (e : TeuEdge)
  /-- A ball driven to its inactive level (R64). -/
  | ballIdle (target : Nat)
  /-- A PTP message sent on a port (R41, R42). -/
  | ptp (port : Nat) (m : PtpSent)
  /-- An IRIG-B B006 frame: its UTC second, or with `inserted` the second 60 before it; leap flags and quality (R56). -/
  | irig (utc : Int) (inserted leap61 leap59 : Bool) (quality : Nat)
  /-- SQW_TRIGOUT3 driven to a level (R80, R81). -/
  | trigOut3 (high : Bool)
  /-- A GOOSE frame (R171). -/
  | goose (g : Goose)
  /-- The return of a runtime call on the cell of a SOURCE code: a0 and a1 (R274). -/
  | ecall (source a0 a1 : Nat)
  /-- VOUT_COMMAND of VDD_Cn, mV (R565). -/
  | pmbus (die millivolt : Nat)
  /-- A frame has left a port; whether its frame check is deliberately wrong (R351, R360). The frames of the hub's own units stand here
too: what those units hand to the switch are the entries of their own. -/
  | frame (port : Nat) (bytes : List Byte) (bad : Bool)
  /-- A sampled-value frame went to the ingest unit (R345). -/
  | toIngest (port : Nat) (bytes : List Byte)
  /-- A PTP frame or another frame reached the hub units through port 19 (R345). -/
  | toHub (bytes : List Byte)
  /-- The command processor's answer on ports to an ARP request, an IPv6 neighbour solicitation or an ICMP echo request, given as the
  request that it answers (R361). -/
  | ipAnswer (ports : List Nat) (request : List Byte)
  /-- PAUSE with its quanta (R358). -/
  | pause (port quanta : Nat)
  /-- A supervision frame on a pair (R350). -/
  | supervision (pair : Nat)
  /-- A C37.118 data frame of a stream: SOC, fraction in 1/9,600,000 s, leap flags and time quality, blocks (R252, R254). -/
  | synchro (stream soc fraction leap quality : Nat) (blocks : List PmuData)
  /-- A header or configuration frame of a stream (R252, R253). -/
  | synchroConfig (f : SynchroFrame)
  /-- A RETAIN frame to the partner on a path (R391). -/
  | retain (path : Nat) (payload : List Byte)
  /-- WAKE_N driven (R77). -/
  | wake (low : Bool)
  deriving DecidableEq, Repr

end Sys2Proof
end

