-- ==== Sys2Proof/Syntax.lean ====
section
/-! DEFINITION. The commands and events of the block: one constructor per row of the opcode table. A catalogue command carries the
call it comes with and its parameter bytes; an event carries what the outside world brings. -/
namespace Sys2Proof

/-- One constructor per row of the table, in its order. -/
inductive Instr where
  /-- MOD_IDENTIFY (R498). -/
  | modIdentify (c : Call) (p : List Byte)
  /-- MOD_SET_STATE (R498). -/
  | modSetState (c : Call) (p : List Byte)
  /-- MOD_SESSION_OPEN (R473). -/
  | modSessionOpen (c : Call) (p : List Byte)
  /-- MOD_SESSION_CLOSE (R498). -/
  | modSessionClose (c : Call) (p : List Byte)
  /-- MOD_RESET (R498). -/
  | modReset (c : Call) (p : List Byte)
  /-- CFG_STATUS (R498). -/
  | cfgStatus (c : Call) (p : List Byte)
  /-- CFG_LOAD (R483). -/
  | cfgLoad (c : Call) (p : List Byte)
  /-- CFG_SWAP (R487). -/
  | cfgSwap (c : Call) (p : List Byte)
  /-- CFG_SWAP_CANCEL (R490). -/
  | cfgSwapCancel (c : Call) (p : List Byte)
  /-- CFG_FN_ENABLE (R486). -/
  | cfgFnEnable (c : Call) (p : List Byte)
  /-- CFG_CHECK (R498). -/
  | cfgCheck (c : Call) (p : List Byte)
  /-- TIME_STATUS (R59). -/
  | timeStatus (c : Call) (p : List Byte)
  /-- TIME_READ (R60). -/
  | timeRead (c : Call) (p : List Byte)
  /-- TIME_SET (R61). -/
  | timeSet (c : Call) (p : List Byte)
  /-- TIME_PROFILE (R62). -/
  | timeProfile (c : Call) (p : List Byte)
  /-- TIME_TEU_CONFIG (R63). -/
  | timeTeuConfig (c : Call) (p : List Byte)
  /-- TIME_TEU_STOP (R64). -/
  | timeTeuStop (c : Call) (p : List Byte)
  /-- TIME_CAPTURE_READ (R65). -/
  | timeCaptureRead (c : Call) (p : List Byte)
  /-- TIME_SERVO_SET (R66). -/
  | timeServoSet (c : Call) (p : List Byte)
  /-- TIME_SET_INCREMENT (R67). -/
  | timeSetIncrement (c : Call) (p : List Byte)
  /-- TIME_PORT_SET (R66). -/
  | timePortSet (c : Call) (p : List Byte)
  /-- TIME_IO_DELAY_SET (R66). -/
  | timeIoDelaySet (c : Call) (p : List Byte)
  /-- RTC_STATUS (R87). -/
  | rtcStatus (c : Call) (p : List Byte)
  /-- RTC_SET (R87). -/
  | rtcSet (c : Call) (p : List Byte)
  /-- RTC_CLEAR_OSF (R73). -/
  | rtcClearOsf (c : Call) (p : List Byte)
  /-- RTC_CAPTURE (R82). -/
  | rtcCapture (c : Call) (p : List Byte)
  /-- RTC_SHIFT (R84). -/
  | rtcShift (c : Call) (p : List Byte)
  /-- RTC_ALARM_SET (R77). -/
  | rtcAlarmSet (c : Call) (p : List Byte)
  /-- RTC_WAKE_SET (R78). -/
  | rtcWakeSet (c : Call) (p : List Byte)
  /-- RTC_SQW_SET (R80). -/
  | rtcSqwSet (c : Call) (p : List Byte)
  /-- RTC_DISCIPLINE_SET (R87). -/
  | rtcDisciplineSet (c : Call) (p : List Byte)
  /-- INGEST_STATUS (R113). -/
  | ingestStatus (c : Call) (p : List Byte)
  /-- INGEST_STREAM_STATUS (R114). -/
  | ingestStreamStatus (c : Call) (p : List Byte)
  /-- INGEST_PORT_COUNTERS (R115). -/
  | ingestPortCounters (c : Call) (p : List Byte)
  /-- INGEST_ROW_READ (R116). -/
  | ingestRowRead (c : Call) (p : List Byte)
  /-- INGEST_BLOCK (R117). -/
  | ingestBlock (c : Call) (p : List Byte)
  /-- INGEST_SIM_SET (R108). -/
  | ingestSimSet (c : Call) (p : List Byte)
  /-- INGEST_STREAM_TUNE (R118). -/
  | ingestStreamTune (c : Call) (p : List Byte)
  /-- SPEC_STATUS (R177). -/
  | specStatus (c : Call) (p : List Byte)
  /-- SPEC_SET (R178). -/
  | specSet (c : Call) (p : List Byte)
  /-- SPEC_TUNE (R179). -/
  | specTune (c : Call) (p : List Byte)
  /-- LOOP_STATUS (R140). -/
  | loopStatus (c : Call) (p : List Byte)
  /-- LOOP_PROFILE (R141). -/
  | loopProfile (c : Call) (p : List Byte)
  /-- LOOP_RESET (R141). -/
  | loopReset (c : Call) (p : List Byte)
  /-- LOOP_MEMORY_READ (R142). -/
  | loopMemoryRead (c : Call) (p : List Byte)
  /-- LOOP_TUNE (R143). -/
  | loopTune (c : Call) (p : List Byte)
  /-- FILT_STATUS (R208). -/
  | filtStatus (c : Call) (p : List Byte)
  /-- FILT_START (R191). -/
  | filtStart (c : Call) (p : List Byte)
  /-- FILT_STOP (R193). -/
  | filtStop (c : Call) (p : List Byte)
  /-- FILT_PROFILE (R205). -/
  | filtProfile (c : Call) (p : List Byte)
  /-- FILT_THRESHOLD_SET (R203). -/
  | filtThresholdSet (c : Call) (p : List Byte)
  /-- FILT_READ (R207). -/
  | filtRead (c : Call) (p : List Byte)
  /-- FILT_STAGE_SET (R206). -/
  | filtStageSet (c : Call) (p : List Byte)
  /-- FILT_COEF_LOAD (R206). -/
  | filtCoefLoad (c : Call) (p : List Byte)
  /-- ACQ_STATUS (R241). -/
  | acqStatus (c : Call) (p : List Byte)
  /-- ACQ_LINK_STATUS (R241). -/
  | acqLinkStatus (c : Call) (p : List Byte)
  /-- ACQ_ARM (R217). -/
  | acqArm (c : Call) (p : List Byte)
  /-- ACQ_STOP (R231). -/
  | acqStop (c : Call) (p : List Byte)
  /-- ACQ_TRIGGER (R236). -/
  | acqTrigger (c : Call) (p : List Byte)
  /-- ACQ_RECORD_READ (R236). -/
  | acqRecordRead (c : Call) (p : List Byte)
  /-- ACQ_RECORD_LOCK (R236). -/
  | acqRecordLock (c : Call) (p : List Byte)
  /-- ACQ_PROFILE (R237). -/
  | acqProfile (c : Call) (p : List Byte)
  /-- ACQ_CAPTURE_SET (R238). -/
  | acqCaptureSet (c : Call) (p : List Byte)
  /-- ACQ_MASK_SET (R239). -/
  | acqMaskSet (c : Call) (p : List Byte)
  /-- ACQ_LINK_SET (R240). -/
  | acqLinkSet (c : Call) (p : List Byte)
  /-- PHASOR_STATUS (R267). -/
  | phasorStatus (c : Call) (p : List Byte)
  /-- PHASOR_STREAM_SET (R266). -/
  | phasorStreamSet (c : Call) (p : List Byte)
  /-- PHASOR_READ (R266). -/
  | phasorRead (c : Call) (p : List Byte)
  /-- LOC_STATUS (R267). -/
  | locStatus (c : Call) (p : List Byte)
  /-- LOC_RESULT_READ (R267). -/
  | locResultRead (c : Call) (p : List Byte)
  /-- LOC_ARRIVAL_READ (R266). -/
  | locArrivalRead (c : Call) (p : List Byte)
  /-- LOC_ARRIVAL_SUBMIT (R261). -/
  | locArrivalSubmit (c : Call) (p : List Byte)
  /-- PHASOR_TUNE (R268). -/
  | phasorTune (c : Call) (p : List Byte)
  /-- LOC_LINE_SET (R268). -/
  | locLineSet (c : Call) (p : List Byte)
  /-- FABRIC_STATUS (R292). -/
  | fabricStatus (c : Call) (p : List Byte)
  /-- FABRIC_PROFILE (R291). -/
  | fabricProfile (c : Call) (p : List Byte)
  /-- BUDGET_STATUS (R293). -/
  | budgetStatus (c : Call) (p : List Byte)
  /-- BUDGET_SET (R291). -/
  | budgetSet (c : Call) (p : List Byte)
  /-- FABRIC_TUNE (R294). -/
  | fabricTune (c : Call) (p : List Byte)
  /-- BUDGET_THRESHOLDS (R295). -/
  | budgetThresholds (c : Call) (p : List Byte)
  /-- BUDGET_FORCE (R287). -/
  | budgetForce (c : Call) (p : List Byte)
  /-- SLICE_STATUS (R315). -/
  | sliceStatus (c : Call) (p : List Byte)
  /-- SLICE_QUIESCE (R310). -/
  | sliceQuiesce (c : Call) (p : List Byte)
  /-- SLICE_RESUME (R312). -/
  | sliceResume (c : Call) (p : List Byte)
  /-- SLICE_RESET (R313). -/
  | sliceReset (c : Call) (p : List Byte)
  /-- SLICE_PROFILE (R316). -/
  | sliceProfile (c : Call) (p : List Byte)
  /-- SLICE_LIMITS (R316). -/
  | sliceLimits (c : Call) (p : List Byte)
  /-- CYCLE_STATUS (R338). -/
  | cycleStatus (c : Call) (p : List Byte)
  /-- CYCLE_START (R336). -/
  | cycleStart (c : Call) (p : List Byte)
  /-- CYCLE_STOP (R320). -/
  | cycleStop (c : Call) (p : List Byte)
  /-- CYCLE_STATION_STATUS (R338). -/
  | cycleStationStatus (c : Call) (p : List Byte)
  /-- CYCLE_READ (R336). -/
  | cycleRead (c : Call) (p : List Byte)
  /-- CYCLE_PROFILE (R337). -/
  | cycleProfile (c : Call) (p : List Byte)
  /-- CYCLE_WRITE (R329). -/
  | cycleWrite (c : Call) (p : List Byte)
  /-- CYCLE_TUNE (R336). -/
  | cycleTune (c : Call) (p : List Byte)
  /-- CYCLE_FORCE (R331). -/
  | cycleForce (c : Call) (p : List Byte)
  /-- NET_STATUS (R367). -/
  | netStatus (c : Call) (p : List Byte)
  /-- NET_PORT_STATUS (R367). -/
  | netPortStatus (c : Call) (p : List Byte)
  /-- NET_NODE_READ (R366). -/
  | netNodeRead (c : Call) (p : List Byte)
  /-- NET_MIRROR_SET (R362). -/
  | netMirrorSet (c : Call) (p : List Byte)
  /-- NET_MIRROR_READ (R366). -/
  | netMirrorRead (c : Call) (p : List Byte)
  /-- NET_PORT_ENABLE (R366). -/
  | netPortEnable (c : Call) (p : List Byte)
  /-- NET_TUNE (R366). -/
  | netTune (c : Call) (p : List Byte)
  /-- NET_AGEING_SET (R366). -/
  | netAgeingSet (c : Call) (p : List Byte)
  /-- PAIR_STATUS (R395). -/
  | pairStatus (c : Call) (p : List Byte)
  /-- PAIR_SWITCH (R394). -/
  | pairSwitch (c : Call) (p : List Byte)
  /-- PAIR_STAGE_READ (R396). -/
  | pairStageRead (c : Call) (p : List Byte)
  /-- PAIR_TUNE (R397). -/
  | pairTune (c : Call) (p : List Byte)
  /-- CONST_STATUS (R415). -/
  | constStatus (c : Call) (p : List Byte)
  /-- CONST_PEER_READ (R414). -/
  | constPeerRead (c : Call) (p : List Byte)
  /-- CONST_MANIFEST_LOAD (R403). -/
  | constManifestLoad (c : Call) (p : List Byte)
  /-- CONST_MANIFEST_READ (R414). -/
  | constManifestRead (c : Call) (p : List Byte)
  /-- CONST_TUNE (R414). -/
  | constTune (c : Call) (p : List Byte)
  /-- KEY_STATUS (R441). -/
  | keyStatus (c : Call) (p : List Byte)
  /-- KEY_INFO (R441). -/
  | keyInfo (c : Call) (p : List Byte)
  /-- KEY_PUBLIC_READ (R440). -/
  | keyPublicRead (c : Call) (p : List Byte)
  /-- KEY_DERIVE (R423). -/
  | keyDerive (c : Call) (p : List Byte)
  /-- KEY_IMPORT (R425). -/
  | keyImport (c : Call) (p : List Byte)
  /-- KEY_STAGE (R428). -/
  | keyStage (c : Call) (p : List Byte)
  /-- KEY_VERIFY (R428). -/
  | keyVerify (c : Call) (p : List Byte)
  /-- KEY_COMMIT (R428). -/
  | keyCommit (c : Call) (p : List Byte)
  /-- KEY_ABANDON (R427). -/
  | keyAbandon (c : Call) (p : List Byte)
  /-- KEY_INVALIDATE (R435). -/
  | keyInvalidate (c : Call) (p : List Byte)
  /-- KEY_ATTEST (R438). -/
  | keyAttest (c : Call) (p : List Byte)
  /-- KEY_AEDGEN_UPDATE (R432). -/
  | keyAedgenUpdate (c : Call) (p : List Byte)
  /-- KEY_KAT_RUN (R440). -/
  | keyKatRun (c : Call) (p : List Byte)
  /-- LUPIN_STATUS (R464). -/
  | lupinStatus (c : Call) (p : List Byte)
  /-- LUPIN_SNAPSHOT_READ (R464). -/
  | lupinSnapshotRead (c : Call) (p : List Byte)
  /-- LUPIN_LOG_READ (R464). -/
  | lupinLogRead (c : Call) (p : List Byte)
  /-- LUPIN_IDENTITY (R464). -/
  | lupinIdentity (c : Call) (p : List Byte)
  /-- LUPIN_UPDATE_OFFER (R459). -/
  | lupinUpdateOffer (c : Call) (p : List Byte)
  /-- EVR_STATUS (R557). -/
  | evrStatus (c : Call) (p : List Byte)
  /-- EVR_READ (R557). -/
  | evrRead (c : Call) (p : List Byte)
  /-- EVR_SAVED_READ (R557). -/
  | evrSavedRead (c : Call) (p : List Byte)
  /-- EVR_MARK (R557). -/
  | evrMark (c : Call) (p : List Byte)
  /-- DIAG_STATUS (R541). -/
  | diagStatus (c : Call) (p : List Byte)
  /-- DIAG_FAULT_READ (R542). -/
  | diagFaultRead (c : Call) (p : List Byte)
  /-- DIAG_SELFTEST (R543). -/
  | diagSelftest (c : Call) (p : List Byte)
  /-- DIAG_QUARANTINE (R543). -/
  | diagQuarantine (c : Call) (p : List Byte)
  /-- DIAG_INJECT (R543). -/
  | diagInject (c : Call) (p : List Byte)
  /-- DIAG_FW_LOAD (R526). -/
  | diagFwLoad (c : Call) (p : List Byte)
  /-- COMMAND_PACKET_RX (R469). -/
  | commandPacketRx (via : Transport) (x : Packet)
  /-- CMD_DOORBELL_WRITE (R475). -/
  | cmdDoorbellWrite (prod : Nat) (packets : List (Option Packet)) (rspFault : Bool)
  /-- RSP_DOORBELL_WRITE (R475). -/
  | rspDoorbellWrite (cons : Nat)
  /-- RING_CFG_WRITE (R495). -/
  | ringCfgWrite (rsp : Bool) (v : Word64)
  /-- INT_STATUS_WRITE (R496). -/
  | intStatusWrite (v : Word64)
  /-- INT_ENABLE_WRITE (R496). -/
  | intEnableWrite (v : Word64)
  /-- EVR_CURSOR_WRITE (R554). -/
  | evrCursorWrite (v : Word64)
  /-- REGISTER_WRITE (R493). -/
  | registerWrite (offset : Nat) (v : Word64)
  /-- TLS_CONNECTION_OPEN (R476). -/
  | tlsConnectionOpen (n : Nat) (onPort11 : Bool)
  /-- TLS_CONNECTION_CLOSE (R473). -/
  | tlsConnectionClose (n : Nat)
  /-- SESSION_IDLE_TIMEOUT (R473). -/
  | sessionIdleTimeout (n : Nat)
  /-- PAIRING_PACKET_RX (R477). -/
  | pairingPacketRx (x : Packet)
  /-- CFG_LOAD_CHECK_DONE (R483). -/
  | cfgLoadCheckDone (image : Image) (signed : Bool)
  /-- SWAP_VOTE (R488). -/
  | swapVote (region block reason : Nat) (ready : Bool)
  /-- SWAP_VOTE_DEADLINE (R489). -/
  | swapVoteDeadline
  /-- SWAP_CHANGEOVER (R489). -/
  | swapChangeover
  /-- BLOOM_FLASH_WRITE_DONE (R517). -/
  | bloomFlashWriteDone
  /-- SV_FRAME_RX (R93). -/
  | svFrameRx (port : Nat) (f : SvFrame)
  /-- ROW_OPEN (R98). -/
  | rowOpen (k : Nat)
  /-- HORIZON_EXPIRY (R104). -/
  | horizonExpiry (stream k : Nat)
  /-- LOOP_STEP (R126). -/
  | loopStep (n : Nat)
  /-- LOOP_TEU_FALLBACK (R136). -/
  | loopTeuFallback (n : Nat)
  /-- ITEM_DISPATCH (R279). -/
  | itemDispatch (block cell : Nat)
  /-- ITEM_START (R280). -/
  | itemStart (block cell : Nat)
  /-- ITEM_COMPLETE (R160). -/
  | itemComplete (block cell : Nat)
  /-- SPEC_LINES_DRAINED (R156). -/
  | specLinesDrained (entry : Nat)
  /-- ECALL_DECIDE (R274). -/
  | ecallDecide (block cell code : Nat)
  /-- ECALL_SUBMIT (R276). -/
  | ecallSubmit (block cell a0 : Nat)
  /-- ECALL_DMA (R306). -/
  | ecallDma (block cell a0 : Nat)
  /-- ECALL_EVR (R547). -/
  | ecallEvr (block cell code a1 : Nat)
  /-- ECALL_TIME (R274). -/
  | ecallTime (block cell : Nat)
  /-- SPEC_STORE (R152). -/
  | specStore (block cell addr mask : Nat) (data : List Byte)
  /-- CORE_EXCEPTION (R271). -/
  | coreException (block cell : Nat)
  /-- RUN_TIME_OVERRUN (R282). -/
  | runTimeOverrun (block cell : Nat)
  /-- DISPATCHER_TICK (R281). -/
  | dispatcherTick
  /-- C4_WINDOW_END (R289). -/
  | c4WindowEnd (n : Nat)
  /-- PRIME_DEADLINE_EXPIRY (R168). -/
  | primeDeadlineExpiry (stage ch : Nat)
  /-- GOOSE_REPETITION (R171). -/
  | gooseRepetition (sender : GooseSender) (n : Nat)
  /-- STAGE_STATUS_RX (R386). -/
  | stageStatusRx (status : StageStatus)
  /-- HEARTBEAT_SEND (R372). -/
  | heartbeatSend (path : Nat)
  /-- HEARTBEAT_RX (R374). -/
  | heartbeatRx (b : Heartbeat)
  /-- PATH_SILENT (R375). -/
  | pathSilent (path : Nat)
  /-- STARTUP_CLAIM_TIMEOUT (R379). -/
  | startupClaimTimeout
  /-- CONTEST_TIMEOUT (R382). -/
  | contestTimeout
  /-- YIELD_HOLD_CLEAR (R384). -/
  | yieldHoldClear
  /-- RETAIN_SEND (R391). -/
  | retainSend
  /-- RETAIN_FRAME_RX (R391). -/
  | retainFrameRx (f : RetainFragment)
  /-- SELFTEST_DUE (R390). -/
  | selftestDue (test : Nat) (found : SelfTest)
  /-- BEACON_SEND (R404). -/
  | beaconSend
  /-- BEACON_RX (R406). -/
  | beaconRx (b : Beacon)
  /-- PEER_ABSENT (R406). -/
  | peerAbsent (id : Nat)
  /-- TIME_SUSPECT_HOLD_EXPIRY (R409). -/
  | timeSuspectHoldExpiry
  /-- PTP_FRAME_RX (R37). -/
  | ptpFrameRx (port : Nat) (m : PtpMessage) (egress : Nat) (residence : Int)
  /-- PTP_MESSAGE_SEND (R41). -/
  | ptpMessageSend (port : Nat) (k : PtpKind) (seq : Nat)
  /-- SERVO_MEASUREMENT (R31). -/
  | servoMeasurement (m : Measurement)
  /-- SERVE_EXIT_TIME_FAULT (R35). -/
  | serveExitTimeFault
  /-- FAULT_RE_STEP (R35). -/
  | faultReStep
  /-- SOURCE_LOSS (R33). -/
  | sourceLoss
  /-- TDC_EDGE_CAPTURE (R52). -/
  | tdcEdgeCapture (input : Nat) (falling : Bool) (code num den : Nat)
  /-- IRIGB_FRAME_RX (R55). -/
  | irigbFrameRx (second : IrigSecond) (parityOk : Bool) (utc : Option (Nat × Bool × Bool))
  /-- IRIGB_OUT_SECOND (R56). -/
  | irigbOutSecond
  /-- TEU_EDGE (R50). -/
  | teuEdge (k : Nat)
  /-- RTC_ALARM_FIRE (R77). -/
  | rtcAlarmFire (a : Nat)
  /-- RTC_WAKE_FIRE (R78). -/
  | rtcWakeFire
  /-- RTC_DISCIPLINE_PASS (R83). -/
  | rtcDisciplinePass
  /-- OSC_STOP (R72). -/
  | oscStop (stopped : Bool)
  /-- ISLAND_RAIL_DIP (R74). -/
  | islandRailDip (ns : Nat)
  /-- ISLAND_POWER_UP (R72). -/
  | islandPowerUp
  /-- VBAT_SAMPLE (R71). -/
  | vbatSample (mv : Nat)
  /-- VAON_RISE (R479). -/
  | vaonRise
  /-- VAON_LOSS (R479). -/
  | vaonLoss
  /-- VBAT_CHANGE (R479). -/
  | vbatChange (present : Bool)
  /-- RESET_RELEASE (R515). -/
  | resetRelease (o : BootOutcome)
  /-- BOOT_WATCHDOG_EXPIRY (R516). -/
  | bootWatchdogExpiry
  /-- SNOWDROP_WATCHDOG_EXPIRY (R524). -/
  | snowdropWatchdogExpiry
  /-- SERVING_COUNTER_CLEAR (R522). -/
  | servingCounterClear
  /-- BOARD_RESET (R568). -/
  | boardReset
  /-- RAIL_OUT_OF_TOLERANCE (R568). -/
  | railOutOfTolerance (rail : Nat)
  /-- POWER_FAIL (R569). -/
  | powerFail
  /-- TAMPER (R436). -/
  | tamper
  /-- TAMPER_FUSE_BLOW (R437). -/
  | tamperFuseBlow
  /-- KEY_TABLE_WRITTEN (R429). -/
  | keyTableWritten
  /-- JUNCTION_OVER_TEMP (R576). -/
  | junctionOverTemp (tenths : Int)
  /-- BUDGET_SAMPLE (R285). -/
  | budgetSample (temps : List (Nat × Option Int)) (rails : List (Nat × Nat × Nat))
  /-- BLOCK_CLOCK_CHANGE_DONE (R284). -/
  | blockClockChangeDone (n : Nat)
  /-- DMA_DESCRIPTOR_DONE (R307). -/
  | dmaDescriptorDone (engine : Nat) (fault : Bool)
  /-- SLICE_QUIESCED (R311). -/
  | sliceQuiesced (n : Nat)
  /-- SLICE_ZEROING_DONE (R313). -/
  | sliceZeroingDone (n : Nat)
  /-- CYCLE_START_EVENT (R321). -/
  | cycleStartEvent (c : Nat)
  /-- STATION_INPUT_RX (R325). -/
  | stationInputRx (b : StationInput)
  /-- INPUT_WINDOW_END (R321). -/
  | inputWindowEnd (c : Nat)
  /-- CYCLE_BODY_END (R321). -/
  | cycleBodyEnd (c : Nat) (ops : List BodyOp)
  /-- CYCLE_WATCHDOG_EXPIRY (R323). -/
  | cycleWatchdogExpiry (c : Nat)
  /-- CONTROL_CORE_EXCEPTION (R323). -/
  | controlCoreException (c : Nat)
  /-- FAST_SAMPLE_DEFRAMED (R216). -/
  | fastSampleDeframed (l : Nat) (vals : List (Int × Bool)) (crc hdr : Nat)
  /-- FILTER_OUTPUT_SAMPLE (R199). -/
  | filterOutputSample (chain : Nat)
  /-- JESD_LINK_STATE_CHANGE (R213). -/
  | jesdLinkStateChange (l : Nat) (r : LinkReport)
  /-- JESD_SYSREF_EDGE (R213). -/
  | jesdSysrefEdge (nominal captured : Nat) (far : List Nat)
  /-- JESD_ALIGN_DONE (R213). -/
  | jesdAlignDone (l : Nat)
  /-- JESD_NO_SYSREF (R213). -/
  | jesdNoSysref (l : Nat)
  /-- TRIGGER_ARRIVAL (R225). -/
  | triggerArrival (n : Nat)
  /-- GATHER_WINDOW_END (R225). -/
  | gatherWindowEnd (n : Nat)
  /-- CAPTURE_POST_COMPLETE (R224). -/
  | capturePostComplete (n : Nat)
  /-- CAPTURE_COMMIT_DONE (R227). -/
  | captureCommitDone (capture : Nat)
  /-- AUTO_TIMEOUT (R229). -/
  | autoTimeout (n : Nat)
  /-- CROSS_TRIGGER_RX (R223). -/
  | crossTriggerRx (m : CrossMessage)
  /-- LOCATOR_ARRIVAL_FOUND (R257). -/
  | locatorArrivalFound (n r source : Nat)
  /-- ARRIVAL_RECORD_RX (R261). -/
  | arrivalRecordRx (b : List Byte) (authentic : Bool)
  /-- PARTNER_WAIT_EXPIRY (R263). -/
  | partnerWaitExpiry (n : Nat)
  /-- HELD_RECORD_EXPIRY (R261). -/
  | heldRecordExpiry (n : Nat)
  /-- SYNCHROPHASOR_FRAME_SEND (R251). -/
  | synchrophasorFrameSend (n : Nat)
  /-- C37118_COMMAND_RX (R252). -/
  | c37118CommandRx (n cmd : Nat)
  /-- ETH_FRAME_RX (R345). -/
  | ethFrameRx (port : Nat) (bs : List Byte) (fcsOk : Bool)
  /-- PAUSE_FRAME_RX (R357). -/
  | pauseFrameRx (port quanta : Nat)
  /-- PAUSE_SEND (R358). -/
  | pauseSend (port : Nat)
  /-- PAUSE_RESEND (R358). -/
  | pauseResend (port : Nat)
  /-- FRAME_AGEING_SCAN (R356). -/
  | frameAgeingScan
  /-- TX_UNDERRUN (R360). -/
  | txUnderrun (port : Nat)
  /-- START_STEP_DECAY (R360). -/
  | startStepDecay (port : Nat)
  /-- PORT_LINK_CHANGE (R368). -/
  | portLinkChange (port : Nat) (up : Bool)
  /-- PRP_SUPERVISION_SEND (R350). -/
  | prpSupervisionSend
  /-- NODE_PATH_TIMEOUT (R350). -/
  | nodePathTimeout (pair mac : Nat)
  /-- PRP_WINDOW_EXPIRY (R348). -/
  | prpWindowExpiry (pair : Nat)
  /-- HOLLYHOCK_TAP_RX (R450). -/
  | hollyhockTapRx (own : Nat)
  /-- HOLLYHOCK_PERIOD_SNAPSHOT (R454). -/
  | hollyhockPeriodSnapshot
  /-- HOLLYHOCK_COMMIT (R461). -/
  | hollyhockCommit
  /-- VDD_L_WARNING (R570). -/
  | vddLWarning (own : Nat)
  /-- HOLLYHOCK_UPDATE_VERIFY (R459). -/
  | hollyhockUpdateVerify (own : Nat) (u : UpdateImage)
  /-- HOLLYHOCK_NO_TAP (R462). -/
  | hollyhockNoTap
  /-- ECC_ERROR (R528). -/
  | eccError (e : EccError)
  /-- BLOCK_ERROR (R532). -/
  | blockError (block : Nat) (pll : Bool)
  /-- DISPATCHER_STALL (R528). -/
  | dispatcherStall (block cell : Nat)
  /-- DIE_LINK_ERROR (R534). -/
  | dieLinkError (region : Nat) (noc : Bool) (replays : Nat)
  /-- UNPLACED_SLICE_PLACE (R535). -/
  | unplacedSlicePlace
  /-- HUB_FATAL_ERROR (R536). -/
  | hubFatalError (source : Nat) (evrRuns pairRuns : Bool)
  /-- CORRECTED_ERROR_REPORT (R544). -/
  | correctedErrorReport (region : Nat)
  /-- TIME_ANCHOR (R551). -/
  | timeAnchor
  /-- EVR_QUEUE_ROOM (R549). -/
  | evrQueueRoom
  /-- EVR_SEQ_FLOOR_WRITE (R548). -/
  | evrSeqFloorWrite
  /-- PAUSE_HOLD_EXPIRY (R357). -/
  | pauseHoldExpiry (port : Nat)
  /-- FRAME_TRANSMIT_END (R351). -/
  | frameTransmitEnd (port : Nat)
  /-- C37118_TCP_CONNECTION (R252). -/
  | c37118TcpConnection (n : Nat) (isOpen : Bool)
  /-- SLAVE_PATH_LOSS (R40). -/
  | slavePathLoss (port : Nat)
  /-- HOLLYHOCK_POWER_UP (R462). -/
  | hollyhockPowerUp
  /-- TAMPER_RELEASE (R436). -/
  | tamperRelease
  /-- FW_LOAD_VERIFY_DONE (R526). -/
  | fwLoadVerifyDone (image : FlashImage) (flashOk : Bool)
  deriving DecidableEq, Repr

end Sys2Proof
end

