-- ==== Sys2Proof/WellFormed.lean ====
section
/-! DEFINITION. Which commands are well formed: every operand within the width or the range that the spec gives it. -/
namespace Sys2Proof

/-- A number is below a bound. -/
def below (n bound : Nat) : Bool := decide (n < bound)

/-- Every field of a header fits its place (R466). -/
def headerOk (x : Header) : Bool :=
  below x.version 256 && below x.flags 256 && below x.opcode 65536 && below x.tag 65536 && below x.slice 65536 && below x.length (2 ^ 32)
  && below x.session (2 ^ 32) && below x.sequence (2 ^ 64) && below x.reserved (2 ^ 64)

/-- A principal number of R470, a privilege of R472 and a scope of R299. -/
def callOk (c : Call) : Bool :=
  headerOk c.hdr && (below c.principal 64 || c.principal == 0xFFFF) && below c.privilege 4 && c.scope.all (fun s => below s 512)

/-- A packet of R466 and R467. -/
def packetOk (x : Packet) : Bool := headerOk x.hdr && below x.params.length 65553 && below x.trailer 133 && (below x.signer 64 || x.signer == 0xFFFF)

/-- A cell of a block: 24 blocks of 8 cells (R19, R21). -/
def cellOk (block cell : Nat) : Bool := below block 24 && below cell 8

/-- The cell of an ECC error. -/
def eccOk (e : EccError) : Bool :=
  match e with
  | .l1 b c _ => cellOk b c
  | .l2 b c _ => cellOk b c
  | .dram m c _ => below m 4 && c.all (fun e => cellOk e.1 e.2)

/-- The operands of a command or event are in range. -/
def Instr.wellFormed (i : Instr) : Bool :=
  match i with
  | .modIdentify c _ => callOk c
  | .modSetState c _ => callOk c
  | .modSessionOpen c _ => callOk c
  | .modSessionClose c _ => callOk c
  | .modReset c _ => callOk c
  | .cfgStatus c _ => callOk c
  | .cfgLoad c _ => callOk c
  | .cfgSwap c _ => callOk c
  | .cfgSwapCancel c _ => callOk c
  | .cfgFnEnable c _ => callOk c
  | .cfgCheck c _ => callOk c
  | .timeStatus c _ => callOk c
  | .timeRead c _ => callOk c
  | .timeSet c _ => callOk c
  | .timeProfile c _ => callOk c
  | .timeTeuConfig c _ => callOk c
  | .timeTeuStop c _ => callOk c
  | .timeCaptureRead c _ => callOk c
  | .timeServoSet c _ => callOk c
  | .timeSetIncrement c _ => callOk c
  | .timePortSet c _ => callOk c
  | .timeIoDelaySet c _ => callOk c
  | .rtcStatus c _ => callOk c
  | .rtcSet c _ => callOk c
  | .rtcClearOsf c _ => callOk c
  | .rtcCapture c _ => callOk c
  | .rtcShift c _ => callOk c
  | .rtcAlarmSet c _ => callOk c
  | .rtcWakeSet c _ => callOk c
  | .rtcSqwSet c _ => callOk c
  | .rtcDisciplineSet c _ => callOk c
  | .ingestStatus c _ => callOk c
  | .ingestStreamStatus c _ => callOk c
  | .ingestPortCounters c _ => callOk c
  | .ingestRowRead c _ => callOk c
  | .ingestBlock c _ => callOk c
  | .ingestSimSet c _ => callOk c
  | .ingestStreamTune c _ => callOk c
  | .specStatus c _ => callOk c
  | .specSet c _ => callOk c
  | .specTune c _ => callOk c
  | .loopStatus c _ => callOk c
  | .loopProfile c _ => callOk c
  | .loopReset c _ => callOk c
  | .loopMemoryRead c _ => callOk c
  | .loopTune c _ => callOk c
  | .filtStatus c _ => callOk c
  | .filtStart c _ => callOk c
  | .filtStop c _ => callOk c
  | .filtProfile c _ => callOk c
  | .filtThresholdSet c _ => callOk c
  | .filtRead c _ => callOk c
  | .filtStageSet c _ => callOk c
  | .filtCoefLoad c _ => callOk c
  | .acqStatus c _ => callOk c
  | .acqLinkStatus c _ => callOk c
  | .acqArm c _ => callOk c
  | .acqStop c _ => callOk c
  | .acqTrigger c _ => callOk c
  | .acqRecordRead c _ => callOk c
  | .acqRecordLock c _ => callOk c
  | .acqProfile c _ => callOk c
  | .acqCaptureSet c _ => callOk c
  | .acqMaskSet c _ => callOk c
  | .acqLinkSet c _ => callOk c
  | .phasorStatus c _ => callOk c
  | .phasorStreamSet c _ => callOk c
  | .phasorRead c _ => callOk c
  | .locStatus c _ => callOk c
  | .locResultRead c _ => callOk c
  | .locArrivalRead c _ => callOk c
  | .locArrivalSubmit c _ => callOk c
  | .phasorTune c _ => callOk c
  | .locLineSet c _ => callOk c
  | .fabricStatus c _ => callOk c
  | .fabricProfile c _ => callOk c
  | .budgetStatus c _ => callOk c
  | .budgetSet c _ => callOk c
  | .fabricTune c _ => callOk c
  | .budgetThresholds c _ => callOk c
  | .budgetForce c _ => callOk c
  | .sliceStatus c _ => callOk c
  | .sliceQuiesce c _ => callOk c
  | .sliceResume c _ => callOk c
  | .sliceReset c _ => callOk c
  | .sliceProfile c _ => callOk c
  | .sliceLimits c _ => callOk c
  | .cycleStatus c _ => callOk c
  | .cycleStart c _ => callOk c
  | .cycleStop c _ => callOk c
  | .cycleStationStatus c _ => callOk c
  | .cycleRead c _ => callOk c
  | .cycleProfile c _ => callOk c
  | .cycleWrite c _ => callOk c
  | .cycleTune c _ => callOk c
  | .cycleForce c _ => callOk c
  | .netStatus c _ => callOk c
  | .netPortStatus c _ => callOk c
  | .netNodeRead c _ => callOk c
  | .netMirrorSet c _ => callOk c
  | .netMirrorRead c _ => callOk c
  | .netPortEnable c _ => callOk c
  | .netTune c _ => callOk c
  | .netAgeingSet c _ => callOk c
  | .pairStatus c _ => callOk c
  | .pairSwitch c _ => callOk c
  | .pairStageRead c _ => callOk c
  | .pairTune c _ => callOk c
  | .constStatus c _ => callOk c
  | .constPeerRead c _ => callOk c
  | .constManifestLoad c _ => callOk c
  | .constManifestRead c _ => callOk c
  | .constTune c _ => callOk c
  | .keyStatus c _ => callOk c
  | .keyInfo c _ => callOk c
  | .keyPublicRead c _ => callOk c
  | .keyDerive c _ => callOk c
  | .keyImport c _ => callOk c
  | .keyStage c _ => callOk c
  | .keyVerify c _ => callOk c
  | .keyCommit c _ => callOk c
  | .keyAbandon c _ => callOk c
  | .keyInvalidate c _ => callOk c
  | .keyAttest c _ => callOk c
  | .keyAedgenUpdate c _ => callOk c
  | .keyKatRun c _ => callOk c
  | .lupinStatus c _ => callOk c
  | .lupinSnapshotRead c _ => callOk c
  | .lupinLogRead c _ => callOk c
  | .lupinIdentity c _ => callOk c
  | .lupinUpdateOffer c _ => callOk c
  | .evrStatus c _ => callOk c
  | .evrRead c _ => callOk c
  | .evrSavedRead c _ => callOk c
  | .evrMark c _ => callOk c
  | .diagStatus c _ => callOk c
  | .diagFaultRead c _ => callOk c
  | .diagSelftest c _ => callOk c
  | .diagQuarantine c _ => callOk c
  | .diagInject c _ => callOk c
  | .diagFwLoad c _ => callOk c
  | .commandPacketRx _ x => packetOk x
  | .cmdDoorbellWrite prod packets _ => below prod (2 ^ 32) && packets.all (fun x => x.all packetOk)
  | .rspDoorbellWrite cons => below cons (2 ^ 32)
  | .ringCfgWrite _ _ => true
  | .intStatusWrite _ => true
  | .intEnableWrite _ => true
  | .evrCursorWrite _ => true
  | .registerWrite offset _ => below offset 65536 && offset % 8 == 0
  | .tlsConnectionOpen _ _ => true
  | .tlsConnectionClose _ => true
  | .sessionIdleTimeout n => !(n == 0) && below n 0xFFFFFFFF
  | .pairingPacketRx x => packetOk x
  | .cfgLoadCheckDone _ _ => true
  | .swapVote region block reason _ => below region 8 && below block 256 && below reason 65536
  | .swapVoteDeadline => true
  | .swapChangeover => true
  | .bloomFlashWriteDone => true
  | .svFrameRx port _ => below port 20
  | .rowOpen _ => true
  | .horizonExpiry stream _ => below stream 2048
  | .loopStep n => below n 128
  | .loopTeuFallback n => below n 128
  | .itemDispatch block cell => cellOk block cell
  | .itemStart block cell => cellOk block cell
  | .itemComplete block cell => cellOk block cell
  | .specLinesDrained entry => below entry 4096
  | .ecallDecide block cell code => cellOk block cell && below code 65536
  | .ecallSubmit block cell a0 => cellOk block cell && below a0 (2 ^ 64)
  | .ecallDma block cell a0 => cellOk block cell && below a0 (2 ^ 64)
  | .ecallEvr block cell code a1 => cellOk block cell && below code 65536 && below a1 (2 ^ 64)
  | .ecallTime block cell => cellOk block cell
  | .specStore block cell va _ _ => cellOk block cell && below va (2 ^ 64)
  | .coreException block cell => cellOk block cell
  | .runTimeOverrun block cell => cellOk block cell
  | .dispatcherTick => true
  | .c4WindowEnd n => below n 24
  | .primeDeadlineExpiry stage ch => below stage 4096 && below ch 16
  | .gooseRepetition sender n => match sender with | .stage => below n 4096 | .group => below n 256 | .line => below n 32 | _ => false
  | .stageStatusRx _ => true
  | .heartbeatSend path => below path 2
  | .heartbeatRx _ => true
  | .pathSilent path => below path 2
  | .startupClaimTimeout => true
  | .contestTimeout => true
  | .yieldHoldClear => true
  | .retainSend => true
  | .retainFrameRx _ => true
  | .selftestDue test _ => !(test == 0) && below test 5
  | .beaconSend => true
  | .beaconRx _ => true
  | .peerAbsent id => below id 4096
  | .timeSuspectHoldExpiry => true
  | .ptpFrameRx port _ egress _ => below port 20 && below egress 20
  | .ptpMessageSend port _ seq => below port 20 && below seq 65536
  | .servoMeasurement _ => true
  | .serveExitTimeFault => true
  | .faultReStep => true
  | .sourceLoss => true
  | .tdcEdgeCapture _ _ _ _ _ => true
  | .irigbFrameRx second _ _ => below second.format 8 && below second.second 61
  | .irigbOutSecond => true
  | .teuEdge k => below k 16
  | .rtcAlarmFire a => below a 2
  | .rtcWakeFire => true
  | .rtcDisciplinePass => true
  | .oscStop _ => true
  | .islandRailDip _ => true
  | .islandPowerUp => true
  | .vbatSample mv => below mv 65536
  | .vaonRise => true
  | .vaonLoss => true
  | .vbatChange _ => true
  | .resetRelease o => below o.refclk 2 && o.link.all (fun r => below r 8) && o.hang.all (fun k => below k 6) && below o.kat 32
  | .bootWatchdogExpiry => true
  | .snowdropWatchdogExpiry => true
  | .servingCounterClear => true
  | .boardReset => true
  | .railOutOfTolerance rail => below rail 14
  | .powerFail => true
  | .tamper => true
  | .tamperFuseBlow => true
  | .keyTableWritten => true
  | .junctionOverTemp _ => true
  | .budgetSample _ _ => true
  | .blockClockChangeDone n => below n 24
  | .dmaDescriptorDone engine _ => below engine 3
  | .sliceQuiesced n => below n 512
  | .sliceZeroingDone n => below n 512
  | .cycleStartEvent c => below c 4
  | .stationInputRx _ => true
  | .inputWindowEnd c => below c 4
  | .cycleBodyEnd c _ => below c 4
  | .cycleWatchdogExpiry c => below c 4
  | .controlCoreException c => below c 4
  | .fastSampleDeframed l _ _ _ => below l 4
  | .filterOutputSample chain => below chain 64
  | .jesdLinkStateChange l _ => below l 4
  | .jesdSysrefEdge _ _ _ => true
  | .jesdAlignDone l => below l 4
  | .jesdNoSysref l => below l 4
  | .triggerArrival _ => true
  | .gatherWindowEnd n => below n 16
  | .capturePostComplete n => below n 16
  | .captureCommitDone capture => below capture 16
  | .autoTimeout n => below n 16
  | .crossTriggerRx _ => true
  | .locatorArrivalFound n _ _ => below n 32
  | .arrivalRecordRx b _ => b.length == 128
  | .partnerWaitExpiry n => below n 32
  | .heldRecordExpiry _ => true
  | .synchrophasorFrameSend n => below n 64
  | .c37118CommandRx n cmd => below n 64 && below cmd 65536
  | .ethFrameRx port bs _ => below port 20 && !bs.isEmpty
  | .pauseFrameRx port quanta => below port 20 && below quanta 65536
  | .pauseSend port => below port 20
  | .pauseResend port => below port 20
  | .frameAgeingScan => true
  | .txUnderrun port => below port 20
  | .startStepDecay port => below port 20
  | .portLinkChange port _ => below port 20
  | .prpSupervisionSend => true
  | .nodePathTimeout pair mac => below pair 5 && below mac (2 ^ 48)
  | .prpWindowExpiry pair => below pair 5
  | .hollyhockTapRx _ => true
  | .hollyhockPeriodSnapshot => true
  | .hollyhockCommit => true
  | .vddLWarning _ => true
  | .hollyhockUpdateVerify _ _ => true
  | .hollyhockNoTap => true
  | .eccError e => eccOk e
  | .blockError block _ => below block 24
  | .dispatcherStall block cell => cellOk block cell
  | .dieLinkError region _ _ => below region 8
  | .unplacedSlicePlace => true
  | .hubFatalError source _ _ => hubSource source
  | .correctedErrorReport region => below region 8
  | .timeAnchor => true
  | .evrQueueRoom => true
  | .evrSeqFloorWrite => true
  | .pauseHoldExpiry port => below port 20
  | .frameTransmitEnd port => below port 20
  | .c37118TcpConnection n _ => below n 64
  | .slavePathLoss port => below port 20
  | .hollyhockPowerUp => true
  | .tamperRelease => true
  | .fwLoadVerifyDone _ _ => true

end Sys2Proof
end

