-- ==== Sys2Proof/Machine/Bytes.lean ====
section
/-! DEFINITION. Byte strings: little-endian and network-order encoders, field readers, sparse tables and saturating counters (R8). -/
namespace Sys2Proof.Machine

/-- `n` bytes of `v`, least significant first (R8). -/
def le : Nat → Nat → List Byte
  | 0, _ => []
  | n + 1, v => BitVec.ofNat 8 v :: le n (v / 256)

/-- `n` bytes of `v`, most significant first (frames, R8). -/
def be (n v : Nat) : List Byte := (le n v).reverse

/-- The value of bytes, least significant first. -/
def ofLe : List Byte → Nat
  | [] => 0
  | b :: bs => b.toNat + 256 * ofLe bs

/-- The value of bytes, most significant first. -/
def ofBe (bs : List Byte) : Nat := ofLe bs.reverse

/-- `n` zero bytes: a reserved field (R9). -/
def zeros (n : Nat) : List Byte := List.replicate n 0#8

/-- `n` bytes from offset `o`; bytes beyond the end read as zero. -/
def slice (bs : List Byte) (o n : Nat) : List Byte :=
  let t := (bs.drop o).take n
  t ++ zeros (n - t.length)

/-- Little-endian field of `n` bytes at offset `o`. -/
def fld (bs : List Byte) (o n : Nat) : Nat := ofLe ((bs.drop o).take n)

/-- u8 field. -/
def u8 (bs : List Byte) (o : Nat) : Nat := fld bs o 1
/-- u16 field. -/
def u16 (bs : List Byte) (o : Nat) : Nat := fld bs o 2
/-- u32 field. -/
def u32 (bs : List Byte) (o : Nat) : Nat := fld bs o 4
/-- u64 field. -/
def u64 (bs : List Byte) (o : Nat) : Nat := fld bs o 8

/-- Two's complement reading of the low `w` bits of `v`. -/
def signed (w v : Nat) : Int := if v < 2 ^ (w - 1) then (v : Int) else (v : Int) - (2 ^ w : Nat)

/-- s32 field. -/
def s32 (bs : List Byte) (o : Nat) : Int := signed 32 (u32 bs o)
/-- s16 field. -/
def s16 (bs : List Byte) (o : Nat) : Int := signed 16 (u16 bs o)
/-- f32 field, as its bits. -/
def f32 (bs : List Byte) (o : Nat) : F32 := BitVec.ofNat 32 (u32 bs o)

/-- Two's complement encoding of an integer in `n` bytes, saturated to the field's range. -/
def leInt (n : Nat) (v : Int) : List Byte :=
  let lim : Int := (2 ^ (8 * n - 1) : Nat)
  let v := if v < -lim then -lim else if lim - 1 < v then lim - 1 else v
  le n (v % (2 ^ (8 * n) : Nat)).toNat

/-- An f32 field. -/
def leF (x : F32) : List Byte := le 4 x.toNat

/-- Every byte of the `n` bytes at offset `o` is zero (R9). -/
def zeroAt (bs : List Byte) (o n : Nat) : Bool := ((bs.drop o).take n).all (· == 0#8)

/-- A u32 counter value that saturates (R111, R557). -/
def sat32 (n : Nat) : Nat := min n 0xFFFFFFFF

/-- One more on a saturating u32 counter. -/
def inc32 (n : Nat) : Nat := sat32 (n + 1)

/-- Bit `i` of `v`. -/
def bit (v i : Nat) : Bool := v / 2 ^ i % 2 == 1

/-- A flag's weight. -/
def flag (b : Bool) (i : Nat) : Nat := if b then 2 ^ i else 0

/-- The entry of a sparse table, `d` where none is listed. -/
def tget {α : Type} (t : Tbl α) (k : Nat) (d : α) : α :=
  match t with
  | [] => d
  | (j, v) :: r => if j = k then v else tget r k d

/-- The listed entry of a sparse table. -/
def tfind {α : Type} (t : Tbl α) (k : Nat) : Option α :=
  match t with
  | [] => none
  | (j, v) :: r => if j = k then some v else tfind r k

/-- Set an entry, keeping indices strictly rising. -/
def tset {α : Type} (t : Tbl α) (k : Nat) (v : α) : Tbl α :=
  match t with
  | [] => [(k, v)]
  | (j, w) :: r => if k < j then (k, v) :: (j, w) :: r else if k = j then (k, v) :: r else (j, w) :: tset r k v

/-- Change an entry. -/
def tmod {α : Type} (t : Tbl α) (k : Nat) (d : α) (f : α → α) : Tbl α := tset t k (f (tget t k d))

/-- Remove an entry. -/
def tdel {α : Type} (t : Tbl α) (k : Nat) : Tbl α := t.filter (fun e => e.1 != k)

/-- Change every listed entry. -/
def tmap {α β : Type} (t : Tbl α) (f : Nat → α → β) : Tbl β := t.map (fun e => (e.1, f e.1 e.2))

/-- Some value stands twice in a list. -/
def hasRepeat : List Nat → Bool
  | [] => false
  | x :: xs => xs.contains x || hasRepeat xs

/-- One bit step of CRC-32C, reflected polynomial 0x82F63B78. -/
def crcStep (c : Nat) : Nat := if c % 2 = 1 then (c / 2) ^^^ 0x82F63B78 else c / 2

/-- CRC-32C of a byte string. -/
def crc32c (bs : List Byte) : Nat :=
  (bs.foldl (fun c b => (List.range 8).foldl (fun c _ => crcStep c) (c ^^^ b.toNat)) 0xFFFFFFFF) ^^^ 0xFFFFFFFF

end Sys2Proof.Machine
end

