-- ==== Sys2Proof/Machine/Mem.lean ====
section
/-! DEFINITION. Committed memory in DRAM: a sorted list of the bytes that are not zero; an unlisted address reads 0 (R152, R300, log 9). -/
namespace Sys2Proof.Machine

/-- Read one byte. -/
def memRead : List (Nat × Byte) → Nat → Byte
  | [], _ => 0#8
  | (a, b) :: r, x => if a = x then b else memRead r x

/-- Write one byte, keeping addresses strictly rising and no zero listed. -/
def memWrite : List (Nat × Byte) → Nat → Byte → List (Nat × Byte)
  | [], x, v => if v = 0#8 then [] else [(x, v)]
  | (a, b) :: r, x, v =>
    if x < a then (if v = 0#8 then (a, b) :: r else (x, v) :: (a, b) :: r)
    else if x = a then (if v = 0#8 then r else (x, v) :: r)
    else (a, b) :: memWrite r x v

/-- Write a string of bytes from an address on. -/
def memPut (m : List (Nat × Byte)) (a : Nat) : List Byte → List (Nat × Byte)
  | [] => m
  | b :: bs => memPut (memWrite m a b) (a + 1) bs

/-- Read n bytes from an address on. -/
def memGet (m : List (Nat × Byte)) (a n : Nat) : List Byte := (List.range n).map (fun i => memRead m (a + i))

/-- Zero a range. -/
def memZero (m : List (Nat × Byte)) (a n : Nat) : List (Nat × Byte) := m.filter (fun e => e.1 < a || a + n ≤ e.1)

/-- Canonical form: addresses strictly rising, no zero byte listed. -/
def Memory.wf : List (Nat × Byte) → Bool
  | [] => true
  | [(_, b)] => b != 0#8
  | (a, b) :: (c, d) :: r => b != 0#8 && a < c && Memory.wf ((c, d) :: r)

end Sys2Proof.Machine
end

