-- ==== Sys2Proof/Config.lean ====
section
/-! DEFINITION. What an implementation fixes and the spec leaves open: free values and cryptographic functions, all without a body. -/
namespace Sys2Proof.Config

/-- A free natural number, applied to the counter `free` of the state (log 3). -/
opaque freeNat : Nat → Nat

/-- A free bit, applied to the counter `free` of the state (log 3). -/
opaque freeBit : Nat → Bool

/-- A free byte, applied to the counter `free` of the state (log 3). -/
opaque freeByte : Nat → Byte

/-- A random byte of the module's generator, applied to the counter `free` of the state (log 3). -/
opaque randomByte : Nat → Byte

/-- Sign and payload bits of the quiet NaN an operation produces; IEEE 754 leaves them open (log 8). -/
opaque nanPayload : Nat

/-- The HMAC-SHA-256 of a message under a key value, 32 bytes (log 4). -/
opaque hmac : List Byte → List Byte → List Byte

/-- The AES-GMAC of a message under a key value of 16 or 32 bytes, 16 bytes; its nonce, which travels with the message, counts
as part of it (log 4). -/
opaque gmac : List Byte → List Byte → List Byte

/-- SHA-512 of a byte string (log 4). -/
opaque sha512 : List Byte → List Byte

/-- HMAC-SHA-512 of a message under a key, 64 bytes (R467, log 4). -/
opaque hmac512 : List Byte → List Byte → List Byte

/-- HKDF-SHA-512 of a salt, input key material and an info string, to a length (R423, R425, R473, log 4). -/
opaque hkdf : List Byte → List Byte → List Byte → Nat → List Byte

/-- The 133-byte P-521 public key of a private value (log 4). -/
opaque publicKey : List Byte → List Byte

/-- An ECDSA P-521 signature by a key over a message, 132 bytes (log 4). -/
opaque sign : List Byte → List Byte → List Byte

/-- What the PUF and the helper data in fuses give, before it is conditioned (R419, log 1). -/
opaque puf : List Byte

/-- The X coordinate of ECDH P-521, 66 bytes, of a private scalar and a public key (R425, log 4). -/
opaque ecdh : List Byte → List Byte → List Byte

/-- What AES-256-GCM decrypts: of a key, a nonce, additional data, a ciphertext and its tag (R425, log 4). -/
opaque gcmOpen : List Byte → List Byte → List Byte → List Byte → List Byte → List Byte

/-- The HSK that Hollyhock derives from its PUF and a tamper count (R444, R460). -/
opaque hsk : Nat → List Byte

/-- The IPv4 link-local address that RFC 3927 gives a MAC address (R361). -/
opaque linkLocal4 : Nat → Nat

end Sys2Proof.Config
end

