-- ==== Sys2Proof/Machine/Codes.lean ====
section
/-! DEFINITION. Status codes (R513) and reason codes (R514 and the reason table of each chapter), by their names in the spec. -/
namespace Sys2Proof.Machine

/-- ST_OK (R513). -/
abbrev stOk : Nat := 0x0000
/-- ST_ACCEPTED (R513). -/
abbrev stAccepted : Nat := 0x0001
/-- ST_STATE_REFUSED (R513). -/
abbrev stStateRefused : Nat := 0x0010
/-- ST_CONSISTENCY_REFUSED (R513). -/
abbrev stConsistencyRefused : Nat := 0x0011
/-- ST_RESOURCE_CONFLICT (R513). -/
abbrev stResourceConflict : Nat := 0x0012
/-- ST_AUTH_FAILED (R513). -/
abbrev stAuthFailed : Nat := 0x0020
/-- ST_REPLAY (R513). -/
abbrev stReplay : Nat := 0x0021
/-- ST_BUSY (R513). -/
abbrev stBusy : Nat := 0x0030
/-- ST_NOT_QUIESCED (R513). -/
abbrev stNotQuiesced : Nat := 0x0040
/-- ST_KEY_IN_USE (R513). -/
abbrev stKeyInUse : Nat := 0x0041
/-- ST_KEY_ORPHANED (R513). -/
abbrev stKeyOrphaned : Nat := 0x0042
/-- ST_ABSENT (R513). -/
abbrev stAbsent : Nat := 0x0043
/-- ST_UNKNOWN_OPCODE (R513). -/
abbrev stUnknownOpcode : Nat := 0x0050
/-- ST_BAD_LENGTH (R513). -/
abbrev stBadLength : Nat := 0x0051
/-- ST_BAD_PARAM (R513). -/
abbrev stBadParam : Nat := 0x0052
/-- ST_SWAP_ABORTED (R513). -/
abbrev stSwapAborted : Nat := 0x0060
/-- ST_DENIED (R513). -/
abbrev stDenied : Nat := 0x0070
/-- ST_INTERNAL (R513). -/
abbrev stInternal : Nat := 0x00F0

/-- RC_MOD_VERSION. -/
abbrev rcModVersion : Nat := 0x0101
/-- RC_MOD_LENGTH. -/
abbrev rcModLength : Nat := 0x0102
/-- RC_MOD_AUTH_REQUIRED. -/
abbrev rcModAuthRequired : Nat := 0x0103
/-- RC_MOD_AUTH. -/
abbrev rcModAuth : Nat := 0x0104
/-- RC_MOD_SESSION. -/
abbrev rcModSession : Nat := 0x0105
/-- RC_MOD_REPLAY. -/
abbrev rcModReplay : Nat := 0x0106
/-- RC_MOD_OPCODE. -/
abbrev rcModOpcode : Nat := 0x0107
/-- RC_MOD_PRIVILEGE. -/
abbrev rcModPrivilege : Nat := 0x0108
/-- RC_MOD_EXPERT_FLAG. -/
abbrev rcModExpertFlag : Nat := 0x0109
/-- RC_MOD_SCOPE. -/
abbrev rcModScope : Nat := 0x010A
/-- RC_MOD_ABSENT. -/
abbrev rcModAbsent : Nat := 0x010B
/-- RC_MOD_STATE_ILLEGAL. -/
abbrev rcModStateIllegal : Nat := 0x010C
/-- RC_MOD_SESSION_LIMIT. -/
abbrev rcModSessionLimit : Nat := 0x010D
/-- RC_MOD_PRINCIPAL. -/
abbrev rcModPrincipal : Nat := 0x010E
/-- RC_MOD_TARGET. -/
abbrev rcModTarget : Nat := 0x010F
/-- RC_MOD_SLOT. -/
abbrev rcModSlot : Nat := 0x0110
/-- RC_MOD_RESERVED. -/
abbrev rcModReserved : Nat := 0x0111
/-- RC_MOD_NO_CVK. -/
abbrev rcModNoCvk : Nat := 0x0112
/-- RC_CFG_VARIANT_MISMATCH. -/
abbrev rcCfgVariantMismatch : Nat := 0x0201
/-- RC_CFG_SIGNATURE. -/
abbrev rcCfgSignature : Nat := 0x0202
/-- RC_CFG_FORMAT. -/
abbrev rcCfgFormat : Nat := 0x0203
/-- RC_CFG_COMPAT. -/
abbrev rcCfgCompat : Nat := 0x0204
/-- RC_CFG_NO_BUD. -/
abbrev rcCfgNoBud : Nat := 0x0205
/-- RC_CFG_SWAP_PENDING. -/
abbrev rcCfgSwapPending : Nat := 0x0206
/-- RC_CFG_SWAP_TOO_SOON. -/
abbrev rcCfgSwapTooSoon : Nat := 0x0207
/-- RC_CFG_SWAP_LAGGARD. -/
abbrev rcCfgSwapLaggard : Nat := 0x0208
/-- RC_CFG_SWAP_STATE. -/
abbrev rcCfgSwapState : Nat := 0x0209
/-- RC_CFG_SWAP_TIME_STEP. -/
abbrev rcCfgSwapTimeStep : Nat := 0x020A
/-- RC_CFG_SWAP_COMMITTED. -/
abbrev rcCfgSwapCommitted : Nat := 0x020B
/-- RC_CFG_STAGE_ORDER. -/
abbrev rcCfgStageOrder : Nat := 0x020C
/-- RC_CFG_RESOURCE. -/
abbrev rcCfgResource : Nat := 0x020D
/-- RC_CFG_NO_FUNCTION. -/
abbrev rcCfgNoFunction : Nat := 0x020E
/-- RC_CFG_FRAGMENT. -/
abbrev rcCfgFragment : Nat := 0x020F
/-- RC_CFG_SWAP_CANCELLED. -/
abbrev rcCfgSwapCancelled : Nat := 0x0210
/-- RC_CFG_NO_SWAP. -/
abbrev rcCfgNoSwap : Nat := 0x0211
/-- RC_CFG_PARAM_RANGE. -/
abbrev rcCfgParamRange : Nat := 0x0212
/-- RC_TIME_SOURCE_LOCKED. -/
abbrev rcTimeSourceLocked : Nat := 0x0301
/-- RC_TIME_UNSET. -/
abbrev rcTimeUnset : Nat := 0x0302
/-- RC_TIME_OSF_NO_LOCK. -/
abbrev rcTimeOsfNoLock : Nat := 0x0303
/-- RC_TIME_TEU_HELD. -/
abbrev rcTimeTeuHeld : Nat := 0x0304
/-- RC_TIME_PIN_HELD. -/
abbrev rcTimePinHeld : Nat := 0x0305
/-- RC_TIME_TEU_RUNNING. -/
abbrev rcTimeTeuRunning : Nat := 0x0306
/-- RC_TIME_BAD_PERIOD. -/
abbrev rcTimeBadPeriod : Nat := 0x0307
/-- RC_TIME_PORT_NO_PTP. -/
abbrev rcTimePortNoPtp : Nat := 0x0308
/-- RC_TIME_INC_RANGE. -/
abbrev rcTimeIncRange : Nat := 0x0309
/-- RC_TIME_GAIN_UNSTABLE. -/
abbrev rcTimeGainUnstable : Nat := 0x030A
/-- RC_TIME_SERVE_NOT_LOCKED. -/
abbrev rcTimeServeNotLocked : Nat := 0x030B
/-- RC_TIME_PARAM_RANGE. -/
abbrev rcTimeParamRange : Nat := 0x030C
/-- RC_TIME_FAULT. -/
abbrev rcTimeFault : Nat := 0x030D
/-- RC_RTC_TIME_NOT_SET. -/
abbrev rcRtcTimeNotSet : Nat := 0x0401
/-- RC_RTC_DISCIPLINED. -/
abbrev rcRtcDisciplined : Nat := 0x0402
/-- RC_RTC_RANGE. -/
abbrev rcRtcRange : Nat := 0x0403
/-- RC_RTC_OSC_STOPPED. -/
abbrev rcRtcOscStopped : Nat := 0x0404
/-- RC_INGEST_NO_STREAM. -/
abbrev rcIngestNoStream : Nat := 0x0501
/-- RC_INGEST_DATASET. -/
abbrev rcIngestDataset : Nat := 0x0502
/-- RC_INGEST_PORT_RATE. -/
abbrev rcIngestPortRate : Nat := 0x0503
/-- RC_INGEST_PARAM_RANGE. -/
abbrev rcIngestParamRange : Nat := 0x0504
/-- RC_INGEST_SIM_NOT_TEST. -/
abbrev rcIngestSimNotTest : Nat := 0x0505
/-- RC_INGEST_ROW_UNAVAILABLE. -/
abbrev rcIngestRowUnavailable : Nat := 0x0506
/-- RC_INGEST_STREAM_OVERLAP. -/
abbrev rcIngestStreamOverlap : Nat := 0x0507
/-- RC_INGEST_KEY_UNBOUND. -/
abbrev rcIngestKeyUnbound : Nat := 0x0508
/-- RC_INGEST_GROUP_UNDEFINED. -/
abbrev rcIngestGroupUndefined : Nat := 0x0509
/-- RC_INGEST_TUNE_TOO_SOON. -/
abbrev rcIngestTuneTooSoon : Nat := 0x050A
/-- RC_SPEC_NO_SLICE. -/
abbrev rcSpecNoSlice : Nat := 0x0601
/-- RC_SPEC_CLASS. -/
abbrev rcSpecClass : Nat := 0x0602
/-- RC_SPEC_PARAM_RANGE. -/
abbrev rcSpecParamRange : Nat := 0x0603
/-- RC_SPEC_ACTION. -/
abbrev rcSpecAction : Nat := 0x0604
/-- RC_SPEC_QUIESCED. -/
abbrev rcSpecQuiesced : Nat := 0x0605
/-- RC_LOOP_NO_INSTANCE. -/
abbrev rcLoopNoInstance : Nat := 0x0701
/-- RC_LOOP_UNSTABLE. -/
abbrev rcLoopUnstable : Nat := 0x0702
/-- RC_LOOP_PARAM_RANGE. -/
abbrev rcLoopParamRange : Nat := 0x0703
/-- RC_LOOP_MEMORY. -/
abbrev rcLoopMemory : Nat := 0x0704
/-- RC_LOOP_REFERENCE. -/
abbrev rcLoopReference : Nat := 0x0705
/-- RC_LOOP_NOT_MEMBER. -/
abbrev rcLoopNotMember : Nat := 0x0706
/-- RC_LOOP_TEU_SOURCE. -/
abbrev rcLoopTeuSource : Nat := 0x0707
/-- RC_LOOP_NOMINAL. -/
abbrev rcLoopNominal : Nat := 0x0708
/-- RC_FILT_NO_CHAIN. -/
abbrev rcFiltNoChain : Nat := 0x0801
/-- RC_FILT_NOT_STOPPED. -/
abbrev rcFiltNotStopped : Nat := 0x0802
/-- RC_FILT_STRUCTURE. -/
abbrev rcFiltStructure : Nat := 0x0803
/-- RC_FILT_THROUGHPUT. -/
abbrev rcFiltThroughput : Nat := 0x0804
/-- RC_FILT_COEF_POOL. -/
abbrev rcFiltCoefPool : Nat := 0x0805
/-- RC_FILT_SOURCE. -/
abbrev rcFiltSource : Nat := 0x0806
/-- RC_FILT_PARAM_RANGE. -/
abbrev rcFiltParamRange : Nat := 0x0807
/-- RC_FILT_COEF_MISSING. -/
abbrev rcFiltCoefMissing : Nat := 0x0808
/-- RC_ACQ_NO_CAPTURE. -/
abbrev rcAcqNoCapture : Nat := 0x0901
/-- RC_ACQ_NOT_STOPPED. -/
abbrev rcAcqNotStopped : Nat := 0x0902
/-- RC_ACQ_LINK. -/
abbrev rcAcqLink : Nat := 0x0903
/-- RC_ACQ_PARAM_RANGE. -/
abbrev rcAcqParamRange : Nat := 0x0904
/-- RC_ACQ_SRAM_HELD. -/
abbrev rcAcqSramHeld : Nat := 0x0905
/-- RC_ACQ_TOO_LONG. -/
abbrev rcAcqTooLong : Nat := 0x0906
/-- RC_ACQ_TOO_OLD. -/
abbrev rcAcqTooOld : Nat := 0x0907
/-- RC_ACQ_NO_RECORD. -/
abbrev rcAcqNoRecord : Nat := 0x0908
/-- RC_ACQ_LOCK_LIMIT. -/
abbrev rcAcqLockLimit : Nat := 0x0909
/-- RC_PHASOR_NO_STREAM. -/
abbrev rcPhasorNoStream : Nat := 0x0A01
/-- RC_PHASOR_RATE. -/
abbrev rcPhasorRate : Nat := 0x0A02
/-- RC_PHASOR_CAPACITY. -/
abbrev rcPhasorCapacity : Nat := 0x0A03
/-- RC_PHASOR_NOT_STOPPED. -/
abbrev rcPhasorNotStopped : Nat := 0x0A04
/-- RC_PHASOR_ROW_UNAVAILABLE. -/
abbrev rcPhasorRowUnavailable : Nat := 0x0A05
/-- RC_LOC_NO_LINE. -/
abbrev rcLocNoLine : Nat := 0x0A10
/-- RC_LOC_PARAM_RANGE. -/
abbrev rcLocParamRange : Nat := 0x0A11
/-- RC_LOC_MALFORMED. -/
abbrev rcLocMalformed : Nat := 0x0A12
/-- RC_LOC_AUTH. -/
abbrev rcLocAuth : Nat := 0x0A13
/-- RC_LOC_PARTNER_REFUSED. -/
abbrev rcLocPartnerRefused : Nat := 0x0A14
/-- RC_LOC_DUPLICATE. -/
abbrev rcLocDuplicate : Nat := 0x0A15
/-- RC_FABRIC_NO_BLOCK. -/
abbrev rcFabricNoBlock : Nat := 0x0B01
/-- RC_FABRIC_PARAM_RANGE. -/
abbrev rcFabricParamRange : Nat := 0x0B02
/-- RC_FABRIC_PROTECT_CLOCK. -/
abbrev rcFabricProtectClock : Nat := 0x0B03
/-- RC_BUDGET_RANGE. -/
abbrev rcBudgetRange : Nat := 0x0B04
/-- RC_BUDGET_THRESHOLD. -/
abbrev rcBudgetThreshold : Nat := 0x0B05
/-- RC_SLICE_NO_SLICE. -/
abbrev rcSliceNoSlice : Nat := 0x0C01
/-- RC_SLICE_MODULE. -/
abbrev rcSliceModule : Nat := 0x0C02
/-- RC_SLICE_NOT_QUIESCED. -/
abbrev rcSliceNotQuiesced : Nat := 0x0C03
/-- RC_SLICE_QUIESCING. -/
abbrev rcSliceQuiescing : Nat := 0x0C04
/-- RC_SLICE_ASID. -/
abbrev rcSliceAsid : Nat := 0x0C05
/-- RC_SLICE_MEMORY. -/
abbrev rcSliceMemory : Nat := 0x0C06
/-- RC_SLICE_LIVE_CHANGE. -/
abbrev rcSliceLiveChange : Nat := 0x0C07
/-- RC_SLICE_PARAM_RANGE. -/
abbrev rcSliceParamRange : Nat := 0x0C08
/-- RC_SLICE_KEY_ROOT. -/
abbrev rcSliceKeyRoot : Nat := 0x0C09
/-- RC_SLICE_NOT_MANAGER. -/
abbrev rcSliceNotManager : Nat := 0x0C0A
/-- RC_CYCLE_NO_PROGRAM. -/
abbrev rcCycleNoProgram : Nat := 0x0D01
/-- RC_CYCLE_NOT_STOPPED. -/
abbrev rcCycleNotStopped : Nat := 0x0D02
/-- RC_CYCLE_NO_SYMBOL. -/
abbrev rcCycleNoSymbol : Nat := 0x0D03
/-- RC_CYCLE_TYPE_CHANGE. -/
abbrev rcCycleTypeChange : Nat := 0x0D04
/-- RC_CYCLE_FORCED. -/
abbrev rcCycleForced : Nat := 0x0D05
/-- RC_CYCLE_FORCE_TABLE. -/
abbrev rcCycleForceTable : Nat := 0x0D06
/-- RC_CYCLE_PARAM_RANGE. -/
abbrev rcCycleParamRange : Nat := 0x0D07
/-- RC_CYCLE_STATION. -/
abbrev rcCycleStation : Nat := 0x0D08
/-- RC_CYCLE_RETAIN. -/
abbrev rcCycleRetain : Nat := 0x0D09
/-- RC_CYCLE_NOT_SINGLE. -/
abbrev rcCycleNotSingle : Nat := 0x0D0A
/-- RC_CYCLE_TEU_SOURCE. -/
abbrev rcCycleTeuSource : Nat := 0x0D0B
/-- RC_NET_NO_PORT. -/
abbrev rcNetNoPort : Nat := 0x0E01
/-- RC_NET_PARAM_RANGE. -/
abbrev rcNetParamRange : Nat := 0x0E02
/-- RC_NET_SRAM_HELD. -/
abbrev rcNetSramHeld : Nat := 0x0E03
/-- RC_NET_PAIR_MODE. -/
abbrev rcNetPairMode : Nat := 0x0E04
/-- RC_NET_MIRROR_RUNNING. -/
abbrev rcNetMirrorRunning : Nat := 0x0E05
/-- RC_NET_NO_ENTRY. -/
abbrev rcNetNoEntry : Nat := 0x0E06
/-- RC_NET_IP. -/
abbrev rcNetIp : Nat := 0x0E07
/-- RC_PAIR_NOT_PAIRED. -/
abbrev rcPairNotPaired : Nat := 0x0F01
/-- RC_PAIR_NOT_ACTIVE. -/
abbrev rcPairNotActive : Nat := 0x0F02
/-- RC_PAIR_PARTNER_UNFIT. -/
abbrev rcPairPartnerUnfit : Nat := 0x0F03
/-- RC_PAIR_CONFIG. -/
abbrev rcPairConfig : Nat := 0x0F04
/-- RC_PAIR_NO_STAGE. -/
abbrev rcPairNoStage : Nat := 0x0F05
/-- RC_PAIR_PARAM_RANGE. -/
abbrev rcPairParamRange : Nat := 0x0F06
/-- RC_CONST_NO_SECTION. -/
abbrev rcConstNoSection : Nat := 0x1001
/-- RC_CONST_MANIFEST_SIG. -/
abbrev rcConstManifestSig : Nat := 0x1002
/-- RC_CONST_MANIFEST_OLD. -/
abbrev rcConstManifestOld : Nat := 0x1003
/-- RC_CONST_MANIFEST_FORMAT. -/
abbrev rcConstManifestFormat : Nat := 0x1004
/-- RC_CONST_FRAGMENT. -/
abbrev rcConstFragment : Nat := 0x1005
/-- RC_CONST_PARAM_RANGE. -/
abbrev rcConstParamRange : Nat := 0x1006
/-- RC_CONST_CONFIG. -/
abbrev rcConstConfig : Nat := 0x1007
/-- RC_KEY_UNKNOWN. -/
abbrev rcKeyUnknown : Nat := 0x1101
/-- RC_KEY_IN_USE. -/
abbrev rcKeyInUse : Nat := 0x1102
/-- RC_KEY_ORPHANED. -/
abbrev rcKeyOrphaned : Nat := 0x1103
/-- RC_KEY_NO_SLOT. -/
abbrev rcKeyNoSlot : Nat := 0x1104
/-- RC_KEY_DEPTH. -/
abbrev rcKeyDepth : Nat := 0x1105
/-- RC_KEY_USE. -/
abbrev rcKeyUse : Nat := 0x1106
/-- RC_KEY_UNWRAP. -/
abbrev rcKeyUnwrap : Nat := 0x1107
/-- RC_KEY_KCV. -/
abbrev rcKeyKcv : Nat := 0x1108
/-- RC_KEY_SEQUENCE. -/
abbrev rcKeySequence : Nat := 0x1109
/-- RC_KEY_FIXED. -/
abbrev rcKeyFixed : Nat := 0x110A
/-- RC_KEY_COUNTER. -/
abbrev rcKeyCounter : Nat := 0x110B
/-- RC_KEY_NOT_THIS_DEVICE. -/
abbrev rcKeyNotThisDevice : Nat := 0x110C
/-- RC_KEY_ZEROISED. -/
abbrev rcKeyZeroised : Nat := 0x110D
/-- RC_KEY_SELFTEST. -/
abbrev rcKeySelftest : Nat := 0x110E
/-- RC_LUPIN_NO_SNAPSHOT. -/
abbrev rcLupinNoSnapshot : Nat := 0x1201
/-- RC_LUPIN_NO_RECORD. -/
abbrev rcLupinNoRecord : Nat := 0x1202
/-- RC_LUPIN_PARAM_RANGE. -/
abbrev rcLupinParamRange : Nat := 0x1203
/-- RC_LUPIN_LINK_DOWN. -/
abbrev rcLupinLinkDown : Nat := 0x1204
/-- RC_LUPIN_UPDATE_BUSY. -/
abbrev rcLupinUpdateBusy : Nat := 0x1205
/-- RC_LUPIN_FRAGMENT. -/
abbrev rcLupinFragment : Nat := 0x1207
/-- RC_LUPIN_TAP. -/
abbrev rcLupinTap : Nat := 0x1208
/-- RC_EVR_OVERWRITTEN. -/
abbrev rcEvrOverwritten : Nat := 0x1301
/-- RC_EVR_FUTURE. -/
abbrev rcEvrFuture : Nat := 0x1302
/-- RC_EVR_NO_SAVED. -/
abbrev rcEvrNoSaved : Nat := 0x1303
/-- RC_EVR_MARK_RATE. -/
abbrev rcEvrMarkRate : Nat := 0x1304
/-- RC_EVR_PARAM_RANGE. -/
abbrev rcEvrParamRange : Nat := 0x1305
/-- RC_DIAG_NO_TARGET. -/
abbrev rcDiagNoTarget : Nat := 0x1401
/-- RC_DIAG_PARAM_RANGE. -/
abbrev rcDiagParamRange : Nat := 0x1402
/-- RC_DIAG_SELFTEST_FAILED. -/
abbrev rcDiagSelftestFailed : Nat := 0x1403
/-- RC_DIAG_LAST_CELL. -/
abbrev rcDiagLastCell : Nat := 0x1404
/-- RC_DIAG_NOT_TEST. -/
abbrev rcDiagNotTest : Nat := 0x1405
/-- RC_DIAG_FENCED. -/
abbrev rcDiagFenced : Nat := 0x1406
/-- RC_DIAG_NO_ENTRY. -/
abbrev rcDiagNoEntry : Nat := 0x1407
/-- RC_DIAG_FW_FRAGMENT. -/
abbrev rcDiagFwFragment : Nat := 0x1420
/-- RC_DIAG_FW_SIGNATURE. -/
abbrev rcDiagFwSignature : Nat := 0x1421
/-- RC_DIAG_FW_RUNNING. -/
abbrev rcDiagFwRunning : Nat := 0x1422
/-- RC_DIAG_FW_FLASH. -/
abbrev rcDiagFwFlash : Nat := 0x1423
/-- RC_DIAG_FW_BUSY. -/
abbrev rcDiagFwBusy : Nat := 0x1424

/-! ### The groups of reasons (R507) -/

/-- The reason values of each command group, by the high byte of its opcodes: ranges, both ends in them (R507). Value 0x1206 is in none. -/
def reasonRanges : List (Nat × List (Nat × Nat)) :=
  [(0x01, [(0x0101, 0x0112)]), (0x02, [(0x0201, 0x0212)]), (0x03, [(0x0301, 0x030D)]), (0x04, [(0x0401, 0x0404)]),
    (0x05, [(0x0501, 0x050A)]), (0x06, [(0x0601, 0x0605)]), (0x07, [(0x0701, 0x0708)]), (0x08, [(0x0801, 0x0808)]),
    (0x09, [(0x0901, 0x0909)]), (0x0A, [(0x0A01, 0x0A05), (0x0A10, 0x0A15)]), (0x0B, [(0x0B01, 0x0B05)]), (0x0C, [(0x0C01, 0x0C0A)]),
    (0x0D, [(0x0D01, 0x0D0B)]), (0x0E, [(0x0E01, 0x0E07)]), (0x0F, [(0x0F01, 0x0F06)]), (0x10, [(0x1001, 0x1007)]),
    (0x11, [(0x1101, 0x110E)]), (0x12, [(0x1201, 0x1205), (0x1207, 0x1208)]), (0x13, [(0x1301, 0x13FF)]), (0x14, [(0x1401, 0x14FF)])]

/-- A group returns a value as a reason (R507). -/
def reasonOf (group rc : Nat) : Bool := reasonRanges.any (fun g => g.1 == group && g.2.any (fun r => decide (r.1 ≤ rc ∧ rc ≤ r.2)))

/-- Every reason that the model returns, with its group. -/
def allReasons : List (Nat × Nat) :=
  [rcModVersion, rcModLength, rcModAuthRequired, rcModAuth, rcModSession, rcModReplay, rcModOpcode, rcModPrivilege, rcModExpertFlag, rcModScope, rcModAbsent, rcModStateIllegal, rcModSessionLimit, rcModPrincipal, rcModTarget, rcModSlot, rcModReserved, rcModNoCvk].map (fun r => (0x01, r))
  ++ [rcCfgVariantMismatch, rcCfgSignature, rcCfgFormat, rcCfgCompat, rcCfgNoBud, rcCfgSwapPending, rcCfgSwapTooSoon, rcCfgSwapLaggard, rcCfgSwapState, rcCfgSwapTimeStep, rcCfgSwapCommitted, rcCfgStageOrder, rcCfgResource, rcCfgNoFunction, rcCfgFragment, rcCfgSwapCancelled, rcCfgNoSwap, rcCfgParamRange].map (fun r => (0x02, r))
  ++ [rcTimeSourceLocked, rcTimeUnset, rcTimeOsfNoLock, rcTimeTeuHeld, rcTimePinHeld, rcTimeTeuRunning, rcTimeBadPeriod, rcTimePortNoPtp, rcTimeIncRange, rcTimeGainUnstable, rcTimeServeNotLocked, rcTimeParamRange, rcTimeFault].map (fun r => (0x03, r))
  ++ [rcRtcTimeNotSet, rcRtcDisciplined, rcRtcRange, rcRtcOscStopped].map (fun r => (0x04, r))
  ++ [rcIngestNoStream, rcIngestDataset, rcIngestPortRate, rcIngestParamRange, rcIngestSimNotTest, rcIngestRowUnavailable, rcIngestStreamOverlap, rcIngestKeyUnbound, rcIngestGroupUndefined, rcIngestTuneTooSoon].map (fun r => (0x05, r))
  ++ [rcSpecNoSlice, rcSpecClass, rcSpecParamRange, rcSpecAction, rcSpecQuiesced].map (fun r => (0x06, r))
  ++ [rcLoopNoInstance, rcLoopUnstable, rcLoopParamRange, rcLoopMemory, rcLoopReference, rcLoopNotMember, rcLoopTeuSource, rcLoopNominal].map (fun r => (0x07, r))
  ++ [rcFiltNoChain, rcFiltNotStopped, rcFiltStructure, rcFiltThroughput, rcFiltCoefPool, rcFiltSource, rcFiltParamRange, rcFiltCoefMissing].map (fun r => (0x08, r))
  ++ [rcAcqNoCapture, rcAcqNotStopped, rcAcqLink, rcAcqParamRange, rcAcqSramHeld, rcAcqTooLong, rcAcqTooOld, rcAcqNoRecord, rcAcqLockLimit].map (fun r => (0x09, r))
  ++ [rcPhasorNoStream, rcPhasorRate, rcPhasorCapacity, rcPhasorNotStopped, rcPhasorRowUnavailable, rcLocNoLine, rcLocParamRange, rcLocMalformed, rcLocAuth, rcLocPartnerRefused, rcLocDuplicate].map (fun r => (0x0A, r))
  ++ [rcFabricNoBlock, rcFabricParamRange, rcFabricProtectClock, rcBudgetRange, rcBudgetThreshold].map (fun r => (0x0B, r))
  ++ [rcSliceNoSlice, rcSliceModule, rcSliceNotQuiesced, rcSliceQuiescing, rcSliceAsid, rcSliceMemory, rcSliceLiveChange, rcSliceParamRange, rcSliceKeyRoot, rcSliceNotManager].map (fun r => (0x0C, r))
  ++ [rcCycleNoProgram, rcCycleNotStopped, rcCycleNoSymbol, rcCycleTypeChange, rcCycleForced, rcCycleForceTable, rcCycleParamRange, rcCycleStation, rcCycleRetain, rcCycleNotSingle, rcCycleTeuSource].map (fun r => (0x0D, r))
  ++ [rcNetNoPort, rcNetParamRange, rcNetSramHeld, rcNetPairMode, rcNetMirrorRunning, rcNetNoEntry, rcNetIp].map (fun r => (0x0E, r))
  ++ [rcPairNotPaired, rcPairNotActive, rcPairPartnerUnfit, rcPairConfig, rcPairNoStage, rcPairParamRange].map (fun r => (0x0F, r))
  ++ [rcConstNoSection, rcConstManifestSig, rcConstManifestOld, rcConstManifestFormat, rcConstFragment, rcConstParamRange, rcConstConfig].map (fun r => (0x10, r))
  ++ [rcKeyUnknown, rcKeyInUse, rcKeyOrphaned, rcKeyNoSlot, rcKeyDepth, rcKeyUse, rcKeyUnwrap, rcKeyKcv, rcKeySequence, rcKeyFixed, rcKeyCounter, rcKeyNotThisDevice, rcKeyZeroised, rcKeySelftest].map (fun r => (0x11, r))
  ++ [rcLupinNoSnapshot, rcLupinNoRecord, rcLupinParamRange, rcLupinLinkDown, rcLupinUpdateBusy, rcLupinFragment, rcLupinTap].map (fun r => (0x12, r))
  ++ [rcEvrOverwritten, rcEvrFuture, rcEvrNoSaved, rcEvrMarkRate, rcEvrParamRange].map (fun r => (0x13, r))
  ++ [rcDiagNoTarget, rcDiagParamRange, rcDiagSelftestFailed, rcDiagLastCell, rcDiagNotTest, rcDiagFenced, rcDiagNoEntry, rcDiagFwFragment, rcDiagFwSignature, rcDiagFwRunning, rcDiagFwFlash, rcDiagFwBusy].map (fun r => (0x14, r))

end Sys2Proof.Machine
end

