-- ==== Sys2Proof/Types/Cfg.lean ====
section
/-! DEFINITION. State of the configuration sets and the swap (R482 to R491). Docstrings read: what it is | width | rule | reset. -/
namespace Sys2Proof

/-- A Bud load in progress (R483). -/
structure BudLoad where
  total : Nat := 0
  fragments : Nat := 0
  /-- Fragments received, by index, with their bytes. -/
  received : Tbl (List Byte) := []
  /-- Complete, with its signature and load check still running. -/
  checking : Bool := false
  deriving DecidableEq, Repr

/-- A pending swap (R487 to R489). -/
structure Swap where
  ks : Nat := 0
  committed : Bool := false
  /-- Region codes that have voted ready. -/
  votes : List Nat := []
  deriving DecidableEq, Repr

/-- The Bloom that a swap has replaced, while rows before the change-over are not all settled: they run under it (R166, R489). -/
structure OldBloom where
  image : Image := {}
  seq : Nat := 0
  /-- Its subscriptions that do not go on as they are; the others share the entries of the Bloom in force. -/
  streams : Tbl Stream := []
  /-- Its first instant, and the first one after it, on its own grid. -/
  firstK : Nat := 0
  endK : Nat := 0
  /-- Instant above its newest opened row, and above the newest row passed on where its grid ends with it. -/
  nextOpen : Nat := 0
  nextSettle : Nat := 0
  deriving DecidableEq, Repr

/-- State of the configuration sets. -/
structure CfgState where
  /-- The Bloom in force | - | R482 | none -/
  bloom : Option Image := none
  /-- Bloom sequence | 32 | R101 R489 | DESIGN CHOICE 0 (log 5) -/
  bloomSeq : Nat := 0
  /-- The Bloom before it, while rows of it are open | - | R166 R489 | none -/
  old : Option OldBloom := none
  /-- The Bud image; BUD_VALID is its presence | - | R483 | none -/
  bud : Option Image := none
  /-- Load in progress | - | R483 | none -/
  load : Option BudLoad := none
  /-- Pending swap | - | R487 | none -/
  swap : Option Swap := none
  /-- Reason of the last swap attempt | 16 | R498 | 0 -/
  lastReason : Nat := 0
  /-- Swaps since boot | 32 | R498 | 0 -/
  swaps : Nat := 0
  /-- Aborts since boot | 32 | R498 | 0 -/
  aborts : Nat := 0
  /-- Enables changed by CFG.FN_ENABLE, by slice * 65536 + function, newest first: first instant, Bloom sequence, value from it | 1 each | R486 | none -/
  enables : Tbl (List (Nat × Nat × Bool)) := []
  /-- Bloom copies in boot flash, newest first, with completeness | - | R517 | DESIGN CHOICE none (log 5) -/
  stored : List Image := []
  /-- A committed Bloom is still to be written to boot flash | 1 | R517 | 0 -/
  storeDue : Bool := false
  deriving DecidableEq, Repr

end Sys2Proof
end

