-- ==== Sys2Proof/Machine/State.lean ====
section
/-! DEFINITION. The state of the block: the hardware, and the queue of commands that wait. -/
namespace Sys2Proof.Machine

/-- The hardware: everything but the queue. Docstrings read: what it is | width | rule | reset. -/
structure Hw where
  /-- Variant code: 0x20, 0x40 or 0x80 (fuse) | 8 | R3 R494 | DESIGN CHOICE 0x80, a VXL-4880 (log 1) -/
  variant : Nat := 0x80
  /-- Device serial (fuse) | 64 | R498 | DESIGN CHOICE 0 (log 1) -/
  serial : Nat := 0
  /-- Module ID; 0xFFFF none | 16 | R400 R494 | 0xFFFF -/
  moduleId : Nat := 0xFFFF
  /-- Module state | 4 | R479 | BOOT (2) -/
  mode : ModState := .boot
  cmd : CmdState := {}
  cfg : CfgState := {}
  evr : EvrState := {}
  boot : BootState := {}
  fault : FaultState := {}
  power : PowerState := {}
  time : TimeState := {}
  rtc : RtcState := {}
  ing : IngestState := {}
  loop : LoopState := {}
  keys : KeyState := {}
  fab : FabricState := {}
  slc : SliceState := {}
  spec : SpecState := {}
  pair : PairState := {}
  filt : FiltState := {}
  acq : AcqState := {}
  const : ConstState := {}
  phasor : PhasorState := {}
  net : NetState := {}
  cycle : CycleState := {}
  lupin : LupinState := {}
  /-- Free values drawn so far (the model's own) | - | log 3 | DESIGN CHOICE 0 (log 3) -/
  free : Nat := 0
  /-- What has left the module, newest first (the model's own record) | - | log 6 | DESIGN CHOICE empty (log 6) -/
  out : List Out := []
  deriving DecidableEq, Repr

/-- The state of the block. -/
structure State where
  /-- Commands and events that wait, first in first out. -/
  pending : List Instr := []
  /-- The hardware. -/
  hw : Hw := {}
  deriving DecidableEq, Repr

/-- No command of this block faults: what the spec refuses is refused by a reply. -/
inductive Fault where
  /-- Raised by nothing: the spec gives the block no fault. Safe. -/
  | none
  deriving DecidableEq, Repr

/-- Why a command has no meaning. -/
inductive Refusal where
  /-- Raised by the dispatcher for a command without a meaning. Safe: nothing is claimed of it. -/
  | notModelled (mnemonic : String)
  deriving DecidableEq, Repr

/-- The state right after reset: BOOT, an empty queue, every field at its reset value (R480, R494). -/
def State.reset : State := { pending := [], hw := {} }

end Sys2Proof.Machine
end

