-- ==== Sys2Proof/Machine/Flags.lean ====
section
/-! DEFINITION. Codes and packed words: state codes (R479), the state word (R480), servo codes (R33), time quality (R45 to R47), AON_STATUS (R85) and INT_STATUS (R496). -/
namespace Sys2Proof.Machine

/-- State codes of R479. -/
def modeCode : ModState → Nat
  | .off => 0 | .retain => 1 | .boot => 2 | .snowdrop => 3 | .idle => 4
  | .ready => 5 | .serving => 6 | .test => 7 | .halted => 8

/-- Servo codes of R33. -/
def servoCode : Servo → Nat
  | .unset => 0 | .seeded => 1 | .acquiring => 2 | .locked => 3 | .holdover => 4 | .fallback => 5 | .fault => 6

/-- One second in the units of station time. -/
def secUnit : Nat := 2 ^ 64

/-- TAI seconds of a station time. -/
def secOf (t : Nat) : Nat := t / 2 ^ 64

/-- The 32-bit fraction, truncated (R27). -/
def fracOf (t : Nat) : Nat := t / 2 ^ 32 % 2 ^ 32

/-- Station time from SEC and a 32-bit FRAC. -/
def ofSecFrac (sec frac : Nat) : Nat := sec * 2 ^ 64 + frac * 2 ^ 32

/-- SEC u64 and FRAC u32 of a station time, as fields. -/
def timeBytes (t : Nat) : List Byte := le 8 (secOf t) ++ le 4 (fracOf t)

/-- A duration in nanoseconds, in 2^-64 s. -/
def nsUnits (ns : Nat) : Nat := ns * 2 ^ 64 / 1000000000

/-- Picoseconds in 2^-64 s, rounded down. -/
def psUnits (ps : Int) : Int := ps * 2 ^ 64 / 10 ^ 12

/-- Elapsed time in ns: whole TIME cycles of 2 ns. -/
def monoNs (mono : Nat) : Nat := mono / nsUnits 2 * 2

/-- AON_STATUS bits of R85. -/
def aonOsf : Nat := 0
def aonCauseFirst : Nat := 1
def aonCauseDip : Nat := 2
def aonCauseOsc : Nat := 3
def aonTimeSet : Nat := 4
def aonSource : Nat := 5
def aonVbatLow : Nat := 6
def aonDisciplined : Nat := 7
def aonAlm0Fired : Nat := 8
def aonAlm1Fired : Nat := 9
def aonWakeFired : Nat := 10
def aonAlm0Skipped : Nat := 11
def aonAlm1Skipped : Nat := 12
def aonWakeSkipped : Nat := 13

/-- The W1C bits of AON_STATUS, 13:8. -/
def aonW1c : Word32 := 0x3F00#32

/-- A status word with bit `i` set or cleared. -/
def withBit {w : Nat} (v : BitVec w) (i : Nat) (b : Bool) : BitVec w :=
  if b then v ||| (1#w <<< i) else v &&& ~~~(1#w <<< i)

/-- SQW_SEL of AON_STATUS. -/
def sqwSel (v : Word32) : Nat := v.toNat / 2 ^ 14 % 4

/-- BOOT_COUNT of AON_STATUS: the boot-attempt counter (R520). -/
def bootCount (v : Word32) : Nat := v.toNat / 2 ^ 16 % 16

/-- AON_STATUS with BOOT_COUNT replaced. -/
def withBootCount (v : Word32) (n : Nat) : Word32 := (v &&& 0xFFF0FFFF#32) ||| (BitVec.ofNat 32 (n % 16) <<< 16)

/-- AON_STATUS with SQW_SEL replaced. -/
def withSqwSel (v : Word32) (n : Nat) : Word32 := (v &&& 0xFFFF3FFF#32) ||| (BitVec.ofNat 32 (n % 4) <<< 14)

/-- OSF of a hardware state (R72). -/
def osf (h : Hw) : Bool := h.rtc.status.getLsbD aonOsf

/-- The variant's populated region codes (R3, R24). -/
def populated (h : Hw) : List Nat :=
  if h.variant = 0x20 then [0, 2] else if h.variant = 0x40 then [0, 1, 2, 3] else [0, 1, 2, 3, 4, 5, 6, 7]

/-- Compute dies of the variant. -/
def computeDies (h : Hw) : Nat := if h.variant = 0x20 then 1 else if h.variant = 0x40 then 2 else 6

/-- INT_STATUS bits of R496. -/
def irqRspPosted : Nat := 0
def irqStateChanged : Nat := 1
def irqCmdSpace : Nat := 2
def irqEvrNew : Nat := 3
def irqRingError : Nat := 4

end Sys2Proof.Machine
end

