-- ==== Sys2Proof/Machine/KeyTree.lean ====
section
/-! DEFINITION. The slots of the key store and the values of their keys: the DUK, imported values and the derivation of R423 (R419 to R423). -/
namespace Sys2Proof.Machine

/-- A slot of the store. -/
def keySlot (n : Nat) (h : Hw) : KeySlot := tget h.keys.slots n {}

/-- The info string of R423. -/
def keyInfo (k : KeySlot) (version epoch : Nat) : List Byte :=
  le 1 k.use ++ le 1 k.depth ++ le 4 version ++ le 1 epoch ++ le 2 k.label.length ++ k.label

/-- Secret length by use. -/
def secretLength (use : Nat) : Nat := if use = 1 then 64 else if use = 8 then 32 else 80

/-- The order n of the P-521 base point (R423; the number is SEC 2's, log 121). -/
def p521Order : Nat := 2 ^ 521 - 657877501894328237357444332315020117536923257219387276263472201219398408051703

/-- The secret that the 64, 32 or 80 bytes of HKDF give a derived key: of a SIGN or AGREE key the private scalar (R423), 66 bytes big-endian. -/
def secretOf (use : Nat) (okm : List Byte) : List Byte :=
  if use = 2 ∨ use = 3 then be 66 (ofLe okm.reverse % (p521Order - 1) + 1) else okm

/-- A derived value: from its parent's secret, its info string and its use (R423). -/
def derived (secret : List Byte) (k : KeySlot) (version epoch : Nat) : List Byte :=
  secretOf k.use (slice (Config.hkdf [] secret (keyInfo k version epoch) (secretLength k.use)) 0 (secretLength k.use))

/-- The value of a key: the DUK as the boot reconstructed it, imported as it was wrapped, or derived from its parent; `fuel` is the greatest depth and one more. -/
def keyValue : Nat → Nat → Hw → List Byte
  | 0, _, _ => []
  | fuel + 1, n, h =>
    let k := keySlot n h
    if n = 0 then h.keys.duk
    else if k.origin = 1 then k.value
    else derived (keyValue fuel k.parent h) k k.version (if n = 1 then 0 else h.keys.epoch)

end Sys2Proof.Machine
end

