-- ==== Sys2Proof/Machine/NetOps.lean ====
section
/-! DEFINITION. The switch's queues: ports and their parameters, the mirror, admission, the choice of the next frame, ageing, and the frames that the hub's own units hand over (R341 to R343, R346, R351 to R357, R362 to R364). -/
namespace Sys2Proof.Machine

/-! ### Ports (R341, R342) -/

/-- Reset parameters of a port. -/
def portDefault (p : Nat) : PortConfig :=
  { speed := if p ≤ 7 ∨ p = 10 then 2 else if p = 8 ∨ p = 9 then 1 else if p = 11 then 0 else 3
    pcp := if p ≤ 7 then 4 else if p = 10 then 7 else 0 }

/-- The port exists on the variant (R7, R341). -/
def portExists (p : Nat) (h : Hw) : Bool :=
  p < 12 || p == 19 || (p < 18 && p - 12 < computeDies h) || (p == 18 && h.variant != 0x20)

/-- A port; an internal port always has its link. -/
def portAt (p : Nat) (h : Hw) : Port := tget h.net.ports p { cfg := portDefault p, link := decide (12 ≤ p) }
def putPort (p : Nat) (x : Port) (h : Hw) : Hw := { h with net := { h.net with ports := tset h.net.ports p x } }

/-- A port is enabled: as NET.PORT_ENABLE has set it (R366); else with no Bloom valid, and in SNOWDROP, only port 11 of the external
ones, and with one as it says (R342). -/
def portEnabled (p : Nat) (h : Hw) : Bool :=
  portExists p h && (12 ≤ p || (match (portAt p h).forced with
    | some on => on
    | none => if h.cfg.bloom.isNone ∨ h.mode = .snowdrop then p == 11 else (portAt p h).cfg.enabled))

/-- The port has link. -/
def portUp (p : Nat) (h : Hw) : Bool := portEnabled p h && (portAt p h).link

/-- The port sends PAUSE; it honours PAUSE (R341). -/
def sendsPause (p : Nat) : Bool := p == 8 || p == 9 || (12 ≤ p && p ≤ 17) || p == 19
def honoursPause (p : Nat) : Bool := p == 8 || p == 9 || p == 11 || (12 ≤ p && p ≤ 19)

/-- A received PAUSE holds transmission (R357). -/
def isHeld (p : Nat) (h : Hw) : Bool := match (portAt p h).held with | some t => decide (h.time.mono < t) | none => false

/-- Bits per second of a port. -/
def wireRate (p : Nat) (h : Hw) : Nat :=
  match (portAt p h).cfg.speed with | 0 => 1000000000 | 1 => 10000000000 | 2 => 25000000000 | _ => 51200000000

/-- A pair. -/
def netPair (n : Nat) (h : Hw) : PairNet := tget h.net.pairs n {}
def putNetPair (n : Nat) (x : PairNet) (h : Hw) : Hw := { h with net := { h.net with pairs := tset h.net.pairs n x } }

/-- The port's own MAC address (R343). -/
def ownMac (p : Nat) (h : Hw) : Nat := h.net.base + (if p ≤ 9 then p / 2 else if p = 10 then 5 else 6)

/-- The traffic class of a PCP (R351). -/
def pcpClass (pcp : Nat) : Nat := if pcp = 0 then 1 else if pcp = 1 then 0 else pcp % 8

/-! ### Headers -/

/-- What the switch reads in a frame: addresses, tag, redundancy tag or trailer, Ethertype, and the offset of what follows. -/
structure Parsed where
  dest : Nat := 0
  src : Nat := 0
  pcp : Option Nat := none
  /-- Sequence number of an HSR tag. -/
  hsr : Option Nat := none
  /-- Sequence number and LAN identifier of a PRP trailer. -/
  prp : Option (Nat × Nat) := none
  etype : Nat := 0
  /-- Offset of the HSR tag, and of the bytes behind the Ethertype. -/
  tagAt : Nat := 12
  body : Nat := 14
  deriving DecidableEq, Repr

/-- A big-endian field. -/
def beFld (bs : List Byte) (o n : Nat) : Nat := ofBe ((bs.drop o).take n)

/-- Read a frame's headers (IEEE 802.3, IEEE 802.1Q, IEC 62439-3). -/
def parseFrame (bs : List Byte) : Parsed :=
  let tagged := beFld bs 12 2 == 0x8100
  let o := if tagged then 16 else 12
  let hsr := beFld bs o 2 == 0x892F
  let o' := if hsr then o + 6 else o
  let n := bs.length
  let trailer := 20 ≤ n && beFld bs (n - 2) 2 == 0x88FB && (beFld bs (n - 4) 2 / 4096 == 10 || beFld bs (n - 4) 2 / 4096 == 11)
  { dest := beFld bs 0 6, src := beFld bs 6 6, pcp := if tagged then some (beFld bs 14 1 / 32) else none
    hsr := if hsr then some (beFld bs (o + 4) 2) else none
    prp := if trailer then some (beFld bs (n - 6) 2, beFld bs (n - 4) 2 / 4096) else none
    etype := beFld bs o' 2, tagAt := o, body := o' + 2 }

/-- The redundancy control trailer of a copy (R347): sequence number, LAN identifier, size and suffix. -/
def trailer (seq lan : Nat) (bs : List Byte) : List Byte :=
  be 2 seq ++ be 2 (lan * 4096 + (bs.length + 6 - (parseFrame bs).body) % 4096) ++ be 2 0x88FB

/-- A frame with an HSR tag in front of its Ethertype (R347): Ethertype 0x892F, path and size, sequence number (IEC 62439-3, log 55). -/
def hsrTagged (seq path : Nat) (bs : List Byte) : List Byte :=
  let f := parseFrame bs
  bs.take f.tagAt ++ be 2 0x892F ++ be 2 (path * 4096 + (bs.length + 6 - f.body) % 4096) ++ be 2 seq ++ bs.drop f.tagAt

/-- The copy of a frame for one port of a pair: with the trailer of PRP, the tag of HSR, or neither (R347). -/
def copyFor (port seq : Nat) (bs : List Byte) (h : Hw) : List Byte :=
  match (netPair (port / 2) h).mode with
  | 0 => bs ++ trailer seq (10 + port % 2) bs
  | 1 => hsrTagged seq (port % 2) bs
  | _ => bs

/-! ### The mirror (R362 to R364) -/

/-- The arrival stamp at a port: the present, with the port's ingress latency correction (R43). -/
def arrivalStamp (port : Nat) (h : Hw) : Nat := ((h.time.now : Int) - psUnits (tget h.time.ports port {}).ingress).toNat

/-- A rule selects a frame: direction 0 receive, 1 transmit, 2 dropped. -/
def ruleTakes (r : MirrorRule) (dir port etype : Nat) : Bool :=
  r.enable && (match dir with | 0 => r.rx | 1 => r.tx | _ => r.drops) && bit r.ports port && (r.etype == 0 || r.etype == etype)

/-- Entries the ring holds. -/
def mirrorSize (h : Hw) : Nat := h.acq.mirrorSegments * 4194304 / 96

/-- Offer a frame to the mirror, a receive entry stamped with its arrival: every rule that selects it counts it, and the lowest-numbered rule whose count is full
captures it; beyond 50 entries in a microsecond it is lost (R363). -/
def mirror (dir port reason : Nat) (f : QFrame) (h : Hw) : Hw :=
  let m := h.net.mirror
  if m.running = false then h
  else
    let due := m.rules.filter (fun e => ruleTakes e.2 dir port f.etype && e.2.n ≤ e.2.count + 1)
    let rules := tmap m.rules (fun _ r => if ruleTakes r dir port f.etype then { r with count := if r.n ≤ r.count + 1 then 0 else r.count + 1 } else r)
    let m := { m with rules := rules }
    match due with
    | [] => { h with net := { h.net with mirror := m } }
    | (n, _) :: _ =>
      let us := h.time.mono * 1000000 / 2 ^ 64
      let used := if m.window.1 = us then m.window.2 else 0
      if 50 ≤ used then { h with net := { h.net with mirror := { m with lost := inc32 m.lost } } }
      else
        let e : MirrorEntry :=
          { number := m.written, time := if dir = 0 then arrivalStamp port h else h.time.now, port := port, reason := reason, cls := f.cls, length := f.length, rule := n
            flags := flag (dir == 1) 0 + flag (dir == 2) 1 + flag (decide (f.length < 64)) 2
            frame := slice (f.bytes.take f.length) 0 64 }
        { h with net := { h.net with mirror := { m with ring := (e :: m.ring).take (mirrorSize h), written := m.written + 1, window := (us, used + 1) } } }

/-! ### Admission (R354, R355) -/

/-- Cells of frames. -/
def cellsOf (l : List QFrame) : Nat := l.foldl (fun a f => a + f.cells) 0

/-- Frames at an output, the one leaving included. -/
def atOutput (x : Port) : List QFrame := x.queue ++ x.sending.toList

/-- Cells in the pool. -/
def poolUsed (h : Hw) : Nat := h.net.ports.foldl (fun a e => a + cellsOf ((atOutput e.2).filter (fun f => f.pool))) 0

/-- Size of the pool: the guarantees of ports that do not exist join it. -/
def poolSize (h : Hw) : Nat := 331776 + 3072 * ((List.range 20).filter (fun p => !portExists p h)).length

/-- Admit a frame to an output, or discard the copy: whether it was admitted. Its cells move at once (log 54), and it keeps the
ageing limit of this moment. -/
def admitCopy (p : Nat) (f : QFrame) (h : Hw) : Bool × Hw :=
  let x := portAt p h
  let mine := atOutput x
  let used := cellsOf (mine.filter (fun f => !f.pool))
  let share := cellsOf (mine.filter (fun f => f.pool))
  let put (f : QFrame) : Hw :=
    let f := { f with here := f.cells, limit := h.net.ageing.getD f.cls 0 }
    let x := { x with queue := x.queue ++ [f], queueHigh := max x.queueHigh (cellsOf mine + f.cells) }
    let h := putPort p x h
    { h with net := { h.net with poolHigh := max h.net.poolHigh (poolUsed h) } }
  if used + f.cells ≤ 3072 then (true, put { f with pool := false })
  else if poolUsed h + f.cells ≤ poolSize h ∧ share + f.cells ≤ 16 * x.cfg.cap then (true, put { f with pool := true })
  else (false, mirror 2 p 3 f (putPort p { x with dropBuffer := inc32 x.dropBuffer } h))

/-! ### Ageing and the choice of the next frame (R351, R352, R356) -/

/-- The frame's ageing limit has passed. -/
def aged (f : QFrame) (h : Hw) : Bool := decide (nsUnits (1000 * f.limit) < h.time.mono - f.born)

/-- The head of a class queue. -/
def classHead (cls : Nat) (x : Port) : Option QFrame := x.queue.find? (fun f => f.cls == cls)

/-- Discard the head of a class queue when it is aged. -/
def ageHead (p cls : Nat) (h : Hw) : Hw :=
  match classHead cls (portAt p h) with
  | none => h
  | some f =>
    if aged f h then
      let x := portAt p h
      mirror 2 p 4 f (putPort p { x with queue := x.queue.erase f, dropAged := inc32 x.dropAged } h)
    else h

/-- One look at the head of each class queue of an output. -/
def agePort (p : Nat) (h : Hw) : Hw := (List.range 8).foldl (fun h c => ageHead p c h) h

/-- Cells of a frame that a start step asks for before transmission begins (R359). -/
def startCells (step : Nat) (f : QFrame) : Nat := if 4 ≤ step then f.cells else min f.cells (2 ^ (step + 1))

/-- Start the next frame of the highest class, when the output is idle, has link and is not held, and the cells of its start step
are there. -/
def pump (p : Nat) (h : Hw) : Hw :=
  if (portAt p h).sending.isSome ∨ portUp p h = false ∨ isHeld p h then h
  else
    let h := (portAt p h).queue.foldl (fun h _ => agePort p h) h
    match [7, 6, 5, 4, 3, 2, 1, 0].findSome? (fun c => classHead c (portAt p h)) with
    | none => h
    | some f =>
      let x := portAt p h
      if f.here < startCells x.step f then h else mirror 1 p 0 f (putPort p { x with queue := x.queue.erase f, sending := some f } h)

/-! ### The fabric (R353) -/

/-- The first of some ports at or after a pointer, in turn. -/
def pickTurn (ptr : Nat) (l : List Nat) : Option Nat := ((List.range 20).map (fun i => (ptr + i) % 20)).find? (fun p => l.contains p)

/-- One round of request, grant and accept among inputs and outputs not yet matched; pointers move in the first round only. -/
def schedRound (first : Bool) (want : List (Nat × Nat)) (a : List (Nat × Nat) × NetState) : List (Nat × Nat) × NetState :=
  let (matched, n) := a
  let asks := want.filter (fun e => !(matched.any (fun m => m.1 == e.1 || m.2 == e.2)))
  let granted := ((asks.map (fun e => e.2)).eraseDups).filterMap (fun o =>
    (pickTurn (tget n.grants o 0) ((asks.filter (fun e => e.2 == o)).map (fun e => e.1))).map (fun i => (i, o)))
  let taken := ((granted.map (fun e => e.1)).eraseDups).filterMap (fun i =>
    (pickTurn (tget n.accepts i 0) ((granted.filter (fun e => e.1 == i)).map (fun e => e.2))).map (fun o => (i, o)))
  (matched ++ taken,
   if first then { n with grants := taken.foldl (fun t e => tset t e.2 ((e.1 + 1) % 20)) n.grants, accepts := taken.foldl (fun t e => tset t e.1 ((e.2 + 1) % 20)) n.accepts }
   else n)

/-- One matching: three rounds. -/
def schedMatching (want : List (Nat × Nat)) (n : NetState) : List (Nat × Nat) × NetState :=
  schedRound false want (schedRound false want (schedRound true want ([], n)))

/-- Cells that wait at inputs, as input, output and count: one matching moves a cell for each pair of it. -/
def moveCells (l : List (Nat × Nat × Nat)) (n : NetState) : List (Nat × Nat × Nat) × NetState :=
  let (m, n) := schedMatching (l.map (fun e => (e.1, e.2.1))) n
  ((l.map (fun e => if m.contains (e.1, e.2.1) then (e.1, e.2.1, e.2.2 - 1) else e)).filter (fun e => e.2.2 != 0), n)

/-- Cell times of two matchings each, until no cell waits; `fuel` bounds them. -/
def transfer : Nat → List (Nat × Nat × Nat) → NetState → NetState
  | 0, _, n => n
  | fuel + 1, l, n => if l = [] then n else let (l, n) := moveCells l n; let (l, n) := moveCells l n; transfer fuel l n

/-- Queue the copies of a frame for their outputs: each decides by itself; a partial multicast is counted once; the scheduler moves
the cells of those admitted (R353, R355). -/
def forward (l : List (Nat × QFrame)) (h : Hw) : Hw :=
  let (took, h) := l.foldl (fun (a : List (Nat × QFrame) × Hw) e => let (ok, h) := admitCopy e.1 e.2 a.2; (if ok then a.1 ++ [e] else a.1, h)) ([], h)
  let h := if took ≠ [] ∧ took.length < l.length then { h with net := { h.net with partials := inc32 h.net.partials } } else h
  let cells := took.map (fun e => (e.2.input, e.1, e.2.cells))
  let h := { h with net := transfer (cells.foldl (fun a e => a + e.2.2) 0) cells h.net }
  l.foldl (fun h e => pump e.1 h) h

/-- A frame enters the switch at an internal port: it counts, with its frame check as at a MAC, and the mirror sees it (R363, R367). -/
def enterSwitch (port : Nat) (q : QFrame) (h : Hw) : Hw :=
  let x := portAt port h
  mirror 0 port 0 q (putPort port { x with rxFrames := x.rxFrames + 1, rxBytes := x.rxBytes + q.length + 4 } h)

/-- The sequence number of the next frame on the pair of two ports goes on by one (R347). -/
def nextSequence (pair : Nat) (h : Hw) : Hw :=
  let x := netPair pair h
  putNetPair pair { x with sequence := (x.sequence + 1) % 65536 } h

/-- Copies of a frame for its ports: both ports of a pair under its redundancy protocol with one sequence number, any other port as
it is (R347). -/
def copies (ports : List Nat) (q : QFrame) (h : Hw) : List (Nat × QFrame) :=
  ports.map (fun p =>
    let both := p < 10 && ports.contains (if p % 2 = 0 then p + 1 else p - 1)
    (p, { q with bytes := if both then copyFor p (netPair (p / 2) h).sequence q.bytes h else q.bytes }))

/-- The pairs that a frame's ports take whole. -/
def wholePairs (ports : List Nat) : List Nat := (List.range 5).filter (fun n => ports.contains (2 * n) && ports.contains (2 * n + 1))

/-- Send a frame on ports. -/
def sendFrame (ports : List Nat) (q : QFrame) (h : Hw) : Hw := forward (copies ports q h) ((wholePairs ports).foldl (fun h n => nextSequence n h) h)

/-! ### Frames of the hub's own units (R346, log 40) -/

/-- What the switch needs of a hub unit's frame: ports, priority and VLAN of its tag, Ethertype, destination where the unit names it. -/
structure HubFrame where
  ports : List Nat := []
  pcp : Nat := 0
  vlan : Option Nat := none
  etype : Nat := 0
  dest : Option Nat := none
  deriving DecidableEq, Repr

/-- The Ethertype of pair 4's IP: IPv4 where the Bloom gives it an address (R361). -/
def ipType4 (h : Hw) : Nat :=
  if (h.cfg.bloom.map (fun b => b.net.pair4.1.isSome || b.net.pair4.2.isNone)).getD true then 0x0800 else 0x86DD

/-- What a hub unit has put out, where it is a frame. -/
def hubFrame (o : Out) (h : Hw) : Option HubFrame :=
  match o with
  | .goose g => some { ports := g.ports, pcp := g.priority, vlan := some (g.vlan.getD 0), etype := 0x88B8, dest := g.mac }
  | .ptp port _ => some { ports := [port], pcp := 7, etype := 0x88F7 }
  | .synchro .. | .synchroConfig .. => some { ports := [8, 9], etype := ipType4 h }
  | .ipAnswer ports request => some { ports := ports, etype := (parseFrame request).etype, dest := some (parseFrame request).src }
  | .retain path _ => some { ports := if path = 0 then [10] else [8, 9], pcp := 7, vlan := some 0, etype := 0x88B8 }
  | .supervision pair => some { ports := [2 * pair, 2 * pair + 1], etype := 0x88FB }
  | .reply (.tls n) _ _ => some (match h.cmd.tls.find? (fun t => t.number == n) with
      | some t => if t.onPort11 then { ports := [11], etype := 0x0800 } else { ports := [8, 9], etype := ipType4 h }
      | none => { ports := [11], etype := 0x0800 })
  | .reply .pairing _ _ => some { ports := [10], etype := 0x88B6 }
  | _ => none

/-- The bytes of such a frame: what its standard puts behind the Ethertype is a free value, as is a destination that no rule gives (log 40). -/
def hubBytes (f : HubFrame) (n : Nat) (h : Hw) : List Byte :=
  let free (i : Nat) : Byte := Config.freeByte (h.free * 4096 + i)
  let head := f.dest.elim ((List.range 6).map (fun i => free (4090 + i))) (be 6) ++ be 6 (ownMac (f.ports.headD 11) h)
    ++ f.vlan.elim [] (fun v => be 2 0x8100 ++ be 2 (f.pcp * 8192 + v)) ++ be 2 f.etype
  head ++ (List.range (n - head.length)).map free

/-- Hand a unit's frame to the switch through port 19; its length is its standard's, a free value here (log 3, log 40). -/
def handOver (o : Out) (h : Hw) : Hw :=
  match hubFrame o h with
  | none => h
  | some f =>
    let n := 60 + Config.freeNat h.free % 1979
    let bs := hubBytes f n h
    let h := { h with free := h.free + 1 }
    let q : QFrame := { input := 19, born := h.time.mono, cls := if f.etype = 0x88F7 then 7 else pcpClass f.pcp, cells := (n + 63) / 64, length := n, etype := f.etype, bytes := bs }
    sendFrame f.ports q (enterSwitch 19 q h)

/-- Hand over every frame put out since the last time. -/
def carry (h : Hw) : Hw :=
  let new := (h.out.take (h.out.length - h.net.carried)).reverse
  if new = [] then h
  else
    let h := new.foldl (fun h o => handOver o h) h
    { h with net := { h.net with carried := h.out.length } }

end Sys2Proof.Machine
end

