-- ==== Sys2Proof/Machine/Ops.lean ====
section
/-! DEFINITION. The operations every command shares: free values, the event recorder's writing of a record, interrupts, the published state word, replies and completions, the change of state, and the abandoning of a swap. -/
namespace Sys2Proof.Machine

/-- Put something out of the module. -/
def emit (o : Out) (h : Hw) : Hw := { h with out := o :: h.out }

/-- Draw a free value: the hardware with its counter advanced. -/
def drawn (h : Hw) : Hw := { h with free := h.free + 1 }

/-- `n` free bytes at the present counter (log 3). -/
def freeBytes (n : Nat) (h : Hw) : List Byte := (List.range n).map (fun i => Config.freeByte (h.free * 4096 + i))

/-- `n` random bytes at the present counter (log 3). -/
def randomBytes (n : Nat) (h : Hw) : List Byte := (List.range n).map (fun i => Config.randomByte (h.free * 4096 + i))

/-- Set a bit of INT_STATUS; MSI-X vector 0 rises with INT_STATUS AND INT_ENABLE (R496). -/
def setIrq (i : Nat) (h : Hw) : Hw :=
  let new := withBit h.cmd.intStatus i true
  let h' := { h with cmd := { h.cmd with intStatus := new } }
  if h.cmd.intStatus &&& h.cmd.intEnable = 0#64 ∧ new &&& h.cmd.intEnable ≠ 0#64 then emit .msix h' else h'

/-! ### Event records (R546 to R556) -/

/-- Records the ring holds (R553, R555). -/
def ringSize (h : Hw) : Nat := if h.mode = .snowdrop then 1024 else 65536

/-- FLAGS of a record written now (R546). -/
def recordFlags (h : Hw) : Nat :=
  flag (h.mode = .test) 0 + flag h.evr.injecting 1 + flag h.evr.unanchored 4

/-- A payload padded with reserved zero bytes to 48 (R546). -/
def pad48 (b : List Byte) : List Byte := (b ++ zeros 48).take 48

/-- Write one record to the ring: the next SEQ, the overwritten count, EVR_NEW (R548, R553). -/
def writeRecord (r : Record) (h : Hw) : Hw :=
  let full := ringSize h ≤ h.evr.ring.length
  setIrq irqEvrNew { h with evr := { h.evr with
    ring := ({ r with seq := h.evr.next } :: h.evr.ring).take (ringSize h)
    next := h.evr.next + 1
    overwritten := if full then inc32 h.evr.overwritten else h.evr.overwritten } }

/-- Entries that the input queue holds (R549). -/
def queued (h : Hw) : Nat := (h.evr.backlog + 24) / 25

/-- An event reaches the recorder with FLAGS bits of its own. In BOOT it waits in the boot queue (R550); with the input
queue full it is dropped and counted (R549); with the recorder stopped or the island alone running it is lost. -/
def evrFlagged (extra code source sl : Nat) (payload : List Byte) (h : Hw) : Hw :=
  let r : Record := { code := code, source := source, slice := sl, flags := recordFlags h + extra, payload := pad48 payload }
  if h.evr.stopped ∨ h.mode = .off ∨ h.mode = .retain then h
  else if h.mode = .boot then
    if h.evr.bootQueue.length < 64 then { h with evr := { h.evr with bootQueue := h.evr.bootQueue ++ [r] } }
    else { h with evr := { h.evr with bootOverflow := true, dropped := inc32 h.evr.dropped } }
  else if 4096 ≤ queued h then
    { h with evr := { h.evr with
      dropped := inc32 h.evr.dropped
      dropRun := match h.evr.dropRun with
        | none => some (1, code, code, source)
        | some (n, first, _, _) => some (inc32 n, first, code, source) } }
  else
    let h := writeRecord r h
    { h with evr := { h.evr with backlog := h.evr.backlog + 25 } }

/-- An event record with the slice field 0xFFFF. -/
def evr (code source : Nat) (payload : List Byte) (h : Hw) : Hw := evrFlagged 0 code source 0xFFFF payload h

/-- An event record that names a slice. -/
def evrSlice (code source sl : Nat) (payload : List Byte) (h : Hw) : Hw := evrFlagged 0 code source sl payload h

/-- A record that never waits in the queue and is never dropped: time anchors, 0x1310, 0x1311, the boot records (R549). -/
def evrDirect (code source : Nat) (payload : List Byte) (h : Hw) : Hw :=
  if h.evr.stopped then h
  else writeRecord { code := code, source := source, flags := recordFlags h, payload := pad48 payload } h

/-- The second that time anchors follow: of station time, in SNOWDROP of the RTC (R551). -/
def anchorSecond (h : Hw) : Nat := if h.mode = .snowdrop then h.rtc.count / 2 ^ 15 else secOf h.time.now

/-- The next anchor falls at the next whole second from here: after a boot, and after a step (R550, R552). -/
def noteAnchor (h : Hw) : Hw := { h with evr := { h.evr with anchored := anchorSecond h } }

/-- A record that the spec orders without giving its CODE or payload: a free CODE of the group and free bytes (log 3). -/
def evrOpen (group source : Nat) (h : Hw) : Hw :=
  evr (group * 256 + Config.freeNat h.free % 256) source (freeBytes 48 h) (drawn h)

/-- Station time as record fields: SEC u64 and FRAC u32. -/
def nowBytes (h : Hw) : List Byte := timeBytes h.time.now

/-! ### Time quality (R28, R45 to R47) -/

/-- One picosecond in the units of the error bound, 2^-64 ps. -/
def psUnit : Nat := 2 ^ 64

/-- The path budget of R46, in ns. -/
def chainBudgetNs (h : Hw) : Nat :=
  let t := h.time
  if t.source = 2 then 10 + (h.cfg.bloom.map (fun b => b.time.ppsAccuracyNs)).getD 0
  else
    let links := t.stepsRemoved + 1
    let port := tget t.ports (t.slavePort.getD 0) {}
    if port.l1Up ∧ (h.cfg.bloom.map (fun b => b.time.l1EndToEnd)).getD false then 4 + links else 20 + 5 * links

/-- The error bound E of R46 and R47 in 2^-64 ps; `none` where it is unknown. -/
def errorBound (h : Hw) : Option Nat :=
  let t := h.time
  match t.servo with
  | .acquiring | .locked => some (chainBudgetNs h * 1000 * psUnit + t.theta.natAbs * 1000000000000)
  | .holdover => t.e0.map (fun e => e + t.driftPs * (t.mono - t.servoSince))
  | .fallback => t.e0.map (fun e => e + ((h.cfg.bloom.map (fun b => b.time.driftPs)).getD t.driftPs) * (t.mono - t.servoSince))
  | .unset | .seeded | .fault => none

/-- The time class of R45. -/
def timeClass (h : Hw) : Nat :=
  if h.time.servo = .unset then 7
  else match errorBound h with
    | none => 6
    | some e =>
      let lim (ns : Nat) : Bool := e ≤ ns * 1000 * psUnit
      if lim 50 then 0 else if lim 100 then 1 else if lim 1000 then 2 else if lim 10000 then 3
      else if lim 100000 then 4 else if lim 1000000 then 5 else 6

/-- C37.118 time quality code of a class (R45). -/
def qualityCode (cls : Nat) : Nat :=
  match cls with
  | 0 => 3 | 1 => 3 | 2 => 4 | 3 => 5 | 4 => 6 | 5 => 7 | _ => 0xF

/-- The IEC 61850 time-quality fields of a frame sent now: by the class, and not synchronised in FALLBACK (R45). -/
def timeQuality (h : Hw) : TimeQuality :=
  let c := timeClass h
  { accuracy := match c with | 0 => 24 | 1 => 23 | 2 => 19 | 3 => 16 | 4 => 13 | 5 => 9 | _ => 31
    notSynchronized := 6 ≤ c || h.time.servo == .fallback
    failure := c == 7 }

/-- E in ns, truncated, all ones where it is unknown (log 60). -/
def errorNs (h : Hw) : Nat := match errorBound h with | some e => sat32 (e / (1000 * psUnit)) | none => 0xFFFFFFFF

/-- UTC offset, leap61 and leap59 that the sources of R28 give, in their order; IRIG-B counts while it is the selected source. -/
def utcSource (h : Hw) : Nat × Bool × Bool :=
  match h.time.utcPtp with
  | some u => u
  | none => match (if h.time.source = 2 then h.time.utcIrig else none) with
    | some u => u
    | none => match h.time.utcSet with
      | some o => (o, false, false)
      | none => ((h.cfg.bloom.map (fun b => b.time.utcOffset)).getD 37, false, false)

/-- The source of UTC in use is one that supplies leap flags: a PTP parent or IRIG-B (R28). -/
def utcFlagged (h : Hw) : Bool := h.time.utcPtp.isSome || (h.time.source == 2 && h.time.utcIrig.isSome)

/-- The leap second noted, while a source that supplies leap flags is in use (R28). -/
def notedLeap (h : Hw) : Option (Nat × Nat × Bool) := if utcFlagged h then h.time.leap else none

/-- TAI second at which the UTC day of TAI second `t` ends, under an offset. -/
def utcDayEnd (off t : Nat) : Nat := ((t - off) / 86400 + 1) * 86400 + off

/-- A leap second ends before TAI second `t`: once an inserted second has ended, or from a removed one on (R28). -/
def leapPast (inserted : Bool) (m t : Nat) : Bool := if inserted then m < t else m ≤ t + 1

/-- Note a leap second that the source announces for the end of the UTC day; one that has passed stays noted until the
source's offset follows (R28). -/
def noteLeap (h : Hw) : Hw :=
  let (off, l61, l59) := utcSource h
  let t := secOf h.time.now
  let passed := match notedLeap h with | some (m, o, _) => o == off && decide (m ≤ t) | none => false
  if passed then h
  else
    let done := match notedLeap h with | some (m, o, i) => if leapPast i m t then some (m, o, i) else h.time.leapDone | none => h.time.leapDone
    { h with time := { h.time with leap := if l61 || l59 then some (utcDayEnd off t, off, l61) else none, leapDone := done } }

/-- UTC offset, leap61 and leap59 at TAI second `t`, the present or shortly before: once the day of a leap second has ended, the offset
is the next one; for a second before it, the one before (R28, R56). -/
def utcAt (t : Nat) (h : Hw) : Nat × Bool × Bool :=
  let (off, l61, l59) := utcSource h
  match notedLeap h with
  | some (m, o, inserted) =>
    if o = off ∧ leapPast inserted m t then (if inserted then off + 1 else off - 1, false, false) else (off, l61, l59)
  | none => match h.time.leapDone with
    | some (m, o, inserted) => if leapPast inserted m t = false ∧ off = (if inserted then o + 1 else o - 1) then (o, inserted, !inserted) else (off, l61, l59)
    | none => (off, l61, l59)

/-- UTC offset, leap61 and leap59 in use. -/
def utcOf (h : Hw) : Nat × Bool × Bool := utcAt (secOf h.time.now) h

/-- The present second is an inserted one, second 60 of its UTC day (R56). -/
def leapSecond (h : Hw) : Bool :=
  match notedLeap h with
  | some (m, o, inserted) => inserted && o == (utcSource h).1 && m == secOf h.time.now
  | none => false

/-! ### The state word and its publication (R480, R494) -/

/-- The state word of R480. -/
def stateWord (h : Hw) : Nat :=
  modeCode h.mode + h.pair.role * 16 + h.fab.budget.level * 256 + flag h.const.dissenting 10 + flag h.const.suspect 11
  + flag h.cfg.bud.isSome 12 + flag h.cfg.swap.isSome 13 + flag (h.time.servo = .fallback) 14 + flag (osf h) 15
  + flag h.keys.zeroised 16 + flag (h.pair.verdict = 2) 17
  + (if h.mode = .snowdrop then h.boot.snowReason * 2 ^ 24 else 0)

/-- Publish the state word in BAR0: STATE_SEQ advances and STATE_CHANGED rises when it has changed (R494, R496). -/
def publish (h : Hw) : Hw :=
  if h.cmd.word = stateWord h then h
  else
    let h' := { h with cmd := { h.cmd with word := stateWord h, wordSeq := (h.cmd.wordSeq + 1) % 2 ^ 32 } }
    setIrq irqStateChanged h'

/-! ### Replies (R468, R475, R478) -/

/-- Slots of a ring (R495). -/
def ringSlots (r : Ring) : Nat := 2 ^ r.log2Slots

/-- The response ring can take a reply. -/
def rspRoom (h : Hw) : Bool :=
  h.cmd.rspRing.enable && (h.cmd.rspRing.prod + 2 ^ 32 - h.cmd.rspRing.cons) % 2 ^ 32 < ringSlots h.cmd.rspRing

/-- Write a reply to the next response slot, advance RSP_PROD and set RSP_POSTED (R475). -/
def postRsp (r : Reply) (h : Hw) : Hw :=
  let slot := h.cmd.rspRing.prod % ringSlots h.cmd.rspRing
  let h := emit (.reply .pcie (some slot) r) h
  setIrq irqRspPosted { h with cmd := { h.cmd with rspRing := { h.cmd.rspRing with prod := (h.cmd.rspRing.prod + 1) % 2 ^ 32 } } }

/-- Send a reply on the transport its packet came by. On PCIe it waits while the ring is full, so that none is lost. -/
def sendReply (via : Transport) (r : Reply) (h : Hw) : Hw :=
  match via with
  | .pcie =>
    if rspRoom h ∧ h.cmd.waiting = [] then postRsp r h
    else { h with cmd := { h.cmd with waiting := h.cmd.waiting ++ [r] } }
  | v => emit (.reply v none r) h

/-- The 32 bytes of a packet header (R466). -/
def headerBytes (x : Header) : List Byte :=
  le 1 x.version ++ le 1 x.flags ++ le 2 x.opcode ++ le 2 x.tag ++ le 2 x.slice ++ le 4 x.length ++ le 4 x.session ++ le 8 x.sequence ++ le 8 x.reserved

/-- A reply's bytes before its trailer (R468). -/
def replyBytes (r : Reply) : List Byte :=
  headerBytes r.hdr ++ le 2 r.status ++ le 2 r.reason ++ le 4 r.stateWord ++ le 4 r.mask ++ zeros 4 ++ r.payload

/-- The trailer of a reply to a call: none without AUTH, a signature by the IDK for a signed packet, an HMAC under the session
key for a session packet, over the reply before it (R467, R468). -/
def trailerOf (c : Call) (r : Reply) (h : Hw) : Trailer :=
  if !bit c.hdr.flags 1 then .none
  else if c.hdr.session = 0 then .signature (slice (Config.sign (keyValue 8 1 h) (replyBytes r)) 0 132)
  else .hmac (slice (Config.hmac512 c.key (replyBytes r)) 0 32)

/-- The reply of R468 to a call: the request's header with REPLY set, the common fields, the payload and the trailer. -/
def replyOf (c : Call) (status reason mask : Nat) (payload : List Byte) (h : Hw) : Reply :=
  let r : Reply :=
    { hdr := { c.hdr with
        flags := if bit c.hdr.flags 0 then c.hdr.flags else c.hdr.flags + 1
        length := payload.length }
      status := status, reason := reason, stateWord := h.cmd.word, mask := mask, payload := payload }
  { r with trailer := trailerOf c r h }

/-- Answer a call with the state word as published at execution. -/
def answer (c : Call) (mask status reason : Nat) (payload : List Byte) (h : Hw) : Hw :=
  let h := publish h
  sendReply c.via (replyOf c status reason mask payload h) h

/-- Send the completions owed of one kind (R478, R512). -/
def complete (k : CompletionKind) (status reason : Nat) (payload : List Byte) (h : Hw) : Hw :=
  let due := h.cmd.owed.filter (fun o => o.kind == k)
  let h := { h with cmd := { h.cmd with owed := h.cmd.owed.filter (fun o => o.kind != k) } }
  due.foldl (fun h o => answer o.call o.mask status reason payload h) h

/-- Forget the completions owed of one kind: no completion is sent (R490, entry to HALTED). -/
def forget (k : CompletionKind) (h : Hw) : Hw :=
  { h with cmd := { h.cmd with owed := h.cmd.owed.filter (fun o => o.kind != k) } }

/-! ### The grid -/

/-- Grid rate of a Bloom in Hz (R15, R482). -/
def gridHz (grid : Nat) : Nat := if grid = 1 then 14400 else 4800

/-- Grid rate of the Bloom in force. -/
def fGrid (h : Hw) : Nat := gridHz ((h.cfg.bloom.map (fun b => b.grid)).getD 0)

/-- Station time of instant k, in 2^-64 s, rounded down (R98). -/
def instantTime (f k : Nat) : Nat := k * 2 ^ 64 / f

/-! ### The change of state and the abandoning of a swap -/

/-- Change the module state: the state, its 0x0110 record, and the count of uninterrupted SERVING (R479, R499, R522). -/
def setMode (m : ModState) (cause : Nat) (h : Hw) : Hw :=
  let old := h.mode
  let h := { h with mode := m, boot := { h.boot with servingSince := if m = .serving then some h.time.mono else none } }
  evr 0x0110 0x0000 (le 1 (modeCode old) ++ le 1 (modeCode m) ++ le 2 cause ++ zeros 4 ++ nowBytes h) h

/-- The payload of R489: the laggard's region, block and vote reason, and the target instant. -/
def swapPayload (region block reason ks : Nat) : List Byte :=
  le 1 region ++ le 1 block ++ le 2 reason ++ zeros 4 ++ le 8 ks

/-- Abandon a pending swap in every region: completion ST_SWAP_ABORTED, CODE 0x0211 (R489, R490, R499). -/
def abortSwap (reason region block voteReason : Nat) (h : Hw) : Hw :=
  match h.cfg.swap with
  | none => h
  | some w =>
    let pay := swapPayload region block voteReason w.ks
    let h := { h with cfg := { h.cfg with swap := none, lastReason := reason, aborts := inc32 h.cfg.aborts } }
    let fp := (h.cfg.bud.map (fun i => i.fingerprint)).getD (zeros 16)
    let h := evr 0x0211 0x0000 (pay ++ le 4 h.cfg.bloomSeq ++ fp) h
    complete .swap stSwapAborted reason pay h

/-- A unit holds the ball SQW_TRIGOUT3: it is armed with target 8, or its last pulse is in progress. -/
def drivesTrigOut3 (u : Teu) : Bool := (u.armed || u.pulse.isSome) && u.cfg.target == 8

/-- The owner R80 gives SQW_TRIGOUT3: 1 the square wave, 2 a time event unit, 0 low. -/
def sqwOwnerOf (h : Hw) : Nat :=
  if (h.mode = .boot ∨ h.mode = .snowdrop ∨ h.mode = .test) ∧ sqwSel h.rtc.status ≠ 0 then 1
  else if h.mode = .serving ∧ h.time.teus.any (fun e => drivesTrigOut3 e.2) then 2
  else 0

/-- TIME cycles between two edges of the 32.768 kHz oscillator, times 128: 500 MHz / 32,768 Hz (R69). -/
def edgeCycles : Nat := 1953125

/-- The square wave's level: high in the first half of each period, which begins where FRAC15 is a multiple of 32,768 / f (R80). -/
def sqwLevel (h : Hw) : Bool :=
  match sqwSel h.rtc.status with
  | 1 => decide (h.rtc.count % 32768 < 16384)
  | 2 => decide (h.rtc.count % 8 < 4)
  | 3 => decide (h.rtc.phase * 2 < edgeCycles) && !h.rtc.oscStopped
  | _ => false

/-- The level of SQW_TRIGOUT3: the owner's, and low for 1 ms at a change of owner (R80, R81). -/
def trigOut3Level (h : Hw) : Bool :=
  if h.time.mono < h.rtc.sqwLowUntil then false
  else if h.rtc.sqwOwner = 1 then sqwLevel h
  else if h.rtc.sqwOwner = 2 then
    match h.time.teus.find? (fun e => drivesTrigOut3 e.2) with
    | some (_, u) => u.pulse.isSome != u.cfg.activeLow
    | none => false
  else false

/-- Settle the ball's owner; a change passes through 1 ms of low (R81). -/
def settleOwner (h : Hw) : Hw :=
  let o := sqwOwnerOf h
  if o = h.rtc.sqwOwner then h
  else { h with rtc := { h.rtc with sqwOwner := o, sqwLowUntil := h.time.mono + nsUnits 1000000 } }

/-- Drive SQW_TRIGOUT3 to its level. -/
def driveTrigOut3 (h : Hw) : Hw :=
  let l := trigOut3Level h
  if l = h.rtc.sqwBall then h else emit (.trigOut3 l) { h with rtc := { h.rtc with sqwBall := l } }

/-- Settle the ball: its owner, then its level. -/
def settleSqw (h : Hw) : Hw := driveTrigOut3 (settleOwner h)

/-- What every step ends with: the frames put out go to the switch, the ball's owner settled and the state word published. -/
def settle (h : Hw) : Hw := publish (settleSqw (carry h))

/-- What an event row does when its own condition does not hold: there is no such event, and nothing changes (log 7). -/
def onlyIf (b : Bool) (f : Hw → Hw) (h : Hw) : Hw := if b then f h else h

/-- Apply an event's effect to the hardware and publish the state word; the queue is not touched. -/
def lift (f : Hw → Hw) (s : State) : Host.Outcome State Fault Refusal :=
  .next { s with hw := settle (f s.hw) }

end Sys2Proof.Machine
end

