-- ==== Sys2Proof/Machine/ConstOps.lean ====
section
/-! DEFINITION. The gates of peers (R411): which data of a peer the module takes. -/
namespace Sys2Proof.Machine

/-- The constellation section of the Bloom in force. -/
def constOf (h : Hw) : Option ConstSection := h.cfg.bloom.bind (fun b => b.constellation)

/-- The peer to which a stream, a receive trigger group or a location line is bound. -/
def boundPeer (sel : PeerBinding → List Nat) (x : Nat) (h : Hw) : Option Nat :=
  (constOf h).bind (fun c => (c.bindings.find? (fun b => (sel b).contains x)).map (fun b => b.peer))

/-- A peer's gate is closed; without a section no data of other modules passes (R400, R411). -/
def gateClosed (peer : Nat) (h : Hw) : Bool :=
  (constOf h).isNone || h.const.dissenting
    || (match tfind h.const.peers peer with | none => true | some p => p.absent || p.dissenting)

/-- Either side is TIME-SUSPECT (R411). -/
def suspectEither (peer : Nat) (h : Hw) : Bool :=
  h.const.suspect || (match tfind h.const.peers peer with | none => false | some p => p.suspect)

/-- The frames of a stream bound to a peer are dropped (R411). -/
def streamShut (s : Nat) (h : Hw) : Bool :=
  match boundPeer (fun b => b.streams) s h with
  | none => false
  | some p => gateClosed p h || suspectEither p h

end Sys2Proof.Machine
end

