-- ==== Sys2Proof/Machine/Catalogue.lean ====
section
/-! DEFINITION. The command catalogue (R501, R502, R508 to R511): one row per opcode. -/
namespace Sys2Proof.Machine

/-- The parameter length that step 5 of R469 accepts (R502). -/
inductive ParamLen where
  /-- A fixed length. -/
  | fixed (n : Nat)
  /-- `base` bytes and `mult` bytes for each of the field of `size` bytes at offset `off`. -/
  | plus (base mult off size : Nat)
  /-- 8 bytes and 8 for each of the upper and lower vertices of `ACQ.MASK_SET`. -/
  | vertices
  deriving DecidableEq, Repr

/-- The length the formula gives on these parameters. -/
def paramLength (l : ParamLen) (p : List Byte) : Nat :=
  match l with
  | .fixed n => n
  | .plus b m o k => b + m * fld p o k
  | .vertices => 8 + 8 * (u8 p 4 + u8 p 5)

/-- A row of the catalogue: opcode, privilege, legal-state mask, parameter length and the marks s and a. -/
structure CatRow where
  opcode : Nat
  priv : Nat
  mask : Nat
  len : ParamLen
  sliceScoped : Bool := false
  aedgen : Bool := false
  deriving DecidableEq, Repr

/-- An expert opcode has a low byte of 0x80 to 0xFF (R472). -/
def rowExpert (r : CatRow) : Bool := 0x80 ≤ r.opcode % 256

/-- MOD.IDENTIFY (R508 to R511). -/
def rowModIdentify : CatRow := ⟨0x0101, 0, 0x00F8, .fixed 0, true, true⟩
/-- MOD.SET_STATE (R508 to R511). -/
def rowModSetState : CatRow := ⟨0x0102, 1, 0x00E0, .fixed 4, false, true⟩
/-- MOD.SESSION_OPEN (R508 to R511). -/
def rowModSessionOpen : CatRow := ⟨0x0103, 0, 0x00F8, .fixed 176, true, true⟩
/-- MOD.SESSION_CLOSE (R508 to R511). -/
def rowModSessionClose : CatRow := ⟨0x0104, 0, 0x00F8, .fixed 4, true, true⟩
/-- MOD.RESET (R508 to R511). -/
def rowModReset : CatRow := ⟨0x0105, 3, 0x0038, .fixed 4, false, false⟩
/-- CFG.STATUS (R508 to R511). -/
def rowCfgStatus : CatRow := ⟨0x0201, 0, 0x00F0, .fixed 0, false, false⟩
/-- CFG.LOAD (R508 to R511). -/
def rowCfgLoad : CatRow := ⟨0x0202, 3, 0x00F0, .plus 16 1 8 4, false, false⟩
/-- CFG.SWAP (R508 to R511). -/
def rowCfgSwap : CatRow := ⟨0x0203, 3, 0x00F0, .fixed 16, false, false⟩
/-- CFG.SWAP_CANCEL (R508 to R511). -/
def rowCfgSwapCancel : CatRow := ⟨0x0204, 3, 0x00F0, .fixed 0, false, false⟩
/-- CFG.FN_ENABLE (R508 to R511). -/
def rowCfgFnEnable : CatRow := ⟨0x0205, 3, 0x00E0, .fixed 8, true, false⟩
/-- CFG.CHECK (R508 to R511). -/
def rowCfgCheck : CatRow := ⟨0x0206, 0, 0x00F0, .fixed 0, false, false⟩
/-- TIME.STATUS (R508 to R511). -/
def rowTimeStatus : CatRow := ⟨0x0301, 0, 0x00F0, .fixed 0, false, true⟩
/-- TIME.READ (R508 to R511). -/
def rowTimeRead : CatRow := ⟨0x0302, 0, 0x00F0, .fixed 0, true, true⟩
/-- TIME.SET (R508 to R511). -/
def rowTimeSet : CatRow := ⟨0x0303, 1, 0x0030, .fixed 16, false, false⟩
/-- TIME.PROFILE (R508 to R511). -/
def rowTimeProfile : CatRow := ⟨0x0304, 3, 0x0010, .fixed 8, false, false⟩
/-- TIME.TEU_CONFIG (R508 to R511). -/
def rowTimeTeuConfig : CatRow := ⟨0x0305, 1, 0x00F0, .fixed 40, false, false⟩
/-- TIME.TEU_STOP (R508 to R511). -/
def rowTimeTeuStop : CatRow := ⟨0x0306, 1, 0x00F0, .fixed 4, false, false⟩
/-- TIME.CAPTURE_READ (R508 to R511). -/
def rowTimeCaptureRead : CatRow := ⟨0x0307, 0, 0x00F0, .fixed 4, false, false⟩
/-- TIME.SERVO_SET (R508 to R511). -/
def rowTimeServoSet : CatRow := ⟨0x0381, 2, 0x0030, .fixed 16, false, false⟩
/-- TIME.SET_INCREMENT (R508 to R511). -/
def rowTimeSetIncrement : CatRow := ⟨0x0382, 2, 0x00E0, .fixed 8, false, false⟩
/-- TIME.PORT_SET (R508 to R511). -/
def rowTimePortSet : CatRow := ⟨0x0383, 2, 0x0030, .fixed 16, false, false⟩
/-- TIME.IO_DELAY_SET (R508 to R511). -/
def rowTimeIoDelaySet : CatRow := ⟨0x0384, 2, 0x0030, .fixed 8, false, false⟩
/-- RTC.STATUS (R508 to R511). -/
def rowRtcStatus : CatRow := ⟨0x0401, 0, 0x00F8, .fixed 4, false, true⟩
/-- RTC.SET (R508 to R511). -/
def rowRtcSet : CatRow := ⟨0x0402, 1, 0x0038, .fixed 8, false, true⟩
/-- RTC.CLEAR_OSF (R508 to R511). -/
def rowRtcClearOsf : CatRow := ⟨0x0403, 1, 0x0038, .fixed 0, false, false⟩
/-- RTC.CAPTURE (R508 to R511). -/
def rowRtcCapture : CatRow := ⟨0x0404, 0, 0x00F8, .fixed 0, false, false⟩
/-- RTC.SHIFT (R508 to R511). -/
def rowRtcShift : CatRow := ⟨0x0405, 1, 0x00F8, .fixed 4, false, false⟩
/-- RTC.ALARM_SET (R508 to R511). -/
def rowRtcAlarmSet : CatRow := ⟨0x0406, 1, 0x00F8, .fixed 16, false, false⟩
/-- RTC.WAKE_SET (R508 to R511). -/
def rowRtcWakeSet : CatRow := ⟨0x0407, 1, 0x00F8, .fixed 4, false, false⟩
/-- RTC.SQW_SET (R508 to R511). -/
def rowRtcSqwSet : CatRow := ⟨0x0408, 1, 0x00F8, .fixed 4, false, false⟩
/-- RTC.DISCIPLINE_SET (R508 to R511). -/
def rowRtcDisciplineSet : CatRow := ⟨0x0481, 2, 0x0030, .fixed 4, false, false⟩
/-- INGEST.STATUS (R508 to R511). -/
def rowIngestStatus : CatRow := ⟨0x0501, 0, 0x00F0, .fixed 0, false, true⟩
/-- INGEST.STREAM_STATUS (R508 to R511). -/
def rowIngestStreamStatus : CatRow := ⟨0x0502, 0, 0x00E0, .fixed 4, false, false⟩
/-- INGEST.PORT_COUNTERS (R508 to R511). -/
def rowIngestPortCounters : CatRow := ⟨0x0503, 0, 0x00E0, .fixed 4, false, false⟩
/-- INGEST.ROW_READ (R508 to R511). -/
def rowIngestRowRead : CatRow := ⟨0x0504, 0, 0x00E0, .fixed 16, false, false⟩
/-- INGEST.BLOCK (R508 to R511). -/
def rowIngestBlock : CatRow := ⟨0x0505, 1, 0x00E0, .fixed 4, false, false⟩
/-- INGEST.SIM_SET (R508 to R511). -/
def rowIngestSimSet : CatRow := ⟨0x0506, 1, 0x0080, .fixed 4, false, false⟩
/-- INGEST.STREAM_TUNE (R508 to R511). -/
def rowIngestStreamTune : CatRow := ⟨0x0581, 2, 0x00E0, .fixed 24, false, false⟩
/-- SPEC.STATUS (R508 to R511). -/
def rowSpecStatus : CatRow := ⟨0x0601, 0, 0x00E0, .fixed 4, true, false⟩
/-- SPEC.SET (R508 to R511). -/
def rowSpecSet : CatRow := ⟨0x0602, 1, 0x00E0, .fixed 4, true, false⟩
/-- SPEC.TUNE (R508 to R511). -/
def rowSpecTune : CatRow := ⟨0x0681, 2, 0x00E0, .fixed 12, true, false⟩
/-- LOOP.STATUS (R508 to R511). -/
def rowLoopStatus : CatRow := ⟨0x0701, 0, 0x00E0, .fixed 4, false, false⟩
/-- LOOP.PROFILE (R508 to R511). -/
def rowLoopProfile : CatRow := ⟨0x0702, 1, 0x00E0, .fixed 4, false, false⟩
/-- LOOP.RESET (R508 to R511). -/
def rowLoopReset : CatRow := ⟨0x0703, 1, 0x00E0, .fixed 4, false, false⟩
/-- LOOP.MEMORY_READ (R508 to R511). -/
def rowLoopMemoryRead : CatRow := ⟨0x0704, 0, 0x00E0, .fixed 8, false, false⟩
/-- LOOP.TUNE (R508 to R511). -/
def rowLoopTune : CatRow := ⟨0x0781, 2, 0x00E0, .fixed 64, false, false⟩
/-- FILT.STATUS (R508 to R511). -/
def rowFiltStatus : CatRow := ⟨0x0801, 0, 0x00E0, .fixed 4, true, false⟩
/-- FILT.START (R508 to R511). -/
def rowFiltStart : CatRow := ⟨0x0802, 1, 0x00E0, .fixed 4, true, false⟩
/-- FILT.STOP (R508 to R511). -/
def rowFiltStop : CatRow := ⟨0x0803, 1, 0x00E0, .fixed 4, true, false⟩
/-- FILT.PROFILE (R508 to R511). -/
def rowFiltProfile : CatRow := ⟨0x0804, 1, 0x00E0, .fixed 4, true, false⟩
/-- FILT.THRESHOLD_SET (R508 to R511). -/
def rowFiltThresholdSet : CatRow := ⟨0x0805, 1, 0x00E0, .fixed 16, true, false⟩
/-- FILT.READ (R508 to R511). -/
def rowFiltRead : CatRow := ⟨0x0806, 0, 0x00E0, .fixed 16, true, false⟩
/-- FILT.STAGE_SET (R508 to R511). -/
def rowFiltStageSet : CatRow := ⟨0x0881, 2, 0x00E0, .fixed 16, true, false⟩
/-- FILT.COEF_LOAD (R508 to R511). -/
def rowFiltCoefLoad : CatRow := ⟨0x0882, 2, 0x00E0, .plus 8 4 4 2, true, false⟩
/-- ACQ.STATUS (R508 to R511). -/
def rowAcqStatus : CatRow := ⟨0x0901, 0, 0x00E0, .fixed 4, true, false⟩
/-- ACQ.LINK_STATUS (R508 to R511). -/
def rowAcqLinkStatus : CatRow := ⟨0x0902, 0, 0x00F0, .fixed 4, false, false⟩
/-- ACQ.ARM (R508 to R511). -/
def rowAcqArm : CatRow := ⟨0x0903, 1, 0x00E0, .fixed 4, true, false⟩
/-- ACQ.STOP (R508 to R511). -/
def rowAcqStop : CatRow := ⟨0x0904, 1, 0x00E0, .fixed 4, true, false⟩
/-- ACQ.TRIGGER (R508 to R511). -/
def rowAcqTrigger : CatRow := ⟨0x0905, 1, 0x00E0, .fixed 24, true, false⟩
/-- ACQ.RECORD_READ (R508 to R511). -/
def rowAcqRecordRead : CatRow := ⟨0x0906, 0, 0x00E0, .fixed 12, true, false⟩
/-- ACQ.RECORD_LOCK (R508 to R511). -/
def rowAcqRecordLock : CatRow := ⟨0x0907, 1, 0x00E0, .fixed 8, true, false⟩
/-- ACQ.PROFILE (R508 to R511). -/
def rowAcqProfile : CatRow := ⟨0x0908, 1, 0x00E0, .fixed 4, true, false⟩
/-- ACQ.CAPTURE_SET (R508 to R511). -/
def rowAcqCaptureSet : CatRow := ⟨0x0981, 2, 0x00E0, .fixed 64, true, false⟩
/-- ACQ.MASK_SET (R508 to R511). -/
def rowAcqMaskSet : CatRow := ⟨0x0982, 2, 0x00E0, .vertices, true, false⟩
/-- ACQ.LINK_SET (R508 to R511). -/
def rowAcqLinkSet : CatRow := ⟨0x0983, 2, 0x0030, .fixed 24, false, false⟩
/-- PHASOR.STATUS (R508 to R511). -/
def rowPhasorStatus : CatRow := ⟨0x0A01, 0, 0x00E0, .fixed 4, false, false⟩
/-- PHASOR.STREAM_SET (R508 to R511). -/
def rowPhasorStreamSet : CatRow := ⟨0x0A02, 1, 0x00E0, .fixed 4, false, false⟩
/-- PHASOR.READ (R508 to R511). -/
def rowPhasorRead : CatRow := ⟨0x0A03, 0, 0x00E0, .fixed 16, false, false⟩
/-- LOC.STATUS (R508 to R511). -/
def rowLocStatus : CatRow := ⟨0x0A04, 0, 0x00E0, .fixed 4, false, false⟩
/-- LOC.RESULT_READ (R508 to R511). -/
def rowLocResultRead : CatRow := ⟨0x0A05, 0, 0x00E0, .fixed 8, false, false⟩
/-- LOC.ARRIVAL_READ (R508 to R511). -/
def rowLocArrivalRead : CatRow := ⟨0x0A06, 0, 0x00E0, .fixed 8, false, false⟩
/-- LOC.ARRIVAL_SUBMIT (R508 to R511). -/
def rowLocArrivalSubmit : CatRow := ⟨0x0A07, 1, 0x00C0, .fixed 128, false, false⟩
/-- PHASOR.TUNE (R508 to R511). -/
def rowPhasorTune : CatRow := ⟨0x0A81, 2, 0x00E0, .fixed 16, false, false⟩
/-- LOC.LINE_SET (R508 to R511). -/
def rowLocLineSet : CatRow := ⟨0x0A82, 2, 0x00E0, .fixed 32, false, false⟩
/-- FABRIC.STATUS (R508 to R511). -/
def rowFabricStatus : CatRow := ⟨0x0B01, 0, 0x00F0, .fixed 4, false, false⟩
/-- FABRIC.PROFILE (R508 to R511). -/
def rowFabricProfile : CatRow := ⟨0x0B02, 1, 0x00E0, .fixed 4, false, false⟩
/-- BUDGET.STATUS (R508 to R511). -/
def rowBudgetStatus : CatRow := ⟨0x0B03, 0, 0x00F0, .fixed 4, false, false⟩
/-- BUDGET.SET (R508 to R511). -/
def rowBudgetSet : CatRow := ⟨0x0B04, 1, 0x00F0, .fixed 4, false, false⟩
/-- FABRIC.TUNE (R508 to R511). -/
def rowFabricTune : CatRow := ⟨0x0B81, 2, 0x00E0, .fixed 32, false, false⟩
/-- BUDGET.THRESHOLDS (R508 to R511). -/
def rowBudgetThresholds : CatRow := ⟨0x0B82, 2, 0x0030, .fixed 16, false, false⟩
/-- BUDGET.FORCE (R508 to R511). -/
def rowBudgetForce : CatRow := ⟨0x0B83, 2, 0x00E0, .fixed 4, false, false⟩
/-- SLICE.STATUS (R508 to R511). -/
def rowSliceStatus : CatRow := ⟨0x0C01, 0, 0x00F0, .fixed 4, true, false⟩
/-- SLICE.QUIESCE (R508 to R511). -/
def rowSliceQuiesce : CatRow := ⟨0x0C02, 3, 0x00E0, .fixed 4, false, false⟩
/-- SLICE.RESUME (R508 to R511). -/
def rowSliceResume : CatRow := ⟨0x0C03, 3, 0x00E0, .fixed 4, false, false⟩
/-- SLICE.RESET (R508 to R511). -/
def rowSliceReset : CatRow := ⟨0x0C04, 3, 0x00E0, .fixed 4, false, false⟩
/-- SLICE.PROFILE (R508 to R511). -/
def rowSliceProfile : CatRow := ⟨0x0C05, 1, 0x00E0, .fixed 4, false, false⟩
/-- SLICE.LIMITS (R508 to R511). -/
def rowSliceLimits : CatRow := ⟨0x0C81, 2, 0x00E0, .fixed 24, false, false⟩
/-- CYCLE.STATUS (R508 to R511). -/
def rowCycleStatus : CatRow := ⟨0x0D01, 0, 0x00E0, .fixed 4, false, false⟩
/-- CYCLE.START (R508 to R511). -/
def rowCycleStart : CatRow := ⟨0x0D02, 1, 0x00C0, .fixed 4, false, false⟩
/-- CYCLE.STOP (R508 to R511). -/
def rowCycleStop : CatRow := ⟨0x0D03, 1, 0x00C0, .fixed 4, false, false⟩
/-- CYCLE.STATION_STATUS (R508 to R511). -/
def rowCycleStationStatus : CatRow := ⟨0x0D04, 0, 0x00E0, .fixed 4, false, false⟩
/-- CYCLE.READ (R508 to R511). -/
def rowCycleRead : CatRow := ⟨0x0D05, 0, 0x00C0, .plus 8 8 1 1, false, false⟩
/-- CYCLE.PROFILE (R508 to R511). -/
def rowCycleProfile : CatRow := ⟨0x0D06, 1, 0x00E0, .fixed 4, false, false⟩
/-- CYCLE.WRITE (R508 to R511). -/
def rowCycleWrite : CatRow := ⟨0x0D07, 1, 0x00C0, .plus 8 16 1 1, false, false⟩
/-- CYCLE.TUNE (R508 to R511). -/
def rowCycleTune : CatRow := ⟨0x0D81, 2, 0x00E0, .fixed 24, false, false⟩
/-- CYCLE.FORCE (R508 to R511). -/
def rowCycleForce : CatRow := ⟨0x0D82, 2, 0x00C0, .fixed 24, false, false⟩
/-- NET.STATUS (R508 to R511). -/
def rowNetStatus : CatRow := ⟨0x0E01, 0, 0x00F8, .fixed 4, false, false⟩
/-- NET.PORT_STATUS (R508 to R511). -/
def rowNetPortStatus : CatRow := ⟨0x0E02, 0, 0x00F8, .fixed 4, false, false⟩
/-- NET.NODE_READ (R508 to R511). -/
def rowNetNodeRead : CatRow := ⟨0x0E03, 0, 0x00E0, .fixed 8, false, false⟩
/-- NET.MIRROR_SET (R508 to R511). -/
def rowNetMirrorSet : CatRow := ⟨0x0E04, 1, 0x00F0, .fixed 16, false, false⟩
/-- NET.MIRROR_READ (R508 to R511). -/
def rowNetMirrorRead : CatRow := ⟨0x0E05, 0, 0x00F0, .fixed 8, false, false⟩
/-- NET.PORT_ENABLE (R508 to R511). -/
def rowNetPortEnable : CatRow := ⟨0x0E06, 1, 0x0030, .fixed 4, false, false⟩
/-- NET.TUNE (R508 to R511). -/
def rowNetTune : CatRow := ⟨0x0E81, 2, 0x00F0, .fixed 24, false, false⟩
/-- NET.AGEING_SET (R508 to R511). -/
def rowNetAgeingSet : CatRow := ⟨0x0E82, 2, 0x00F0, .fixed 32, false, false⟩
/-- PAIR.STATUS (R508 to R511). -/
def rowPairStatus : CatRow := ⟨0x0F01, 0, 0x00F0, .fixed 4, false, false⟩
/-- PAIR.SWITCH (R508 to R511). -/
def rowPairSwitch : CatRow := ⟨0x0F02, 1, 0x00C0, .fixed 0, false, false⟩
/-- PAIR.STAGE_READ (R508 to R511). -/
def rowPairStageRead : CatRow := ⟨0x0F03, 0, 0x00E0, .fixed 4, false, false⟩
/-- PAIR.TUNE (R508 to R511). -/
def rowPairTune : CatRow := ⟨0x0F81, 2, 0x00E0, .fixed 16, false, false⟩
/-- CONST.STATUS (R508 to R511). -/
def rowConstStatus : CatRow := ⟨0x1001, 0, 0x00F0, .fixed 4, false, false⟩
/-- CONST.PEER_READ (R508 to R511). -/
def rowConstPeerRead : CatRow := ⟨0x1002, 0, 0x00E0, .fixed 8, false, false⟩
/-- CONST.MANIFEST_LOAD (R508 to R511). -/
def rowConstManifestLoad : CatRow := ⟨0x1003, 3, 0x00E0, .plus 16 1 8 4, false, false⟩
/-- CONST.MANIFEST_READ (R508 to R511). -/
def rowConstManifestRead : CatRow := ⟨0x1004, 0, 0x00E0, .fixed 8, false, false⟩
/-- CONST.TUNE (R508 to R511). -/
def rowConstTune : CatRow := ⟨0x1081, 2, 0x00E0, .fixed 16, false, false⟩
/-- KEY.STATUS (R508 to R511). -/
def rowKeyStatus : CatRow := ⟨0x1101, 0, 0x00F8, .fixed 0, false, true⟩
/-- KEY.INFO (R508 to R511). -/
def rowKeyInfo : CatRow := ⟨0x1102, 0, 0x00F0, .fixed 4, true, false⟩
/-- KEY.PUBLIC_READ (R508 to R511). -/
def rowKeyPublicRead : CatRow := ⟨0x1103, 0, 0x00F8, .fixed 8, true, false⟩
/-- KEY.DERIVE (R508 to R511). -/
def rowKeyDerive : CatRow := ⟨0x1104, 3, 0x00F0, .plus 8 1 6 2, true, false⟩
/-- KEY.IMPORT (R508 to R511). -/
def rowKeyImport : CatRow := ⟨0x1105, 3, 0x00F0, .plus 212 1 6 2, true, false⟩
/-- KEY.STAGE (R508 to R511). -/
def rowKeyStage : CatRow := ⟨0x1106, 3, 0x00F0, .fixed 344, true, false⟩
/-- KEY.VERIFY (R508 to R511). -/
def rowKeyVerify : CatRow := ⟨0x1107, 3, 0x00F0, .fixed 16, true, false⟩
/-- KEY.COMMIT (R508 to R511). -/
def rowKeyCommit : CatRow := ⟨0x1108, 3, 0x00F0, .fixed 4, true, false⟩
/-- KEY.ABANDON (R508 to R511). -/
def rowKeyAbandon : CatRow := ⟨0x1109, 3, 0x00F0, .fixed 4, true, false⟩
/-- KEY.INVALIDATE (R508 to R511). -/
def rowKeyInvalidate : CatRow := ⟨0x110A, 3, 0x00F0, .fixed 4, true, false⟩
/-- KEY.ATTEST (R508 to R511). -/
def rowKeyAttest : CatRow := ⟨0x110B, 0, 0x00F8, .fixed 40, true, false⟩
/-- KEY.AEDGEN_UPDATE (R508 to R511). -/
def rowKeyAedgenUpdate : CatRow := ⟨0x1110, 3, 0x00F0, .fixed 416, false, true⟩
/-- KEY.KAT_RUN (R508 to R511). -/
def rowKeyKatRun : CatRow := ⟨0x1181, 2, 0x00F0, .fixed 0, false, false⟩
/-- LUPIN.STATUS (R508 to R511). -/
def rowLupinStatus : CatRow := ⟨0x1201, 0, 0x00F0, .fixed 0, false, false⟩
/-- LUPIN.SNAPSHOT_READ (R508 to R511). -/
def rowLupinSnapshotRead : CatRow := ⟨0x1202, 0, 0x00F0, .fixed 8, false, false⟩
/-- LUPIN.LOG_READ (R508 to R511). -/
def rowLupinLogRead : CatRow := ⟨0x1203, 0, 0x00F0, .fixed 8, false, false⟩
/-- LUPIN.IDENTITY (R508 to R511). -/
def rowLupinIdentity : CatRow := ⟨0x1204, 0, 0x00F0, .fixed 0, false, false⟩
/-- LUPIN.UPDATE_OFFER (R508 to R511). -/
def rowLupinUpdateOffer : CatRow := ⟨0x1281, 3, 0x0030, .plus 16 1 8 4, false, false⟩
/-- EVR.STATUS (R508 to R511). -/
def rowEvrStatus : CatRow := ⟨0x1301, 0, 0x00F8, .fixed 4, false, true⟩
/-- EVR.READ (R508 to R511). -/
def rowEvrRead : CatRow := ⟨0x1302, 0, 0x00F8, .fixed 16, false, false⟩
/-- EVR.SAVED_READ (R508 to R511). -/
def rowEvrSavedRead : CatRow := ⟨0x1303, 0, 0x00F8, .fixed 8, false, false⟩
/-- EVR.MARK (R508 to R511). -/
def rowEvrMark : CatRow := ⟨0x1304, 1, 0x00F0, .fixed 48, true, false⟩
/-- DIAG.STATUS (R508 to R511). -/
def rowDiagStatus : CatRow := ⟨0x1401, 0, 0x00F8, .fixed 4, false, false⟩
/-- DIAG.FAULT_READ (R508 to R511). -/
def rowDiagFaultRead : CatRow := ⟨0x1402, 0, 0x00F0, .fixed 8, false, false⟩
/-- DIAG.SELFTEST (R508 to R511). -/
def rowDiagSelftest : CatRow := ⟨0x1403, 1, 0x00E0, .fixed 4, false, false⟩
/-- DIAG.QUARANTINE (R508 to R511). -/
def rowDiagQuarantine : CatRow := ⟨0x1481, 3, 0x00E0, .fixed 8, false, false⟩
/-- DIAG.INJECT (R508 to R511). -/
def rowDiagInject : CatRow := ⟨0x1482, 3, 0x0080, .fixed 16, false, false⟩
/-- DIAG.FW_LOAD (R508 to R511). -/
def rowDiagFwLoad : CatRow := ⟨0x1483, 3, 0x0038, .plus 16 1 8 4, false, false⟩

end Sys2Proof.Machine
end

