-- ==== Sys2Proof/Machine/Operands.lean ====
section
/-! DEFINITION. How a catalogue command is checked and answered: steps 4 to 9 of R469 in order, then the command's own effect. -/
namespace Sys2Proof.Machine

/-- What a command's own chapter answers. -/
inductive CmdResult where
  /-- ST_OK with its reply payload. -/
  | ok (h : Hw) (payload : List Byte)
  /-- ST_ACCEPTED; a completion follows (R512). -/
  | accepted (h : Hw) (k : CompletionKind)
  /-- Refused with a status, a reason and a reason payload; no side effect (R469). -/
  | refuse (status reason : Nat) (payload : List Byte)
  /-- Refused with a status, a reason and a reason payload, where the owning rule counts or records the refusal. -/
  | refuseIn (h : Hw) (status reason : Nat) (payload : List Byte)
  /-- The command waits for the sealed key table and replies later (R429). -/
  | later (h : Hw)

/-- ST_OK without a payload. -/
def done (h : Hw) : CmdResult := .ok h []

/-- A refusal without a reason payload. -/
def no (status reason : Nat) : CmdResult := .refuse status reason []

/-- A command of the catalogue: its row, the checks that its chapter places in steps 6 to 9, and its effect. -/
structure Cmd where
  row : CatRow
  /-- The command names an unpopulated region, or Hollyhock where it is absent (R5). -/
  absent : Call → List Byte → Hw → Bool := fun _ _ _ => false
  /-- For a principal scoped to slice n: the object named belongs to slice n (R503). -/
  inScope : Nat → Call → List Byte → Hw → Bool := fun _ _ _ _ => true
  /-- Reason of a state refusal (R481). -/
  stateReason : Nat := rcModStateIllegal
  /-- Offsets and sizes of the reserved parameter fields (R9). -/
  reserved : List (Nat × Nat) := []
  /-- Reserved bits of parameter fields, as offset, size and mask (R9). -/
  reservedBits : List (Nat × Nat × Nat) := []
  body : Call → List Byte → Hw → CmdResult

/-- Every reserved field and bit of the parameters is zero (R9). -/
def reservedOk (m : Cmd) (p : List Byte) : Bool :=
  m.reserved.all (fun e => zeroAt p e.1 e.2) && m.reservedBits.all (fun e => fld p e.1 e.2.1 &&& e.2.2 == 0)

/-- The state is in the legal-state mask (R481, R501). -/
def legal (mask : Nat) (h : Hw) : Bool := bit mask (modeCode h.mode)

/-- Scope of R503: a scoped principal needs the mark s, its own slice in the header, and an object of its slice. -/
def scopeOk (m : Cmd) (c : Call) (p : List Byte) (h : Hw) : Bool :=
  match c.scope with
  | none => true
  | some n => m.row.sliceScoped && c.hdr.slice == n && m.inScope n c p h

/-- Steps 4 to 9 of R469 up to the owning chapter: the status and reason of the first failure. -/
def gate (m : Cmd) (c : Call) (p : List Byte) (h : Hw) : Option (Nat × Nat) :=
  if c.hdr.version = 1 ∧ m.row.aedgen = false then some (stUnknownOpcode, rcModOpcode)
  else if p.length ≠ paramLength m.row.len p then some (stBadLength, rcModLength)
  else if c.privilege < m.row.priv then some (stDenied, rcModPrivilege)
  else if rowExpert m.row = true ∧ bit c.hdr.flags 3 = false then some (stDenied, rcModExpertFlag)
  else if scopeOk m c p h = false then some (stDenied, rcModScope)
  else if m.absent c p h then some (stAbsent, rcModAbsent)
  else if legal m.row.mask h = false then some (stStateRefused, m.stateReason)
  else if reservedOk m p = false then some (stBadParam, rcModReserved)
  else none

/-- Run a command: refuse it at its first failing check, or take its effect and reply (R469, R478). -/
def runCmd (m : Cmd) (c : Call) (p : List Byte) (h : Hw) : Hw :=
  match gate m c p h with
  | some (st, rc) => answer c m.row.mask st rc [] h
  | none => match m.body c p h with
    | .ok h' pay => answer c m.row.mask stOk 0 pay h'
    | .accepted h' k =>
      answer c m.row.mask stAccepted 0 [] { h' with cmd := { h'.cmd with owed := h'.cmd.owed ++ [{ call := c, mask := m.row.mask, kind := k }] } }
    | .refuse st rc pay => answer c m.row.mask st rc pay h
    | .refuseIn h' st rc pay => answer c m.row.mask st rc pay h'
    | .later h' => h'

/-- FORCE is honoured only at ADMIN (R472). -/
def forced (c : Call) : Bool := bit c.hdr.flags 2 && c.privilege ≥ 3

end Sys2Proof.Machine
end

