-- ==== Sys2Proof/Machine/KeyOps.lean ====
section
/-! DEFINITION. Handles, lookups and bindings of the key store that the other units use (R421, R426, R433). -/
namespace Sys2Proof.Machine

/-- SLOT, GEN and USE of a handle (R421). -/
def hdlSlot (x : Nat) : Nat := x % 1024
def hdlGen (x : Nat) : Nat := x / 1024 % 4096
def hdlUse (x : Nat) : Nat := x / 2 ^ 22 % 16

/-- The handle of a slot. -/
def handleOf (slot : Nat) (k : KeySlot) : Nat := slot + k.gen * 1024 + k.use * 2 ^ 22

/-- A valid handle: its slot is not FREE, and GEN and USE equal the slot's (R421). -/
def validHandle (x : Nat) (h : Hw) : Bool :=
  let k := keySlot (hdlSlot x) h
  k.state != 0 && k.gen == hdlGen x && k.use == hdlUse x && x < 2 ^ 26

/-- A MAC key has USE 5, 6 or 7 (R422). -/
def isMac (use : Nat) : Bool := use == 5 || use == 6 || use == 7

/-- Bytes of a MAC key by its use (R422). -/
def macLength (use : Nat) : Nat := if use = 6 then 16 else 32

/-- The authentication value of a message under a MAC key, by the key's use: HMAC-SHA-256 or AES-GMAC (R422). -/
def macOf (use : Nat) (value msg : List Byte) : List Byte := if use = 5 then slice (Config.hmac value msg) 0 32 else slice (Config.gmac value msg) 0 16

/-- The key check value of a key value: the first 8 bytes of HMAC-SHA-256 over 32 zero bytes (R426), as the u64 of its parameter. -/
def kcvOf (value : List Byte) : Nat := u64 (Config.hmac value (zeros 32)) 0

/-- The value of the MAC key behind a handle. -/
def macValue (x : Nat) (h : Hw) : List Byte := (keySlot (hdlSlot x) h).value

/-- The store recognises a handle as a MAC key (R92). -/
def macHandle (x : Nat) (h : Hw) : Bool := validHandle x h && isMac (hdlUse x) && (keySlot (hdlSlot x) h).state != 4

/-- A handle usable to authenticate: valid, not ORPHANED, and the store not ZEROISED (R427, R436). -/
def keyUsable (x : Nat) (h : Hw) : Bool := validHandle x h && (keySlot (hdlSlot x) h).state != 4 && !h.keys.zeroised

/-- The GEN after a GEN (R421). -/
def nextGen (g : Nat) : Nat := if 4095 ≤ g then 1 else g + 1

/-- The handle of a key whose slot has been freed and not allocated again: its users act as users of an orphaned key (R435). -/
def justFreed (x : Nat) (h : Hw) : Bool := let k := keySlot (hdlSlot x) h; k.state == 0 && k.gen == nextGen (hdlGen x) && k.use == hdlUse x

/-- The verdict on a received key identifier (R94, R427): `none` accepted under the current key, `some` of a failure cause,
and whether it is the verified successor's. -/
def receiveKey (x keyId : Nat) (h : Hw) : Option Nat × Bool :=
  let k := keySlot (hdlSlot x) h
  if h.keys.zeroised then (some 1, false)
  else if validHandle x h = false then (if justFreed x h ∧ k.keyId = keyId then (some 2, false) else (some 1, false))
  else if k.keyId = keyId then (if k.state = 4 then (some 2, false) else (none, false))
  else if k.state == 3 && (match k.succ with | some u => u.keyId == keyId | none => false) then (none, true)
  else (some 1, false)

/-- The key's parent is still in the slot it was created under. -/
def hasParent (k : KeySlot) (h : Hw) : Bool := let p := keySlot k.parent h; p.state != 0 && p.gen == k.parentGen

/-- Slots whose parent chain passes through `n`; `fuel` is the greatest depth. -/
def isBelow : Nat → Nat → Nat → Hw → Bool
  | 0, _, _, _ => false
  | fuel + 1, n, m, h =>
    let k := keySlot m h
    if k.state = 0 ∨ m = 0 ∨ hasParent k h = false then false
    else k.parent == n || isBelow fuel n k.parent h

/-- Slots in use below a slot, by slot number. -/
def subtree (n : Nat) (h : Hw) : List Nat :=
  (h.keys.slots.filter (fun e => e.2.state != 0 && e.1 != n && isBelow 7 n e.1 h)).map (fun e => e.1)

end Sys2Proof.Machine
end

