-- ==== Sys2Proof/Machine/AcqOps.lean ====
section
/-! DEFINITION. Fast channels and links (R211 to R214): which link and converter a channel is, its rate, and whether it is delivered. -/
namespace Sys2Proof.Machine

/-- Link and converter of a fast channel: channel numbers run across links in link order (R211). -/
def chanOf : Tbl LinkInst → Nat → Option (Nat × LinkInst × Nat)
  | [], _ => none
  | (l, x) :: r, c =>
    let m := if x.cfg.lanes = 0 then 0 else x.cfg.converters
    if c < m then some (l, x, c) else chanOf r (c - m)

/-- First channel number of a link. -/
def chanBase (l : Nat) (t : Tbl LinkInst) : Nat :=
  (t.filter (fun e => e.1 < l)).foldl (fun a e => a + (if e.2.cfg.lanes = 0 then 0 else e.2.cfg.converters)) 0

/-- The channel exists and its converter is enabled. -/
def chanEnabled (c : Nat) (h : Hw) : Bool :=
  match chanOf h.acq.links c with | some (_, x, i) => bit x.cfg.enable i | none => false

/-- The channel is enabled and its link is in DATA. -/
def chanLive (c : Nat) (h : Hw) : Bool :=
  match chanOf h.acq.links c with | some (_, x, i) => bit x.cfg.enable i && x.state == 4 | none => false

/-- Sample rate of a channel's link. -/
def chanRate (c : Nat) (h : Hw) : Nat :=
  match chanOf h.acq.links c with | some (_, x, _) => x.cfg.fs | none => 1000000

/-- A time of 2^-64 s in 2^-40 s. -/
def to40 (t : Nat) : Nat := t / 2 ^ 24

/-- SEC u64 and FRAC40 u64 of a time in 2^-40 s. -/
def time40Bytes (t : Nat) : List Byte := le 8 (t / 2 ^ 40) ++ le 8 (t % 2 ^ 40)

/-- A trigger sets out for the engine (R219). -/
def launch (t : Trigger) (h : Hw) : Hw := { h with acq := { h.acq with inFlight := h.acq.inFlight ++ [t] } }

end Sys2Proof.Machine
end

