-- ==== Sys2Proof/Machine/Float.lean ====
section
/-! DEFINITION. IEEE 754 arithmetic on bits: exact results rounded to nearest even, for single and double precision (R102, R127). -/
namespace Sys2Proof.Machine

/-- A decoded value: `fin neg m e` is (-1)^neg * m * 2^e. -/
inductive FVal where
  | nan
  | inf (neg : Bool)
  | fin (neg : Bool) (m : Nat) (e : Int)
  deriving DecidableEq, Repr

/-- Exponent bias for `eb` exponent bits. -/
def fBias (eb : Nat) : Int := (2 ^ (eb - 1) - 1 : Nat)

/-- Decode bits with `eb` exponent and `mb` fraction bits. -/
def fDecode (eb mb v : Nat) : FVal :=
  let neg := v / 2 ^ (eb + mb) % 2 == 1
  let ex := v / 2 ^ mb % 2 ^ eb
  let fr := v % 2 ^ mb
  if ex = 2 ^ eb - 1 then (if fr = 0 then .inf neg else .nan)
  else if ex = 0 then .fin neg fr (1 - fBias eb - mb)
  else .fin neg (2 ^ mb + fr) ((ex : Int) - fBias eb - mb)

/-- Bits of a quiet NaN: the quiet bit, with the open bits of log 8. -/
def fNan (eb mb : Nat) : Nat :=
  (2 ^ eb - 1) * 2 ^ mb + 2 ^ (mb - 1) + Config.nanPayload % 2 ^ (mb - 1) + (Config.nanPayload / 2 ^ (mb - 1) % 2) * 2 ^ (eb + mb)

/-- Bits of a signed infinity. -/
def fInf (eb mb : Nat) (neg : Bool) : Nat := (if neg then 2 ^ (eb + mb) else 0) + (2 ^ eb - 1) * 2 ^ mb

/-- Round (-1)^neg * num / den * 2^e to nearest, ties to even. -/
def fRound (eb mb : Nat) (neg : Bool) (num den : Nat) (e : Int) : Nat :=
  let sign := if neg then 2 ^ (eb + mb) else 0
  if num = 0 then sign
  else
    let sh : Int := (mb + 3 : Int) - ((Nat.log2 num : Int) - (Nat.log2 den : Int))
    let n := if 0 ≤ sh then num * 2 ^ sh.toNat else num
    let d := if 0 ≤ sh then den else den * 2 ^ (-sh).toNat
    let q := n / d
    let sticky := n % d != 0
    let lo := e - sh
    let top := (Nat.log2 q : Int) + lo
    let emin := 1 - fBias eb
    let ulp := (if top < emin then emin else top) - mb
    let drop := (ulp - lo).toNat
    let r := q / 2 ^ drop
    let rem := q % 2 ^ drop
    let half := 2 ^ drop / 2
    let up := half < rem || (rem == half && (sticky || r % 2 == 1))
    let r := if up then r + 1 else r
    let bits := (ulp + mb + fBias eb - 1).toNat * 2 ^ mb + r
    if (2 ^ eb - 1) * 2 ^ mb ≤ bits then fInf eb mb neg else sign + bits

/-- Sum of two decoded values. -/
def fAddV (eb mb : Nat) (a b : FVal) : Nat :=
  match a, b with
  | .nan, _ => fNan eb mb
  | _, .nan => fNan eb mb
  | .inf x, .inf y => if x = y then fInf eb mb x else fNan eb mb
  | .inf x, _ => fInf eb mb x
  | _, .inf y => fInf eb mb y
  | .fin x m e, .fin y n f =>
    let lo := if e ≤ f then e else f
    let u : Int := (m * 2 ^ (e - lo).toNat : Nat)
    let v : Int := (n * 2 ^ (f - lo).toNat : Nat)
    let s := (if x then -u else u) + (if y then -v else v)
    if s = 0 then (if x ∧ y then 2 ^ (eb + mb) else 0)
    else fRound eb mb (s < 0) s.natAbs 1 lo

/-- Product of two decoded values. -/
def fMulV (eb mb : Nat) (a b : FVal) : Nat :=
  match a, b with
  | .nan, _ => fNan eb mb
  | _, .nan => fNan eb mb
  | .inf x, .inf y => fInf eb mb (x != y)
  | .inf x, .fin y n _ => if n = 0 then fNan eb mb else fInf eb mb (x != y)
  | .fin x m _, .inf y => if m = 0 then fNan eb mb else fInf eb mb (x != y)
  | .fin x m e, .fin y n f => fRound eb mb (x != y) (m * n) 1 (e + f)

/-- Quotient of two decoded values. -/
def fDivV (eb mb : Nat) (a b : FVal) : Nat :=
  match a, b with
  | .nan, _ => fNan eb mb
  | _, .nan => fNan eb mb
  | .inf _, .inf _ => fNan eb mb
  | .inf x, .fin y _ _ => fInf eb mb (x != y)
  | .fin x _ _, .inf y => if x != y then 2 ^ (eb + mb) else 0
  | .fin x m e, .fin y n f =>
    if n = 0 then (if m = 0 then fNan eb mb else fInf eb mb (x != y))
    else fRound eb mb (x != y) m n (e - f)

/-- Integer square root, by binary digits. -/
def isqrt (n : Nat) : Nat :=
  (List.range (Nat.log2 n / 2 + 1)).reverse.foldl (fun r i => if (r + 2 ^ i) * (r + 2 ^ i) ≤ n then r + 2 ^ i else r) 0

/-- Square root of a decoded value: the integer root of the mantissa scaled by an even power, with a sticky digit. -/
def fSqrtV (eb mb : Nat) (a : FVal) : Nat :=
  match a with
  | .nan => fNan eb mb
  | .inf x => if x then fNan eb mb else fInf eb mb false
  | .fin x m e =>
    if m = 0 then (if x then 2 ^ (eb + mb) else 0)
    else if x then fNan eb mb
    else
      let e2 := e % 2
      let k := 2 * (mb + 4)
      let n := m * 2 ^ (k + e2.toNat)
      let r := isqrt n
      let r' := 2 * r + (if r * r = n then 0 else 1)
      fRound eb mb false r' 1 ((e - e2 - k) / 2 - 1)

/-- Order of two decoded values; `none` when unordered. -/
def fCmpV (a b : FVal) : Option Ordering :=
  match a, b with
  | .nan, _ => none
  | _, .nan => none
  | .inf x, .inf y => some (if x = y then .eq else if x then .lt else .gt)
  | .inf x, _ => some (if x then .lt else .gt)
  | _, .inf y => some (if y then .gt else .lt)
  | .fin x m e, .fin y n f =>
    let lo := if e ≤ f then e else f
    let u : Int := (m * 2 ^ (e - lo).toNat : Nat)
    let v : Int := (n * 2 ^ (f - lo).toNat : Nat)
    some (compare (if x then -u else u) (if y then -v else v))

/-! ### Single precision -/

/-- Decode a single. -/
def fDec (x : F32) : FVal := fDecode 8 23 x.toNat
/-- a + b. -/
def fAdd (a b : F32) : F32 := BitVec.ofNat 32 (fAddV 8 23 (fDec a) (fDec b))
/-- -a. -/
def fNeg (a : F32) : F32 := a ^^^ 0x80000000#32
/-- a - b. -/
def fSub (a b : F32) : F32 := fAdd a (fNeg b)
/-- a * b. -/
def fMul (a b : F32) : F32 := BitVec.ofNat 32 (fMulV 8 23 (fDec a) (fDec b))
/-- a / b. -/
def fDiv (a b : F32) : F32 := BitVec.ofNat 32 (fDivV 8 23 (fDec a) (fDec b))
/-- Square root. -/
def fSqrt (a : F32) : F32 := BitVec.ofNat 32 (fSqrtV 8 23 (fDec a))
/-- |a|. -/
def fAbs (a : F32) : F32 := a &&& 0x7FFFFFFF#32
/-- a < b. -/
def fLt (a b : F32) : Bool := fCmpV (fDec a) (fDec b) == some .lt
/-- a ≤ b. -/
def fLe (a b : F32) : Bool := fLt a b || fCmpV (fDec a) (fDec b) == some .eq
/-- An integer as a single. -/
def fOfInt (n : Int) : F32 := BitVec.ofNat 32 (fRound 8 23 (n < 0) n.natAbs 1 0)
/-- A quotient of integers as a single. -/
def fOfFrac (n : Int) (d : Nat) : F32 := if d = 0 then BitVec.ofNat 32 (fNan 8 23) else BitVec.ofNat 32 (fRound 8 23 (n < 0) n.natAbs d 0)
/-- A single that is finite. -/
def fFinite (a : F32) : Bool := a.toNat / 2 ^ 23 % 256 != 255
/-- Clamp to [lo, hi]. -/
def fClamp (x lo hi : F32) : F32 := if fLt x lo then lo else if fLt hi x then hi else x
/-- Larger of two. -/
def fMax (a b : F32) : F32 := if fLt a b then b else a
/-- Smaller of two. -/
def fMin (a b : F32) : F32 := if fLt b a then b else a

/-- The exact value of a finite single as a rational; 0 for infinities and NaN. -/
def fRat (a : F32) : Rat :=
  match fDec a with
  | .fin neg m e =>
    let v : Rat := if 0 ≤ e then ((m * 2 ^ e.toNat : Nat) : Rat) else mkRat m (2 ^ (-e).toNat)
    if neg then -v else v
  | _ => 0

/-- A rational as a single, rounded to nearest even. -/
def fOfRat (q : Rat) : F32 := fOfFrac q.num q.den

/-- Nearest integer of a single, ties to even; 0 for infinities and NaN. -/
def ratRound (q : Rat) : Int :=
  let n := q.num
  let d : Int := q.den
  let f := n / d
  let r := n - f * d
  if 2 * r < d then f else if d < 2 * r then f + 1 else if f % 2 = 0 then f else f + 1

/-! ### Double precision -/

/-- Decode a double. -/
def dDec (x : F64) : FVal := fDecode 11 52 x.toNat
/-- a + b. -/
def dAdd (a b : F64) : F64 := BitVec.ofNat 64 (fAddV 11 52 (dDec a) (dDec b))
/-- -a. -/
def dNeg (a : F64) : F64 := a ^^^ 0x8000000000000000#64
/-- a - b. -/
def dSub (a b : F64) : F64 := dAdd a (dNeg b)
/-- a * b. -/
def dMul (a b : F64) : F64 := BitVec.ofNat 64 (fMulV 11 52 (dDec a) (dDec b))
/-- a / b. -/
def dDiv (a b : F64) : F64 := BitVec.ofNat 64 (fDivV 11 52 (dDec a) (dDec b))
/-- Square root. -/
def dSqrt (a : F64) : F64 := BitVec.ofNat 64 (fSqrtV 11 52 (dDec a))
/-- A quotient of integers as a double. -/
def dOfFrac (n : Int) (d : Nat) : F64 := if d = 0 then BitVec.ofNat 64 (fNan 11 52) else BitVec.ofNat 64 (fRound 11 52 (n < 0) n.natAbs d 0)
/-- The exact value of a finite double as a rational; 0 for infinities and NaN. -/
def dRat (a : F64) : Rat :=
  match dDec a with
  | .fin neg m e =>
    let v : Rat := if 0 ≤ e then ((m * 2 ^ e.toNat : Nat) : Rat) else mkRat m (2 ^ (-e).toNat)
    if neg then -v else v
  | _ => 0
/-- A double that is finite. -/
def dFinite (a : F64) : Bool := a.toNat / 2 ^ 52 % 2048 != 2047
/-- A double as a single. -/
def dToF (a : F64) : F32 :=
  match dDec a with
  | .nan => BitVec.ofNat 32 (fNan 8 23)
  | .inf n => BitVec.ofNat 32 (fInf 8 23 n)
  | .fin n m e => BitVec.ofNat 32 (fRound 8 23 n m 1 e)
/-- A single as a double. -/
def fToD (a : F32) : F64 :=
  match fDec a with
  | .nan => BitVec.ofNat 64 (fNan 11 52)
  | .inf n => BitVec.ofNat 64 (fInf 11 52 n)
  | .fin n m e => BitVec.ofNat 64 (fRound 11 52 n m 1 e)

/-! ### Sines, cosines and angles, from 256 fraction bits, rounded to nearest even (log 8) -/

/-- pi, with 256 fraction bits, rounded down. -/
def piFixed : Nat := 0x3243f6a8885a308d313198a2e03707344a4093822299f31d0082efa98ec4e6c89

/-- sin x, or cos x, for x at most pi/4 with 256 fraction bits: the power series from a first term and its degree. -/
def seriesFixed (x first degree : Nat) : Int :=
  ((List.range 40).foldl (fun (a : Nat × Int) i =>
    (a.1 * x * x / 2 ^ 512 / ((degree + 2 * i + 1) * (degree + 2 * i + 2)), if i % 2 = 0 then a.2 + a.1 else a.2 - a.1)) (first, 0)).2

/-- cos(2 pi n / d) for n / d at most 1/4; the sine of the complement past 1/8. -/
def cosQuarter (n d : Nat) : Int :=
  if 8 * n ≤ d then seriesFixed (2 * piFixed * n / d) (2 ^ 256) 0
  else
    let x := piFixed * (d - 4 * n) / (2 * d)
    seriesFixed x x 1

/-- cos(2 pi n / d), with 256 fraction bits. -/
def cosFixed (n d : Nat) : Int :=
  let r := n % d
  let r := if d < 2 * r then d - r else r
  if 4 * r ≤ d then cosQuarter r d else -(cosQuarter (d - 2 * r) (2 * d))

/-- sin(2 pi n / d), with 256 fraction bits. -/
def sinFixed (n d : Nat) : Int := cosFixed (4 * n + 3 * d) (4 * d)

/-- cos(2 pi q), with 256 fraction bits. -/
def cosRat (q : Rat) : Int := cosFixed (q.num % q.den).toNat q.den

/-- arctan(n / d) for n at most d, with 256 fraction bits, by Euler's series. -/
def atanFixed (n d : Nat) : Nat :=
  let s := n * n + d * d
  ((List.range 300).foldl (fun (a : Nat × Nat) i =>
    (a.1 * ((2 * i + 2) * (n * n)) / ((2 * i + 3) * s), a.2 + a.1)) (n * d * 2 ^ 256 / s, 0)).2

/-- The angle of (re, im) in turns, in [0, 1), with 256 fraction bits; 0 for the origin. -/
def angleFixed (re im : Rat) : Nat :=
  let x := re.num.natAbs * im.den
  let y := im.num.natAbs * re.den
  if x = 0 ∧ y = 0 then 0
  else
    let turn (v : Nat) : Nat := v * 2 ^ 256 / (2 * piFixed)
    let v := if y ≤ x then turn (atanFixed y x) else 2 ^ 254 - turn (atanFixed x y)
    let v := if re.num < 0 then 2 ^ 255 - v else v
    if im.num < 0 then (2 ^ 256 - v) % 2 ^ 256 else v

/-- cos(2 pi n / d) in single precision. -/
def cosFrac (n d : Nat) : F32 := fOfFrac (cosFixed n d) (2 ^ 256)
/-- sin(2 pi n / d) in single precision. -/
def sinFrac (n d : Nat) : F32 := fOfFrac (sinFixed n d) (2 ^ 256)
/-- cos(2 pi x) in single precision. -/
def cosTurn (x : F32) : F32 := if fFinite x then fOfFrac (cosRat (fRat x)) (2 ^ 256) else BitVec.ofNat 32 (fNan 8 23)
/-- The angle of (re, im) in cycles, in [0, 1), in single precision. -/
def angleTurn (re im : F32) : F32 :=
  if fFinite re && fFinite im then
    let v := fOfFrac (angleFixed (fRat re) (fRat im) : Nat) (2 ^ 256)
    if v = 0x3F800000#32 then 0#32 else v
  else BitVec.ofNat 32 (fNan 8 23)

/-- cos(2 pi n / d) in double precision. -/
def cos64Frac (n d : Nat) : F64 := dOfFrac (cosFixed n d) (2 ^ 256)
/-- sin(2 pi n / d) in double precision. -/
def sin64Frac (n d : Nat) : F64 := dOfFrac (sinFixed n d) (2 ^ 256)
/-- cos(2 pi x) in double precision. -/
def cos64Turn (x : F64) : F64 := if dFinite x then dOfFrac (cosRat (dRat x)) (2 ^ 256) else BitVec.ofNat 64 (fNan 11 52)
/-- The angle of (re, im) in turns, in (-1/2, 1/2], in double precision. -/
def angle64 (re im : F64) : F64 :=
  if dFinite re && dFinite im then
    let v := angleFixed (dRat re) (dRat im)
    dOfFrac (if 2 ^ 255 < v then (v : Int) - 2 ^ 256 else v) (2 ^ 256)
  else BitVec.ofNat 64 (fNan 11 52)

end Sys2Proof.Machine
end

