-- ==== Sys2Proof/Machine/Time.lean ====
section
/-! DEFINITION. Calendula (R27 to R68, R589): the counter, the servo, time event units, fine captures, PTP, IRIG-B and the TIME commands. -/
namespace Sys2Proof.Machine

/-! ### Time event units (R48 to R51) -/

/-- Edge n of a unit in 2^-64 ps: START + n * PERIOD, exact (R48). -/
def edgeFine (u : Teu) (n : Nat) : Nat := ofSecFrac u.cfg.startSec u.cfg.startFrac * 10 ^ 12 + n * u.cfg.periodPs * 2 ^ 64

/-- The first edge number whose time is later than `t` (2^-64 s). -/
def firstAfter (u : Teu) (t : Nat) : Nat :=
  let start := ofSecFrac u.cfg.startSec u.cfg.startFrac
  if t < start ∨ u.cfg.periodPs = 0 then 0
  else (t - start) * 10 ^ 12 / (u.cfg.periodPs * 2 ^ 64) + 1

/-- A unit at a step of station time to `new` (R51). -/
def teuStep (old new : Nat) (u : Teu) : Teu :=
  if u.armed = false then u
  else if u.cfg.periodic = false then
    if old < new ∧ edgeFine u 0 ≤ new * 10 ^ 12 then { u with skipFlag := true } else u
  else if old < new then
    let n := firstAfter u new
    if u.next < n then { u with next := n, skipped := u.skipped + (n - u.next), skipFlag := true } else u
  else
    let n := firstAfter u new
    let past := match u.lastN with | none => 0 | some l => l + 1
    { u with next := if n < past then past else n }

/-- The target drives a ball: SYSREF, PPS_OUT and the four TRIG_OUT balls (R48). -/
def ballTarget (target : Nat) : Bool := target == 1 || 4 ≤ target

/-- The output delay of a target's ball, ps (R48, R66). -/
def outputDelay (target : Nat) (h : Hw) : Int :=
  if target = 1 then tget h.time.ioDelay 10 0 else if 4 ≤ target then tget h.time.ioDelay (target + 1) 0 else 0

/-- Station time at which the next edge reaches its target, in 2^-64 s: its grid point, or the present for a one-shot edge
that a step has passed over; with the output delay (R48, R51). -/
def edgeTime (u : Teu) (h : Hw) : Int :=
  (if u.cfg.periodic = false ∧ u.skipFlag then (h.time.now : Int) else (edgeFine u u.next / 10 ^ 12 : Nat)) + psUnits (outputDelay u.cfg.target h)

/-- The target's ball may be driven: SQW_TRIGOUT3 in SERVING only, and not in the low of a change of owner (R48, R81). -/
def mayDrive (target : Nat) (h : Hw) : Bool :=
  target != 8 || (h.mode == .serving && h.rtc.sqwOwner == 2 && decide (h.rtc.sqwLowUntil ≤ h.time.mono))

/-- A cycle mark counts for a loop instance whose cycle source is the unit (R48, R136). -/
def marksLoop (k index : Nat) (h : Hw) : Bool :=
  match tfind h.loop.insts index with
  | some x => x.params.source == k
  | none => false

/-- Fire the next edge of a unit: count it, deliver it to its target, begin its pulse, disarm a unit that is done (R48, R50). -/
def fireTeu (k : Nat) (h : Hw) : Hw :=
  let u := tget h.time.teus k {}
  let done := u.cfg.periodic = false ∨ (u.cfg.count ≠ 0 ∧ u.cfg.count ≤ u.fired + 1)
  let drives := mayDrive u.cfg.target h
  let u' := { u with
    armed := if done then false else u.armed
    next := u.next + 1, lastN := some u.next, lastAt := some h.time.now, sequence := u.sequence + 1, fired := u.fired + 1
    pulse := if drives && ballTarget u.cfg.target then some (h.time.mono + nsUnits u.cfg.widthNs) else none
    skipped := 0, skipFlag := false }
  let t := { h.time with
    teus := tset h.time.teus k u'
    edges := h.time.edges ++ [k]
    loopEdges := if u.cfg.target = 2 ∧ marksLoop k u.cfg.index h then h.time.loopEdges ++ [u.cfg.index] else h.time.loopEdges
    coreEdges := if u.cfg.target = 3 then h.time.coreEdges ++ [(k, u.cfg.index)] else h.time.coreEdges }
  emit (.teuEdge { unit := k, target := u.cfg.target, index := u.cfg.index, sequence := u'.sequence, late := u.skipFlag, skipped := u.skipped
                   time := edgeTime u h, widthNs := u.cfg.widthNs, activeLow := u.cfg.activeLow, drives := drives }) { h with time := t }

/-- A unit whose next edge time has been reached; two edges never fire at the same station time (R50, R51). -/
def teuDue (h : Hw) (u : Teu) : Bool :=
  u.armed && !u.stopping && u.lastAt != some h.time.now && edgeFine u u.next ≤ h.time.now * 10 ^ 12

/-- The pulse in progress of a unit ends: its ball returns to the inactive level, and a stopped unit disarms (R48, R64). -/
def endPulse (k : Nat) (h : Hw) : Hw :=
  let u := tget h.time.teus k {}
  emit (.ballIdle u.cfg.target) { h with time := { h.time with
    teus := tset h.time.teus k { u with pulse := none, stopping := false, armed := u.armed && !u.stopping } } }

/-- Pulses whose width has passed end. -/
def endPulses (h : Hw) : Hw :=
  (h.time.teus.filter (fun e => match e.2.pulse with | some t => decide (t ≤ h.time.mono) | none => false)).foldl (fun h e => endPulse e.1 h) h

/-- Stop a unit: it disarms at once and its ball returns to the inactive level, or both when the edge in progress has
completed (R64). -/
def stopTeu (k : Nat) (h : Hw) : Hw :=
  let u := tget h.time.teus k {}
  if u.armed = false then h
  else if u.pulse.isSome then { h with time := { h.time with teus := tset h.time.teus k { u with stopping := true } } }
  else
    let h := { h with time := { h.time with teus := tset h.time.teus k { u with armed := false } } }
    if ballTarget u.cfg.target then emit (.ballIdle u.cfg.target) h else h

/-- The first edge of a unit armed now: START, or for a periodic unit whose START has passed the first grid point after the
present, as after a forward step (R50, R51; the model's choice, log 56). -/
def firstEdge (cfg : TeuConfig) (h : Hw) : Nat :=
  if cfg.periodic ∧ ofSecFrac cfg.startSec cfg.startFrac ≤ h.time.now then firstAfter { cfg := cfg } h.time.now else 0

/-- Arm a unit for a holder; the sequence number goes on (R51, R63). -/
def armTeu (cfg : TeuConfig) (sl opcode object : Nat) (h : Hw) : Hw :=
  let u := tget h.time.teus cfg.unit {}
  let v := { u with
    armed := true, cfg := cfg, next := firstEdge cfg h, lastN := none, fired := 0, skipped := 0, skipFlag := false, pulse := none, stopping := false,
    holderSlice := sl, holderOpcode := opcode, holderObject := object }
  { h with time := { h.time with teus := tset h.time.teus cfg.unit v } }

/-- The holder layout of R63. -/
def holderBytes (sl opcode object : Nat) : List Byte := le 2 sl ++ le 2 opcode ++ le 4 object

/-! ### Steps and servo states (R29, R33 to R35, R589) -/

/-- Step station time: units by R51, the step count, CODE 0x0310, and an uncommitted swap abandoned (R490). -/
def stepTime (new cause : Nat) (h : Hw) : Hw :=
  let old := h.time.now
  let t := { h.time with now := new, leap := none, steps := min 255 (h.time.steps + 1), teus := tmap h.time.teus (fun _ u => teuStep old new u) }
  let h := noteAnchor { h with time := t, acq := { h.acq with links := tmap h.acq.links (fun _ x => { x with shift := x.shift + ((new : Int) - old) }) } }
  let h := evr 0x0310 0x03FF
    (timeBytes old ++ le 1 cause ++ le 1 (servoCode h.time.servo) ++ le 1 h.time.steps ++ le 1 (timeClass h) ++ timeBytes new) h
  let due := h.time.teus.filter (fun e => e.2.armed && !e.2.cfg.periodic && e.2.skipFlag)
  let h := due.foldl (fun h e => fireTeu e.1 h) h
  match h.cfg.swap with
  | some w => if w.committed then h else abortSwap rcCfgSwapTimeStep 0xFF 0xFF 0 h
  | none => h

/-- HOLDOVER and FALLBACK, in which the time runs unlocked (R254). -/
def adrift (v : Servo) : Bool := v == .holdover || v == .fallback

/-- Enter a servo state; its age counts from entry (R33, R59). -/
def setServo (v : Servo) (h : Hw) : Hw :=
  if h.time.servo = v then h
  else { h with time := { h.time with
    servo := v, servoSince := h.time.mono, within := 0
    unlockedSince := if adrift v && !adrift h.time.servo then h.time.mono else h.time.unlockedSince } }

/-- inc_learned as a sum and a count: INC averaged over the last 64 measurement intervals (R31). -/
def incLearned (t : TimeState) : Nat × Nat :=
  match t.incHist with
  | [] => (36893488147, 1)
  | l => (l.foldl (· + ·) 0, l.length)

/-- Permitted range of INC: nominal ±500 ppm (R30). -/
def incMin : Nat := 36893488147 - 36893488147 * 500 / 1000000
def incMax : Nat := 36893488147 + 36893488147 * 500 / 1000000

/-- An integer next to a rational; which neighbour is free, as R31 rounds by no rule (log 3). -/
def roundOpen (q : Rat) (h : Hw) : Int :=
  if q.den = 1 then q.num else q.floor + (if Config.freeBit h.free then 1 else 0)

/-- INC frozen at inc_learned (R47). -/
def freezeInc (h : Hw) : Hw :=
  let l := incLearned h.time
  let q : Rat := mkRat l.1 l.2
  let i := (roundOpen q h).toNat
  drawn { h with time := { h.time with inc := max incMin (min incMax i) } }

/-- Measurement interval T_m in seconds. -/
def tmSec (t : TimeState) : Rat := mkRat 1 (2 ^ t.logTm)

/-- Gains in force: those set, else 0.5 / T_m and 0.05 / T_m^2 (R31). -/
def gains (t : TimeState) : Rat × Rat :=
  let tm := tmSec t
  ((match t.kp with | some k => fRat k | none => mkRat 1 2 / tm), (match t.ki with | some k => fRat k | none => mkRat 1 20 / (tm * tm)))

/-- The correction of R31 for one offset: y clamped to the slew limit, the sum held while y sits at a limit, and INC. -/
def discipline (theta : Int) (h : Hw) : Hw :=
  let t := h.time
  let (kp, ki) := gains t
  let sum := t.thetaSum + theta
  let sec (x : Int) : Rat := mkRat x (2 ^ 64)
  let y := kp * sec theta + ki * tmSec t * sec sum
  let lim : Rat := mkRat t.slewPpb 1000000000
  let yc := if y ≤ -lim then -lim else if lim ≤ y then lim else y
  let atLimit := y ≤ -lim || lim ≤ y
  let l := incLearned t
  let i := (roundOpen (mkRat l.1 l.2 * (1 - yc)) h).toNat
  let inc := max incMin (min incMax i)
  drawn { h with time := { t with
    theta := theta, thetaSum := if atLimit then t.thetaSum else sum, inc := inc, incHist := (inc :: t.incHist).take 64 } }

/-- 1 ms, 1 µs, 100 ns and 10 ns in 2^-64 s. -/
def oneMs : Nat := nsUnits 1000000

/-- An offset beyond 1 ms (R33, R35). -/
def beyond (theta : Int) : Bool := 2 ^ 64 < theta.natAbs * 1000

/-- Largest minus smallest of a list of offsets. -/
def spread : List Int → Int
  | [] => 0
  | a :: r => (r.foldl max a) - (r.foldl min a)

/-- Eight consecutive measurements that agree within 1 µs (R33). -/
def agreed (l : List Int) : Bool := l.length == 8 && decide (spread l * 1000000 ≤ 2 ^ 64)

/-- Entry to FAULT: class 6, no correction, the exit to READY requested (R35). -/
def enterFault (h : Hw) : Hw :=
  let h := setServo .fault h
  { h with time := { h.time with exitRequest := true, confirmed := none, recent := [] } }

/-- Entry to ACQUIRING with the first-lock step, taken once since boot (R34). The sum of R31 starts anew here and at the
re-step (the model's choice, log 57). -/
def enterAcquiring (theta : Int) (h : Hw) : Hw :=
  let h := setServo .acquiring h
  let h := { h with time := { h.time with thetaSum := 0, theta := theta } }
  if h.time.firstLock then discipline theta h
  else
    let h := { h with time := { h.time with firstLock := true, theta := 0, recent := [] } }
    stepTime (h.time.now - theta).toNat 0 h

/-! ### The source (R33, R40, R43, R55) -/

/-- What the corrections of a port add to an offset measured by its own timestamps, in 2^-64 s: the ingress correction and
the asymmetry come off the Sync, and half of both corrections off the link delay (R43, log 58). -/
def portFix (p : PtpPort) : Int := psUnits (p.egress - p.ingress - 2 * p.delayAsymmetry) / 2

/-- The source may be used: PTP always, PPS and IRIG-B unless the preference is PTP only, and for a second that is valid (R55). -/
def sourceUsable (source : Nat) (h : Hw) : Bool :=
  if source = 2 then h.time.preference != 2 && (match h.time.irig with | some (_, ok) => ok | none => false) else true

/-- The source ranks above the one in use (R62). -/
def preferred (source : Nat) (h : Hw) : Bool := if h.time.preference = 1 then source == 2 else source == 1

/-- The servo takes an offset of the selected source (R31, R33 to R35). -/
def servoTake (source logSync : Nat) (theta : Int) (recent : List Int) (h : Hw) : Hw :=
  let t := h.time
  let h := { h with time := { t with source := source, logTm := if source = 1 then logSync else 0, recent := recent, theta := theta, candidate := [] } }
  let l1 := (tget h.time.ports (h.time.slavePort.getD 0) {}).l1Up && source == 1
  match t.servo with
  | .unset | .seeded => if agreed recent then enterAcquiring theta h else h
  | .holdover => if beyond theta then enterFault h else if agreed recent then enterAcquiring theta h else h
  | .fallback =>
    if agreed recent then (if beyond theta ∧ t.firstLock then enterFault h else enterAcquiring theta h)
    else { h with time := { h.time with theta := t.theta } }
  | .acquiring =>
    if beyond theta then enterFault h
    else
      let h := discipline theta h
      let lim := if l1 then 10 else 100
      let ok := decide (theta.natAbs * 1000000000 ≤ lim * 2 ^ 64)
      let n := if ok then h.time.within + 1 else 0
      let h := { h with time := { h.time with within := n } }
      if 16 ≤ n then
        let h := setServo .locked h
        { h with time := { h.time with lockedOnce := true } }
      else h
  | .locked => if beyond theta then enterFault h else discipline theta h
  | .fault => if agreed recent then { h with time := { h.time with confirmed := some theta } } else h

/-- The offset of a measurement with the corrections of the slave port (R43). -/
def corrected (m : Measurement) (h : Hw) : Int :=
  if m.source = 1 then m.theta + portFix (tget h.time.ports (h.time.slavePort.getD 0) {}) else m.theta

/-- One offset measurement: of the source in use, of any source while none is, or of a preferred source, which takes over
once it is valid (R33, R55, R62). -/
def servoMeasure (m : Measurement) (h : Hw) : Hw :=
  let theta := corrected m h
  if sourceUsable m.source h = false then h
  else if h.time.source = m.source then servoTake m.source m.logSync theta ((theta :: h.time.recent).take 8) h
  else if h.time.source = 0 then servoTake m.source m.logSync theta [theta] h
  else if preferred m.source h = false then h
  else
    let c := (theta :: h.time.candidate).take 8
    if agreed c then servoTake m.source m.logSync theta c h else { h with time := { h.time with candidate := c } }

/-- The re-step after FAULT, once in READY or IDLE with a confirmed offset (R35). -/
def faultReStep (h : Hw) : Hw :=
  match h.time.servo, h.time.confirmed with
  | .fault, some theta =>
    if h.mode = .ready ∨ h.mode = .idle then
      let h := setServo .acquiring h
      let h := { h with time := { h.time with confirmed := none, exitRequest := false, firstLock := true, recent := [], theta := 0, thetaSum := 0 } }
      stepTime (h.time.now - theta).toNat 2 h
    else h
  | _, _ => h

/-- Nothing has come for a time. -/
def quiet (last : Option Nat) (limit : Nat) (h : Hw) : Bool :=
  match last with
  | none => true
  | some t => decide (limit ≤ h.time.mono - t)

/-- Three Announce intervals of 1 s, or three Sync intervals, have passed on a port without a usable message (R33). -/
def portSilent (port : Nat) (h : Hw) : Bool :=
  let p := tget h.time.ports port {}
  quiet p.lastAnnounce (3 * secUnit) h || quiet p.lastSync (3 * secUnit / 2 ^ h.time.logTm) h

/-- The other port of a process-bus or station-bus pair. -/
def pairedPort (port : Nat) : Nat := if port % 2 = 0 then port + 1 else port - 1

/-- A port of a pair in PRP mode; in HSR mode (R347). -/
def prpPort (port : Nat) (h : Hw) : Bool := port ≤ 9 && (netPair (port / 2) h).mode == 0
def hsrPort (port : Nat) (h : Hw) : Bool := port ≤ 9 && (netPair (port / 2) h).mode == 1

/-- The source in use is lost: the slave port and its PRP partner are silent, or three seconds have passed without a PPS_IN
edge, or without a reference marker where there is no PPS_IN (R33, R55). -/
def sourceSilent (h : Hw) : Bool :=
  if h.time.source = 1 then
    match h.time.slavePort with
    | none => true
    | some p => portSilent p h && (!prpPort p h || portSilent (pairedPort p) h)
  else if h.time.source = 2 then quiet (if h.time.ppsAt.isSome then h.time.ppsAt else h.time.irigAt) (3 * secUnit) h
  else false

/-- Without a slave port the module itself is the best clock: its MASTER ports enter PASSIVE (R39); UTC comes from the next
source, and a leap second that the parent announced is no longer announced (R28). -/
def noParent (h : Hw) : Hw :=
  noteLeap { h with time := { h.time with
      slavePort := none, utcPtp := none, c37 := none
      ports := tmap h.time.ports (fun _ p => if p.role = 3 then { p with role := 4 } else p) } }

/-- Loss of the source: HOLDOVER with INC at inc_learned and E growing from its value now (R33, R47). -/
def sourceLost (h : Hw) : Hw :=
  let e := errorBound h
  let src := noteLeap (noParent { h with time := { h.time with source := 0, recent := [], candidate := [], utcIrig := none, ppsAt := none, irigAt := none } })
  match h.time.servo with
  | .acquiring | .locked =>
    let h := freezeInc (setServo .holdover src)
    { h with time := { h.time with e0 := e } }
  | _ => src

/-! ### Fine captures (R52 to R54, KL-01) -/

/-- An edge on a capture input: `code` counts the fine delay line, `num / den` is n_cal. Edges less than 20 ns apart are not
both captured; a later edge less than 24 ns after the earlier one falls under KL-01. The trigger engine gets a copy of a TRIG_IN
capture (R221). -/
def captureEdge (input : Nat) (falling : Bool) (code num den : Nat) (h : Hw) : Hw :=
  let h := if input = 4 then { h with time := { h.time with ppsAt := some h.time.mono } } else h
  let c := tget h.time.captures input {}
  let fineNs : Rat := if num = 0 then 0 else mkRat (code * den * 2) num
  let edgeNs : Rat := (monoNs h.time.mono : Rat) - fineNs
  let near (gap : Nat) : Bool := match c.lastEdge with | some l => decide (edgeNs - l < (gap : Rat)) | none => false
  if near 20 ∨ 16 ≤ c.queue.length then
    { h with time := { h.time with captures := tset h.time.captures input { c with dropped := c.dropped + 1, dropFlag := true } } }
  else
    let delay : Rat := mkRat ((if input ≤ 4 then tget h.time.ioDelay input 0 else tget h.time.ioDelay 10 0) * 2 ^ 64) (10 ^ 12)
    let late : Rat := if near 24 then mkRat ((Config.freeNat h.free % (150 * 2 ^ 64 + 1) : Nat)) (10 ^ 12) else 0
    let t := ((h.time.now : Rat) - fineNs * mkRat (2 ^ 64) 1000000000 - delay + late).floor.toNat
    let e : Capture40 := { sec := secOf t, frac40 := t / 2 ^ 24 % 2 ^ 40, edge := if falling then 1 else 0, cls := timeClass h, sequence := c.sequence }
    let c' := { c with queue := c.queue ++ [e], sequence := (c.sequence + 1) % 2 ^ 32, lastEdge := some edgeNs }
    let h := (if near 24 then drawn else id) { h with time := { h.time with captures := tset h.time.captures input c' } }
    if input < 4 then launch { source := .input input falling, time := to40 t } h else h

/-- TDC_EDGE_CAPTURE. -/
def execTdcEdgeCapture (input : Nat) (falling : Bool) (code num den : Nat) : State → Host.Outcome State Fault Refusal :=
  lift (fun h => onlyIf (input < 6) (captureEdge input falling code num den) h)

/-! ### PTP (R37 to R44) -/

/-- An Announce on the slave port carries the parent's time properties (R28, R37, R59). -/
def takeParent (port : Nat) (m : PtpMessage) (h : Hw) : Hw :=
  noteLeap { h with time := { h.time with
      slavePort := some port, grandmaster := m.grandmaster, stepsRemoved := m.stepsRemoved, c37 := m.c37
      utcPtp := if m.utcValid then some (m.utcOffset, m.leap61, m.leap59) else none } }

/-- Residences younger than 1 s; the table holds 64 per egress port (R42). -/
def freshResidences (h : Hw) (l : List Residence) : List Residence :=
  (l.filter (fun r => h.time.mono - r.at_ ≤ secUnit)).take 64

/-- The residence between two ports with their latency corrections and the ingress port's asymmetry (R43, log 58). -/
def residenceOf (ingressPort egressPort : Nat) (residence : Int) (h : Hw) : Int :=
  let i := tget h.time.ports ingressPort {}
  residence + psUnits (i.ingress + i.delayAsymmetry + (tget h.time.ports egressPort {}).egress)

/-- A transparent clock forwards a two-step Sync at once, holding its residence, and a Follow_Up with the residence of
its Sync added, or drops and counts it (R42). A one-step Sync leaves with the residence inserted whatever the module's own step
mode, since no Follow_Up comes to carry it (R41; the model's choice, log 96). A full table gives up its oldest entry (the
model's choice, log 59). -/
def forwardPtp (ingressPort egressPort : Nat) (residence : Int) (m : PtpMessage) (h : Hw) : Hw :=
  if ingressPort = egressPort then h
  else
    let p := tget h.time.ports egressPort {}
    let res := residenceOf ingressPort egressPort residence h
    match m.kind with
    | .sync =>
      let p' := if m.twoStep then { p with residences := ({ sequence := m.sequence, source := m.source, residence := res, at_ := h.time.mono } :: freshResidences h p.residences).take 64 } else p
      emit (.ptp egressPort { kind := .sync, sequence := m.sequence, stamp := if m.twoStep then m.correction else m.correction + res })
        { h with time := { h.time with ports := tset h.time.ports egressPort p' } }
    | .followUp =>
      match (freshResidences h p.residences).find? (fun r => r.sequence == m.sequence && r.source == m.source) with
      | some r =>
        let p' := { p with residences := p.residences.filter (fun x => x != r) }
        emit (.ptp egressPort { kind := .followUp, sequence := m.sequence, stamp := m.correction + r.residence })
          { h with time := { h.time with ports := tset h.time.ports egressPort p' } }
      | none => { h with time := { h.time with ports := tset h.time.ports egressPort { p with followDrops := inc32 p.followDrops } } }
    | k => emit (.ptp egressPort { kind := k, sequence := m.sequence, stamp := m.correction, grandmaster := m.grandmaster, stepsRemoved := m.stepsRemoved
                                   utcOffset := m.utcOffset, leap61 := m.leap61, leap59 := m.leap59, c37 := m.c37 }) h

/-- L1Sync is available on ports 0 to 7 and 10, and on 8 and 9 at 10 Gb/s (R38). -/
def l1Capable (port : Nat) (h : Hw) : Bool := port ≤ 7 || port == 10 || (port ≤ 9 && (portAt port h).cfg.speed == 1)

/-- The role of a port: a port that the BMCA would place in MASTER while the module itself is the best clock is PASSIVE (R39). -/
def roleOf (role : Nat) (h : Hw) : Nat := if role = 3 ∧ h.time.slavePort = none then 4 else role

/-- What a port keeps of a message: its role, the time of usable messages, its own measurements (R40, R43), and L1Sync as the
peer's Announce has it: which message carries the L1Sync TLV is the model's choice (R44, log 97). -/
def hear (port : Nat) (m : PtpMessage) (p : PtpPort) (h : Hw) : PtpPort :=
  let on := p.l1sync && l1Capable port h
  let announce := m.kind == .announce
  { p with
    role := roleOf m.role h
    lastAnnounce := if announce then some h.time.mono else p.lastAnnounce
    lastSync := if m.kind == .sync then some h.time.mono else p.lastSync
    offset := if (m.kind == .sync && !m.twoStep) || m.kind == .followUp then some (m.measured + portFix p) else p.offset
    linkDelay := if (m.kind == .pdelayResp && !m.twoStep) || m.kind == .pdelayRespFollowUp then m.measured - psUnits (p.ingress + p.egress) / 2 else p.linkDelay
    l1Up := if announce then on && m.l1Tlv && m.l1Ready else p.l1Up
    l1Disabled := if announce then on && !m.l1Tlv else p.l1Disabled }

/-- The answer to a peer-delay request: one message with the turnaround, or in two-step operation a response and the
turnaround in its follow-up (R37, R41). -/
def answerPdelay (port : Nat) (m : PtpMessage) (turnaround : Int) (h : Hw) : Hw :=
  let full := m.correction + residenceOf port port turnaround h
  if h.time.stepMode = 1 then
    emit (.ptp port { kind := .pdelayRespFollowUp, sequence := m.sequence, stamp := full }) (emit (.ptp port { kind := .pdelayResp, sequence := m.sequence }) h)
  else emit (.ptp port { kind := .pdelayResp, sequence := m.sequence, stamp := full }) h

/-- The module is a peer-to-peer transparent clock for a message: as its clock type, and for the traffic of an HSR ring
between the ring's two ports (R37, R40). -/
def transparent (port egress : Nat) (h : Hw) : Bool := h.time.clockType == 1 || (hsrPort port h && egress == pairedPort port)

/-- A PTP message on a port: the role the BMCA gives the port, the port's measurements, the L1Sync exchange of R44, the
parent of a slave port, an answer to a peer-delay request, and forwarding in a transparent clock. -/
def ptpReceive (port : Nat) (m : PtpMessage) (egress : Nat) (residence : Int) (h : Hw) : Hw :=
  let p := tget h.time.ports port {}
  if p.ptp = false ∨ m.domain ≠ h.time.domain then h
  else
    let p' := hear port m p h
    let h := { h with time := { h.time with ports := tset h.time.ports port p' } }
    let h := if p'.l1Disabled && !p.l1Disabled then evrOpen 0x03 0x03FF h else h
    let h := if m.role ≠ 1 ∧ h.time.slavePort = some port then noParent h else h
    let h := if m.role = 1 ∧ m.kind = .announce then takeParent port m h else h
    let h := if m.kind = .pdelayReq then answerPdelay port m residence h else h
    if transparent port egress h ∧ m.kind ≠ .pdelayReq ∧ m.kind ≠ .pdelayResp ∧ m.kind ≠ .pdelayRespFollowUp then forwardPtp port egress residence m h else h

/-- PTP_FRAME_RX. -/
def execPtpFrameRx (port : Nat) (m : PtpMessage) (egress : Nat) (residence : Int) : State → Host.Outcome State Fault Refusal :=
  lift (fun h => onlyIf (port ≤ 10 && egress ≤ 10) (ptpReceive port m egress residence) h)

/-- A message the module sends: a master port's Sync and Announce, a peer-delay request of any PTP port (R39, R41). The
timestamp has the egress correction (R43). In one-step operation it is inserted as the frame leaves; in two-step it follows. An
Announce carries the parent's data, for the module is never grandmaster. -/
def ptpSend (port : Nat) (k : PtpKind) (seq : Nat) (h : Hw) : Hw :=
  let p := tget h.time.ports port {}
  let master := p.role = 3 ∧ h.time.slavePort.isSome
  let stamp : Int := h.time.now + psUnits p.egress
  if p.ptp = false then h
  else match k with
    | .sync =>
      if ¬ master then h
      else if h.time.stepMode = 0 then emit (.ptp port { kind := .sync, sequence := seq, stamp := stamp, logInterval := h.time.logSync }) h
      else emit (.ptp port { kind := .followUp, sequence := seq, stamp := stamp, logInterval := h.time.logSync })
        (emit (.ptp port { kind := .sync, sequence := seq, logInterval := h.time.logSync }) h)
    | .announce =>
      let (off, l61, l59) := utcOf h
      if master then emit (.ptp port { kind := .announce, sequence := seq, grandmaster := h.time.grandmaster, stepsRemoved := h.time.stepsRemoved + 1
                                       utcOffset := off, leap61 := l61, leap59 := l59, c37 := h.time.c37 }) h else h
    | .pdelayReq => emit (.ptp port { kind := .pdelayReq, sequence := seq }) h
    | _ => h

/-- PTP_MESSAGE_SEND. -/
def execPtpMessageSend (port : Nat) (k : PtpKind) (seq : Nat) : State → Host.Outcome State Fault Refusal :=
  lift (fun h => onlyIf (port ≤ 10) (ptpSend port k seq) h)

/-- SLAVE_PATH_LOSS: the other port of the PRP pair becomes SLAVE, with no step and no change of INC (R40). -/
def slavePathLoss (port : Nat) (h : Hw) : Hw :=
  let p := tget h.time.ports port {}
  let q := tget h.time.ports (pairedPort port) {}
  if prpPort port h ∧ p.role = 1 ∧ q.role = 2 then
    { h with time := { h.time with
        ports := tset (tset h.time.ports port { p with role := 2 }) (pairedPort port) { q with role := 1 }
        slavePort := some (pairedPort port) } }
  else h

/-- SLAVE_PATH_LOSS. -/
def execSlavePathLoss (port : Nat) : State → Host.Outcome State Fault Refusal :=
  lift (fun h => onlyIf (port ≤ 9) (slavePathLoss port) h)

/-! ### PPS and IRIG-B (R55, R56) -/

/-- A leap second that a source announces falls within two seconds of the present: inserted, deleted (R28, log 95). -/
def leapNear (h : Hw) : Bool × Bool :=
  match notedLeap h with
  | some (m, _, inserted) =>
    let near := decide (secOf h.time.now ≤ m + 2) && decide (m ≤ secOf h.time.now + 2)
    (near && inserted, near && !inserted)
  | none => (false, false)

/-- A second of the minute follows another: the next one, 60 after 59 where a second is inserted, and 0 after the last, which
is 59, 60 after an inserted second, and 58 where one is deleted (R55, R56). -/
def follows (leap : Bool × Bool) (last second : Nat) : Bool :=
  if last < 59 then (if last = 58 ∧ leap.2 then second == 0 else second == last + 1)
  else if last = 59 ∧ leap.1 then second == 60
  else second == 0

/-- An IRIG-B frame of format B002, B003, B006 or B007 names the second at the on-time edge; a parity failure, or a second
that does not follow the last frame's, makes that second invalid (R55). -/
def irigReceive (format second : Nat) (parityOk : Bool) (utc : Option (Nat × Bool × Bool)) (h : Hw) : Hw :=
  if format ≠ 2 ∧ format ≠ 3 ∧ format ≠ 6 ∧ format ≠ 7 then h
  else
    let valid := parityOk && (match h.time.irig with | some (s, _) => follows (leapNear h) s second | none => true)
    noteLeap { h with time := { h.time with
      irig := some (second, valid), irigAt := some h.time.mono
      utcIrig := if h.time.source = 2 then (if valid then utc else none) else h.time.utcIrig } }

/-- IRIGB_FRAME_RX. -/
def execIrigbFrameRx (second : IrigSecond) (parityOk : Bool) (utc : Option (Nat × Bool × Bool)) : State → Host.Outcome State Fault Refusal :=
  lift (irigReceive second.format second.second parityOk utc)

/-- IRIGB_OUT_SECOND: the next B006 frame with UTC, the leap indications and the time quality; an inserted second is second
60 (R56). -/
def execIrigbOutSecond : State → Host.Outcome State Fault Refusal :=
  lift (fun h =>
    let (off, l61, l59) := utcOf h
    emit (.irig ((secOf h.time.now : Int) - off) (leapSecond h) l61 l59 (qualityCode (timeClass h))) h)

/-! ### Commands (R58 to R68) -/

/-- Whole seconds of elapsed time. -/
def ageSec (t : TimeState) : Nat := (t.mono - t.servoSince) / 2 ^ 64

/-- The TIME.STATUS payload of R59. Flag bit 1 is set by any source but the reset value of 37 s; E is truncated, theta and the
rate towards zero, and E reads 0xFFFFFFFF while it is unknown (the model's choices, log 60). -/
def timeStatus (h : Hw) : List Byte :=
  let t := h.time
  let (off, l61, l59) := utcOf h
  let sp := tget t.ports (t.slavePort.getD 0) {}
  le 1 (servoCode t.servo) ++ le 1 (timeClass h) ++ le 1 (if t.servo = .fallback then 3 else t.source) ++ le 1 (t.slavePort.getD 0xFF)
  ++ le 1 (flag (t.slavePort.isSome && sp.l1Up) 0 + flag (t.utcPtp.isSome || t.utcIrig.isSome || t.utcSet.isSome || h.cfg.bloom.isSome) 1
      + flag l61 2 + flag l59 3 + flag t.firstLock 4 + flag (t.servo = .fault) 5 + flag (t.slavePort.isSome && sp.l1Disabled) 6)
  ++ le 1 t.steps ++ le 2 off ++ le 8 t.grandmaster ++ leInt 8 ((t.theta * 10 ^ 12).tdiv (2 ^ 64))
  ++ le 4 (match errorBound h with | some e => sat32 (e / (1000 * psUnit)) | none => 0xFFFFFFFF)
  ++ leInt 4 ((((t.inc : Int) - 36893488147) * 10 ^ 12).tdiv 36893488147)
  ++ le 4 (sat32 (ageSec t)) ++ le 2 t.stepsRemoved ++ le 2 t.driftPs ++ zeros 8

def cmdTimeStatus : Cmd := { row := rowTimeStatus, body := fun _ _ h => .ok h (timeStatus h) }

/-- The TIME.READ payload of R60. -/
def timeRead (h : Hw) : List Byte :=
  let (off, l61, l59) := utcOf h
  nowBytes h ++ le 1 (timeClass h) ++ le 1 (servoCode h.time.servo) ++ le 2 off
  ++ le 1 (flag l61 0 + flag l59 1 + flag (h.time.servo = .fallback) 2) ++ zeros 7

def cmdTimeRead : Cmd := { row := rowTimeRead, body := fun _ _ h => .ok h (timeRead h) }

/-- A source is ACQUIRING or LOCKED (R61, R67, R88). -/
def sourceLocked (h : Hw) : Bool := h.time.servo == .acquiring || h.time.servo == .locked

/-- TIME.SET (R61). -/
def timeSet (p : List Byte) (h : Hw) : CmdResult :=
  if sourceLocked h then no stStateRefused rcTimeSourceLocked
  else
    let h := if h.time.servo = .unset then setServo .seeded h else h
    let h := { h with time := { h.time with utcSet := some (u16 p 12) } }
    done (stepTime (ofSecFrac (u64 p 0) (u32 p 8)) 1 h)

def cmdTimeSet : Cmd := { row := rowTimeSet, reserved := [(14, 2)], body := fun _ p h => timeSet p h }

/-- L1Sync on every capable port, or on none (R62). -/
def applyL1 (on : Bool) (h : Hw) : Hw :=
  (List.range 11).foldl (fun h port =>
    let p := tget h.time.ports port {}
    let x := on && l1Capable port h
    let p := { p with l1sync := x, l1Up := x && p.l1Up, l1Disabled := x && p.l1Disabled }
    { h with time := { h.time with ports := tset h.time.ports port p } }) h

/-- TIME.PROFILE (R62). -/
def timeProfile (p : List Byte) (h : Hw) : CmdResult :=
  if u8 p 0 = 0 ∨ 2 < u8 p 0 ∨ 1 < u8 p 2 ∨ 1 < u8 p 3 ∨ 1 < u8 p 4 ∨ 2 < u8 p 5 then no stBadParam rcTimeParamRange
  else done (applyL1 (u8 p 3 == 1) { h with time := { h.time with
    profile := u8 p 0, domain := u8 p 1, clockType := u8 p 2, l1sync := u8 p 3, stepMode := u8 p 4, preference := u8 p 5 } })

def cmdTimeProfile : Cmd := { row := rowTimeProfile, reserved := [(6, 2)], body := fun _ p h => timeProfile p h }

/-- The unit configuration of TIME.TEU_CONFIG's parameters (R63). -/
def teuOf (p : List Byte) : TeuConfig :=
  { unit := u8 p 0, target := u8 p 1, periodic := u8 p 2 == 1, activeLow := bit (u8 p 3) 0, index := u16 p 4
    startSec := u64 p 8, startFrac := u32 p 16, widthNs := u32 p 20, periodPs := u64 p 24, count := u32 p 32 }

/-- Range checks of R48 and R63: the reason of the first that fails. -/
def teuRange (c : TeuConfig) (mode : Nat) : Option Nat :=
  if 15 < c.unit ∨ 8 < c.target ∨ 1 < mode ∨ (if c.target = 2 then 127 < c.index else if c.target = 3 then 3 < c.index else c.index ≠ 0)
  then some rcTimeParamRange
  else if c.widthNs < 4 ∨ (c.periodic ∧ (c.periodPs < 20000 ∨ 2 ^ 63 < c.periodPs ∨ c.periodPs < c.widthNs * 1000 + 4000))
  then some rcTimeBadPeriod
  else if c.target = 1 ∧ (c.startFrac ≠ 0 ∨ (c.periodic ∧ 10 ^ 12 % c.periodPs ≠ 0)) then some rcTimeBadPeriod
  else none

/-- The unit that drives a ball: an armed unit with the same ball target (R49). -/
def ballHolder (target unit : Nat) (h : Hw) : Option (Nat × Teu) :=
  if ballTarget target then h.time.teus.find? (fun e => (e.2.armed || e.2.pulse.isSome) && e.2.cfg.target == target && e.1 != unit) else none

/-- TIME.TEU_CONFIG (R48 to R50, R63). The order of its refusals is the model's choice (log 61). -/
def timeTeuConfig (p : List Byte) (h : Hw) : CmdResult :=
  let c := teuOf p
  let u := tget h.time.teus c.unit {}
  match teuRange c (u8 p 2) with
  | some rc => no stBadParam rc
  | none =>
    if h.time.servo = .unset then no stStateRefused rcTimeUnset
    else if u.armed then
      if u.holderOpcode = 0x0305 then no stBusy rcTimeTeuRunning
      else .refuse stResourceConflict rcTimeTeuHeld (holderBytes u.holderSlice u.holderOpcode u.holderObject)
    else if c.target = 8 ∧ h.mode ≠ .serving then .refuse stResourceConflict rcTimePinHeld (holderBytes 0xFFFF 0x0408 0)
    else match ballHolder c.target c.unit h with
      | some (_, v) => .refuse stResourceConflict rcTimePinHeld (holderBytes v.holderSlice v.holderOpcode v.holderObject)
      | none => .ok (armTeu c 0xFFFF 0x0305 c.unit h) (zeros 8)

def cmdTimeTeuConfig : Cmd :=
  { row := rowTimeTeuConfig, reserved := [(6, 2), (36, 4)], reservedBits := [(3, 1, 0xFE)], body := fun _ p h => timeTeuConfig p h }

def cmdTimeTeuStop : Cmd :=
  { row := rowTimeTeuStop, reserved := [(1, 3)]
    body := fun _ p h => if 15 < u8 p 0 then no stBadParam rcTimeParamRange else done (stopTeu (u8 p 0) h) }

/-- One entry of R65. -/
def captureBytes (c : Capture40) : List Byte :=
  le 8 c.sec ++ le 8 c.frac40 ++ le 1 c.edge ++ le 1 c.cls ++ zeros 2 ++ le 4 c.sequence

/-- TIME.CAPTURE_READ (R65). -/
def timeCaptureRead (p : List Byte) (h : Hw) : CmdResult :=
  let input := u8 p 0
  let n := u8 p 1
  if 5 < input ∨ n = 0 ∨ 16 < n then no stBadParam rcTimeParamRange
  else
    let c := tget h.time.captures input {}
    let got := c.queue.take n
    let c' := { c with queue := c.queue.drop n, dropped := 0, dropFlag := false }
    .ok { h with time := { h.time with captures := tset h.time.captures input c' } }
      (le 1 got.length ++ le 1 (flag c.dropFlag 0) ++ le 2 (min c.dropped 0xFFFF) ++ zeros 4 ++ (got.map captureBytes).flatten)

def cmdTimeCaptureRead : Cmd := { row := rowTimeCaptureRead, reserved := [(2, 2)], body := fun _ p h => timeCaptureRead p h }

/-- The stability region of R32. -/
def stable (kp ki : F32) (t : TimeState) : Bool :=
  let tm := tmSec t
  let pp := fRat kp * tm
  let ii := fRat ki * tm * tm
  fFinite kp && fFinite ki && decide (0 < pp) && decide (pp < 2) && decide (0 < ii) && decide (2 * pp + ii < 4)

/-- TIME.SERVO_SET (R32, R66). The ranges are checked before the gains (the model's choice, log 61). -/
def timeServoSet (p : List Byte) (h : Hw) : CmdResult :=
  if u32 p 8 < 1000 ∨ 500000 < u32 p 8 ∨ u16 p 12 = 0 then no stBadParam rcTimeParamRange
  else if stable (f32 p 0) (f32 p 4) h.time = false then no stBadParam rcTimeGainUnstable
  else done { h with time := { h.time with kp := some (f32 p 0), ki := some (f32 p 4), slewPpb := u32 p 8, driftPs := u16 p 12 } }

def cmdTimeServoSet : Cmd := { row := rowTimeServoSet, reserved := [(14, 2)], body := fun _ p h => timeServoSet p h }

/-- TIME.SET_INCREMENT (R67). -/
def timeSetIncrement (p : List Byte) (h : Hw) : CmdResult :=
  let t := h.time
  let inc := u64 p 0
  if t.servo = .holdover ∨ t.servo = .fallback ∨ (t.servo = .seeded ∧ t.osfSinceBoot = false) then
    if inc < incMin ∨ incMax < inc then no stBadParam rcTimeIncRange
    else
      let e := if t.servo = .fallback then t.e0 else errorBound h
      let h := setServo .fallback h
      done { h with time := { h.time with inc := inc, source := 0, recent := [], e0 := e } }
  else if sourceLocked h then no stStateRefused rcTimeSourceLocked
  else if t.servo = .fault then no stStateRefused rcTimeFault
  else no stStateRefused rcTimeOsfNoLock

def cmdTimeSetIncrement : Cmd := { row := rowTimeSetIncrement, body := fun _ p h => timeSetIncrement p h }

/-- TIME.PORT_SET (R38, R66, R68). -/
def timePortSet (p : List Byte) (h : Hw) : CmdResult :=
  let port := u8 p 0
  let ptp := bit (u8 p 1) 0
  let l1 := bit (u8 p 1) 1
  if port = 11 ∧ (ptp ∨ l1) then no stBadParam rcTimePortNoPtp
  else if 10 < port then no stBadParam rcTimeParamRange
  else if l1 ∧ l1Capable port h = false then no stBadParam rcTimePortNoPtp
  else
    let q := tget h.time.ports port {}
    done { h with time := { h.time with ports := tset h.time.ports port { q with
      ptp := ptp, l1sync := l1, l1Up := l1 && q.l1Up, l1Disabled := l1 && q.l1Disabled
      delayAsymmetry := s32 p 4, ingress := s32 p 8, egress := s32 p 12 } } }

def cmdTimePortSet : Cmd :=
  { row := rowTimePortSet, reserved := [(2, 2)], reservedBits := [(1, 1, 0xFC)], body := fun _ p h => timePortSet p h }

/-- TIME.IO_DELAY_SET (R66). -/
def timeIoDelaySet (p : List Byte) (h : Hw) : CmdResult :=
  if 10 < u8 p 0 ∨ s32 p 4 < -20000 ∨ 20000 < s32 p 4 then no stBadParam rcTimeParamRange
  else done { h with time := { h.time with ioDelay := tset h.time.ioDelay (u8 p 0) (s32 p 4) } }

def cmdTimeIoDelaySet : Cmd := { row := rowTimeIoDelaySet, reserved := [(1, 3)], body := fun _ p h => timeIoDelaySet p h }

/-- TIME.STATUS. -/
def execTimeStatus (c : Call) (p : List Byte) : State → Host.Outcome State Fault Refusal := lift (runCmd cmdTimeStatus c p)
/-- TIME.READ. -/
def execTimeRead (c : Call) (p : List Byte) : State → Host.Outcome State Fault Refusal := lift (runCmd cmdTimeRead c p)
/-- TIME.PROFILE. -/
def execTimeProfile (c : Call) (p : List Byte) : State → Host.Outcome State Fault Refusal := lift (runCmd cmdTimeProfile c p)
/-- TIME.TEU_CONFIG. -/
def execTimeTeuConfig (c : Call) (p : List Byte) : State → Host.Outcome State Fault Refusal := lift (runCmd cmdTimeTeuConfig c p)
/-- TIME.TEU_STOP. -/
def execTimeTeuStop (c : Call) (p : List Byte) : State → Host.Outcome State Fault Refusal := lift (runCmd cmdTimeTeuStop c p)
/-- TIME.CAPTURE_READ. -/
def execTimeCaptureRead (c : Call) (p : List Byte) : State → Host.Outcome State Fault Refusal := lift (runCmd cmdTimeCaptureRead c p)
/-- TIME.SERVO_SET. -/
def execTimeServoSet (c : Call) (p : List Byte) : State → Host.Outcome State Fault Refusal := lift (runCmd cmdTimeServoSet c p)
/-- TIME.SET_INCREMENT. -/
def execTimeSetIncrement (c : Call) (p : List Byte) : State → Host.Outcome State Fault Refusal := lift (runCmd cmdTimeSetIncrement c p)
/-- TIME.PORT_SET. -/
def execTimePortSet (c : Call) (p : List Byte) : State → Host.Outcome State Fault Refusal := lift (runCmd cmdTimePortSet c p)
/-- TIME.IO_DELAY_SET. -/
def execTimeIoDelaySet (c : Call) (p : List Byte) : State → Host.Outcome State Fault Refusal := lift (runCmd cmdTimeIoDelaySet c p)

end Sys2Proof.Machine
end

