-- ==== Sys2Proof/Machine/Bloom.lean ====
section
/-! DEFINITION. The Bloom that a row runs under: the one in force, or, for rows before a change-over, the one it has replaced (R166, R489). -/
namespace Sys2Proof.Machine

/-- Subscriptions of the Bloom in force. -/
def streamsOf (h : Hw) : List StreamConfig := (h.cfg.bloom.map (fun b => b.streams)).getD []

/-- The entry of a stream. -/
def streamAt (s : Nat) (h : Hw) : Stream := tget h.ing.streams s {}

/-- Store a stream. -/
def putStream (s : Nat) (st : Stream) (h : Hw) : Hw := { h with ing := { h.ing with streams := tset h.ing.streams s st } }

/-- The replaced Bloom has the grid of the Bloom in force. -/
def sameGrid (o : OldBloom) (h : Hw) : Bool := gridHz o.image.grid == fGrid h

/-- The hardware as rows of a replaced Bloom see it: its image, its subscriptions, its instants. -/
def oldView (o : OldBloom) (h : Hw) : Hw :=
  { h with
    cfg := { h.cfg with bloom := some o.image, bloomSeq := o.seq, old := none }
    ing := { h.ing with
      streams := o.streams.foldl (fun t e => tset t e.1 e.2) h.ing.streams
      firstK := o.firstK, endK := some o.endK, nextOpen := o.nextOpen
      nextSettle := if sameGrid o h then h.ing.nextSettle else o.nextSettle } }

/-- An effect on behalf of the replaced Bloom, while rows of it are open; nothing without one. -/
def inOld (f : Hw → Hw) (h : Hw) : Hw :=
  match h.cfg.old with
  | none => h
  | some o =>
    let g := f (oldView o h)
    let same := sameGrid o h
    { g with
      cfg := { g.cfg with
        bloom := h.cfg.bloom, bloomSeq := h.cfg.bloomSeq
        old := some { o with
          streams := tmap o.streams (fun s _ => tget g.ing.streams s {})
          nextOpen := g.ing.nextOpen, nextSettle := g.ing.nextSettle } }
      ing := { g.ing with
        streams := o.streams.foldl (fun t e => match tfind h.ing.streams e.1 with | some st => tset t e.1 st | none => tdel t e.1) g.ing.streams
        firstK := h.ing.firstK, endK := h.ing.endK, nextOpen := h.ing.nextOpen
        nextSettle := if same then g.ing.nextSettle else h.ing.nextSettle
        lastSettled := if same || !h.ing.ring.any (fun r => r.bloomSeq == h.cfg.bloomSeq) then g.ing.lastSettled else h.ing.lastSettled } }

/-- An effect on behalf of the Bloom with a sequence number: the one in force, or the replaced one. -/
def atBloom (seq : Nat) (f : Hw → Hw) (h : Hw) : Hw := if seq = h.cfg.bloomSeq then f h else inOld f h

/-- Every row of the replaced Bloom has been passed on. -/
def oldDone (h : Hw) : Bool :=
  match h.cfg.old with
  | none => false
  | some o => decide (o.endK ≤ (if sameGrid o h then h.ing.nextSettle else o.nextSettle))

/-- Instant above the newest row opened on the present grid, whichever Bloom it runs under. -/
def openLimit (h : Hw) : Nat :=
  match h.cfg.old with
  | some o => if sameGrid o h ∧ o.nextOpen < o.endK then o.nextOpen else h.ing.nextOpen
  | none => h.ing.nextOpen

end Sys2Proof.Machine
end

