-- ==== Sys2Proof/Machine/Loop.lean ====
section
/-! DEFINITION. The tracking loop and the waveform predictor (R121 to R145). Sums run in index order, each operation rounded to single precision (log 8). -/
namespace Sys2Proof.Machine

/-- Sum in list order. -/
def fSum (l : List F32) : F32 := l.foldl fAdd 0#32

/-- A natural number as a single. -/
def fNat (n : Nat) : F32 := fOfInt n

/-- n / d as a single. -/
def fFrac (n d : Nat) : F32 := fOfFrac n d

/-- The fraction part of a phase in [0, 2). -/
def fTurn (x : F32) : F32 := if fLe 0x3F800000#32 x then fSub x 0x3F800000#32 else if fLt x 0#32 then fAdd x 0x3F800000#32 else x

/-- Slots 8s + c of a list of subscriptions with the channel at each (R99). -/
def slotChannels (l : List StreamConfig) : List (Nat × ChannelConfig) :=
  (l.zipIdx.map (fun e => e.1.channels.zipIdx.map (fun c => (8 * e.2 + c.2, c.1)))).flatten

/-- The group of an instance: the slots whose channels name it, by slot number (R121). -/
def groupOf (l : List StreamConfig) (i : Nat) : List Nat :=
  ((slotChannels l).filter (fun e => e.2.loop == some i)).map (fun e => e.1)

/-! ### Memory and amplitude (R124, R126) -/

/-- Kernel weights at a phase: triangular, half-width w = max(1, d * N_t), normalised to sum 1 (R124). -/
def kernel (nt : Nat) (theta d : F32) : List F32 :=
  let n := fNat nt
  let w := fMax 0x3F800000#32 (fMul d n)
  let pos := fMul theta n
  let raw := (List.range nt).map (fun j =>
    let a := fAbs (fSub (fNat j) pos)
    let dist := fMin a (fSub n a)
    fMax 0#32 (fSub 0x3F800000#32 (fDiv dist w)))
  let s := fSum raw
  raw.map (fun x => fDiv x s)

/-- The memory read at a phase. -/
def readMemory (m : List F32) (theta d : F32) : F32 :=
  fSum (List.zipWith fMul (kernel m.length theta d) m)

/-- Amplitude of the fundamental of a memory (R126). -/
def amplitude (m : List F32) : F32 :=
  let n := m.length
  let re := fSum (m.zipIdx.map (fun e => fMul e.1 (cosFrac e.2 n)))
  let im := fSum (m.zipIdx.map (fun e => fMul e.1 (sinFrac e.2 n)))
  fMul (fFrac 2 n) (fSqrt (fAdd (fMul re re) (fMul im im)))

/-- The memory of a slot. -/
def memoryOf (i : LoopInst) (slot : Nat) : Option LoopMemory := i.memories.find? (fun m => m.slot == slot)

/-- Replace the memory of a slot. -/
def putMemory (i : LoopInst) (m : LoopMemory) : LoopInst :=
  { i with memories := i.memories.map (fun x => if x.slot = m.slot then m else x) }

/-- A value that is usable (R125). -/
def usable (s : Slot) : Bool :=
  (s.origin == 0 || s.origin == 1) && s.q % 4 == 0 && !bit s.q 2 && !bit s.q 3 && !bit s.q 6 && !bit s.flags 5

/-- The settled row of an instant still in the ring. -/
def settledRow (k : Nat) (h : Hw) : Option Row := h.ing.ring.find? (fun r => r.k == k)

/-- A slot of a settled row. -/
def rowSlot (r : Row) (slot : Nat) : Slot := tget r.slots slot {}

/-- The grid rate of an instance's instants. -/
def loopGrid (i : LoopInst) (h : Hw) : Nat := if i.grid = 0 then fGrid h else i.grid

/-- The window W = round(f_grid / f0) (R131). -/
def loopWindow (f : Nat) (p : LoopParams) : Nat := (2 * f + p.f0) / (2 * p.f0)

/-- A slot's last W values, newest first, when all are usable and the channel has been of the group throughout. -/
def usableWindow (h : Hw) (k w since slot : Nat) : Option (List F32) :=
  let vals := (List.range w).map (fun m => (settledRow (k - m) h).map (fun r => rowSlot r slot))
  if vals.all (fun o => match o with | some s => usable s | none => false) ∧ w + since ≤ k + 1 then
    some (vals.filterMap (fun o => o.map (fun s => s.value)))
  else none

/-- One-period DFT at f0 over values newest first: amplitude and phase in cycles at the newest instant (R132). -/
def dftPhase (h : Hw) (p : LoopParams) (vals : List F32) : F32 × F32 :=
  let w := vals.length
  let re := fSum (vals.zipIdx.map (fun e => fMul e.1 (cosFrac (e.2 * p.f0) (fGrid h))))
  let im := fSum (vals.zipIdx.map (fun e => fMul e.1 (sinFrac (e.2 * p.f0) (fGrid h))))
  (fMul (fFrac 2 w) (fSqrt (fAdd (fMul re re) (fMul im im))), angleTurn re im)

/-- M_c[j] = A_c cos(2 pi (j / N_t + phi_c - phi_ref)) (R132). -/
def initTaps (nt : Nat) (amp phi phiRef : F32) : List F32 :=
  (List.range nt).map (fun j => fMul amp (cosTurn (fAdd (fFrac j nt) (fSub phi phiRef))))

/-! ### States and their records (R131, R144) -/

/-- The payload of R144. -/
def loopPayload (old new : Nat) (i : LoopInst) (h : Hw) : List Byte :=
  le 1 old ++ le 1 new ++ le 2 (min i.coast 0xFFFF) ++ leF (fMul i.d (fNat (loopGrid i h))) ++ leF i.ebar ++ zeros 4 ++ le 8 i.u

/-- Move an instance to a state, with CODE 0x0710; entries to WAITING are counted, and its runs begin again. -/
def loopMove (n new : Nat) (h : Hw) : Hw :=
  let i := tget h.loop.insts n {}
  if i.state = new then { h with loop := { h.loop with insts := tset h.loop.insts n (if new = 1 then { i with refRun := 0, altRun := 0 } else i) } }
  else
    let j := { i with state := new, resets := if new = 1 then inc32 i.resets else i.resets,
                      inLock := 0, unlock := 0, refRun := if new = 1 then 0 else i.refRun, altRun := if new = 1 then 0 else i.altRun }
    evr 0x0710 (0x0700 + n) (loopPayload i.state new i h) { h with loop := { h.loop with insts := tset h.loop.insts n j } }

/-- Store an instance. -/
def putLoop (n : Nat) (i : LoopInst) (h : Hw) : Hw := { h with loop := { h.loop with insts := tset h.loop.insts n i } }

/-- Predictor of a slot valid: LOCKED or COASTING and the channel learned (R133). -/
def predictorValid (i : LoopInst) (slot : Nat) (h : Hw) : Bool :=
  (i.state == 3 || i.state == 4) &&
    (match memoryOf i slot with | some m => m.init && loopWindow (loopGrid i h) i.params ≤ m.learned | none => false)

/-- Increments of d from instant u of an instance to instant k of the present grid (R134). -/
def loopAhead (i : LoopInst) (k : Nat) (h : Hw) : F32 :=
  if i.grid = 0 then fNat (k - i.u) else fOfRat (mkRat ((k * i.grid : Nat) - (i.u * fGrid h : Nat) : Int) (fGrid h))

/-- The predicted value of a slot at an instant, where its predictor is valid (R133, R134). -/
def predict (slot k : Nat) (h : Hw) : Option F32 :=
  match ((slotChannels (streamsOf h)).find? (fun e => e.1 == slot)).bind (fun e => e.2.loop) with
  | none => none
  | some n =>
    let i := tget h.loop.insts n {}
    if predictorValid i slot h = false then none
    else
      let taps := ((memoryOf i slot).map (fun m => m.taps)).getD []
      let x := fAdd i.thetaU (fMul (loopAhead i k h) i.d)
      let frac := fSub x (fNat (fRat x).floor.toNat)
      some (readMemory taps frac i.d)

/-! ### The step (R126, R127, R132) -/

/-- Per period: Q filter with forgetting, then the sine part taken out of the reference (R127). -/
def perPeriod (p : LoopParams) (m : LoopMemory) : LoopMemory :=
  let n := m.taps.length
  let at_ (j : Nat) : F32 := m.taps.getD (j % n) 0#32
  let q := (List.range n).map (fun j =>
    fMul p.lambda (fSum [fMul p.q2 (at_ (j + n - 2)), fMul p.q1 (at_ (j + n - 1)), fMul p.q0 (at_ j), fMul p.q1 (at_ (j + 1)), fMul p.q2 (at_ (j + 2))]))
  if m.slot = p.reference ∧ m.init then
    let b := fMul (fFrac 2 n) (fSum (q.zipIdx.map (fun e => fMul e.1 (sinFrac e.2 n))))
    { m with taps := q.zipIdx.map (fun e => fSub e.1 (fMul b (sinFrac e.2 n))) }
  else { m with taps := q }

/-- Initialise the channels that have W usable values, against a reference phase (R132). -/
def initChannels (k w : Nat) (phiRef : F32) (h : Hw) (i : LoopInst) : LoopInst :=
  { i with memories := i.memories.map (fun m =>
      if m.init then m
      else match usableWindow h k w m.since m.slot with
        | some v => let (a, phi) := dftPhase h i.params v
                    { m with taps := initTaps i.params.taps a phi phiRef, init := true, learned := 0 }
        | none => m) }

/-- Entry to ACQUIRING at the newest instant k, in place of its step (R132). The step of R126 does not take place, and with it
not the per-period work of R127, also where theta + d wraps (the model's choice, log 100). -/
def loopInit (n k w det : Nat) (h : Hw) : Hw :=
  let i := tget h.loop.insts n {}
  let (_, phi) := dftPhase h i.params ((usableWindow h k w 0 det).getD [])
  let d0 := fFrac i.params.f0 (fGrid h)
  let i := { i with memories := i.memories.map (fun m => { m with init := false, learned := 0, taps := List.replicate i.params.taps 0#32 }) }
  let i := initChannels k w phi h i
  let i := { i with
    thetaU := phi, theta := fTurn (fAdd phi d0), d := d0, integ := 0#32, ebar := 0#32, coast := 0, atLimit := 0
    onAlternate := det != i.params.reference, u := k, from_ := k + 1 }
  loopMove n 2 (putLoop n i h)

/-- A slot's value is usable and its channel belongs to the group at the row. -/
def groupUsable (i : LoopInst) (r : Row) (slot : Nat) : Bool :=
  usable (rowSlot r slot) && (match memoryOf i slot with | some m => decide (m.since ≤ r.k) | none => false)

/-- A WAITING instance counts the usable runs of its reference and alternate (R131). -/
def countRuns (r : Row) (i : LoopInst) : LoopInst :=
  let alt : Bool := match i.params.alternate with | some a => groupUsable i r a | none => false
  { i with refRun := if groupUsable i r i.params.reference then i.refRun + 1 else 0, altRun := if alt then i.altRun + 1 else 0 }

/-- The detector slot on which a WAITING instance enters ACQUIRING, when a run has reached W (R131, R132). -/
def acquireOn (w : Nat) (i : LoopInst) : Option Nat :=
  if w ≤ i.refRun then some i.params.reference else if w ≤ i.altRun then i.params.alternate else none

/-- The memory update of one channel at phase theta (R126): gated by g times its amplitude; the detector slot learns the
decoupled residual. The second component says that the gate withheld the update. -/
def learn (p : LoopParams) (theta d scale : F32) (det : Nat) (r : Row) (m : LoopMemory) : LoopMemory × Bool :=
  let s := rowSlot r m.slot
  if m.init = false ∨ usable s = false ∨ r.k < m.since then (m, false)
  else
    let rc := fSub s.value (readMemory m.taps theta d)
    if fLe (fAbs rc) (fMul p.gate (amplitude m.taps)) then
      let rc' := if m.slot = det then fMul rc scale else rc
      let w := kernel m.taps.length theta d
      ({ m with taps := List.zipWith (fun x c => fAdd x (fMul c (fMul p.kr rc'))) m.taps w }, false)
    else (m, true)

/-- d lies at a frequency limit. -/
def atLimits (p : LoopParams) (fg : F32) (d : F32) : Bool :=
  let at_ (x : F32) : Bool := fLe d x && fLe x d
  at_ (fDiv p.fLo fg) || at_ (fDiv p.fHi fg)

/-- The result of the law for one row: the instance after it and whether the instant coasted. A memory that is not yet
initialised gives no residual, and the instant coasts (log 72). -/
def loopLaw (k w : Nat) (r : Row) (h : Hw) (i : LoopInst) : LoopInst × Bool :=
  let p := i.params
  let fg := fNat (fGrid h)
  let refU := groupUsable i r p.reference
  let altU : Bool := match p.alternate with | some a => groupUsable i r a | none => false
  let det := if refU then p.reference else p.alternate.getD p.reference
  let ok := (refU || altU) && ((memoryOf i det).map (fun m => m.init)).getD false
  let m := ((memoryOf i det).map (fun m => m.taps)).getD (List.replicate p.taps 0#32)
  let x := (rowSlot r det).value
  let res := fSub x (readMemory m i.theta i.d)
  let one := fFrac 1 p.taps
  let sl := fDiv (fMul (fSub (readMemory m (fTurn (fAdd i.theta one)) i.d) (readMemory m (fTurn (fSub i.theta one)) i.d)) (fNat p.taps)) 0x40000000#32
  let a := amplitude m
  let i := { i with onAlternate := altU && !refU }
  let coast := !ok || fLt (fMul p.gate a) (fAbs res)
  let i : LoopInst :=
    if coast then { i with coast := i.coast + 1, coasts := inc32 i.coasts }
    else
      let sg := fMul 0x3F20D97C#32 a
      let s2 := fMul sg sg
      let den := fAdd (fMul sl sl) s2
      let e := fClamp (fDiv (fMul res sl) den) 0xBD4CCCCD#32 0x3D4CCCCD#32
      let ebar := fAdd i.ebar (fDiv (fSub e i.ebar) 0x42800000#32)
      let d := fAdd (fAdd (fDiv (fNat p.f0) fg) (fMul p.kp e)) i.integ
      let lo := fDiv p.fLo fg
      let hi := fDiv p.fHi fg
      let lim := fLt hi d || fLt d lo
      let scale := fDiv s2 den
      let learnt := i.memories.map (learn p i.theta i.d scale det r)
      { i with
          coast := 0, ebar := ebar
          d := if lim then fClamp d lo hi else d
          integ := if lim then i.integ else fAdd i.integ (fMul p.ki e)
          memories := learnt.map (fun e => e.1)
          gated := sat32 (i.gated + (learnt.filter (fun e => e.2)).length) }
  let i : LoopInst := { i with memories := i.memories.map (fun m => if m.init ∧ usable (rowSlot r m.slot) then { m with learned := m.learned + 1 } else m) }
  let i : LoopInst := if i.state == 1 then i else initChannels k w i.theta h i
  let nx := fAdd i.theta i.d
  let i := { i with thetaU := i.theta, theta := fTurn nx, u := k, from_ := k + 1 }
  (if fLe 0x3F800000#32 nx then { i with memories := i.memories.map (perPeriod p) } else i, coast)

/-- The transitions after a step of the law (R131). -/
def loopTransition (n w : Nat) (coast : Bool) (h : Hw) : Hw :=
  let i := tget h.loop.insts n {}
  let p := i.params
  let mag := fAbs i.ebar
  let lim := atLimits p (fNat (fGrid h)) i.d
  let i := { i with
    atLimit := if lim then i.atLimit + 1 else 0
    inLock := if !coast && fLe mag p.lockThr && !lim then i.inLock + 1 else 0
    unlock := if fLt p.unlockThr mag then i.unlock + 1 else 0 }
  let h := putLoop n i h
  match i.state with
  | 2 => if w ≤ i.inLock then loopMove n 3 h else if w ≤ i.coast then loopMove n 1 h else h
  | 3 =>
    if coast then loopMove n 4 h
    else if 8 ≤ i.unlock ∨ w ≤ i.atLimit then
      loopMove n 2 (putLoop n { i with lockLosses := inc32 i.lockLosses } h)
    else h
  | 4 =>
    if coast = false then loopMove n 3 h
    else if p.coastLimit < i.coast then loopMove n 1 (loopMove n 5 h)
    else h
  | _ => h

/-- A memory of another length: its channel is to be initialised again. -/
def resizeMemory (taps : Nat) (m : LoopMemory) : LoopMemory := { m with taps := List.replicate taps 0#32, init := false, learned := 0 }

/-- An instance with other values: another alternate has had no usable run yet; a change of the number of taps resizes the
memories and asks for a reset (R131, R138). -/
def takeValues (p : LoopParams) (i : LoopInst) : LoopInst :=
  let j := { i with params := p, altRun := if p.alternate = i.params.alternate then i.altRun else 0 }
  if p.taps = i.params.taps then j else { j with memories := i.memories.map (resizeMemory p.taps), resetReq := true }

/-- What applies from the step at row k: a swap's values at its first instant, and the values of a command (R138). Steps of a
grid that has ended take neither. -/
def newValues (k : Nat) (i : LoopInst) : LoopInst :=
  if i.grid ≠ 0 then i
  else
    let i : LoopInst := match i.next with
      | some p => takeValues p { i with next := none }
      | none => i
    match i.swapNext with
    | some (k0, p) => if k0 ≤ k then takeValues p { i with swapNext := none } else i
    | none => i

/-- One step of an instance at settled row k (R126, R128); a reset or new values apply first (R138, R141). A WAITING instance
whose reference, or alternate, has had W usable instants is initialised in place of the step (R131, R132). -/
def loopStepAt (n k : Nat) (r : Row) (h : Hw) : Hw :=
  let i := newValues k (tget h.loop.insts n {})
  let h := putLoop n { i with resetReq := false } h
  let h := if i.resetReq then loopMove n 1 h else h
  let i := tget h.loop.insts n {}
  let w := loopWindow (fGrid h) i.params
  let i := if i.state = 1 then countRuns r i else i
  match (if i.state = 1 then acquireOn w i else none) with
  | some det => loopInit n k w det (putLoop n i h)
  | none =>
    let (j, coast) := loopLaw k w r h i
    loopTransition n w coast (putLoop n j h)

/-- The oldest row passed on in instant order (R105) that an instance has not stepped. -/
def nextLoopRow (i : LoopInst) (h : Hw) : Option Row :=
  h.ing.ring.foldl (fun best r =>
    if r.f ≠ fGrid h ∨ r.k < i.from_ ∨ h.ing.nextSettle ≤ r.k then best
    else match best with
      | some b => if r.k < b.k then some r else best
      | none => some r) none

/-- Step every row settled and not yet stepped, oldest first; `fuel` bounds the rows of the ring. -/
def loopRunAll : Nat → Nat → Hw → Hw
  | 0, _, h => h
  | fuel + 1, n, h =>
    match nextLoopRow (tget h.loop.insts n {}) h with
    | some r => loopRunAll fuel n (loopStepAt n r.k r h)
    | none => h

/-- An instance acts on the grid of its instants: the one in force, or the one that a swap has ended. -/
def onLoopGrid (n : Nat) (f : Hw → Hw) (h : Hw) : Hw := if (tget h.loop.insts n {}).grid = 0 then f h else inOld f h

/-- The next settled row's step. -/
def loopNext (n : Nat) (h : Hw) : Hw :=
  match nextLoopRow (tget h.loop.insts n {}) h with
  | some r => loopStepAt n r.k r h
  | none => h

/-- LOOP_STEP: on GRID the next settled row's step (R128); under a time event unit steps run at its edges only (R136). -/
def loopStep (n : Nat) (h : Hw) : Hw :=
  let i := tget h.loop.insts n {}
  if i.defined = false ∨ i.params.source.isSome then h else onLoopGrid n (loopNext n) h

/-- An edge of an instance's cycle source: the steps of every row settled and not yet stepped (R136). -/
def loopEdge (n : Nat) (h : Hw) : Hw :=
  if (tget h.loop.insts n {}).defined then onLoopGrid n (loopRunAll 4096 n) h else h

/-- LOOP_STEP. -/
def execLoopStep (n : Nat) : State → Host.Outcome State Fault Refusal := lift (loopStep n)

/-- The instance is on GRID now, and stays so when values that wait for their instant apply (R136). -/
def onGrid (i : LoopInst) : LoopInst :=
  let off (p : LoopParams) : LoopParams := { p with source := none }
  { i with params := off i.params, next := i.next.map off, swapNext := i.swapNext.map (fun e => (e.1, off e.2)), fallback := true }

/-- No edge has come within 10 ms of the oldest settled row that is not yet stepped: its steps run, and the instance reverts. -/
def fallBack (n : Nat) (h : Hw) : Hw :=
  match nextLoopRow (tget h.loop.insts n {}) h with
  | some r =>
    if (r.settled.map (fun e => e.1)).getD 0 + nsUnits 10000000 ≤ h.time.now then
      let h := loopRunAll 4096 n h
      let i := onGrid (tget h.loop.insts n {})
      evr 0x0711 (0x0700 + n) (loopPayload 0 0 i h) (putLoop n i h)
    else h
  | none => h

/-- LOOP_TEU_FALLBACK: a defined instance under a time event unit, no edge of which has come (R136). -/
def loopFallback (n : Nat) (h : Hw) : Hw :=
  let i := tget h.loop.insts n {}
  if i.defined = false ∨ i.params.source = none then h else onLoopGrid n (fallBack n) h

/-- LOOP_TEU_FALLBACK. -/
def execLoopTeuFallback (n : Nat) : State → Host.Outcome State Fault Refusal := lift (loopFallback n)

/-! ### Profiles, checks and the swap (R122, R123, R130, R137, R138) -/

/-- Gains from a natural frequency and damping (R137). -/
def profileGains (fn zeta : F32) (fg : Nat) : F32 × F32 :=
  let x := fDiv (fMul 0x40C90FDB#32 fn) (fNat fg)
  let ki := fMul x x
  (fMul (fMul 0x40000000#32 zeta) (fSqrt ki), ki)

/-- A basic profile's values (R137). -/
def applyProfile (code fg : Nat) (p : LoopParams) : LoopParams :=
  let f (fn : Nat) (zeta kr lam q0 q1 q2 g : F32) : LoopParams :=
    let (kp, ki) := profileGains (fNat fn) zeta fg
    { p with profile := code, kp := kp, ki := ki, kr := kr, lambda := lam, q0 := q0, q1 := q1, q2 := q2, gate := g }
  let z := fOfFrac 7071 10000
  match code with
  | 1 => f 1 0x3F800000#32 (fOfFrac 5 100) (fOfFrac 999 1000) (fOfFrac 375 1000) (fOfFrac 1 4) (fOfFrac 1 16) (fOfFrac 3 10)
  | 2 => f 5 z (fOfFrac 1 10) (fOfFrac 995 1000) (fOfFrac 375 1000) (fOfFrac 1 4) (fOfFrac 1 16) (fOfFrac 1 2)
  | 3 => f 15 z (fOfFrac 1 4) (fOfFrac 98 100) (fOfFrac 1 2) (fOfFrac 1 4) 0#32 0x3F800000#32
  | _ => p

/-- The stability conditions of R130. -/
def loopStable (p : LoopParams) : Bool :=
  let kp := fRat p.kp
  let ki := fRat p.ki
  let qs := fRat p.q0 + 2 * fRat p.q1 + 2 * fRat p.q2
  [p.kp, p.ki, p.kr, p.lambda, p.q0, p.q1, p.q2].all fFinite
  && decide (0 < kp) && decide (kp < 2) && decide (0 < ki) && decide (2 * kp + ki < 4)
  && decide (0 < fRat p.kr) && fLe p.kr 0x3F000000#32
  && fLe 0x3F000000#32 p.lambda && fLe p.lambda (fOfFrac 9999 10000)
  && decide (0 ≤ fRat p.q0) && decide (0 ≤ fRat p.q1) && decide (0 ≤ fRat p.q2)
  && decide (mkRat 999999 1000000 ≤ qs) && decide (qs ≤ mkRat 1000001 1000000)

/-- The range of R122 that R130 leaves wider: a tap of the Q filter lies at most at 1 (R145). -/
def loopTaps (p : LoopParams) : Bool := [p.q0, p.q1, p.q2].all (fun q => fLe q 0x3F800000#32)

/-- The ranges of R122 apart from those R130 states. -/
def loopRange (p : LoopParams) : Bool :=
  8 ≤ p.taps && p.taps ≤ 1024 && (match p.source with | some t => t ≤ 15 | none => true) && fLe (fOfFrac 5 100) p.gate && fLe p.gate (fNat 10)
  && 1 ≤ p.coastLimit && p.coastLimit ≤ 480
  && fLe (fOfFrac 1 10000) p.lockThr && fLe p.lockThr (fOfFrac 5 100) && fLt p.lockThr p.unlockThr && fLe p.unlockThr (fOfFrac 1 10)

/-- Frequency limits around f0 (R122). -/
def loopLimits (p : LoopParams) : Bool :=
  let f0 : Rat := (p.f0 : Int)
  fFinite p.fLo && fFinite p.fHi && decide (8 * f0 ≤ 10 * fRat p.fLo) && decide (fRat p.fLo < f0)
    && decide (f0 < fRat p.fHi) && decide (10 * fRat p.fHi ≤ 12 * f0)

/-- Memory words of a list of instances (R123). -/
def loopWords (streams : List StreamConfig) (l : List (Nat × Nat)) : Nat :=
  (l.map (fun e => e.2 * (groupOf streams e.1).length)).foldl (· + ·) 0

/-- The pool of R123. -/
def loopPool : Nat := 2097152

/-- The refusal rules of the loop section: the reason and the instance of the first that fails (R122, R123, R130, R145). -/
def checkLoops (b : Image) : Option (Nat × Nat) :=
  let one (c : LoopConfig) : Option (Nat × Nat) :=
    let g := groupOf b.streams c.inst
    let p := if c.params.profile = 0 then c.params else applyProfile c.params.profile (gridHz b.grid) c.params
    if 127 < c.inst ∨ 3 < p.profile then some (rcLoopParamRange, c.inst)
    else if p.f0 ≠ 50 ∧ p.f0 ≠ 60 then some (rcLoopNominal, c.inst)
    else if loopLimits p = false then some (rcLoopNominal, c.inst)
    else if loopRange p = false then some (rcLoopParamRange, c.inst)
    else if loopStable p = false then some (rcLoopUnstable, c.inst)
    else if loopTaps p = false then some (rcLoopParamRange, c.inst)
    else if !g.contains p.reference || (match p.alternate with | some a => !g.contains a || a == p.reference | none => false) then some (rcLoopReference, c.inst)
    else none
  match b.loops.findSome? one with
  | some e => some e
  | none => if loopPool < loopWords b.streams (b.loops.map (fun c => (c.inst, c.params.taps))) then some (rcLoopMemory, 0xFFFFFFFF) else none

/-- A cycle source names an armed unit with target 2, this instance and a PERIOD of 100 µs to 10 ms (R136). -/
def checkLoopTeus (b : Image) (h : Hw) : Option (Nat × Nat) :=
  (b.loops.find? (fun c => match c.params.source with
    | none => false
    | some t =>
      let u := tget h.time.teus t {}
      let inBloom := b.time.teus.any (fun x => x.unit == t && x.target == 2 && x.index == c.inst && x.periodic && 100000000 ≤ x.periodPs && x.periodPs ≤ 10000000000)
      !(inBloom || (u.armed && u.cfg.target == 2 && u.cfg.index == c.inst && u.cfg.periodic && 100000000 ≤ u.cfg.periodPs && u.cfg.periodPs ≤ 10000000000)))).map
    (fun c => (rcLoopTeuSource, c.inst))

/-- A subscription goes on across a swap when its index, identity and dataset stay. -/
def sameStream (a b : StreamConfig) : Bool :=
  a.appid == b.appid && a.mac == b.mac && a.vlan == b.vlan && a.svId == b.svId && a.rate == b.rate && a.asdus == b.asdus && a.channels.length == b.channels.length

/-- The channel at a slot is the same under two lists of subscriptions. -/
def sameChannel (old new : List StreamConfig) (slot : Nat) : Bool :=
  match old[slot / 8]?, new[slot / 8]? with
  | some a, some b => sameStream a b
  | _, _ => false

/-- The first instant of a channel that joins a group while the grid changes, until its number on the new grid applies. -/
def joining : Nat := 2 ^ 64

/-- A state carried to another grid: the frequency and the phase stay, increments per instant scale (log 73). -/
def regridLoop (fOld fNew k0 : Nat) (i : LoopInst) : LoopInst :=
  let s (x : F32) : F32 := fDiv (fMul x (fNat fOld)) (fNat fNew)
  { i with d := s i.d, integ := s i.integ, thetaU := fTurn (fSub i.theta (s i.d)), u := k0 - 1, from_ := k0, grid := 0
           memories := i.memories.map (fun m => { m with since := if m.since = joining then k0 else 0 }) }

/-- Instances at a swap from subscriptions `olds` on grid `fOld` to `b` with its first instant at `k0` (R131, R138). Rows
before k0 that settle later are stepped under the old values; at a change of grid an instance that keeps its state goes on
with the instants of the old grid until all its rows are stepped. -/
def installLoops (olds : List StreamConfig) (fOld : Nat) (b : Image) (k0 : Nat) (h : Hw) : Hw :=
  let fg := gridHz b.grid
  let regrid := fOld ≠ fg
  let h := if regrid then { h with loop := { h.loop with insts := tmap h.loop.insts (fun _ i => if i.defined then { i with grid := fOld } else i) } } else h
  let gone := h.loop.insts.filter (fun e => e.2.defined && !b.loops.any (fun c => c.inst == e.1))
  let h := gone.foldl (fun h e =>
    let h := loopMove e.1 0 h
    putLoop e.1 { (tget h.loop.insts e.1 {}) with defined := false, memories := [], grid := 0 } h) h
  b.loops.foldl (fun h c =>
    let i : LoopInst := tget h.loop.insts c.inst {}
    let p := if c.params.profile = 0 then c.params else applyProfile c.params.profile fg c.params
    let group := groupOf b.streams c.inst
    let kept (s : Nat) : Bool := (groupOf olds c.inst).contains s && sameChannel olds b.streams s
    let fresh := i.defined = false ∨ i.params.f0 ≠ p.f0 ∨ i.params.taps ≠ p.taps ∨ i.params.reference ≠ p.reference
      ∨ kept p.reference = false ∨ i.params.source ≠ p.source
    let blank (s since : Nat) : LoopMemory := { slot := s, taps := List.replicate p.taps 0#32, since := since }
    let mem := group.map (fun s => match (if kept s then memoryOf i s else none) with
      | some m => if fresh then blank s m.since else m
      | none => blank s (if i.grid ≠ 0 then joining else k0))
    let i : LoopInst := { i with defined := true, tuned := false, next := none, memories := mem, fallback := false }
    let i : LoopInst := if fresh then { i with params := p, swapNext := none } else { i with swapNext := some (k0, p) }
    let i := if i.grid ≠ 0 then (if fresh then regridLoop fOld fg k0 i else i) else if i.state = 0 then { i with u := k0 - 1, from_ := k0 } else i
    let h := putLoop c.inst i h
    if fresh then loopMove c.inst 1 h else h) h

/-- The last row of a grid that ends has been passed on: what an instance has not stepped is stepped, and its state is
carried to the grid in force, whose first instant is `k0` (R121, R138; log 73). -/
def endLoopGrid (k0 : Nat) (h : Hw) : Hw :=
  (h.loop.insts.filter (fun e => e.2.grid != 0)).foldl (fun h e =>
    let h := inOld (loopRunAll 4096 e.1) h
    let i := tget h.loop.insts e.1 {}
    putLoop e.1 (regridLoop i.grid (fGrid h) k0 i) h) h

/-! ### Commands (R139 to R143) -/

/-- The LOOP.STATUS payload of R140. Bit 0 is set where the predictor of any channel of the group is valid, and the tuned bit
by LOOP.PROFILE as by LOOP.TUNE (the model's choices, log 101). -/
def loopStatusBytes (n : Nat) (i : LoopInst) (h : Hw) : List Byte :=
  let det := if i.onAlternate then i.params.alternate.getD 0 else i.params.reference
  let valid := i.memories.any (fun m => predictorValid i m.slot h)
  le 2 n ++ le 1 i.state
  ++ le 1 (flag valid 0 + flag i.onAlternate 1 + flag (atLimits i.params (fNat (loopGrid i h)) i.d) 2 + flag i.tuned 3 + flag i.params.source.isSome 4 + flag i.fallback 5)
  ++ le 1 i.params.profile ++ zeros 1 ++ le 2 (min i.coast 0xFFFF) ++ le 8 i.u
  ++ leF (fMul i.d (fNat (loopGrid i h))) ++ leF i.theta ++ leF i.ebar ++ leF i.integ
  ++ leF (amplitude (((memoryOf i det).map (fun m => m.taps)).getD []))
  ++ le 2 i.memories.length ++ le 2 i.params.taps ++ le 4 i.resets ++ le 4 i.coasts ++ le 4 i.lockLosses ++ le 4 i.gated ++ zeros 8

/-- The instance a command names, when the Bloom defines it. -/
def definedLoop (n : Nat) (h : Hw) : Option LoopInst :=
  let i := tget h.loop.insts n {}
  if n ≤ 127 ∧ i.defined then some i else none

/-- LOOP.STATUS (R140). -/
def loopStatus (p : List Byte) (h : Hw) : CmdResult :=
  match definedLoop (u16 p 0) h with
  | none => no stBadParam rcLoopNoInstance
  | some i =>
    let i' := if bit (u8 p 2) 0 then { i with coasts := 0, lockLosses := 0, gated := 0 } else i
    .ok (putLoop (u16 p 0) i' h) (loopStatusBytes (u16 p 0) i h)

def cmdLoopStatus : Cmd := { row := rowLoopStatus, reserved := [(3, 1)], reservedBits := [(2, 1, 0xFE)], body := fun _ p h => loopStatus p h }

/-- Values of a command: they apply from the next step, and to the values of a swap that wait for its first instant, since tuned
values last until the next swap (R138). -/
def tuneLoop (f : LoopParams → LoopParams) (i : LoopInst) : LoopInst :=
  { i with next := some (f (i.next.getD i.params)), swapNext := i.swapNext.map (fun e => (e.1, f e.2)), tuned := true }

/-- The values that an instance will have once all that waits applies. -/
def comingParams (i : LoopInst) : LoopParams := match i.swapNext with | some e => e.2 | none => i.next.getD i.params

/-- LOOP.PROFILE (R137, R138, R141). -/
def loopProfile (p : List Byte) (h : Hw) : CmdResult :=
  match definedLoop (u16 p 0) h with
  | none => no stBadParam rcLoopNoInstance
  | some i =>
    if u8 p 2 = 0 ∨ 3 < u8 p 2 then no stBadParam rcLoopParamRange
    else done (putLoop (u16 p 0) (tuneLoop (applyProfile (u8 p 2) (fGrid h)) i) h)

def cmdLoopProfile : Cmd := { row := rowLoopProfile, reserved := [(3, 1)], body := fun _ p h => loopProfile p h }

/-- LOOP.RESET: one instance, or every defined one (R141). -/
def loopReset (p : List Byte) (h : Hw) : CmdResult :=
  if u16 p 0 = 0xFFFF then
    done { h with loop := { h.loop with insts := tmap h.loop.insts (fun _ i => if i.defined then { i with resetReq := true } else i) } }
  else match definedLoop (u16 p 0) h with
    | none => no stBadParam rcLoopNoInstance
    | some i => done (putLoop (u16 p 0) { i with resetReq := true } h)

def cmdLoopReset : Cmd := { row := rowLoopReset, reserved := [(2, 2)], body := fun _ p h => loopReset p h }

/-- LOOP.MEMORY_READ (R142). A first tap at or above N_t is out of range (the model's choice, log 102). -/
def loopMemoryRead (p : List Byte) (h : Hw) : CmdResult :=
  match definedLoop (u16 p 0) h with
  | none => no stBadParam rcLoopNoInstance
  | some i => match memoryOf i (u16 p 2) with
    | none => no stBadParam rcLoopNotMember
    | some m =>
      let n := u16 p 6
      if n = 0 ∨ 1024 < n ∨ i.params.taps ≤ u16 p 4 then no stBadParam rcLoopParamRange
      else .ok h (le 2 (u16 p 0) ++ le 2 (u16 p 2) ++ le 2 i.params.taps ++ le 1 (if m.init ∧ loopWindow (loopGrid i h) i.params ≤ m.learned then 1 else 0) ++ zeros 1 ++ le 8 i.u
        ++ ((List.range n).map (fun j => leF (m.taps.getD ((u16 p 4 + j) % i.params.taps) 0#32))).flatten)

def cmdLoopMemoryRead : Cmd := { row := rowLoopMemoryRead, body := fun _ p h => loopMemoryRead p h }

/-- The set LOOP.TUNE asks for: 0xFFFF_FFFF and 0 keep (R143). The profile reads 0, expert, once a gain is given (the model's
choice, log 101). -/
def tunedParams (p : List Byte) (q : LoopParams) : LoopParams :=
  let f (o : Nat) (v : F32) : F32 := if u32 p o = 0xFFFFFFFF then v else f32 p o
  let n (o : Nat) (v : Nat) : Nat := if u16 p o = 0 then v else u16 p o
  let gains := [4, 8, 12, 16, 20, 24, 28, 40].any (fun o => u32 p o != 0xFFFFFFFF)
  { q with
    profile := if gains then 0 else q.profile
    taps := n 2 q.taps, kp := f 4 q.kp, ki := f 8 q.ki, kr := f 12 q.kr, lambda := f 16 q.lambda
    q0 := f 20 q.q0, q1 := f 24 q.q1, q2 := f 28 q.q2, fLo := f 32 q.fLo, fHi := f 36 q.fHi, gate := f 40 q.gate
    coastLimit := n 44 q.coastLimit, lockThr := f 48 q.lockThr, unlockThr := f 52 q.unlockThr }

/-- LOOP.TUNE (R123, R130, R138, R143). -/
def loopTune (p : List Byte) (h : Hw) : CmdResult :=
  match definedLoop (u16 p 0) h with
  | none => no stBadParam rcLoopNoInstance
  | some i =>
    let q := tunedParams p (comingParams i)
    let others := h.loop.insts.filter (fun e => e.2.defined && e.1 != u16 p 0)
    if loopRange q = false ∨ loopLimits q = false then no stBadParam rcLoopParamRange
    else if loopStable q = false then no stBadParam rcLoopUnstable
    else if loopTaps q = false then no stBadParam rcLoopParamRange
    else if loopPool < loopWords (streamsOf h) ((u16 p 0, q.taps) :: others.map (fun e => (e.1, (comingParams e.2).taps))) then no stBadParam rcLoopMemory
    else
      done (putLoop (u16 p 0) (tuneLoop (tunedParams p) i) h)

def cmdLoopTune : Cmd := { row := rowLoopTune, reserved := [(46, 2), (56, 8)], body := fun _ p h => loopTune p h }

/-- LOOP.STATUS. -/
def execLoopStatus (c : Call) (p : List Byte) : State → Host.Outcome State Fault Refusal := lift (runCmd cmdLoopStatus c p)
/-- LOOP.PROFILE. -/
def execLoopProfile (c : Call) (p : List Byte) : State → Host.Outcome State Fault Refusal := lift (runCmd cmdLoopProfile c p)
/-- LOOP.RESET. -/
def execLoopReset (c : Call) (p : List Byte) : State → Host.Outcome State Fault Refusal := lift (runCmd cmdLoopReset c p)
/-- LOOP.MEMORY_READ. -/
def execLoopMemoryRead (c : Call) (p : List Byte) : State → Host.Outcome State Fault Refusal := lift (runCmd cmdLoopMemoryRead c p)
/-- LOOP.TUNE. -/
def execLoopTune (c : Call) (p : List Byte) : State → Host.Outcome State Fault Refusal := lift (runCmd cmdLoopTune c p)
end Sys2Proof.Machine
end

