-- ==== Sys2Proof/Machine/Ingest.lean ====
section
/-! DEFINITION. Sampled-value ingest and the aligner (R90 to R120). Times in the exact unit of 2^-64 s divided by 14,400 * 10^9. -/
namespace Sys2Proof.Machine

/-! ### Times (R96, R98, R103) -/

/-- The exact time unit: instants of both grids, sample times and nanoseconds are whole numbers of it. -/
def exact (t : Nat) : Nat := t * 14400000000000

/-- n periods of a rate. -/
def exactPeriods (n rate : Nat) : Nat := n * (14400 / rate) * 1000000000 * 2 ^ 64

/-- n nanoseconds. -/
def exactNs (n : Nat) : Nat := n * 14400 * 2 ^ 64

/-- H, N and L_exp in force at an instant (R91, R118). -/
def streamValues (st : Stream) (k : Nat) : Nat × Nat × Nat :=
  st.tune.foldl (fun v e =>
    if k < e.1 then v
    else (if e.2.1 = 0 then v.1 else e.2.1, if e.2.2.1 = 0 then v.2.1 else e.2.2.1, if e.2.2.2 = 0xFFFFFFFF then v.2.2 else e.2.2.2))
    (st.horizon, st.hold, st.lExpNs)

/-- Input indices that instant k of a synchronised stream needs (R102). -/
def syncNeeds (rate f k : Nat) : List Nat :=
  if rate = f then [k]
  else if rate < f then (if k % 3 = 0 then [k / 3] else [k / 3 - 1, k / 3, k / 3 + 1, k / 3 + 2])
  else (List.range 15).map (fun n => 3 * k + n - 7)

/-- Instants that need an input index. -/
def syncUsers (rate f idx : Nat) : List Nat :=
  let from_ := if rate = f then idx else if rate < f then 3 * (idx - 2) else (idx - 7) / 3
  ((List.range 13).map (fun n => from_ + n)).filter (fun k => (syncNeeds rate f k).contains idx)

/-- The stream counts as unsynchronised: its last frame had smpSynch 0 (R96). -/
def unsynced (st : Stream) : Bool := st.anyFrame && st.lastSynch == 0

/-- Expected arrival e(k) (R103). For an unsynchronised stream the inputs' times are bounded by their spacing. -/
def expectedAt (c : StreamConfig) (st : Stream) (f k : Nat) : Nat :=
  let l := exactNs (streamValues st k).2.2
  if unsynced st then
    exactPeriods k f + exactPeriods 2 (min c.rate f) + (if f < c.rate then exactPeriods 7 c.rate else 0) + exactPeriods (c.asdus - 1) c.rate + l
  else (syncNeeds c.rate f k).foldl (fun m i => max m (exactPeriods (i + (c.asdus - 1 - i % c.asdus)) c.rate + l)) 0

/-- Horizon h(k) (R103). -/
def horizonAt (c : StreamConfig) (st : Stream) (f k : Nat) : Nat :=
  expectedAt c st f k + exactPeriods (streamValues st k).1 f

/-- Instants near an unsynchronised sample's time that need it. -/
def unsyncUsers (rate f t : Nat) : List Nat :=
  let reach := exactPeriods 2 (min rate f) + (if f < rate then exactPeriods 7 rate else 0)
  let p := exactPeriods 1 f
  let lo := (exact t - reach + p - 1) / p
  let hi := (exact t + reach) / p
  (List.range (hi - lo + 1)).map (fun n => lo + n)

/-! ### Values (R99, R100, R102) -/

/-- A point of a stream's sequence: its time, its counter and its channels. -/
structure Point where
  time : Nat := 0
  cnt : Nat := 0
  slots : List Slot := []
  synch : Nat := 2
  stamp : Nat := 0
  deriving DecidableEq, Repr

/-- A sample as a point: INT32 count times scale, quality bits 13:0 as received. -/
def pointOf (c : StreamConfig) (s : Sample) : Point :=
  { time := s.time, cnt := s.smpCnt, synch := s.smpSynch, stamp := s.arrival
    slots := List.zipWith (fun (ch : ChannelConfig) (v : Int × Nat) =>
      { value := fMul (fOfInt v.1) ch.scale, q := v.2 % 2 ^ 14, origin := 0, flags := s.flags, count := v.1 }) c.channels s.values }

/-- Badness of a validity code: good, questionable, never written, invalid. Where the code that R100 never writes ranks when it
is received is the model's choice (log 103). -/
def validityRank (v : Nat) : Nat := match v with | 0 => 0 | 3 => 1 | 2 => 2 | _ => 3

/-- The worst validity and all other bits ORed (R102). -/
def worstQ (l : List Nat) : Nat :=
  let v := l.foldl (fun a q => if validityRank a < validityRank (q % 4) then q % 4 else a) 0
  (l.foldl (fun a q => a ||| q) 0) / 4 * 4 + v

/-- Flags of a resampled value: SIM, UNSYNC and UNAUTH ORed, AUTH only when every input has it, RESAMPLED (R102). -/
def resampledFlags (l : List Nat) : Nat :=
  ((l.foldl (fun a q => a ||| q) 0) &&& 0x13) + 4 + (if l.all (fun q => bit q 3) then 8 else 0)

/-- A weighted sum of the inputs' slots, in order. -/
def mixSlots (coefs : List F32) (ins : List Slot) : Slot :=
  let terms := List.zipWith (fun c (s : Slot) => fMul c s.value) coefs ins
  { value := match terms with | [] => 0#32 | a :: r => r.foldl fAdd a
    q := worstQ (ins.map (fun s => s.q)), origin := 1, flags := resampledFlags (ins.map (fun s => s.flags)) }

/-- Channel-wise mix of points. -/
def mixPoints (coefs : List F32) (ps : List Point) : List Slot :=
  match ps with
  | [] => []
  | p :: _ => (List.range p.slots.length).map (fun j => mixSlots coefs (ps.map (fun x => x.slots.getD j {})))

/-- The decimation filter of R102, scaled to sum 1, in single precision. -/
def decimation : List F32 :=
  [0#32, 0#32, 0xBBA43D10#32, 0xBC86490C#32, 0#32, 0x3DCA8CFA#32, 0x3E828E8A#32, 0x3EAB8779#32,
   0x3E828E8A#32, 0x3DCA8CFA#32, 0#32, 0xBC86490C#32, 0xBBA43D10#32, 0#32, 0#32]

/-- The Lagrange coefficients at mu (R102). -/
def lagrange (mu : F32) : List F32 :=
  let one : F32 := 0x3F800000#32
  let two : F32 := 0x40000000#32
  let six : F32 := 0x40C00000#32
  let m1 := fSub mu one
  let m2 := fSub mu two
  let p1 := fAdd mu one
  [fDiv (fMul (fMul (fNeg mu) m1) m2) six, fDiv (fMul (fMul p1 m1) m2) two,
   fDiv (fMul (fMul (fNeg p1) mu) m2) two, fDiv (fMul (fMul p1 mu) m1) six]

/-- The kept sample of an index. -/
def sampleAt (st : Stream) (i : Nat) : Option Sample := st.samples.find? (fun s => s.index == some i)

/-- What an instant of a stream takes from its inputs: the slots, the last input's smpSynch, and the last arrival. -/
structure Formed where
  slots : List Slot := []
  synch : Nat := 2
  stamp : Nat := 0
  deriving DecidableEq, Repr

/-- An instant formed from points. -/
def formed (slots : List Slot) (ps : List Point) : Formed :=
  { slots := slots, synch := ((ps.getLast?).map (fun p => p.synch)).getD 2, stamp := ps.foldl (fun m p => max m p.stamp) 0 }

/-- Values of instant k of a synchronised stream, when every input has arrived (R102). -/
def formSync (c : StreamConfig) (st : Stream) (f k : Nat) : Option Formed :=
  let got := (syncNeeds c.rate f k).map (fun i => (sampleAt st i).map (pointOf c))
  if got.any (fun o => o.isNone) then none
  else
    let ps := got.filterMap id
    some (formed (match ps with
      | [p] => p.slots
      | _ => if c.rate < f then mixPoints (lagrange (fFrac (k % 3) 3)) ps else mixPoints decimation ps.reverse) ps)

/-- Decimated points of an unsynchronised 14,400 Hz sequence, oldest first. -/
def decimated : List Point → List Point
  | [] => []
  | p :: r =>
    let w := (p :: r).take 15
    let ok := w.length == 15 && (w.zipIdx.all (fun e => e.1.cnt == (p.cnt + e.2) % 14400))
    let mid := w.getD 7 {}
    let rest := decimated r
    if ok ∧ mid.cnt % 3 = 0 then
      { mid with slots := mixPoints decimation w.reverse, stamp := w.foldl (fun m x => max m x.stamp) 0 } :: rest
    else rest

/-- Values of instant k of an unsynchronised stream: the four points around t_k, consecutive by counter (R102). -/
def formUnsync (c : StreamConfig) (st : Stream) (f k : Nat) : Option Formed :=
  let raw := ((st.samples.filter (fun s => s.index == none)).take 64).reverse.map (pointOf c)
  let ps := if f < c.rate then decimated raw else raw
  let fs := min c.rate f
  let gap := if f < c.rate then 3 else 1
  let tk := exactPeriods k f
  let old := (ps.filter (fun p => exact p.time ≤ tk)).reverse
  let new := ps.filter (fun p => tk < exact p.time)
  match old, new with
  | m :: b :: _, n :: n2 :: _ =>
    let nxt (x : Nat) : Nat := (x + gap) % c.rate
    if m.cnt = nxt b.cnt ∧ n.cnt = nxt m.cnt ∧ n2.cnt = nxt n.cnt then
      let mu := fOfRat (mkRat ((tk - exact m.time) * fs) (14400000000000 * 2 ^ 64))
      some (formed (mixPoints (lagrange mu) [b, m, n, n2]) [b, m, n, n2])
    else none
  | _, _ => none

/-- Values of a stream at an instant, when all its inputs have arrived. -/
def formValues (c : StreamConfig) (st : Stream) (f k : Nat) : Option Formed :=
  match formSync c st f k with
  | some v => some v
  | none => if unsynced st then formUnsync c st f k else none

/-! ### Rows -/

/-- The subscription of a stream index. -/
def subscription (s : Nat) (h : Hw) : Option StreamConfig := (streamsOf h)[s]?

/-- The open row of an instant of the present grid. -/
def openRow (k : Nat) (h : Hw) : Option Row := h.ing.open_.find? (fun r => r.k == k && r.f == fGrid h)

/-- A row that is open or still in the ring. -/
def anyRow (k : Nat) (h : Hw) : Option Row :=
  match openRow k h with
  | some r => some r
  | none => settledRow k h

/-- Change an open row. -/
def modRow (k : Nat) (f : Row → Row) (h : Hw) : Hw :=
  let g := fGrid h
  { h with ing := { h.ing with open_ := h.ing.open_.map (fun r => if r.k = k ∧ r.f = g then f r else r) } }

/-- Slots of a stream in a row. -/
def partSlots (s n : Nat) (r : Row) : List Slot := (List.range n).map (fun j => tget r.slots (8 * s + j) { origin := 6 })

/-- The newest of a list of rows that has a property. -/
def newestOf (p : Row → Bool) (l : List Row) : Option Row :=
  l.foldl (fun best r =>
    if p r = false then best
    else match best with
      | some b => if b.k < r.k then some r else best
      | none => some r) none

/-- Slots of a stream at instant k - 1; at the first instant of a new grid, those of the last row of the grid before it. -/
def before (s n k : Nat) (h : Hw) : List Slot :=
  let none_ : List Slot := List.replicate n { origin := 6 }
  match k with
  | 0 => none_
  | j + 1 => match anyRow j h with
    | some r => partSlots s n r
    | none =>
      if j + 1 = h.ing.firstK then ((newestOf (fun r => r.f != fGrid h) (h.ing.open_ ++ h.ing.ring)).map (partSlots s n)).getD none_ else none_

/-- A stream's part of an instant formed from arrived inputs. -/
def arrivedPart (s : Nat) (v : Formed) (r : Row) : Row :=
  { r with parts := tset r.parts s (.arrived v.stamp), synch := tset r.synch s v.synch }

/-- Write a stream's slots into a row. -/
def writeSlots (s : Nat) (l : List Slot) (r : Row) : Row :=
  { r with slots := l.zipIdx.foldl (fun t e => tset t (8 * s + e.2) e.1) r.slots }

/-- A record of R119. -/
def ingestRecord (code source s old new run cause port k t : Nat) (h : Hw) : Hw :=
  evr code source (le 2 s ++ le 1 old ++ le 1 new ++ le 2 (min run 0xFFFF) ++ le 1 cause ++ le 1 port ++ le 8 k ++ timeBytes t) h

/-- The state a reply reports (R107). -/
def streamState (st : Stream) : Nat := if st.blocked then 5 else if st.resets.isEmpty then st.state else 0

/-- Move a stream to a state; transitions marked in R107 write a record, and none is written for instants before a block that
are decided after it. While its gate is closed a stream does not change its state (R411). -/
def moveStream (s new k t : Nat) (h : Hw) : Hw :=
  let st := streamAt s h
  let h' := putStream s { st with state := new, mayHold := if new = 1 then true else if new = 4 then false else st.mayHold } h
  if st.gated || streamShut s h then h
  else if st.state = new ∨ st.blocked ∨ st.resets ≠ [] then h'
  else if st.state = 0 ∧ (new = 3 ∨ new = 4) then h'
  else ingestRecord 0x0510 0x05FF s st.state new st.run 0 0 k t h'

/-- Flags of a substituted slot (R104). -/
def heldFlags (p : Slot) : Nat := p.flags &&& 0xF3

/-- Substitutes of R104 and R106 for one slot: held, predicted, invalid. -/
def heldSlot (p : Slot) : Slot := { value := p.value, q := p.q ||| 0x480, origin := 2, flags := heldFlags p }
def predictedSlot (v : F32) (p : Slot) : Slot := { value := v, q := 0x403, origin := 4, flags := heldFlags p }
def invalidSlot (p : Slot) : Slot := { value := p.value, q := (p.q ||| 0x480) / 4 * 4 + 1, origin := 5, flags := heldFlags p }
def graceSlot (p : Slot) : Slot := { value := 0#32, q := 0x401, origin := 5, flags := heldFlags p }
/-- A blocked slot (R110). -/
def blockedSlot (p : Slot) : Slot := { value := p.value, q := 0x1401, origin := 5, flags := 0x20 }

/-- A slot of a stream whose gate is closed (R411). -/
def gatedSlot (p : Slot) : Slot := { value := p.value, q := 0x441, origin := 5, flags := 0 }

/-- The slot of a stream whose gate is closed, or of a blocked one. -/
def shutSlot (gate : Bool) (p : Slot) : Slot := if gate then gatedSlot p else blockedSlot p

/-- The provisional value of a slot (R106). -/
def provisional (slot k : Nat) (p : Slot) (h : Hw) : Slot :=
  match predict slot k h with
  | some v => { predictedSlot v p with origin := 3 }
  | none => { heldSlot p with origin := 3 }

/-- The slots substituted at run r (R104): held only where the stream holds a value received since it was last LOST or WAITING. -/
def substitutes (s k r hold : Nat) (mayHold grace : Bool) (prev : List Slot) (h : Hw) : List Slot :=
  prev.zipIdx.map (fun e =>
    if grace then graceSlot e.1
    else if r ≤ hold ∧ mayHold then heldSlot e.1
    else if r ≤ 48 then (match predict (8 * s + e.2) k h with | some v => predictedSlot v e.1 | none => invalidSlot e.1)
    else invalidSlot e.1)

/-- Close a stream's part of a row with substituted or blocked slots, and count them (R114). -/
def closePart (s k : Nat) (part : RowPart) (l : List Slot) (h : Hw) : Hw :=
  let h := modRow k (fun r => writeSlots s l { r with parts := tset r.parts s part }) h
  let st := streamAt s h
  let has (o : Nat) : Bool := l.any (fun x => x.origin == o)
  putStream s { st with
    held := if has 2 then inc32 st.held else st.held
    predicted := if has 4 then inc32 st.predicted else st.predicted
    invalid := if has 5 then inc32 st.invalid else st.invalid } h

/-- An undecided instant that can no longer be formed: a sample that it needs has not come, and would be late (R97). -/
def doomed (c : StreamConfig) (st : Stream) (f k now : Nat) : Bool :=
  if unsynced st then horizonAt c st f k < now
  else (syncNeeds c.rate f k).any (fun i => (sampleAt st i).isNone && (syncUsers c.rate f i).any (fun j => horizonAt c st f j < now))

/-- The run r of a substituted instant (R104): one more than that of a substituted instant before it, which may be one whose
horizon is still to come and which can no longer be formed (log 70). `lo` is the first instant that `base`, the run before it,
does not cover; `fuel` bounds the open rows. -/
def runAt : Nat → Nat → Nat → Nat → StreamConfig → Nat → Hw → Nat
  | 0, _, _, _, _, _, _ => 1
  | fuel + 1, lo, base, s, c, k, h =>
    if k ≤ lo then base + 1
    else match (anyRow (k - 1) h).map (fun r => (tfind r.parts s : Option RowPart)) with
      | some (some (RowPart.substituted r _)) => r + 1
      | some none => if doomed c (streamAt s h) (fGrid h) (k - 1) (exact h.time.now) then runAt fuel lo base s c (k - 1) h + 1 else 1
      | _ => 1

/-- An instant from `lo` on and before k was formed from arrived inputs. -/
def receivedIn (s lo k : Nat) (h : Hw) : Bool :=
  (h.ing.open_ ++ h.ing.ring).any (fun r => lo ≤ r.k && r.k < k && r.f == fGrid h
    && (match tfind r.parts s with | some (.arrived _) => true | _ => false))

/-- The last instant at or before k from which the stream starts anew, with the end of its grace period. -/
def startOf (st : Stream) (k : Nat) : Option (Nat × Nat) := (st.resets.filter (fun e => e.1 ≤ k)).getLast?

/-- What a stream brings to an instant k from the instants before it: whether it is WAITING within its grace period, whether it
holds a received value, and the run it would have when substituted there (R104, R107). -/
def bringsTo (s : Nat) (c : StreamConfig) (k : Nat) (h : Hw) : Bool × Bool × Nat :=
  let st := streamAt s h
  match startOf st k with
  | some (k0, ge) =>
    let got := receivedIn s k0 k h
    (decide (k < ge) && !got, got, runAt 64 k0 0 s c k h)
  | none =>
    let got := receivedIn s st.nextK k h
    (st.state == 0 && decide (k < st.graceEnd) && !got, st.mayHold || got, runAt 64 st.nextK st.run s c k h)

/-- The stream's entry with what the last instants of the replaced Bloom leave it, for one that goes on from there (R107). -/
def withCarried (s : Nat) (h : Hw) : Stream :=
  let st := streamAt s h
  match (if st.carried then h.cfg.old else none) with
  | none => st
  | some o =>
    let v := oldView o h
    match o.image.streams[s]? with
    | none => st
    | some c =>
      let (_, may, run) := bringsTo s c o.endK v
      let e := streamAt s v
      let start := startOf e o.endK
      let waiting := start.isSome || e.state == 0
      let got := receivedIn s ((start.map (fun x => x.1)).getD e.nextK) o.endK v
      { st with
        run := run - 1, mayHold := may, state := if waiting then (if got then 1 else 0) else e.state
        graceEnd := (((start.map (fun x => x.2)).getD e.graceEnd) * fGrid h + fGrid v - 1) / fGrid v }

/-- Substitute a stream at an instant (R104); one whose gate is closed is shut (R411). -/
def substitute (s : Nat) (c : StreamConfig) (k : Nat) (h : Hw) : Hw :=
  if streamShut s h then modRow k (fun r => { r with parts := tset r.parts s (.shut true) }) h
  else
    let st := streamAt s h
    let (grace, may, run) := bringsTo s c k (putStream s (withCarried s h) h)
    let r := if grace then 0 else run
    closePart s k (.substituted r (horizonAt c st (fGrid h) k / 14400000000000))
      (substitutes s k r (streamValues st k).2.1 may grace (before s c.channels.length k h) h) h

/-- The stream starts anew from WAITING at an instant (R107, R411). -/
def startAnew (k : Nat) (st : Stream) : Stream :=
  match startOf st k with
  | some (_, ge) => { st with state := 0, run := 0, mayHold := false, graceEnd := ge, resets := st.resets.filter (fun e => k < e.1) }
  | none => st

/-- Take one decided instant into the run and the state (R107); a shut one takes the slots of the last instant before (R110). -/
def takePart (s : Nat) (c : StreamConfig) (k : Nat) (r : Row) (part : RowPart) (h : Hw) : Hw :=
  let st := streamAt s h
  match part with
  | .arrived t => moveStream s 1 k t (putStream s { st with run := 0, lastArrived := k, nextK := k + 1, shutSlots := [] } h)
  | .substituted n t =>
    let h := putStream s { st with run := n, nextK := k + 1, shutSlots := [] } h
    let has (o : Nat) : Bool := (partSlots s c.channels.length r).any (fun x => x.origin == o)
    if n = 0 then h else moveStream s (if has 2 then 2 else if has 4 then 3 else 4) k t h
  | .shut gate =>
    let base := if st.shutSlots = [] then before s c.channels.length k h else st.shutSlots
    let h := closePart s k (.shut gate) (base.map (shutSlot gate)) h
    let st := { streamAt s h with shutSlots := base, nextK := k + 1 }
    putStream s (if gate then st else { st with run := 0, state := 0, mayHold := false }) h

/-- Take into the run and the state, in instant order, the instants already decided (R107); `fuel` bounds the open rows. -/
def advance : Nat → Nat → StreamConfig → Hw → Hw
  | 0, _, _, h => h
  | fuel + 1, s, c, h =>
    let st := streamAt s h
    let k := st.nextK
    if openLimit h ≤ k ∨ st.carried then h
    else match anyRow k h with
      | none => advance fuel s c (putStream s { st with nextK := h.ing.open_.foldl (fun m r => if r.f = fGrid h ∧ k < r.k ∧ r.k < m then r.k else m) (openLimit h) } h)
      | some r => match tfind r.parts s with
        | some part => advance fuel s c (takePart s c k r part (putStream s (startAnew k st) h))
        | none => h

/-- Advance every subscribed stream. -/
def advanceStreams (h : Hw) : Hw := (streamsOf h).zipIdx.foldl (fun h e => advance 4200 e.2 e.1 h) h

/-- Advance every stream of the Bloom in force, and those of a replaced one that do not go on in it. -/
def advanceAll (h : Hw) : Hw :=
  inOld (fun v => (streamsOf v).zipIdx.foldl (fun v e => if ((h.cfg.old.map (fun o => o.streams)).getD []).any (fun x => x.1 == e.2) then advance 4200 e.2 e.1 v else v) v)
    (advanceStreams h)

/-- Substitute a stream at an instant that is still undecided. -/
def expire (s : Nat) (c : StreamConfig) (k : Nat) (h : Hw) : Hw :=
  match openRow k h with
  | some r => if tfind r.parts s = none then substitute s c k h else h
  | none => h

/-! ### Settlement (R98, R105) -/

/-- Every stream subscribed when the row opened is fixed at it. -/
def complete? (r : Row) (h : Hw) : Bool :=
  (List.range (r.width / 8)).all (fun s => match tfind r.parts s with
    | none => false
    | some (.shut _) => r.k < (streamAt s h).nextK
    | some _ => true)

/-- Pass rows to the consumers in instant order: those below every open row. Rows of a new grid follow the last of the old. -/
def handOn (h : Hw) : Hw :=
  if (match h.cfg.old with | some o => !sameGrid o h | none => false) then h
  else
    let lim := h.ing.open_.foldl (fun m r => if r.f = fGrid h then min m r.k else m) (openLimit h)
    let due := (h.ing.ring.filter (fun r => r.f == fGrid h && h.ing.nextSettle ≤ r.k && r.k < lim)).mergeSort (fun a b => a.k ≤ b.k)
    { h with ing := { h.ing with handoff := h.ing.handoff ++ due.map (fun r => (r.bloomSeq, r.k)), nextSettle := max h.ing.nextSettle lim } }

/-- The newest settled instant of the present grid, 0 before any. -/
def gridTop (h : Hw) : Nat := ((newestOf (fun r => r.f == fGrid h) h.ing.ring).map (fun r => r.k)).getD 0

/-- A row of the Bloom on whose behalf ingest acts is complete. -/
def due? (h : Hw) (r : Row) : Bool := r.bloomSeq == h.cfg.bloomSeq && complete? r h

/-- The latest horizon among the streams of an instant (R105, R168). -/
def latestHorizon (k : Nat) (h : Hw) : Nat :=
  (streamsOf h).zipIdx.foldl (fun m c => max m (horizonAt c.1 (streamAt c.2 h) (fGrid h) k)) 0

/-- Settle every complete row; `hz` says that a horizon decides. A row leaves the ring 4,096 instants later; rows of a grid
no longer in force leave as 4,096 rows have followed (log 71). -/
def settleRows (hz : Bool) (h : Hw) : Hw :=
  let due := h.ing.open_.filter (due? h)
  if due = [] then h
  else
    let top := due.foldl (fun m r => max m r.k) (gridTop h)
    let i := { h.ing with
      open_ := h.ing.open_.filter (fun r => !due? h r)
      ring := ((due.map (fun r => ({ r with settled := some (h.time.now, hz), horizon := latestHorizon r.k h } : Row))).reverse
        ++ (h.ing.ring.take 4096).filter (fun r => r.f != fGrid h || top < r.k + 4096))
      lastSettled := top
      byHorizon := if hz then sat32 (h.ing.byHorizon + due.length) else h.ing.byHorizon }
    handOn { h with ing := i }

/-- Settle the complete rows of the Bloom in force and of the one it has replaced. -/
def settleAll (hz : Bool) (h : Hw) : Hw := inOld (settleRows hz) (settleRows hz h)

/-! ### Opening a row (R98, R106, R110, R117) -/

/-- What a stream's block or unblock request does at the first row that opens after it: an unblocked stream starts anew there. -/
def takeBlock (s k : Nat) (h : Hw) : Hw :=
  let st := streamAt s h
  match st.blockReq with
  | none => h
  | some b =>
    let h' := putStream s (if b then { st with blockReq := none, blocked := true }
      else { st with blockReq := none, blocked := false, resets := st.resets ++ [(k, k + 10 * (streamValues st k).1)], samples := [] }) h
    if b = st.blocked then putStream s { st with blockReq := none } h
    else if b then ingestRecord 0x0510 0x05FF s (streamState st) 5 st.run 0 0 k h.time.now h'
    else ingestRecord 0x0510 0x05FF s 5 0 0 0 0 k h.time.now h'

/-- What a change of the gate does at the first row that opens after it: the stream starts anew as it opens (R411). -/
def takeGate (s k : Nat) (h : Hw) : Hw :=
  let st := streamAt s h
  let g := streamShut s h
  if g = st.gated then h
  else if g then putStream s { st with gated := true, samples := [] } h
  else putStream s { st with gated := false, resets := st.resets ++ [(k, k + 10 * (streamValues st k).1)] } h

/-- Fill one stream's part of a row that opens: shut, formed already, or provisional. -/
def openPart (s k : Nat) (c : StreamConfig) (h : Hw) : Hw :=
  let h := takeGate s k (takeBlock s k h)
  let st := streamAt s h
  let prev := before s c.channels.length k h
  if st.blocked ∨ st.gated then modRow k (fun r => writeSlots s (prev.map (shutSlot (!st.blocked))) { r with parts := tset r.parts s (.shut (!st.blocked)) }) h
  else match formValues c st (fGrid h) k with
    | some v => modRow k (fun r => writeSlots s v.slots (arrivedPart s v r)) h
    | none => modRow k (fun r => writeSlots s (prev.zipIdx.map (fun e => provisional (8 * s + e.2) k e.1 h)) { r with provisional := true }) h

/-- Open the row of instant k; simulated frames are accepted from here as SIM_ACCEPT says (R108). -/
def openOne (k : Nat) (first : Option Nat) (h : Hw) : Hw :=
  let on := h.ing.simReq.getD h.ing.simAccept
  let streams := if on then h.ing.streams else tmap h.ing.streams (fun _ s => { s with simUse := false })
  let h := { h with ing := { h.ing with simAccept := on, simOn := on, simReq := none, streams := streams } }
  let r : Row := { k := k, f := fGrid h, first := first, sim := on, width := 8 * (streamsOf h).length, bloomSeq := h.cfg.bloomSeq }
  let h := { h with ing := { h.ing with open_ := h.ing.open_ ++ [r], nextOpen := k + 1, opened := h.ing.opened ++ [(h.cfg.bloomSeq, k)] } }
  (streamsOf h).zipIdx.foldl (fun h e => openPart e.2 k e.1 h) h

/-- Close a row that is 64 instants or more behind: every stream is past its horizon there (R98). -/
def passOver (k : Nat) (h : Hw) : Hw :=
  settleRows true (advanceStreams ((streamsOf h).zipIdx.foldl (fun h e => expire e.2 e.1 k h) h))

/-- The instants that may open: those of the Bloom, below the first of a committed swap. -/
def mayOpen (k : Nat) (h : Hw) : Bool :=
  h.ing.firstK ≤ k && (match h.ing.endK with
    | some e => decide (k < e)
    | none => match h.cfg.swap with | some w => !w.committed || decide (k < w.ks) | none => true)

/-- Open rows up to instant k, in instant order: every instant has a row. One that falls out of the store of 64 settles at once. -/
def openRange (k : Nat) (first : Option Nat) (h : Hw) : Hw :=
  if k < h.ing.nextOpen ∨ mayOpen k h = false then h
  else
    let from_ := max h.ing.firstK h.ing.nextOpen
    (List.range (k + 1 - from_)).foldl (fun h i =>
      let h := openOne (from_ + i) (if from_ + i = k then first else none) h
      if from_ + i + 64 ≤ k then passOver (from_ + i) h else h) h

/-- Open what is left of the instants of a replaced Bloom. -/
def openRest (v : Hw) : Hw := openRange ((v.ing.endK.getD 0) - 1) none v

/-- Open rows up to instant k. The instants of a replaced Bloom come first, and one of them opens under it (R98, R489). -/
def openTo (k : Nat) (first : Option Nat) (h : Hw) : Hw :=
  match h.cfg.old with
  | none => openRange k first h
  | some o =>
    if k < h.ing.firstK then (if sameGrid o h then inOld (openRange k first) h else h)
    else if k < h.ing.nextOpen then h
    else openRange k first (inOld openRest h)

/-- The states in which ingest and alignment run. -/
def ingestRuns (h : Hw) : Bool := h.mode == .ready || h.mode == .serving || h.mode == .test

/-- Earliest expected arrival of an instant among the subscribed streams (R98). -/
def openDue (k : Nat) (h : Hw) : Bool :=
  (streamsOf h).zipIdx.any (fun e => expectedAt e.1 (streamAt e.2 h) (fGrid h) k ≤ exact h.time.now)

/-- An instant of the replaced Bloom whose row is still to open. -/
def oldToOpen (k : Nat) (h : Hw) : Bool :=
  match h.cfg.old with
  | some o => o.nextOpen ≤ k && k < o.endK
  | none => false

/-- Row k opens at its earliest expected arrival. -/
def openAtDue (k : Nat) (h : Hw) : Hw := if h.ing.nextOpen ≤ k ∧ openDue k h then openTo k none h else h

/-- ROW_OPEN's effect: row k opens, under the Bloom whose instant it is. -/
def rowOpen (k : Nat) (h : Hw) : Hw :=
  if ingestRuns h then settleAll false (advanceAll (if oldToOpen k h then inOld (openAtDue k) h else openAtDue k h)) else h

/-- A horizon has passed: the stream's part of an open row that is still undecided is substituted (R103, R104). -/
def expireAt (s k : Nat) (h : Hw) : Hw :=
  match subscription s h, openRow k h with
  | some c, some r =>
    if r.bloomSeq = h.cfg.bloomSeq ∧ tfind r.parts s = none ∧ horizonAt c (streamAt s h) (fGrid h) k < exact h.time.now then substitute s c k h else h
  | _, _ => h

/-- Instant k has an open row of the replaced Bloom. -/
def oldOpen (k : Nat) (h : Hw) : Bool :=
  match h.cfg.old with
  | some o => h.ing.open_.any (fun r => r.k == k && r.bloomSeq == o.seq)
  | none => false

/-- HORIZON_EXPIRY's effect (R103, R104), under the Bloom of the instant. -/
def horizonExpiry (s k : Nat) (h : Hw) : Hw :=
  if ingestRuns h then settleAll true (advanceAll (if oldOpen k h then inOld (expireAt s k) h else expireAt s k h)) else h

/-! ### Frames (R93 to R97) -/

/-- Store a process-bus port's counters. -/
def putIngestPort (n : Nat) (p : IngestPort) (h : Hw) : Hw := { h with ing := { h.ing with ports := tset h.ing.ports n p } }

/-- The arriving port is in the subscription's port set; pair n is ports 2n and 2n + 1. -/
def portMatch (c : StreamConfig) (port : Nat) : Bool := if c.single then c.port == port else port / 2 == c.port

/-- The subscription a frame's identity matches (R91; VLAN 0 matches untagged and priority-tagged frames). -/
def matching (f : SvFrame) (h : Hw) : Option (StreamConfig × Nat) :=
  (streamsOf h).zipIdx.find? (fun e => e.1.appid == f.appid && e.1.mac == f.mac && e.1.vlan == f.vlan && e.1.svId == f.svId)

/-- A frame uses only the options of R90. -/
def frameOptions (f : SvFrame) : Bool :=
  f.ethertype == 0x88BA && f.tags ≤ 1 && (f.smpMod == none || f.smpMod == some 0) && !f.otherOption

/-- Check 3 of R93. -/
def wellFormedFrame (c : StreamConfig) (f : SvFrame) : Bool :=
  frameOptions f && f.asdus.length == c.asdus
  && f.asdus.all (fun a => a.values.length == c.channels.length && a.smpCnt < c.rate)
  && (match f.asdus with | a :: _ => a.smpCnt % c.asdus == 0 | [] => false)

/-- Check 5: the cause of a failure, or the AUTH flags and whether the successor's key verified (R94). -/
def authVerdict (c : StreamConfig) (f : SvFrame) (h : Hw) : Option Nat × Nat × Bool :=
  if c.auth = 0 then (none, 0, false)
  else match f.ext with
    | none => if c.auth = 3 then (none, 0x10, false) else (some 0, 0, false)
    | some id => match receiveKey (c.key.getD 0) id h with
      | (some cause, _) => (some cause, 0, false)
      | (none, succ) => if f.verifies then (none, 0x08, succ) else (some 3, 0, false)

/-- smpSynch as R90 treats it. -/
def synchOf (v : Nat) : Nat := if v = 1 ∨ v = 2 then v else 0

/-- The sample of an ASDU: its index and time by R96. -/
def sampleOf (c : StreamConfig) (lExp flags arrival : Nat) (a : Asdu) : Sample :=
  let j := a.smpCnt % c.asdus
  if synchOf a.smpSynch = 0 then
    let back := exactNs lExp + exactPeriods (c.asdus - 1 - j) c.rate
    { index := none, time := (exact arrival - back) / 14400000000000, smpCnt := a.smpCnt, smpSynch := 0, values := a.values, flags := flags + 2, arrival := arrival }
  else
    let s := (exact arrival + exactPeriods (c.rate / 2) c.rate - exactPeriods a.smpCnt c.rate) / exactPeriods c.rate c.rate
    let i := s * c.rate + a.smpCnt
    { index := some i, time := exactPeriods i c.rate / 14400000000000, smpCnt := a.smpCnt, smpSynch := synchOf a.smpSynch, values := a.values, flags := flags, arrival := arrival }

/-- The kept sample that an ASDU repeats (R97). -/
def duplicateOf (st : Stream) (x : Sample) : Option Sample :=
  match x.index with
  | some i => sampleAt st i
  | none => st.samples.find? (fun s => s.index == none && s.smpCnt == x.smpCnt && x.arrival ≤ s.arrival + secUnit)

/-- Instants of the stream's subscription that need a sample. -/
def needersOf (c : StreamConfig) (st : Stream) (x : Sample) (h : Hw) : List Nat :=
  (match x.index with
    | some i => syncUsers c.rate (fGrid h) i
    | none => unsyncUsers c.rate (fGrid h) x.time).filter (fun k => decide (st.from_ ≤ k) && (match h.ing.endK with | some e => decide (k < e) | none => true))

/-- A horizon of an instant that needs a synchronised sample has passed as it arrives. -/
def pastHorizon (c : StreamConfig) (st : Stream) (x : Sample) (h : Hw) : Bool :=
  x.index.isSome && (needersOf c st x h).any (fun k => decide (horizonAt c st (fGrid h) k < exact x.arrival))

/-- An ASDU is late when an instant that needs it has passed its horizon (R97), under the Bloom in force or, for an instant
before the change-over, under the one it has replaced. An unsynchronised one takes its time from its arrival (R96), so no
horizon of an instant that needs it has passed. -/
def lateSample (s : Nat) (c : StreamConfig) (st : Stream) (x : Sample) (h : Hw) : Bool :=
  pastHorizon c st x h || (match h.cfg.old with
    | some o => match o.image.streams[s]?, tfind o.streams s with
      | some d, some e => sameStream d c && pastHorizon d e x (oldView o h)
      | _, _ => false
    | none => false)

/-- Form every open instant of a stream whose inputs are now complete (R102). -/
def formOpen (s : Nat) (c : StreamConfig) (users : List Nat) (h : Hw) : Hw :=
  users.foldl (fun h k =>
    match openRow k h with
    | none => h
    | some r =>
      if tfind r.parts s ≠ none then h
      else match formValues c (streamAt s h) (fGrid h) k with
        | some v => modRow k (fun r => writeSlots s v.slots (arrivedPart s v r)) h
        | none => h) h

/-- Mark the first arrival stamp of the rows a frame contributes to (R101). -/
def stampRows (users : List Nat) (arrival : Nat) (h : Hw) : Hw :=
  users.foldl (fun h k => modRow k (fun r => if r.first = none then { r with first := some arrival } else r) h) h

/-- The instant at or before a sample's time. -/
def sampleInstant (c : StreamConfig) (x : Sample) (f : Nat) : Nat :=
  match x.index with
  | some i => i * f / c.rate
  | none => x.time * f / 2 ^ 64

/-- The exact time of a sample. -/
def sampleExact (c : StreamConfig) (x : Sample) : Nat :=
  match x.index with
  | some i => exactPeriods i c.rate
  | none => exact x.time

/-- Check 8 and acceptance of one ASDU (R97). -/
def takeAsdu (s : Nat) (c : StreamConfig) (port flags : Nat) (a : Asdu) (h : Hw) : Hw :=
  let st := streamAt s h
  let now := h.time.now
  let x := sampleOf c (streamValues st (now * fGrid h / 2 ^ 64)).2.2 flags now a
  let k := sampleInstant c x (fGrid h)
  if exact now + exactNs 20000 < (match x.index with | some i => exactPeriods i c.rate | none => 0) then putStream s { st with early := inc32 st.early } h
  else match duplicateOf st x with
    | some y =>
      let h := putStream s { st with dup := inc32 st.dup } h
      if y.values = x.values then h
      else
        let st := streamAt s h
        ingestRecord 0x0511 (0x0500 + port) s 0 0 st.run 0 port k now (putStream s { st with dupDiff := inc32 st.dupDiff } h)
    | none =>
      if lateSample s c st x h then putStream s { st with late := inc32 st.late } h
      else
        let keep := st.samples.filter (fun y => now ≤ y.arrival + secUnit)
        let h := putStream s { st with accepted := st.accepted + 1, samples := x :: keep } h
        let users := needersOf c st x h
        let h := users.foldl (fun h k => openTo k (some now) h) h
        formOpen s c users (stampRows users now h)

/-- Latency statistics (R96, R111): minimum, maximum, and an exponential mean of weight 1/256; the mean's rounding to
whole ns is free (log 3). -/
def noteLatency (s : Nat) (c : StreamConfig) (f : SvFrame) (h : Hw) : Hw :=
  let st := streamAt s h
  match f.asdus.getLast? with
  | none => h
  | some a =>
    let x := sampleOf c (streamValues st (h.time.now * fGrid h / 2 ^ 64)).2.2 0 h.time.now a
    let ns := (exact h.time.now - sampleExact c x) / exactNs 1
    let mean := (roundOpen (mkRat ((st.latMean * 255 + ns : Nat) : Int) 256) h).toNat
    drawn (putStream s { st with latMin := some (min ns (st.latMin.getD ns)), latMax := max ns st.latMax, latMean := mean } h)

/-- Check 6 (R108): the verdict on the simulation bit; with SIM_ACCEPT on, a stream that has had a simulated frame takes no other. -/
def simDrops (st : Stream) (f : SvFrame) (h : Hw) : Bool :=
  if h.ing.simOn then st.simUse && !f.sim else f.sim

/-- Checks 2 to 8 for the stream a frame matches. The instant that an authentication-failure record names is the one at or before
the arrival (the model's choice, log 104). -/
def takeFrame (port : Nat) (f : SvFrame) (c : StreamConfig) (s : Nat) (h : Hw) : Hw :=
  let st := streamAt s h
  let p := tget h.ing.ports port {}
  if portMatch c port = false then
    putIngestPort port { p with wrongPort := inc32 p.wrongPort } (putStream s { st with wrongPort := inc32 st.wrongPort } h)
  else if wellFormedFrame c f = false then putStream s { st with malformed := inc32 st.malformed } h
  else if f.confRev ≠ c.confRev then putStream s { st with confRev := inc32 st.confRev } h
  else match authVerdict c f h with
    | (some cause, _, _) =>
      let due := match st.authRecord with | none => true | some t => t + secUnit ≤ h.time.mono
      let h := putIngestPort port { p with authFail := inc32 p.authFail }
        (putStream s { st with authFail := inc32 st.authFail, authRecord := if due then some h.time.mono else st.authRecord } h)
      if due then ingestRecord 0x0512 (0x0500 + port) s 0 0 st.run cause port (h.time.now * fGrid h / 2 ^ 64) h.time.now h else h
    | (none, flags, succ) =>
      if simDrops st f h then putStream s { st with simDrop := inc32 st.simDrop } h
      else if st.blocked ∨ streamShut s h then putStream s { st with blockedDrop := inc32 st.blockedDrop } h
      else
        let syn := match f.asdus.getLast? with | some a => a.smpSynch | none => 2
        let h := noteLatency s c f h
        let st := streamAt s h
        let h := putStream s { st with
          lastSynch := synchOf syn, anyFrame := true, simUse := st.simUse || f.sim
          underSuccessor := if flags = 8 then succ else st.underSuccessor } h
        f.asdus.foldl (fun h a => takeAsdu s c port (flags + flag f.sim 0) a h) h

/-- The subscription of the replaced Bloom that a frame matches, where it does not go on as it is. -/
def oldMatch (f : SvFrame) (h : Hw) : Option (OldBloom × StreamConfig × Nat) :=
  h.cfg.old.bind (fun o => ((matching f (oldView o h)).filter (fun e => (tfind o.streams e.2).isSome)).map (fun e => (o, e)))

/-- An instant of the replaced Bloom that is still undecided needs a sample of the frame. -/
def oldNeeds (f : SvFrame) (o : OldBloom) (c : StreamConfig) (s : Nat) (h : Hw) : Bool :=
  let v := oldView o h
  let st := streamAt s v
  f.asdus.any (fun a => (needersOf c st (sampleOf c (streamValues st (h.time.now * fGrid v / 2 ^ 64)).2.2 0 h.time.now a) v).any (fun k => decide (st.nextK ≤ k)))

/-- A frame of a stream that goes on under another dataset or grid reaches the rows before the change-over as well; it is
counted and recorded once, under the Bloom in force. -/
def feedOld (port : Nat) (f : SvFrame) (h : Hw) : Hw :=
  match oldMatch f h with
  | none => h
  | some (_, c, s) =>
    let g := inOld (takeFrame port f c s) h
    { h with cfg := { h.cfg with old := g.cfg.old }, ing := { h.ing with open_ := g.ing.open_, opened := g.ing.opened } }

/-- Check 1 and the checks after it: the stream that a frame matches in the Bloom in force, or, while instants before the
change-over need it, in the one it has replaced (R93, R489). -/
def acceptFrame (port : Nat) (f : SvFrame) (p : IngestPort) (h : Hw) : Hw :=
  match matching f h with
  | some (c, s) => feedOld port f (takeFrame port f c s (putIngestPort port p h))
  | none => match (oldMatch f h).filter (fun e => oldNeeds f e.1 e.2.1 e.2.2 h) with
    | some (_, c, s) => inOld (takeFrame port f c s) (putIngestPort port p h)
    | none => putIngestPort port { p with unmatched := inc32 p.unmatched } h

/-- SV_FRAME_RX's effect: only process-bus ports 0 to 7 reach ingest (R90); the port's counters and its limit of 2,000,000 frames/s, then the checks of R93. -/
def svFrame (port : Nat) (f : SvFrame) (h : Hw) : Hw :=
  if ingestRuns h = false ∨ 8 ≤ port then h
  else
    let p := tget h.ing.ports port {}
    let sec := secOf h.time.now
    let n := if p.second = sec then p.inSecond + 1 else 1
    let p := { p with seen := p.seen + 1, second := sec, inSecond := n }
    if 2000000 < n then putIngestPort port { p with overrun := inc32 p.overrun } h
    else settleAll false (advanceAll (acceptFrame port f p h))

/-! ### The image and the swap (R91, R92) -/

/-- Frames per second that a list of streams puts on a port. -/
def portRate (l : List StreamConfig) (port : Nat) : Nat :=
  (l.map (fun c => if portMatch c port then c.rate / c.asdus else 0)).foldl (· + ·) 0

/-- Some earlier entry has the same identity. -/
def overlaps : List StreamConfig → Option Nat
  | l => (l.zipIdx.find? (fun e => (l.take e.2).any (fun d => d.appid == e.1.appid && d.mac == e.1.mac && d.vlan == e.1.vlan && d.svId == e.1.svId))).map (fun e => e.2)

/-- The refusals of R92: reason and stream. -/
def checkIngest (b : Image) (h : Hw) : Option (Nat × Nat) :=
  let find (f : StreamConfig → Bool) : Option Nat := (b.streams.zipIdx.find? (fun e => f e.1)).map (fun e => e.2)
  match overlaps b.streams with
  | some s => some (rcIngestStreamOverlap, s)
  | none =>
  match find (fun c => !(c.rate == 4800 || c.rate == 14400) || !(c.asdus == 1 || c.asdus == 2 || c.asdus == 6) || c.channels.length == 0 || 8 < c.channels.length) with
  | some s => some (rcIngestDataset, s)
  | none =>
  match (List.range 8).find? (fun p => 2000000 < portRate b.streams p) with
  | some p => some (rcIngestPortRate, p)
  | none =>
  match find (fun c => (if c.single then 7 < c.port else 3 < c.port) || c.appid < 0x4000 || 0x7FFF < c.appid || 4095 < c.vlan || c.svId.length == 0 || 129 < c.svId.length
      || 2 ^ 48 ≤ c.mac || 2 ^ 32 ≤ c.confRev || 2000000 < c.lExpNs || c.horizon == 0 || 3 < c.horizon || c.hold == 0 || 8 < c.hold || 3 < c.auth
      || c.channels.any (fun ch => !(fFinite ch.scale && fLt 0#32 ch.scale) || 2 < ch.kind || (match ch.loop with | some i => 127 < i | none => false))) with
  | some s => some (rcIngestParamRange, s)
  | none =>
  match find (fun c => c.auth != 0 && !(match c.key with | some x => macHandle x h | none => false)) with
  | some s => some (rcIngestKeyUnbound, s)
  | none =>
  match find (fun c => c.channels.any (fun ch => match ch.loop with | some i => !b.loops.any (fun l => l.inst == i) | none => false)) with
  | some s => some (rcIngestGroupUndefined, s)
  | none => none

/-- The rows of the replaced Bloom that are still open when another change-over comes settle at once (log 20). -/
def finishOld (h : Hw) : Hw :=
  match h.cfg.old with
  | none => h
  | some o => settleAll true (advanceAll (inOld (fun v =>
      ((openRest v).ing.open_.filter (fun r => r.bloomSeq == o.seq)).foldl (fun v r => passOver r.k v) (openRest v)) h))

/-- A stream's counters and what it has received go on in a subscription with another dataset or grid; its state follows when
the old rows are settled (R107). -/
def carryStream (k0 : Nat) (c : StreamConfig) (st : Stream) : Stream :=
  { st with
    tuned := false, tune := [], lExpNs := c.lExpNs, horizon := c.horizon, hold := c.hold, nextK := k0, from_ := k0, carried := true
    shutSlots := [], resets := [] }

/-- Install a Bloom's subscriptions from instant k0. Rows before the change-over, the first of whose instants after it is `ks` on the
old grid, run under the old ones: a subscription that goes on as it is shares its entry with them. -/
def installStreams (old : Option Image) (seq : Nat) (b : Image) (k0 ks : Nat) (h : Hw) : Hw :=
  let olds := (old.map (fun o => o.streams)).getD []
  let fOld := gridHz ((old.map (fun o => o.grid)).getD b.grid)
  let fNew := gridHz b.grid
  let shared (s : Nat) : Bool := fOld == fNew && (match olds[s]?, b.streams[s]? with | some o, some c => sameStream o c && o.channels == c.channels | _, _ => false)
  let one (s : Nat) (c : StreamConfig) : Stream :=
    let st := streamAt s h
    if shared s then { st with tuned := false, tune := st.tune ++ [(k0, c.horizon, c.hold, c.lExpNs)] }
    else if (match olds[s]? with | some o => sameStream o c | none => false) then carryStream k0 c st
    else { lExpNs := c.lExpNs, horizon := c.horizon, hold := c.hold, graceEnd := k0 + 10 * c.horizon, nextK := k0, from_ := k0 }
  let apart := (List.range olds.length).filter (fun s => !shared s)
  let tail : OldBloom :=
    { image := old.getD {}, seq := seq, firstK := h.ing.firstK, endK := ks, nextOpen := max h.ing.firstK h.ing.nextOpen, nextSettle := h.ing.nextSettle
      streams := apart.map (fun s => (s, { streamAt s h with held := 0, predicted := 0, invalid := 0 })) }
  { h with
    cfg := { h.cfg with old := if old.isSome then some tail else none }
    ing := { h.ing with
      streams := b.streams.zipIdx.map (fun e => (e.2, one e.2 e.1)), firstK := k0, nextOpen := k0
      nextSettle := if old.isSome ∧ fOld = fNew then h.ing.nextSettle else k0 } }

/-- The last rows of the replaced Bloom are passed on: a stream that goes on with another dataset or grid takes the state and
the counts that they leave it. -/
def takeCarried (h : Hw) : Hw :=
  match h.cfg.old with
  | none => h
  | some o =>
    { h with ing := { h.ing with streams := tmap h.ing.streams (fun s st =>
        if st.carried = false then st
        else
          let e : Stream := tget o.streams s {}
          { withCarried s h with
            carried := false, held := sat32 (st.held + e.held), predicted := sat32 (st.predicted + e.predicted), invalid := sat32 (st.invalid + e.invalid)
            lastArrived := e.lastArrived * fGrid h / gridHz o.image.grid }) } }

/-- Apply the tunes that every decided instant has passed (R118). -/
def settleTunes (st : Stream) : Stream :=
  match st.tune with
  | e :: r =>
    if e.1 ≤ st.nextK then
      let v := streamValues { st with tune := [e] } e.1
      { st with tune := r, horizon := v.1, hold := v.2.1, lExpNs := v.2.2 }
    else st
  | [] => st

/-! ### Presentation (R109) -/

/-- A slot as a function's work item reads it. -/
def presentSlot (multi : Bool) (differ : Bool) (s : Slot) (h : Hw) : Slot :=
  let s := if h.mode = .serving ∧ bit s.q 11 then { s with q := s.q / 4 * 4 + 1 } else s
  let s := if multi ∧ bit s.flags 1 then { s with q := (s.q / 4 * 4 + 1) ||| 0x100 } else s
  if multi ∧ differ then { s with q := s.q ||| 0x100 } else s

/-- The declared streams report different non-zero smpSynch values at a row (R109). -/
def synchDiffers (streams : List Nat) (r : Row) : Bool :=
  let v := (streams.map (fun s => tget r.synch s 0)).filter (fun x => x != 0)
  match v with | [] => false | a :: l => l.any (fun x => x != a)

/-- The slots of a row as they are presented to an item whose function declares these streams. -/
def presentedSlots (streams : List Nat) (r : Row) (h : Hw) : List Slot :=
  (List.range r.width).map (fun i => presentSlot (decide (1 < streams.length)) (synchDiffers streams r) (tget r.slots i {}) h)

/-! ### Commands (R112 to R118) -/

/-- One slot as bytes (R99). -/
def slotBytes (s : Slot) : List Byte := leF s.value ++ le 2 s.q ++ le 1 s.origin ++ le 1 s.flags

/-- Streams of a row with any substituted slot. -/
def substitutedStreams (r : Row) : Nat :=
  ((List.range (r.width / 8)).filter (fun s => r.slots.any (fun e => e.1 / 8 == s && (e.2.origin == 2 || e.2.origin == 4 || e.2.origin == 5)))).length

/-- The header of R101. -/
def rowHeader (r : Row) : List Byte :=
  let n (o : Nat) : Nat := (r.slots.filter (fun e => e.2.origin == o)).length
  let (t, hz) := r.settled.getD (0, false)
  le 8 r.k ++ (match r.first with | some f => timeBytes f | none => zeros 12)
  ++ le 4 (match r.first with | some f => sat32 ((t - f) * 1000000000 / 2 ^ 64) | none => 0xFFFFFFFF)
  ++ le 1 (if hz then 1 else 0) ++ le 1 (flag r.sim 0) ++ le 2 (substitutedStreams r) ++ le 2 (n 2) ++ le 2 (n 4) ++ le 2 (n 5)
  ++ le 2 r.width ++ le 4 r.bloomSeq ++ zeros 24

/-- The INGEST.STATUS payload of R113: all zero in IDLE. -/
def ingestStatus (h : Hw) : List Byte :=
  if h.mode = .idle then zeros 32
  else
    let n (v : Nat) : List Byte := le 2 ((List.range (streamsOf h).length).filter (fun s => streamState (streamAt s h) == v)).length
    le 2 (streamsOf h).length ++ n 1 ++ n 2 ++ n 3 ++ n 4 ++ n 0 ++ n 5 ++ le 1 (if fGrid h = 14400 then 1 else 0)
    ++ le 1 (flag h.ing.simAccept 0 + flag ((List.range (streamsOf h).length).any (fun s => (streamAt s h).tuned)) 1)
    ++ le 8 h.ing.lastSettled ++ le 4 h.ing.byHorizon ++ zeros 4

def cmdIngestStatus : Cmd := { row := rowIngestStatus, body := fun _ _ h => .ok h (ingestStatus h) }

/-- The INGEST.STREAM_STATUS payload of R114. -/
def streamStatusBytes (s : Nat) (st : Stream) : List Byte :=
  let v := streamValues st st.nextK
  le 2 s ++ le 1 (streamState st)
  ++ le 1 (flag st.tuned 0 + flag (st.lastSynch == 0) 1 + flag st.simUse 2 + flag st.blocked 3 + flag st.underSuccessor 4)
  ++ le 2 (min st.run 0xFFFF) ++ le 1 st.lastSynch ++ zeros 1 ++ le 8 st.accepted
  ++ le 4 st.dup ++ le 4 st.dupDiff ++ le 4 st.late ++ le 4 st.early ++ le 4 st.malformed ++ le 4 st.confRev ++ le 4 st.authFail
  ++ le 4 st.wrongPort ++ le 4 st.simDrop ++ le 4 st.blockedDrop ++ le 4 st.held ++ le 4 st.predicted ++ le 4 st.invalid
  ++ le 4 (sat32 (st.latMin.getD 0)) ++ le 4 (sat32 st.latMax) ++ le 4 (sat32 st.latMean) ++ le 8 st.lastArrived
  ++ le 4 v.2.2 ++ le 1 v.1 ++ le 1 v.2.1 ++ zeros 2

/-- A stream with its counters and latency statistics zeroed (R111). -/
def clearStream (st : Stream) : Stream :=
  { st with
    accepted := 0, dup := 0, dupDiff := 0, late := 0, early := 0, malformed := 0, confRev := 0, authFail := 0, wrongPort := 0,
    simDrop := 0, blockedDrop := 0, held := 0, predicted := 0, invalid := 0, latMin := none, latMax := 0, latMean := 0 }

/-- INGEST.STREAM_STATUS (R114). -/
def ingestStreamStatus (p : List Byte) (h : Hw) : CmdResult :=
  match subscription (u16 p 0) h with
  | none => no stBadParam rcIngestNoStream
  | some _ =>
    let st := streamAt (u16 p 0) h
    .ok (if bit (u8 p 2) 0 then putStream (u16 p 0) (clearStream st) h else h) (streamStatusBytes (u16 p 0) st)

def cmdIngestStreamStatus : Cmd :=
  { row := rowIngestStreamStatus, reserved := [(3, 1)], reservedBits := [(2, 1, 0xFE)], body := fun _ p h => ingestStreamStatus p h }

/-- INGEST.PORT_COUNTERS (R115). -/
def ingestPortCounters (p : List Byte) (h : Hw) : CmdResult :=
  if 7 < u8 p 0 then no stBadParam rcIngestParamRange
  else
    let q := tget h.ing.ports (u8 p 0) {}
    let pay := le 8 q.seen ++ le 4 q.unmatched ++ le 4 q.overrun ++ le 4 q.authFail ++ le 4 q.wrongPort ++ zeros 8
    .ok (if bit (u8 p 1) 0 then putIngestPort (u8 p 0) { second := q.second, inSecond := q.inSecond } h else h) pay

def cmdIngestPortCounters : Cmd :=
  { row := rowIngestPortCounters, reserved := [(2, 2)], reservedBits := [(1, 1, 0xFE)], body := fun _ p h => ingestPortCounters p h }

/-- INGEST.ROW_READ (R116): settled rows still in the ring. -/
def ingestRowRead (p : List Byte) (h : Hw) : CmdResult :=
  let n := u16 p 10
  if n = 0 ∨ 1024 < n then no stBadParam rcIngestParamRange
  else match settledRow (u64 p 0) h with
    | none => no stBadParam rcIngestRowUnavailable
    | some r => .ok h (rowHeader r ++ ((List.range n).map (fun i =>
        slotBytes (if u16 p 8 + i < r.width then tget r.slots (u16 p 8 + i) {} else {}))).flatten)

def cmdIngestRowRead : Cmd := { row := rowIngestRowRead, reserved := [(12, 4)], body := fun _ p h => ingestRowRead p h }

/-- INGEST.BLOCK (R110, R117). -/
def ingestBlock (p : List Byte) (h : Hw) : CmdResult :=
  match subscription (u16 p 0) h with
  | none => no stBadParam rcIngestNoStream
  | some _ =>
    if 1 < u8 p 2 then no stBadParam rcIngestParamRange
    else done (putStream (u16 p 0) { streamAt (u16 p 0) h with blockReq := some (u8 p 2 == 1) } h)

def cmdIngestBlock : Cmd := { row := rowIngestBlock, reserved := [(3, 1)], body := fun _ p h => ingestBlock p h }

def cmdIngestSimSet : Cmd :=
  { row := rowIngestSimSet, stateReason := rcIngestSimNotTest, reserved := [(1, 3)]
    body := fun _ p h =>
      if 1 < u8 p 0 then no stBadParam rcIngestParamRange
      else done { h with ing := { h.ing with simReq := some (u8 p 0 == 1) } } }

/-- INGEST.STREAM_TUNE (R118). -/
def ingestStreamTune (p : List Byte) (h : Hw) : CmdResult :=
  match subscription (u16 p 0) h with
  | none => no stBadParam rcIngestNoStream
  | some _ =>
    let l := u32 p 4
    if 3 < u8 p 2 ∨ 8 < u8 p 3 ∨ (2000000 < l ∧ l ≠ 0xFFFFFFFF) then no stBadParam rcIngestParamRange
    else if h.ing.open_.any (fun r => u64 p 8 ≤ r.k) then no stBadParam rcIngestTuneTooSoon
    else
      let st := settleTunes (streamAt (u16 p 0) h)
      done (putStream (u16 p 0) { st with tuned := true, tune := st.tune ++ [(u64 p 8, u8 p 2, u8 p 3, l)] } h)

def cmdIngestStreamTune : Cmd := { row := rowIngestStreamTune, reserved := [(16, 8)], body := fun _ p h => ingestStreamTune p h }

/-- INGEST.STATUS. -/
def execIngestStatus (c : Call) (p : List Byte) : State → Host.Outcome State Fault Refusal := lift (runCmd cmdIngestStatus c p)
/-- INGEST.STREAM_STATUS. -/
def execIngestStreamStatus (c : Call) (p : List Byte) : State → Host.Outcome State Fault Refusal := lift (runCmd cmdIngestStreamStatus c p)
/-- INGEST.PORT_COUNTERS. -/
def execIngestPortCounters (c : Call) (p : List Byte) : State → Host.Outcome State Fault Refusal := lift (runCmd cmdIngestPortCounters c p)
/-- INGEST.ROW_READ. -/
def execIngestRowRead (c : Call) (p : List Byte) : State → Host.Outcome State Fault Refusal := lift (runCmd cmdIngestRowRead c p)
/-- INGEST.BLOCK. -/
def execIngestBlock (c : Call) (p : List Byte) : State → Host.Outcome State Fault Refusal := lift (runCmd cmdIngestBlock c p)
/-- INGEST.SIM_SET. -/
def execIngestSimSet (c : Call) (p : List Byte) : State → Host.Outcome State Fault Refusal := lift (runCmd cmdIngestSimSet c p)
/-- INGEST.STREAM_TUNE. -/
def execIngestStreamTune (c : Call) (p : List Byte) : State → Host.Outcome State Fault Refusal := lift (runCmd cmdIngestStreamTune c p)
end Sys2Proof.Machine
end

