-- ==== Sys2Proof/Machine/FaultOps.lean ====
section
/-! DEFINITION. The fault log and the records of fault actions (R528, R531, R542, R544). -/
namespace Sys2Proof.Machine

/-- The payload of R544. -/
def faultPayload (source kind action seq sl fn count : Nat) (h : Hw) : List Byte :=
  le 2 source ++ le 1 kind ++ le 1 action ++ le 4 seq ++ le 2 sl ++ le 2 fn ++ le 4 count ++ nowBytes h

/-- Enter an error in the fault log, then write CODE 0x1410 for an action of 2 to 8 (R540 item 5, R542, R544). -/
def logFault (source kind action sl fn : Nat) (h : Hw) : Hw :=
  let kind := if h.evr.injecting then kind + 128 else kind
  let n := h.fault.next
  let e : FaultEntry := { sequence := n, source := source, kind := kind, action := action, sec := secOf h.time.now % 2 ^ 32, frac := fracOf h.time.now }
  let h := { h with fault := { h.fault with log := (e :: h.fault.log).take 1024, next := (n + 1) % 2 ^ 32 } }
  if 2 ≤ action then evrSlice 0x1410 0x0F02 sl (faultPayload source kind action n sl fn 0 h) h else h

/-- A function failure (R531): counted, per function too, and reported with action 2. -/
def functionFailure (source sl fn : Nat) (h : Hw) : Hw :=
  let f := { h.fault with failures := inc32 h.fault.failures, perFunction := tmod h.fault.perFunction (sl * 65536 + fn) 0 inc32 }
  logFault source 11 2 sl fn { h with fault := f }

end Sys2Proof.Machine
end

