-- ==== Sys2Proof/Machine/Publisher.lean ====
section
/-! DEFINITION. The CGO output publisher (R167 to R175, R181). -/
namespace Sys2Proof.Machine

/-- The publisher's commands (R172). -/
inductive PubCmd where
  | prime | confirm | rescind | operate | release
  deriving DecidableEq, Repr

/-- Command codes of R172. -/
def pubCode : PubCmd → Nat
  | .prime => 1 | .confirm => 2 | .rescind => 3 | .operate => 4 | .release => 5

/-- What a command carries: its ledger entry (0xFFFF none), its instant, its slice, and a PRIME's deadline. -/
structure Given where
  entry : Nat := 0xFFFF
  k : Nat := 0
  slice : Nat := 0xFFFF
  deadline : Nat := 0
  deadlineNs : Nat := 0
  deriving DecidableEq, Repr

/-- The publisher sends in SERVING and TEST, in the roles SOLO, ACTIVE and CONTESTED (R175). -/
def publishes (h : Hw) : Bool := (h.mode == .serving || h.mode == .test) && h.pair.role != 2

/-- A channel takes a new command with the next cseq. -/
def command (cmd : PubCmd) (g : Given) (c : Chan) : Chan :=
  { c with command := pubCode cmd, entry := g.entry, cseq := (c.high + 1) % 2 ^ 32, high := (c.high + 1) % 2 ^ 32, k := g.k, deadlineNs := if cmd = .prime then g.deadlineNs else 0 }

/-- The instant of a decision; an item that names none has k all ones (R275). -/
def Given.instant (g : Given) : Option Nat := if g.k = 0xFFFFFFFFFFFFFFFF then none else some g.k

/-- The instants of decisions to operate with this one's; those of the settled rows still in the ring are kept. -/
def Given.noteTrip (g : Given) (c : Chan) : List Nat :=
  match g.instant with
  | some k => (k :: c.trips.filter (fun x => x != k)).take 4096
  | none => c.trips

/-- The table of R167, with R169's OPERATE last: the channel after a command, and the command sent for it. -/
def chanStep (cmd : PubCmd) (g : Given) (c : Chan) : Chan × Option PubCmd :=
  match cmd, c.state with
  | .prime, 0 => ({ command .prime g c with state := 1, primers := [g.entry], deadline := g.deadline, primeSlice := g.slice }, some .prime)
  | .prime, 1 =>
    if c.deadline < g.deadline then
      ({ command .prime g c with primers := g.entry :: c.primers, deadline := g.deadline, primeSlice := g.slice }, some .prime)
    else ({ c with primers := g.entry :: c.primers }, none)
  | .prime, _ => (c, none)
  | .confirm, 0 => ({ command .operate g c with state := 2, trips := g.noteTrip c }, some .operate)
  | .confirm, 1 => ({ command .confirm g c with state := 2, primers := [], trips := g.noteTrip c }, some .confirm)
  | .confirm, _ => ({ c with trips := g.noteTrip c }, none)
  | .rescind, 1 =>
    let left := c.primers.filter (fun e => e != g.entry)
    if left = [] then ({ command .rescind g c with state := 0, primers := [] }, some .rescind) else ({ c with primers := left }, none)
  | .rescind, _ => (c, none)
  | .operate, 2 => ({ c with trips := g.noteTrip c }, none)
  | .operate, _ => ({ command .operate g c with state := 2, primers := [], trips := g.noteTrip c }, some .operate)
  | .release, 2 => if g.instant.any (fun k => c.trips.contains k) then (c, none) else ({ command .release g c with state := 0 }, some .release)
  | .release, _ => (c, none)

/-- The CGO payload of a stage (R172), in network byte order. -/
def cgoPayload (s : StageOut) (h : Hw) : List Byte :=
  let one (i : Nat) : List Byte :=
    let c := tget s.chans i {}
    if c.command = 0 then be 1 0 ++ be 1 i ++ be 2 0xFFFF ++ be 4 0 ++ be 8 0 ++ be 4 0
    else be 1 c.command ++ be 1 i ++ be 2 c.entry ++ be 4 c.cseq ++ be 8 c.k ++ be 4 c.deadlineNs
  be 1 1 ++ be 1 (flag (h.mode == .test) 0 + flag (h.pair.role == 3) 1 + flag (6 ≤ timeClass h) 2) ++ be 2 s.cfg.stage
  ++ be 4 h.pair.claim ++ be 2 h.moduleId ++ be 1 s.cfg.channels ++ be 1 (if fGrid h = 14400 then 1 else 0) ++ zeros 4
  ++ ((List.range s.cfg.channels).map one).flatten

/-- A stage's key still authenticates; a stage whose key is orphaned sends nothing (R171, R435). -/
def stageKeyUsable (s : StageOut) (h : Hw) : Bool := match s.cfg.key with | some x => keyUsable x h | none => false

/-- A frame authenticated under a MAC key: with the key's identifier and the authentication value of its use (R422, R426). -/
def authenticate (x : Nat) (g : Goose) (h : Hw) : Goose :=
  let g := { g with key := x, algorithm := hdlUse x, keyId := (keySlot (hdlSlot x) h).keyId }
  { g with tag := macOf g.algorithm (macValue x h) (Config.goosePdu g) }

/-- A GOOSE frame leaves with the fields that every control block shares: the quality of its time, the test bit, and the
security extension of its key; without a usable key none leaves (R171). -/
def sendGoose (key : Option Nat) (g : Goose) (h : Hw) : Hw :=
  match key with
  | some x => if keyUsable x h then emit (.goose (authenticate x { g with quality := timeQuality h, test := h.mode == .test } h)) h else h
  | none => h

/-- The frame of a stage's control block (R170, R171). -/
def stageGoose (s : StageOut) (h : Hw) : Goose :=
  let c := s.cfg
  { block := .stage c.stage, ports := [2 * c.pair, 2 * c.pair + 1], priority := c.priority, vlan := some c.vlan, mac := some c.mac, appid := some c.appid
    gocbRef := c.gocbRef, datSet := c.datSet, goId := c.goId, t := s.changedAt, stNum := s.stNum, sqNum := s.sqNum, confRev := some c.confRev
    payload := cgoPayload s h }

/-- Put a stage's frame on the wire; while entries of the Bloom before are left, also under its identity there (R166). -/
def sendCgo (s : StageOut) (h : Hw) : Hw :=
  let h := sendGoose s.cfg.key (stageGoose s h) h
  match s.old with
  | some c => sendGoose c.key (stageGoose { s with cfg := c } h) h
  | none => h

/-- Store a stage's control block. -/
def putStage (s : StageOut) (h : Hw) : Hw := { h with spec := { h.spec with stages := tset h.spec.stages s.cfg.stage s } }

/-- A frame with a new stNum, sqNum 0 (R171). -/
def newState (s : StageOut) (h : Hw) : Hw :=
  let s := { s with stNum := (s.stNum + 1) % 2 ^ 32, sqNum := 0, changedAt := h.time.now, changedMono := h.time.mono, repeats := 0, live := true }
  sendCgo s (putStage s h)

/-- Give a command on channels: each stage concerned changes and sends one frame for its new commands. The first component
lists the commands sent, the second the channels that now hold the entry's PRIME. -/
def give (cmd : PubCmd) (g : Given) (chs : List (Nat × Nat)) (h : Hw) : List PubCmd × List (Nat × Nat) × Hw :=
  if publishes h = false then ([], [], h)
  else
    let stages := (chs.map (fun c => c.1)).eraseDups
    stages.foldl (fun (acc : List PubCmd × List (Nat × Nat) × Hw) st =>
      match tfind acc.2.2.spec.stages st with
      | none => acc
      | some s =>
        let (s', sent, held) := (chs.filter (fun c => c.1 == st)).foldl
          (fun (a : StageOut × List PubCmd × List (Nat × Nat)) c =>
            let (x, snt) := chanStep cmd g (tget a.1.chans c.2 {})
            ({ a.1 with chans := tset a.1.chans c.2 x }, a.2.1 ++ snt.toList, if x.primers.contains g.entry then a.2.2 ++ [c] else a.2.2)) (s, [], [])
        (acc.1 ++ sent, acc.2.1 ++ held, if sent = [] then putStage s' acc.2.2 else newState s' acc.2.2)) ([], [], h)

/-- Give a command and keep only the hardware. -/
def give' (cmd : PubCmd) (g : Given) (chs : List (Nat × Nat)) (h : Hw) : Hw := (give cmd g chs h).2.2

/-- The channels and their action kind for a decision code; `none` for code 0 and for a code outside the table (R158). -/
def actionOf (l : List Action) (code : Nat) : Option Action := if code = 0 then none else l.find? (fun a => a.code == code)

/-- Give the publisher a settled decision taken as non-speculative (R162): OPERATE, RELEASE or nothing. -/
def giveDecision (g : Given) (a : Option Action) (h : Hw) : Hw :=
  match a with
  | none => h
  | some x => give' (if x.trip then .operate else .release) g x.channels h

/-- Repetition n + 1 leaves this many µs after the change (R171). -/
def repetitionUs (n : Nat) : Nat :=
  match n with | 0 => 25 | 1 => 75 | 2 => 175 | 3 => 375 | m => 775 + 1000 * (m - 4)

/-- GOOSE_REPETITION of a stage: the last frame again, sqNum incremented. -/
def gooseRepetition (stage : Nat) (h : Hw) : Hw :=
  match tfind h.spec.stages stage with
  | none => h
  | some s =>
    if publishes h ∧ s.live ∧ nsUnits (1000 * repetitionUs s.repeats) ≤ h.time.mono - s.changedMono then
      let s := { s with sqNum := s.sqNum + 1, repeats := s.repeats + 1 }
      sendCgo s (putStage s h)
    else h

/-- Change a counter record of a slice and the module's (R177). -/
def countSpec (sl : Nat) (f : SpecCounters → SpecCounters) (h : Hw) : Hw :=
  { h with spec := { h.spec with counters := tmod (tmod h.spec.counters sl {} f) 0xFFFF {} f } }

/-- PRIME_DEADLINE_EXPIRY's effect: the channel is OPEN, nothing is sent (R168, R181). -/
def primeExpiry (stage ch : Nat) (h : Hw) : Hw :=
  match tfind h.spec.stages stage with
  | none => h
  | some s =>
    let c := tget s.chans ch {}
    if c.state = 1 ∧ c.deadline ≤ h.time.now then
      let h := putStage { s with chans := tset s.chans ch { c with state := 0, primers := [] } } h
      let h := countSpec c.primeSlice (fun x => { x with primeExpired := inc32 x.primeExpired }) h
      evrSlice 0x0611 0x0B00 c.primeSlice (le 2 stage ++ le 1 ch ++ zeros 1 ++ le 4 c.cseq ++ le 8 c.k) h
    else h

/-- PRIME_DEADLINE_EXPIRY. -/
def execPrimeDeadlineExpiry (stage ch : Nat) : State → Host.Outcome State Fault Refusal := lift (primeExpiry stage ch)

/-- Every stage's frame with a new stNum: a new claim, or the first frames after a start (R175, R380). -/
def announceAll (h : Hw) : Hw :=
  h.spec.stages.foldl (fun h e => match tfind h.spec.stages e.1 with | some s => newState s h | none => h) h

/-- The table of a stage's channels as a status frame of the stage gives it, PRIMED taken as OPEN; the highest cseq seen is kept (R389). -/
def statusChannels (l : List (Nat × Nat × Nat)) (s : StageOut) : StageOut :=
  let one (i : Nat) : Nat × Chan :=
    let old := tget s.chans i {}
    match l[i]? with
    | none => (i, old)
    | some (state, _, cseq) => (i, { state := if state = 2 then 2 else 0, cseq := cseq, high := old.high, seen := max old.seen cseq, k := old.k })
  { s with chans := (List.range s.cfg.channels).map one }

/-- The highest cseq that a status frame shows for each channel (R381). -/
def seeChannels (l : List (Nat × Nat × Nat)) (s : StageOut) : StageOut :=
  { s with chans := l.zipIdx.foldl (fun t e =>
      if e.2 < s.cfg.channels then let c := tget t e.2 {}; tset t e.2 { c with seen := max c.seen e.1.2.2 } else t) s.chans }

/-- The channel table rebuilt from the stages' latest status (R175, R381): OPERATED is restated as OPERATE one above the
highest cseq seen; any other channel as NONE with cseq 0. -/
def rebuildChannels (h : Hw) : Hw :=
  h.spec.stages.foldl (fun h e =>
    let st := (tfind h.pair.status e.1).map (fun x => x.1.channels)
    let one (i : Nat) : Nat × Chan :=
      let old := tget e.2.chans i {}
      let top := max old.seen old.high
      match st.bind (fun l => l[i]?) with
      | some (2, _, _) => (i, { state := 2, command := 4, cseq := (top + 1) % 2 ^ 32, high := (top + 1) % 2 ^ 32, seen := old.seen, k := old.k })
      | _ => (i, { high := top, seen := old.seen })
    putStage { e.2 with chans := (List.range e.2.cfg.channels).map one } h) h

/-- Stop every control block without a frame (R175). -/
def stopPublisher (h : Hw) : Hw := { h with spec := { h.spec with stages := tmap h.spec.stages (fun _ s => { s with live := false }) } }

/-- The final frames on leaving SERVING or TEST: RESCIND on every PRIMED channel, the others restated, then nothing (R175). -/
def finalFrames (h : Hw) : Hw :=
  stopPublisher (h.spec.stages.foldl (fun h e =>
    match tfind h.spec.stages e.1 with
    | none => h
    | some s =>
      let chans := tmap s.chans (fun _ c => if c.state = 1 then { command .rescind { entry := c.entry, k := c.k } c with state := 0, primers := [] } else c)
      newState { s with chans := chans } h) h)

end Sys2Proof.Machine
end

