-- ==== Sys2Proof/Machine/Space.lean ====
section
/-! DEFINITION. Slices and the address space of their software (R272, R273, R299, R300): what each range shows, and the descriptors that runtime calls read from it (R275, R306). -/
namespace Sys2Proof.Machine

/-! ### The slice table -/

/-- Slice 0 as it starts: ASID 0, the 1 GiB firmware reserve at the top of 64 GiB, every other field at its reset value, full buckets (R298 to R300, log 5). -/
def slice0 : SliceInst :=
  { state := 1, cfg := { slice := 0, asid := 0, base := 63 * 2 ^ 30, size := 2 ^ 30 }
    items := 256 * 2 ^ 64, recBytes := (1000 * 1000 * 2 ^ 64 : Nat), netBytes := (100 * 1000 * 2 ^ 64 : Nat) }

/-- A slice's entry; slice 0 is always RUNNING (R298). -/
def sliceAt (s : Nat) (h : Hw) : SliceInst := if s = 0 then { tget h.slc.insts 0 slice0 with state := 1 } else tget h.slc.insts s {}

/-- Store a slice. -/
def putSlice (s : Nat) (x : SliceInst) (h : Hw) : Hw := { h with slc := { h.slc with insts := tset h.slc.insts s x } }

/-- The slice that the table maps an ASID to (R299). -/
def sliceOfAsid (a : Nat) (h : Hw) : Option Nat :=
  if a = 0 then some 0 else (h.slc.insts.find? (fun e => e.1 != 0 && e.2.state != 0 && e.2.cfg.asid == a)).map (fun e => e.1)

/-- Physical range of a slice's data (R300). -/
def sliceRange (s : Nat) (h : Hw) : Nat × Nat := let x := sliceAt s h; (x.cfg.base, x.cfg.size)

/-- First virtual address of the data range (R272). -/
def dataBase : Nat := 0x100000000

/-- A virtual range lies in the slice's data range (R272, R302). -/
def inData (va len : Nat) (x : SliceInst) : Bool := dataBase ≤ va && va + len ≤ dataBase + x.cfg.size && va + len ≤ 0x1000000000

/-- Physical address of a virtual one in the slice's data range. -/
def physical (s va : Nat) (h : Hw) : Nat := (sliceRange s h).1 + (va - dataBase)

/-- A line lies in the memory that a slice has at present (R302). -/
def ownsLine (s : Nat) (l : SpecLine) (h : Hw) : Bool := (sliceRange s h).1 ≤ l.addr && l.addr + 64 ≤ (sliceRange s h).1 + (sliceRange s h).2

/-! ### The mapped ranges (R272) -/

/-- The ranges of R272. -/
inductive Area where
  | image | data | rows | phasors | owned | window | page
  deriving DecidableEq, Repr

/-- First address and length of a range; the data reach as far as the slice's allocation. -/
def areaRange (x : SliceInst) : Area → Nat × Nat
  | .image => (0x10000, 0x3FFF0000)
  | .data => (dataBase, min x.cfg.size 0xF00000000)
  | .rows => (0x1000000000, 0x40000000)
  | .phasors => (0x1040000000, 0x40000000)
  | .owned => (0x1100000000, 0x100000000)
  | .window => (0x2000000000, 0x21000)
  | .page => (0x2000100000, 0x1000)

/-- The range that holds a whole access; none: a page fault. -/
def areaOf (x : SliceInst) (va len : Nat) : Option Area :=
  [Area.image, .data, .rows, .phasors, .owned, .window, .page].find? (fun a => (areaRange x a).1 ≤ va && va + len ≤ (areaRange x a).1 + (areaRange x a).2)

/-- A length rounded up to whole pages. -/
def pages (n : Nat) : Nat := (n + 4095) / 4096 * 4096

/-- The bytes of a settled row as its ring holds it: header and slots (R99, R101). -/
def rowBytes (r : Row) : List Byte := rowHeader r ++ ((List.range r.width).map (fun i => slotBytes (tget r.slots i {}))).flatten

/-- A phasor entry as bytes (R247). -/
def phasorBytes (x : Phasor) : List Byte := leF x.re ++ leF x.im ++ le 1 x.flags ++ zeros 1 ++ le 2 x.substituted

/-- The bytes of a phasor row as its ring holds it. -/
def phasorRowBytes (r : PhasorRow) : List Byte := ((List.range r.width).map (fun i => phasorBytes (tget r.entries i {}))).flatten

/-- Byte `o` of a ring of 4,096 rows of `stride` bytes, from the newest row that each place holds. -/
def ringByte {α : Type} (stride o : Nat) (rows : List α) (key : α → Nat) (bytes : α → List Byte) : Option Byte :=
  (rows.find? (fun r => key r % 4096 == o / stride)).bind (fun r => (bytes r)[o % stride]?)

/-- A work descriptor's bytes as the item page shows them (R275). -/
def descriptorBytes (i : Item) : List Byte :=
  let d := i.desc
  le 8 d.entry ++ le 8 d.argument ++ le 2 i.slice ++ le 1 d.cls ++ le 1 d.flags ++ le 2 d.affinity ++ le 2 i.generation ++ le 4 d.image ++ le 4 i.sequence
  ++ le 8 d.deadline ++ le 8 d.release ++ le 8 d.k ++ le 2 i.ledger ++ zeros 6

/-- The line of an item's ledger entry that the item reads at an address: its own (R152, R155). -/
def ownLine (i : Item) (a : Nat) (h : Hw) : Option SpecLine :=
  if i.ledger = 0xFFFF then none else (tget h.spec.entries i.ledger {}).lines.find? (fun l => l.addr == a / 64 * 64 && (bit i.desc.flags 0 || !l.spec))

/-- What a cell's run reads at offset `o` of a range. Function images, what a slice's filter rings and records hold at which address,
and what no row has filled are not given: a free byte `free` (log 107). -/
def areaByte (r : Run) (s : Nat) (free : Byte) (h : Hw) (o : Nat) : Area → Byte
  | .image => free
  | .data =>
    let a := (sliceRange s h).1 + o
    match ownLine r.item a h with
    | some l => l.data.getD (a % 64) 0#8
    | none => memRead h.fab.dram a
  | .rows => (ringByte (pages (64 + 64 * (streamsOf h).length)) o h.ing.ring (fun x => x.k) rowBytes).getD free
  | .phasors => (ringByte (pages (96 * (streamsOf h).length)) o h.phasor.ring (fun x => x.k) phasorRowBytes).getD free
  | .owned => free
  | .window => r.view.getD o 0#8
  | .page => (descriptorBytes r.item).getD o 0#8

/-- The bytes that a run reads from an address on; none: a page fault (R272). -/
def sliceRead (r : Run) (s va n : Nat) (h : Hw) : Option (List Byte) :=
  (areaOf (sliceAt s h) va n).map (fun a => (List.range n).map (fun i =>
    areaByte r s ((freeBytes n h).getD i 0#8) h (va + i - (areaRange (sliceAt s h) a).1) a))

/-! ### Descriptors (R275, R306) -/

/-- A work descriptor read from its bytes; the fields that the module sets are its own. -/
def workDescriptor (b : List Byte) : Descriptor :=
  { entry := u64 b 0, argument := u64 b 8, cls := u8 b 18, flags := u8 b 19, affinity := u16 b 20, image := u32 b 24, deadline := u64 b 32
    release := u64 b 40, k := u64 b 48 }

/-- A DMA descriptor read from its bytes. -/
def dmaDescriptor (b : List Byte) : DmaDesc :=
  { source := u64 b 0, destination := u64 b 8, length := u32 b 16, engine := u8 b 20, flags := u8 b 21, tag := u16 b 22 }

end Sys2Proof.Machine
end

