-- ==== Sys2Proof/Machine/Fabric.lean ====
section
/-! DEFINITION. Blocks, dispatch, work items and the decision ledger (R146 to R166, R177, R180, R270 to R284, R288 to R296, R529, R533, R590). -/
namespace Sys2Proof.Machine

/-! ### Functions, blocks and homes -/

/-- Change a block. -/
def blockAt (n : Nat) (h : Hw) : Block := tget h.fab.blocks n {}
def putBlock (n : Nat) (b : Block) (h : Hw) : Hw := { h with fab := { h.fab with blocks := tset h.fab.blocks n b } }

/-- Blocks of the variant, as die * 4 + block. -/
def blockCount (h : Hw) : Nat := 4 * computeDies h

/-- A block is populated and its die is not fenced. -/
def blockPresent (n : Nat) (h : Hw) : Bool := n < blockCount h && !h.fault.fenced.contains (n / 4)

/-- Cells of a block in service, lowest first. -/
def cellsInService (n : Nat) (h : Hw) : List Nat :=
  if blockPresent n h = false ∨ (blockAt n h).quarantined then []
  else (List.range 8).filter (fun c => !(blockAt n h).badCells.contains c)

/-- SOURCE of a cell, or of a block with cell 0xFF (R24, R25). -/
def cellSource (n c : Nat) : Nat := (n / 4 + 2) * 4096 + n % 4 * 256 + c

/-- Functions of an image. -/
def imageFns (b : Option Image) : List FnConfig := (b.map (fun b => b.fns)).getD []

/-- Functions of the Bloom in force. -/
def fnsOf (h : Hw) : List FnConfig := imageFns h.cfg.bloom

/-- Functions that run on a row: those of its own Bloom (R166, R489). -/
def fnsAt (r : Row) (h : Hw) : List FnConfig := if r.bloomSeq = h.cfg.bloomSeq then fnsOf h else tget h.spec.oldFns r.bloomSeq []

/-- A function is enabled at an instant: as the newest change under the Bloom of that instant says, else as that Bloom does (R486). -/
def fnEnabled (f : FnConfig) (seq k : Nat) (h : Hw) : Bool :=
  match (tget h.cfg.enables (f.slice * 65536 + f.index) []).find? (fun e => decide (e.1 ≤ k) && e.2.1 == seq) with
  | some e => e.2.2
  | none => f.enabled

/-- Home block of a function: where it was last placed, or its home in the Bloom (R277, R533). -/
def homeOf (f : FnConfig) (h : Hw) : Nat := tget h.fault.home (f.slice * 65536 + f.index) ((f.region - 2) * 4 + f.block)

/-- A function whose home block is out of service, and which is not yet placed anew (R535). -/
def homeless (f : FnConfig) (h : Hw) : Bool := !blockPresent (homeOf f h) h || (blockAt (homeOf f h) h).quarantined

/-- A protect block is home to a C0 or C1 function of a placed slice (R284). -/
def protectBlock (n : Nat) (h : Hw) : Bool :=
  (fnsOf h).any (fun f => f.cls ≤ 1 && homeOf f h == n && !h.fault.unplaced.contains f.slice)

/-- Protect cells: the lowest-numbered cells in service (R279, R530). -/
def protectCells (n : Nat) (h : Hw) : List Nat :=
  if protectBlock n h then (cellsInService n h).take (blockAt n h).protect else []

/-- A cell may run a class (R279). -/
def cellMayRun (n c cls : Nat) (h : Hw) : Bool := cls ≤ 1 || !(protectCells n h).contains c

/-- The DRR weight of a slice (R278, R305). -/
def weightOf (s : Nat) (h : Hw) : Nat := (sliceAt s h).cfg.weight

/-! ### Fabric records (R296) -/

/-- The payload of R296 for the item records. -/
def fabricPayload (cls image count k : Nat) (h : Hw) : List Byte :=
  zeros 3 ++ le 1 cls ++ zeros 4 ++ le 4 image ++ le 4 count ++ le 8 k ++ nowBytes h

/-! ### Ready lists (R278, R280) -/

/-- A deadline or release in its 64-bit form, as now. -/
def timeWord (t : Nat) : Nat := t / 2 ^ 32 % 2 ^ 64

/-- a is at or after b, modulo 2^32 s (R275). -/
def wordReached (a b : Nat) : Bool := (a + 2 ^ 64 - b % 2 ^ 64) % 2 ^ 64 < 2 ^ 63

/-- Within a slice: items with a deadline first, in deadline order; then sequence order. -/
def itemBefore (now : Nat) (a b : Item) : Bool :=
  if a.front != b.front then a.front
  else match a.desc.deadline, b.desc.deadline with
    | 0, 0 => a.sequence ≤ b.sequence
    | 0, _ => false
    | _, 0 => true
    | x, y => if x = y then a.sequence ≤ b.sequence else wordReached (y + 2 ^ 64 - now) (x + 2 ^ 64 - now)

/-- Items of one class in a list. -/
def classItems (cls : Nat) (l : List Item) : List Item := l.filter (fun i => i.desc.cls == cls)

/-- The next slice in turn after `s` among those listed, by number. -/
def nextSlice (s : Nat) (l : List Nat) : Nat :=
  match l.filter (fun x => s < x) with
  | a :: r => r.foldl min a
  | [] => match l with | a :: r => r.foldl min a | [] => s

/-- The order of R278: deficit round robin across slices, `fuel` picks from the turn (slice, what is left). -/
def drrOrder (h : Hw) : Nat → Nat × Nat → List Item → List Item
  | 0, _, _ => []
  | fuel + 1, turn, l =>
    if l = [] then []
    else
      let slices := (l.map (fun i => i.slice)).eraseDups
      let s := if slices.contains turn.1 ∧ turn.2 ≠ 0 then turn.1 else nextSlice turn.1 slices
      let left := if s = turn.1 ∧ turn.2 ≠ 0 then turn.2 - 1 else weightOf s h - 1
      match (l.filter (fun i => i.slice == s)).mergeSort (itemBefore (timeWord h.time.now)) with
      | [] => []
      | i :: _ => i :: drrOrder h fuel (s, left) (l.erase i)

/-- The first eight items of a class in order: items put back at the head come first. -/
def firstItems (n cls : Nat) (l : List Item) (h : Hw) : List Item :=
  let mine := classItems cls l
  let front := mine.filter (fun i => i.front)
  (front ++ drrOrder h 8 (tget (blockAt n h).turn cls (0, 0)) (mine.filter (fun i => !i.front))).take 8

/-- Room in a ready list: 2,048 descriptors per class. -/
def listRoom (n cls : Nat) (h : Hw) : Bool := (classItems cls (blockAt n h).ready).length < 2048

/-- Put an item in its block's ready list. -/
def pushReady (n : Nat) (i : Item) (h : Hw) : Hw :=
  let b := blockAt n h
  putBlock n { b with ready := b.ready ++ [i] } h

/-- Place a module-generated item: dropped, counted and recorded when its list is full (R277, R296). -/
def placeItem (n : Nat) (i : Item) (h : Hw) : Hw :=
  if listRoom n i.desc.cls h then pushReady n i h
  else
    let b := blockAt n h
    let h := putBlock n { b with full := inc32 b.full } h
    evrSlice 0x0B13 (cellSource n 0xFF) i.slice (fabricPayload i.desc.cls i.desc.image 0 i.desc.k h) h

/-- A module-generated item of a function (R275, R276). -/
def makeItem (f : FnConfig) (k : Nat) (h : Hw) : Item × Hw :=
  let seq := tget h.fab.sequences f.slice 0
  let d : Descriptor := { entry := f.entry, argument := f.argument, cls := f.cls, flags := 0, image := f.image, k := k }
  ({ desc := d, slice := f.slice, generation := (sliceAt f.slice h).generation, sequence := seq, fn := some f.index, actions := f.actions
     grid := fGrid h, bloomSeq := h.cfg.bloomSeq, standby := f.bind == .row && h.pair.role == 2 },
   { h with fab := { h.fab with sequences := tset h.fab.sequences f.slice ((seq + 1) % 2 ^ 32) } })

/-- A function's items are created: its slice runs; a withheld one counts as QUIESCE_DROP (R310), and an unplaced slice has none (R535). -/
def withheld (f : FnConfig) (h : Hw) : Bool := (sliceAt f.slice h).state != 1 || h.fault.unplaced.contains f.slice

/-- Count an item withheld by quiescing. -/
def dropQuiesced (s : Nat) (h : Hw) : Hw :=
  let x := sliceAt s h
  if x.state = 2 ∨ x.state = 3 then putSlice s { x with quiesceDrop := inc32 x.quiesceDrop } h else h

/-- Create and place a non-speculative item of a function (R276); one that waits for placement has none (R535). -/
def releaseFn (f : FnConfig) (k : Nat) (h : Hw) : Hw :=
  if withheld f h then dropQuiesced f.slice h
  else if homeless f h then { h with fault := { h.fault with fenceDrop := inc32 h.fault.fenceDrop } }
  else
    let (i, h) := makeItem f k h
    placeItem (homeOf f h) i h

/-! ### Budget levels (R288, R289) -/

/-- C4 cell time of the present window, 2^-64 s. -/
def c4Used (n : Nat) (h : Hw) : Nat :=
  let b := blockAt n h
  b.busyC4 + (b.running.map (fun e => if e.2.item.desc.cls = 4 then h.time.mono - max e.2.since b.windowAt else 0)).foldl (· + ·) 0

/-- A core self-test is for its own cell alone (R390). -/
def forCell (c : Nat) (i : Item) : Bool := i.probe.elim true (fun p => p.1 == c)

/-- The level allows an item to be taken from its list (R288, R289). -/
def levelAllows (n : Nat) (i : Item) (h : Hw) : Bool :=
  match h.fab.budget.level, i.desc.cls with
  | 0, _ => true
  | 1, 3 =>
    let mine := (blockAt n h).ready.filter (fun x => x.desc.cls == 3 && x.slice == i.slice)
    let far := i.desc.deadline == 0 || !wordReached (timeWord (h.time.now + nsUnits 5000000)) i.desc.deadline
    !(mine.length < 1536 && far)
  | 1, 4 => c4Used n h < nsUnits 2000000
  | 2, 3 => bit i.desc.flags 3
  | 2, 4 => false
  | _, _ => true

/-- Speculation depth that the level allows (R150). -/
def budgetDepth (h : Hw) : Nat := match h.fab.budget.level with | 0 => 3 | 1 => 1 | _ => 0

/-- Depth limit of a slice (R150). -/
def depthLimit (s : Nat) (h : Hw) : Nat :=
  if publishes h = false then 0 else min (sliceAt s h).cfg.depthCap (budgetDepth h)

/-! ### The ledger (R151 to R163, R180) -/

/-- A ledger entry. -/
def entryAt (e : Nat) (h : Hw) : Entry := tget h.spec.entries e {}
def putEntry (e : Nat) (x : Entry) (h : Hw) : Hw := { h with spec := { h.spec with entries := tset h.spec.entries e x } }

/-- Unresolved entries of a slice. -/
def openEntries (s : Nat) (h : Hw) : List (Nat × Entry) :=
  h.spec.entries.filter (fun e => e.2.slice == s && (e.2.state == 1 || e.2.state == 2 || e.2.state == 3))

/-- Instants with unresolved entries of a slice, counting instant k of the Bloom in force; instants of two Blooms are distinct (R150). -/
def depthWith (s k : Nat) (h : Hw) : Nat :=
  ((openEntries s h).map (fun e => (e.2.snapshot.bloomSeq, e.2.k)) ++ [(h.cfg.bloomSeq, k)]).eraseDups.length

/-- Lines of a block in use. -/
def linesUsed (n : Nat) (h : Hw) : Nat := ((h.spec.entries.filter (fun e => e.2.block == n)).map (fun e => e.2.lines.length)).foldl (· + ·) 0

/-- Remove an entry's item from its block's lists, slots and cells: a cancelled run (R162). -/
def removeItem (n e : Nat) (h : Hw) : Hw :=
  let b := blockAt n h
  putBlock n { b with
    ready := b.ready.filter (fun i => i.ledger != e)
    slots := b.slots.filter (fun i => i.2.ledger != e)
    running := b.running.filter (fun r => r.2.item.ledger != e) } h

/-- ns from a row's first arrival stamp, all ones where there is none. -/
def sinceFirst (first : Option Nat) (t : Nat) : Nat :=
  match first with | some f => sat32 ((t - f) * 1000000000 / 2 ^ 64) | none => 0xFFFFFFFF

/-- The counter of an outcome (R177). -/
def countOutcome (o : Nat) (c : SpecCounters) : SpecCounters :=
  match o with
  | 1 => { c with confirmed := inc32 c.confirmed }
  | 2 => { c with rescinded := inc32 c.rescinded }
  | 3 => { c with agreed := inc32 c.agreed }
  | 4 => { c with differed := inc32 c.differed }
  | 5 => { c with overflow := inc32 c.overflow }
  | 6 => { c with effect := inc32 c.effect }
  | 7 => { c with overtaken := inc32 c.overtaken }
  | 12 => { c with faulted := inc32 c.faulted }
  | _ => { c with cancelled := inc32 c.cancelled }

/-- First arrival stamp of the entry's row as it now stands. -/
def entryFirst (x : Entry) (h : Hw) : Option Nat :=
  match (h.ing.open_ ++ h.ing.ring).find? (fun r => r.k == x.k && r.bloomSeq == x.snapshot.bloomSeq) with
  | some r => r.first
  | none => x.first

/-- Fix an entry's outcome: state RESOLVED, flags, counters and the mean resolve time; `sent` are flag bits of R180. Of the
mean, weight 1/256, the rounding to whole ns is free (log 3). -/
def fixOutcome (e o sent : Nat) (h : Hw) : Hw :=
  let x := entryAt e h
  let first := entryFirst x h
  let late := x.primed && x.deadline < h.time.now
  let ns := sinceFirst first h.time.now
  let h := putEntry e { x with
    state := 4, outcome := o, resolvedAt := h.time.now, first := first
    flags := flag x.primed 0 + sent + flag late 5 + flag x.badCode 6 } h
  let h := countSpec x.slice (countOutcome o) h
  if first.isNone then h
  else
    let f (c : SpecCounters) : SpecCounters := { c with mean := (roundOpen (mkRat ((c.mean * 255 + ns : Nat) : Int) 256) h).toNat }
    drawn (countSpec x.slice f h)

/-- The flags of R180 for the commands sent: PRIME 0, CONFIRM 1, RESCIND 2, OPERATE 3, RELEASE 4. -/
def sentFlags (l : List PubCmd) : Nat := (l.eraseDups.map (fun c => 2 ^ (pubCode c - 1))).foldl (· + ·) 0

/-- What the publisher is told of an entry. -/
def givenOf (e : Nat) (x : Entry) : Given := { entry := e, k := x.k, slice := x.slice }

/-- A confirmed or non-speculative decision reaches the consumers of R21 and R22: its trigger point is the first arrival stamp of
row k, and where no frame came the time of instant k on the row's own grid `f`. An item of an event names no instant: the trigger
point of its decision is the present (the model's choice, log 105). -/
def passDecision (sl fn k f code : Nat) (trip : Bool) (first : Option Nat) (h : Hw) : Hw :=
  let point := if k = 0xFFFFFFFFFFFFFFFF then h.time.now else first.getD (instantTime f k)
  { h with fab := { h.fab with decisions := h.fab.decisions ++ [(sl, fn, k, code, trip, point)] } }

/-- Resolve an entry on the settled code of its rerun: outcomes 1 to 4 (R149, R162, R19). -/
def resolveSettled (e code : Nat) (h : Hw) : Hw :=
  let x := { entryAt e h with settled := some code }
  let h := putEntry e x h
  let a := actionOf x.item.actions code
  let specA := actionOf x.item.actions (x.spec.getD 0)
  let specTrip := match specA with | some s => s.trip | none => false
  let judged := x.primed || (x.mode == 2 && specTrip)
  let g := givenOf e x
  let same := x.spec.getD 0 == code
  let operate (h : Hw) : List PubCmd × Hw :=
    match a with
    | none => ([], h)
    | some s => let (l, _, h) := give (if s.trip then .operate else .release) g s.channels h; (l, h)
  let (o, sent, h) : Nat × List PubCmd × Hw :=
    if judged = false then let (l, h) := operate h; (if same then 3 else 4, l, h)
    else if x.mode = 2 then let (l, h) := operate h; (if same then 1 else 2, l, h)
    else if same then
      let (l, _, h) := give .confirm g ((a.map (fun s => s.channels)).getD []) h
      (1, l, h)
    else
      let (l, _, h) := give .rescind g x.primes h
      let (l', h) := operate h
      (2, l ++ l', h)
  let h := fixOutcome e o (sentFlags sent) h
  if h.pair.role = 2 then { h with fab := { h.fab with standbyDecisions := inc32 h.fab.standbyDecisions } }
  else passDecision x.slice x.fn x.k x.snapshot.f code ((a.map (fun s => s.trip)).getD false) (entryFirst x h) h

/-- Resolve an entry by abort or cancellation, outcomes 5 to 12, with flags of commands sent: the run goes; an aborted run's
lines are freed at once (R153, R154), and the item of outcome 9 does not run again. -/
def cancelEntry (e o sent : Nat) (h : Hw) : Hw :=
  let x := entryAt e h
  let h := removeItem x.block e h
  let h := if o = 5 ∨ o = 6 then
      countSpec x.slice (fun c => { c with discarded := sat32 (c.discarded + x.lines.length) })
        (putEntry e { x with lines := [], discarded := x.discarded + x.lines.length } h)
    else h
  let h := if o = 9 then { h with spec := { h.spec with spent := (x.slice, x.fn, x.k) :: h.spec.spent } } else h
  fixOutcome e o sent h

/-- Resolve an entry by abort or cancellation, with RESCIND on its primed channels where R162 gives it at once. -/
def resolveOther (e o : Nat) (rescind : Bool) (h : Hw) : Hw :=
  let x := entryAt e h
  let (l, _, h) := if rescind && x.primed then give .rescind (givenOf e x) x.primes h else ([], [], h)
  cancelEntry e o (sentFlags l) h

/-- A channel is PRIMED by an entry. -/
def primedBy (e : Nat) (c : Nat × Nat) (h : Hw) : Bool :=
  match tfind h.spec.stages c.1 with
  | some s => let x := tget s.chans c.2 {}; x.state == 1 && x.primers.contains e
  | none => false

/-- Runs that a cancellation reaches: SPECULATING and DECIDED; a rerun dispatched completes (R161). -/
def cancellable (h : Hw) : List (Nat × Entry) := h.spec.entries.filter (fun e => e.2.state == 1 || e.2.state == 2)

/-- Every run that a cancellation reaches resolves as CANCELLED_STATE; the RESCIND of its primed channels, where `frames` says
that there are final frames, leaves in those (R162, R175). -/
def cancelEntries (frames : Bool) (h : Hw) : Hw :=
  (cancellable h).foldl (fun h e =>
    cancelEntry e.1 11 (if frames && publishes h && e.2.primes.any (fun c => primedBy e.1 c h) then 4 else 0) h) h

/-- The hardware as the row of an entry sees it: under the Bloom of its instant. -/
def rowView (r : Row) (h : Hw) : Hw :=
  match h.cfg.old with
  | some o => if r.bloomSeq = o.seq then oldView o h else h
  | none => h

/-- The deadline of a PRIME in exact units, from the latest horizon among the row's streams (R168). -/
def primeDeadline (r : Row) (margin : Nat) (h : Hw) : Nat := latestHorizon r.k (rowView r h) + exactNs (28000 + 1000 * margin)

/-- A speculative decision is recorded at completion; a TRIP in mode ON gives PRIME (R160, R168). -/
def decideSpec (e code : Nat) (h : Hw) : Hw :=
  let x := entryAt e h
  let bad := code ≠ 0 ∧ (actionOf x.item.actions code).isNone
  let code := if bad then 0 else code
  let h := if bad then countSpec x.slice (fun c => { c with badCode := inc32 c.badCode }) h else h
  let h := putEntry e { x with state := 2, spec := some code, decidedAt := h.time.now, badCode := x.badCode || bad } h
  match actionOf x.item.actions code with
  | some a =>
    if a.trip ∧ x.mode = 1 then
      let t := primeDeadline x.snapshot x.margin h
      let dl := (t + exact 1 - 1) / exact 1
      let ns := (t - exactPeriods x.k x.snapshot.f) / exactNs 1
      let (_, held, h) := give .prime { givenOf e x with deadline := dl, deadlineNs := sat32 ns } a.channels h
      let h := countSpec x.slice (fun c => { c with prime := inc32 c.prime }) h
      let y := entryAt e h
      putEntry e { y with primed := held != [], primes := held, deadline := dl } h
    else h
  | none => h

/-- Open an entry and dispatch an eligible item on a provisional row (R146, R150, R151). -/
def specDispatch (f : FnConfig) (r : Row) (h : Hw) : Hw :=
  let s := sliceAt f.slice h
  if f.cls ≠ 0 ∨ f.eligible = false ∨ s.cfg.specMode = 0 ∨ withheld f h ∨ homeless f h then h
  else if depthLimit f.slice h < depthWith f.slice r.k h then countSpec f.slice (fun c => { c with depthLimited := inc32 c.depthLimited }) h
  else match (List.range 4096).find? (fun e => (tfind h.spec.entries e).isNone) with
    | none => countSpec f.slice (fun c => { c with ledgerFull := inc32 c.ledgerFull }) h
    | some e =>
      let n := homeOf f h
      if listRoom n 0 h = false then (let (i, h) := makeItem f r.k h; placeItem n i h)
      else
        let (i, h) := makeItem f r.k h
        let i := { i with ledger := e, desc := { i.desc with flags := 1 } }
        let h := putEntry e { state := 1, slice := f.slice, fn := f.index, k := r.k, mode := s.cfg.specMode, lineCap := s.cfg.lineCap,
                              margin := s.cfg.margin, block := n, specCell := cellSource n 0xFF, item := i, snapshot := r } h
        let used := h.spec.entries.length
        let mine := (h.spec.entries.filter (fun x => x.2.slice == f.slice)).length
        let mark (m : Nat) (c : SpecCounters) : SpecCounters := { c with opened := inc32 c.opened, high := max c.high m }
        let h := { h with spec := { h.spec with counters := tmod (tmod h.spec.counters f.slice {} (mark mine)) 0xFFFF {} (mark used) } }
        pushReady n i h

/-- Count a deadline miss, with CODE 0x0B12 at most once a second per slice and class (R283). -/
def deadlineMiss (n : Nat) (i : Item) (h : Hw) : Hw :=
  let b := blockAt n h
  let key := i.slice * 8 + i.desc.cls
  let (cnt, last) := tget h.fab.misses key (0, none)
  let due := match last with | none => true | some t => t + secUnit ≤ h.time.mono
  let h := putBlock n { b with missed := inc32 b.missed } h
  let h := { h with fab := { h.fab with misses := tset h.fab.misses key (if due then (0, some h.time.mono) else (cnt + 1, last)) } }
  if due then evrSlice 0x0B12 (cellSource n 0xFF) i.slice (fabricPayload i.desc.cls 0 (cnt + 1) i.desc.k h) h else h

/-- Start would be after the deadline. -/
def pastDeadline (i : Item) (h : Hw) : Bool :=
  i.desc.deadline != 0 && timeWord h.time.now != i.desc.deadline && wordReached (timeWord h.time.now) i.desc.deadline

/-- Count an item whose slice has another generation by now (R308). The entry of a rerun that is discarded so can have no other end
and is FAULTED (the model's choice, log 108). -/
def discardStale (i : Item) (h : Hw) : Hw :=
  let s := sliceAt i.slice h
  let h := putSlice i.slice { s with stale := inc32 s.stale } h
  if bit i.desc.flags 1 ∧ (entryAt i.ledger h).state = 3 then resolveOther i.ledger 12 true h else h

/-- What a block does with an item at the moment it is about to be placed in a slot: one of another generation is discarded (R308),
and one past its deadline that asks for it (R283); any other is placed by `put`. -/
def placeInSlot (n : Nat) (i : Item) (put gone : Hw → Hw) (h : Hw) : Hw :=
  if i.generation ≠ (sliceAt i.slice h).generation then gone (discardStale i h)
  else if bit i.desc.flags 2 ∧ pastDeadline i h then gone (deadlineMiss n i h)
  else put h

/-- Dispatch the confirming rerun: to the cell of the speculative run when its slot is free, else the first cell with a
free slot, else at the head of the list (R151). -/
def dispatchRerun (e : Nat) (h : Hw) : Hw :=
  let x := entryAt e h
  let b := blockAt x.block h
  let i : Item := { x.item with desc := { x.item.desc with flags := 2 }, ledger := e, front := true }
  let free (c : Nat) : Bool := (tfind b.slots c).isNone && (cellsInService x.block h).contains c
  let cell := ((List.range 8).find? (fun c => free c && cellSource x.block c == x.specCell)).orElse (fun _ => (List.range 8).find? free)
  let h := putEntry e { x with state := 3, rerunCell := none } h
  match cell with
  | some c => placeInSlot x.block i (putBlock x.block { b with slots := tset b.slots c i }) id h
  | none => putBlock x.block { b with ready := i :: b.ready } h

/-- What a settled row does for one function (R162): resolve or confirm its entry, or release the item non-speculatively. -/
def settleFn (f : FnConfig) (r : Row) (h : Hw) : Hw :=
  if f.bind ≠ .row ∨ fnEnabled f r.bloomSeq r.k h = false ∨ h.spec.spent.contains (f.slice, f.index, r.k) then h
  else match h.spec.entries.find? (fun e => e.2.slice == f.slice && e.2.fn == f.index && e.2.k == r.k && e.2.snapshot.bloomSeq == r.bloomSeq) with
    | none => releaseFn f r.k h
    | some (e, x) =>
      match x.state with
      | 1 => releaseFn f r.k (resolveOther e 7 false h)
      | 2 => dispatchRerun e h
      | 4 => releaseFn f r.k h
      | _ => h

/-- The items of a settled row (R146, R147, R162). -/
def settleItems (k : Nat) (h : Hw) : Hw :=
  match settledRow k h with
  | none => h
  | some r =>
    let h := (fnsAt r h).foldl (fun h f => settleFn f r h) h
    { h with spec := { h.spec with spent := h.spec.spent.filter (fun e => e.2.2 != k) } }

/-- The speculative items of a row that has opened and is still provisional (R147). -/
def openItems (k : Nat) (h : Hw) : Hw :=
  match openRow k h with
  | none => h
  | some r =>
    if r.slots.any (fun e => e.2.origin == 3) then
      (fnsOf h).foldl (fun h f => if f.bind = .row ∧ fnEnabled f h.cfg.bloomSeq k h then specDispatch f r h else h) h
    else h

/-- Functions bound to an event: an item without an instant (R276). -/
def eventItems (b : Binding) (h : Hw) : Hw :=
  (fnsOf h).foldl (fun h f => if f.bind = b ∧ fnEnabled f h.cfg.bloomSeq h.ing.nextOpen h then releaseFn f 0xFFFFFFFFFFFFFFFF h else h) h

/-! ### Lines (R152 to R156) -/

/-- A byte mask with 64 bits, one per byte of a line. -/
def maskBytes (mask : Nat) : List Nat := (List.range 64).filter (fun i => bit mask i)

/-- Merge stored bytes into a line's data. -/
def mergeLine (old new : List Byte) (mask : Nat) : List Byte :=
  (List.range 64).map (fun i => if bit mask i then new.getD i 0#8 else old.getD i 0#8)

/-- Write the masked bytes of a line to committed memory. -/
def commitLine (l : SpecLine) (h : Hw) : Hw :=
  { h with fab := { h.fab with dram := (maskBytes l.mask).foldl (fun m i => memWrite m (l.addr + i) (l.data.getD i 0#8)) h.fab.dram } }

/-- Put a line into an entry, replacing the line of its address. -/
def putLine (e : Nat) (l : SpecLine) (h : Hw) : Hw :=
  let x := entryAt e h
  let lines := if x.lines.any (fun y => y.addr == l.addr) then x.lines.map (fun y => if y.addr = l.addr then l else y) else x.lines ++ [l]
  let h := putEntry e { x with lines := lines } h
  countSpec x.slice (fun c => { c with linesHigh := max c.linesHigh lines.length }) h

/-- A store by a speculative run (R152, R153). -/
def specStore (e addr mask : Nat) (data : List Byte) (h : Hw) : Hw :=
  let x := entryAt e h
  match x.lines.find? (fun l => l.addr == addr) with
  | some l => putLine e { l with spec := true, mask := l.mask ||| mask, data := mergeLine l.data data mask } h
  | none =>
    if 1024 ≤ linesUsed x.block h ∨ x.lineCap ≤ x.lines.length then resolveOther e 5 false h
    else putLine e { addr := addr, spec := true, mask := mask, data := mergeLine (memGet h.fab.dram addr 64) data mask } h

/-- A store by the confirming rerun (R155). -/
def rerunStore (e addr mask : Nat) (data : List Byte) (h : Hw) : Hw :=
  let x := entryAt e h
  let fresh : SpecLine := { addr := addr, spec := false, mask := mask, data := mergeLine (memGet h.fab.dram addr 64) data mask }
  match x.lines.find? (fun l => l.addr == addr) with
  | some l =>
    if l.spec then putLine e fresh h
    else putLine e { l with mask := l.mask ||| mask, data := mergeLine l.data data mask } h
  | none =>
    if linesUsed x.block h < 1024 then putLine e fresh h
    else match x.lines.find? (fun l => l.spec) with
      | some l =>
        let h := putEntry e { x with lines := x.lines.filter (fun y => y.addr != l.addr), discarded := x.discarded + 1 } h
        let h := countSpec x.slice (fun c => { c with discarded := inc32 c.discarded }) h
        putLine e fresh h
      | none =>
        let h := countSpec x.slice (fun c => { c with writeThrough := inc32 c.writeThrough }) h
        commitLine fresh h

/-- The outcome record of R180; outcome 3 with settled code 0 and no BAD_CODE is only counted. -/
def outcomeRecord (e : Nat) (x : Entry) (discarded : Nat) (h : Hw) : Hw :=
  if x.outcome = 3 ∧ x.settled = some 0 ∧ x.badCode = false then h
  else
    evrSlice 0x0610 0x0B01 x.slice
      (le 2 e ++ le 2 x.fn ++ le 1 x.outcome ++ le 1 x.flags ++ le 2 (x.spec.getD 0) ++ le 2 (x.settled.getD 0) ++ le 2 (min discarded 0xFFFF) ++ zeros 4
       ++ le 8 x.k ++ le 4 (if x.spec.isNone then 0xFFFFFFFF else sinceFirst x.first x.decidedAt) ++ le 4 (sinceFirst x.first x.resolvedAt)
       ++ le 2 x.specCell ++ le 2 (x.rerunCell.getD 0xFFFF)) h

/-- Stages the Bloom dropped, and the old identities of those it changed, leave once no row of the Bloom before is open and no
entry of one is left (R166). -/
def dropOldStages (h : Hw) : Hw :=
  if h.cfg.old.isSome ∨ h.spec.entries.any (fun e => e.2.snapshot.bloomSeq ≠ h.cfg.bloomSeq) then h
  else { h with spec := { h.spec with stages := tmap (h.spec.stages.filter (fun s => !s.2.dropped)) (fun _ s => { s with old := none }) } }

/-- SPEC_LINES_DRAINED's effect: rerun lines are committed, speculative ones discarded, the entry is FREE (R156, R161). A line
outside the memory that its slice has by now reaches none (R302). -/
def drainEntry (e : Nat) (h : Hw) : Hw :=
  match tfind h.spec.entries e with
  | none => h
  | some x =>
    if x.state ≠ 4 then h
    else
      let keep := x.lines.filter (fun l => !l.spec)
      let gone := x.lines.length - keep.length
      let h := (keep.filter (fun l => ownsLine x.slice l h)).foldl (fun h l => commitLine l h) h
      let h := countSpec x.slice (fun c => { c with discarded := sat32 (c.discarded + gone) }) h
      let h := outcomeRecord e x (x.discarded + gone) h
      dropOldStages { h with spec := { h.spec with entries := tdel h.spec.entries e } }

/-! ### Slots and starts (R278 to R283) -/

/-- The highest class with an item allowed for a cell (R279 step 1). -/
def pickClass (n c : Nat) (h : Hw) : Option Nat :=
  (List.range 5).find? (fun cls => cellMayRun n c cls h && (blockAt n h).ready.any (fun i => i.desc.cls == cls && forCell c i && levelAllows n i h))

/-- Steps 2 to 4 of R279: the item and whether affinity chose it. -/
def pickItem (n c cls : Nat) (h : Hw) : Option (Item × Bool) :=
  let b := blockAt n h
  let l := firstItems n cls (b.ready.filter (fun i => forCell c i && levelAllows n i h)) h
  let aff (i : Item) : Bool := !bit i.desc.flags 4
  match l.find? (fun i => aff i && i.desc.affinity == cellSource n c) with
  | some i => some (i, true)
  | none => match l.find? (fun i => aff i && tfind b.lastImage c == some (i.slice, i.desc.image)) with
    | some i => some (i, true)
    | none => l.head?.map (fun i => (i, false))

/-- Advance the round-robin turn for an item taken (R278). -/
def takeTurn (n : Nat) (i : Item) (h : Hw) : Hw :=
  if i.front then h
  else
    let b := blockAt n h
    let (s, left) := tget b.turn i.desc.cls (0, 0)
    let l := if i.slice = s ∧ left ≠ 0 then left - 1 else weightOf i.slice h - 1
    putBlock n { b with turn := tset b.turn i.desc.cls (i.slice, l) } h

/-- Fill a slot: stale items are discarded (R308), late ones with DEADLINE_DROP too (R283); `fuel` bounds the items looked at. -/
def fillSlot : Nat → Nat → Nat → Hw → Hw
  | 0, _, _, h => h
  | fuel + 1, n, c, h =>
    match (pickClass n c h).bind (fun cls => pickItem n c cls h) with
    | none => h
    | some (i, aff) =>
      let h := takeTurn n i h
      let b := blockAt n h
      let put (h : Hw) : Hw :=
        let b := blockAt n h
        putBlock n { b with slots := tset b.slots c { i with front := false }, affinity := if aff then inc32 b.affinity else b.affinity,
                            emptySince := tdel b.emptySince c } h
      placeInSlot n i put (fillSlot fuel n c) (putBlock n { b with ready := b.ready.erase i } h)

/-- A cell's local slot may be filled: it is empty and an item waits for it, or no slot of the block is empty and a waiting
item has a higher class than the slot's (R279, R280). -/
def slotWants (n c : Nat) (h : Hw) : Bool :=
  let b := blockAt n h
  match tfind b.slots c, pickClass n c h with
  | none, some _ => true
  | some i, some cls => (cellsInService n h).all (fun x => (tfind b.slots x).isSome) && decide (cls < i.desc.cls)
  | _, none => false

/-- The cell the dispatcher serves next: round-robin among the block's cells (R23). -/
def nextCell (n : Nat) (h : Hw) : Option Nat :=
  ((List.range 8).map (fun i => ((blockAt n h).cellTurn + i) % 8)).find? (fun c => (cellsInService n h).contains c && slotWants n c h)

/-- ITEM_DISPATCH's effect: the local slot of the cell in turn is filled; with none empty, a slot's item of a lower
class is exchanged for a waiting one of a higher (R279, R280). -/
def itemDispatch (n c : Nat) (h : Hw) : Hw :=
  if nextCell n h ≠ some c then h
  else
    let b := { blockAt n h with cellTurn := (c + 1) % 8 }
    match tfind b.slots c with
    | none => fillSlot 2048 n c (putBlock n b h)
    | some i => fillSlot 2048 n c (putBlock n { b with slots := tdel b.slots c, ready := { i with front := true } :: b.ready, takenBack := inc32 b.takenBack } h)

/-- The row an item reads: a speculative run its snapshot, any other the settled row of the instant that it names (R146, R155, R273). -/
def itemRow (i : Item) (h : Hw) : Option Row :=
  if bit i.desc.flags 0 then some (entryAt i.ledger h).snapshot
  else if i.fn.isSome then h.ing.ring.find? (fun r => r.k == i.desc.k && r.bloomSeq == i.bloomSeq)
  else settledRow i.desc.k h

/-- The streams that an item's function declares; none for a submitted item (R109). -/
def itemStreams (i : Item) (r : Row) (h : Hw) : List Nat :=
  (((fnsAt r h).find? (fun f => f.slice == i.slice && i.fn == some f.index)).map (fun f => f.streams)).getD []

/-- The row window of an item: the row's header, then its slots as the row-read path presents them (R101, R109, R273). -/
def itemView (i : Item) (h : Hw) : List Byte :=
  match itemRow i h with
  | none => []
  | some r => rowHeader r ++ (presentedSlots (itemStreams i r h) r h).flatMap slotBytes

/-- ITEM_START's effect: an idle cell starts the item in its slot (R280, R283, R289), under the ASID of its slice (R299). One with
DEADLINE_DROP whose deadline passed in the slot never starts (the model's reading, log 109). -/
def itemStart (n c : Nat) (h : Hw) : Hw :=
  let b := blockAt n h
  match tfind b.slots c with
  | none => h
  | some i =>
    if (tfind b.running c).isSome ∨ (cellsInService n h).contains c = false then h
    else if i.desc.cls = 4 ∧ levelAllows n i h = false then h
    else if bit i.desc.flags 2 ∧ pastDeadline i h then
      deadlineMiss n i (putBlock n { b with slots := tdel b.slots c, emptySince := tset b.emptySince c h.time.mono } h)
    else
      let run : Run := { item := i, since := h.time.mono, asid := (sliceAt i.slice h).cfg.asid, view := itemView i h }
      let h := putBlock n { b with
        slots := tdel b.slots c, running := tset b.running c run
        lastImage := tset b.lastImage c (i.slice, i.desc.image), dispatched := inc32 b.dispatched, emptySince := tset b.emptySince c h.time.mono } h
      let h := if i.ledger = 0xFFFF then h
        else
          let x := entryAt i.ledger h
          putEntry i.ledger (if x.state = 1 then { x with specCell := cellSource n c } else { x with rerunCell := some (cellSource n c) }) h
      if pastDeadline i h then deadlineMiss n i h else h

/-- Take the running item off a cell, counting its cell time. -/
def retire (n c : Nat) (h : Hw) : Hw :=
  let b := blockAt n h
  match tfind b.running c with
  | none => h
  | some r =>
    let t := h.time.mono - max r.since b.windowAt
    putBlock n { b with running := tdel b.running c, busy := b.busy + t, busyC4 := if r.item.desc.cls = 4 then b.busyC4 + t else b.busyC4 } h

/-- A non-speculative run completes: its decision goes to the publisher; a code outside the action table is recorded (R158, R160, R590). -/
def completePlain (n c : Nat) (r : Run) (h : Hw) : Hw :=
  match r.item.fn with
  | none => h
  | some fn =>
    let a := actionOf r.item.actions r.code
    let bad := r.code ≠ 0 ∧ a.isNone
    let h := if bad then
        evrSlice 0x0612 (cellSource n c) r.item.slice (le 2 fn ++ le 2 r.code ++ zeros 4 ++ le 8 r.item.desc.k)
          (countSpec r.item.slice (fun x => { x with badCode := inc32 x.badCode }) h)
      else h
    let code := if bad then 0 else r.code
    if r.item.desc.cls ≠ 0 ∧ r.item.actions = [] then h
    else if h.pair.role = 2 ∨ r.item.standby then { h with fab := { h.fab with standbyDecisions := inc32 h.fab.standbyDecisions } }
    else
      let h := giveDecision { k := r.item.desc.k, slice := r.item.slice } a h
      passDecision r.item.slice fn r.item.desc.k r.item.grid code ((a.map (fun x => x.trip)).getD false)
        ((itemRow r.item h).bind (fun x => x.first)) h

/-- ITEM_COMPLETE's effect (R160). -/
def itemComplete (n c : Nat) (h : Hw) : Hw :=
  match tfind (blockAt n h).running c with
  | none => h
  | some r =>
    let h := retire n c h
    if r.item.ledger = 0xFFFF then completePlain n c r h
    else
      let e := r.item.ledger
      let x := entryAt e h
      if bit r.item.desc.flags 0 then (if x.state = 1 then decideSpec e r.code h else h)
      else if x.state = 3 then
        let bad := r.code ≠ 0 ∧ (actionOf x.item.actions r.code).isNone
        let h := if bad then countSpec x.slice (fun y => { y with badCode := inc32 y.badCode }) (putEntry e { x with badCode := true } h) else h
        resolveSettled e (if bad then 0 else r.code) h
      else h

/-! ### Failures (R163, R271, R282, R529) -/

/-- A rerun's entry is FAULTED, and the failure is reported (R162, R163, R531). -/
def faultEntry (e source : Nat) (h : Hw) : Hw :=
  let x := entryAt e h
  functionFailure source x.slice x.fn (resolveOther e 12 true h)

/-- An item has failed on a cell: retried once on the lowest other cell of the block that may run it, in its slot ahead of
its class; a speculative run is not retried (R163, R529). The log entry carries the error's kind. -/
def failItem (n c kind : Nat) (r : Run) (h : Hw) : Hw :=
  let src := cellSource n c
  if bit r.item.desc.flags 0 then logFault src kind 0 r.item.slice (r.item.fn.getD 0xFFFF) h
  else
    let other := if r.item.retry ∨ r.item.probe.isSome then none else (cellsInService n h).find? (fun x => x != c && cellMayRun n x r.item.desc.cls h)
    match other with
    | some o =>
      let h := logFault src kind 1 r.item.slice (r.item.fn.getD 0xFFFF) h
      let h := { h with fault := { h.fault with retries := inc32 h.fault.retries } }
      let i := { r.item with retry := true }
      let put (h : Hw) : Hw :=
        let b := blockAt n h
        let back := match tfind b.slots o with | some i => [{ i with front := true }] | none => []
        putBlock n { b with slots := tset b.slots o i, ready := back ++ b.ready } h
      placeInSlot n i put id h
    | none =>
      let h := logFault src kind 0 r.item.slice (r.item.fn.getD 0xFFFF) h
      if r.item.ledger ≠ 0xFFFF ∧ (entryAt r.item.ledger h).state = 3 then faultEntry r.item.ledger src h
      else if r.item.probe.isSome then h
      else functionFailure src r.item.slice (r.item.fn.getD 0xFFFF) h

/-- CORE_EXCEPTION's effect: the item fails, without counting towards quarantine (R271, R528 kind 5). -/
def coreException (n c : Nat) (h : Hw) : Hw :=
  match tfind (blockAt n h).running c with
  | none => h
  | some r => failItem n c 5 r { retire n c h with fault := { h.fault with exceptions := inc32 h.fault.exceptions } }

/-- An entry's lines hold nothing that is to be committed (R282). -/
def dropLines (e : Nat) (h : Hw) : Hw :=
  let x := entryAt e h
  putEntry e { x with lines := x.lines.map (fun l => { l with spec := true }) } h

/-- RUN_TIME_OVERRUN's effect: terminated without a decision and not retried; a rerun's lines are discarded when they drain (R282). -/
def runTimeOverrun (n c : Nat) (h : Hw) : Hw :=
  let b := blockAt n h
  match tfind b.running c with
  | none => h
  | some r =>
    if h.time.mono - r.since < nsUnits (1000 * b.limits.getD r.item.desc.cls 0) then h
    else
      let h := retire n c h
      let b := blockAt n h
      let h := putBlock n { b with overrun := inc32 b.overrun } h
      let h := evrSlice 0x0B11 (cellSource n c) r.item.slice (fabricPayload r.item.desc.cls r.item.desc.image 0 r.item.desc.k h) h
      if r.item.ledger = 0xFFFF then h
      else if (entryAt r.item.ledger h).state = 1 then resolveOther r.item.ledger 6 false h
      else if (entryAt r.item.ledger h).state = 3 then faultEntry r.item.ledger (cellSource n c) (dropLines r.item.ledger h)
      else h

/-! ### Stores and runtime calls (R152, R274, R276, R305, R306, R547) -/

/-- SPEC_STORE's effect: a store of masked bytes to a 64-byte line of the slice's data, by a speculative run, a rerun or any other
item (R152, R155). The slice is the one that the ASID in satp maps to (R299); an address outside its data is a page fault (R272). -/
def itemStore (n c va mask : Nat) (data : List Byte) (h : Hw) : Hw :=
  match tfind (blockAt n h).running c with
  | none => h
  | some r =>
    let line := va / 64 * 64
    match (sliceOfAsid r.asid h).filter (fun s => inData line 64 (sliceAt s h)) with
    | none => coreException n c h
    | some s =>
      let addr := physical s line h
      if r.item.ledger = 0xFFFF then commitLine { addr := addr, spec := false, mask := mask % 2 ^ 64, data := data } h
      else if bit r.item.desc.flags 0 then specStore r.item.ledger addr (mask % 2 ^ 64) data h
      else rerunStore r.item.ledger addr (mask % 2 ^ 64) data h

/-- Return from a runtime call. -/
def ecallReturn (n c a0 a1 : Nat) (h : Hw) : Hw := emit (.ecall (cellSource n c) a0 a1) h

/-- An outbound call: a speculative run aborts as ABORTED_EFFECT (R154); the slice is the one that the ASID in satp maps to (R299),
and one that is quiesced, or that is there no longer, gets QUIESCED (R310). -/
def outbound (n c : Nat) (f : Run → Nat → Hw → Hw) (h : Hw) : Hw :=
  match tfind (blockAt n h).running c with
  | none => h
  | some r =>
    if bit r.item.desc.flags 0 then resolveOther r.item.ledger 6 false (retire n c h)
    else match (sliceOfAsid r.asid h).filter (fun s => (sliceAt s h).state == 1) with
      | none => ecallReturn n c 3 0 h
      | some s => f r s h

/-- A call that names `len` bytes at an address: what it finds there. An address of which part is not mapped is answered with
BAD_DESCRIPTOR (the model's choice, log 107). -/
def withBytes (n c va len : Nat) (r : Run) (s : Nat) (f : List Byte → Hw → Hw) (h : Hw) : Hw :=
  match sliceRead r s va len h with
  | none => ecallReturn n c 4 0 h
  | some b => f b (drawn h)

/-- ECALL_DECIDE's effect: the last report stands (R158). -/
def ecallDecide (n c code : Nat) (h : Hw) : Hw :=
  let b := blockAt n h
  match tfind b.running c with
  | none => h
  | some r => ecallReturn n c 0 0 (putBlock n { b with running := tset b.running c { r with code := code % 65536 } } h)

/-- ECALL_TIME's effect: SEC and FRAC of R60. -/
def ecallTime (n c : Nat) (h : Hw) : Hw :=
  if (tfind (blockAt n h).running c).isSome then ecallReturn n c (secOf h.time.now) (fracOf h.time.now) h else h

/-- ECALL_EVR's effect: CODE 0x8000 to 0xFFFF only, with the 48 bytes of payload at a1 (R274, R547). -/
def ecallEvr (n c code a1 : Nat) : Hw → Hw :=
  outbound n c (fun r s h =>
    if code < 0x8000 ∨ 0xFFFF < code then ecallReturn n c 5 0 h
    else withBytes n c a1 48 r s (fun payload h => ecallReturn n c 0 0 (evrSlice code (cellSource n c) s payload h)) h)

/-- A slice's buckets filled to the present (R305). -/
def fillBuckets (x : SliceInst) (mono : Nat) : SliceInst :=
  let dt := mono - x.filledAt
  { x with
    items := min (x.cfg.burst * 2 ^ 64) (x.items + x.cfg.itemRate * dt)
    recBytes := min ((x.cfg.recRate * 1000 * 2 ^ 64 : Nat) : Int) (x.recBytes + (x.cfg.recRate * 1000000 * dt : Nat))
    netBytes := min ((x.cfg.netRate * 1000 * 2 ^ 64 : Nat) : Int) (x.netBytes + (x.cfg.netRate * 1000000 * dt : Nat))
    filledAt := mono }

/-- The block a submitted item goes to: its hint's, where that block is in service, else the submitter's (R277). -/
def hintBlock (hint n : Nat) (h : Hw) : Nat :=
  let region := hint / 4096
  let m := (region - 2) * 4 + hint / 256 % 16
  if 2 ≤ region ∧ region ≤ 7 ∧ hint / 256 % 16 ≤ 3 ∧ blockPresent m h ∧ (blockAt m h).quarantined = false then m else n

/-- The effect of a work descriptor submitted by slice s (R276, R281, R305); its reserved fields are zero (R275). -/
def submit (n c s : Nat) (d : Descriptor) (reservedOk : Bool) (h : Hw) : Hw :=
  let x := fillBuckets (sliceAt s h) h.time.mono
  let m := hintBlock d.affinity n h
  let delayed := d.release ≠ 0 ∧ wordReached (timeWord h.time.now) d.release = false
  if d.cls ≤ 1 then ecallReturn n c 5 0 h
  else if 4 < d.cls ∨ d.flags % 4 ≠ 0 ∨ 32 ≤ d.flags ∨ reservedOk = false ∨ d.entry < 0x10000 ∨ 0x3FFFFFFF < d.entry then ecallReturn n c 4 0 h
  else if x.items < 2 ^ 64 then ecallReturn n c 2 0 (putSlice s { x with itemsLimited := inc32 x.itemsLimited } h)
  else if (if delayed then (blockAt m h).delay.length ≥ 4096 else listRoom m d.cls h = false) then ecallReturn n c 1 0 h
  else
    let h := putSlice s { x with items := x.items - 2 ^ 64 } h
    let seq := tget h.fab.sequences s 0
    let d := { d with flags := if d.cls = 3 then d.flags else d.flags &&& 0x14 }
    let i : Item := { desc := d, slice := s, generation := x.generation, sequence := seq }
    let h := { h with fab := { h.fab with sequences := tset h.fab.sequences s ((seq + 1) % 2 ^ 32) } }
    let b := blockAt m h
    let h := if delayed then putBlock m { b with delay := b.delay ++ [i] } h else pushReady m i h
    ecallReturn n c 0 0 h

/-- ECALL_SUBMIT's effect: the 64 bytes at a0 (R274, R275). -/
def ecallSubmit (n c a0 : Nat) : Hw → Hw :=
  outbound n c (fun r s => withBytes n c a0 64 r s (fun b => submit n c s (workDescriptor b) ((b.drop 58).all (fun x => x == 0#8))))

/-- A queue and its start time with one more descriptor. -/
def enqueueDma (d : DmaDesc) (h : Hw) : Hw :=
  match d.engine with
  | 0 => { h with slc := { h.slc with recQueue := h.slc.recQueue ++ [d], recSince := if h.slc.recQueue = [] then h.time.mono else h.slc.recSince } }
  | 1 => { h with slc := { h.slc with netQueue := h.slc.netQueue ++ [d], netSince := if h.slc.netQueue = [] then h.time.mono else h.slc.netSince } }
  | _ => { h with slc := { h.slc with rxQueue := h.slc.rxQueue ++ [d] } }

/-- The effect of a DMA descriptor from slice s (R302, R304 to R306); its reserved field is zero. -/
def dmaCall (n c s : Nat) (d : DmaDesc) (reservedOk : Bool) (h : Hw) : Hw :=
  let x := fillBuckets (sliceAt s h) h.time.mono
  let okRange := match d.engine with
    | 0 => inData d.source d.length x && inData d.destination d.length x
    | 1 => inData d.source d.length x
    | _ => inData d.destination d.length x
  let level := if d.engine = 0 then x.recBytes else x.netBytes
  if d.length = 0 ∨ 1048576 < d.length ∨ 2 < d.engine ∨ 2 ≤ d.flags ∨ reservedOk = false ∨ okRange = false then ecallReturn n c 4 0 h
  else if bit x.cfg.engines (if d.engine = 0 then 0 else 1) = false then ecallReturn n c 5 0 h
  else if level < 0 then ecallReturn n c 2 0 (putSlice s { x with bytesLimited := inc32 x.bytesLimited } h)
  else
    let take : Int := (d.length * 2 ^ 64 : Nat)
    let x := if d.engine = 0 then { x with recBytes := x.recBytes - take } else { x with netBytes := x.netBytes - take }
    ecallReturn n c 0 0 (enqueueDma { d with slice := s, generation := x.generation, posted := h.time.mono } (putSlice s x h))

/-- ECALL_DMA's effect: the 32 bytes at a0 (R274, R306). -/
def ecallDma (n c a0 : Nat) : Hw → Hw :=
  outbound n c (fun r s => withBytes n c a0 32 r s (fun b => dmaCall n c s (dmaDescriptor b) ((b.drop 28).all (fun x => x == 0#8))))

end Sys2Proof.Machine
end

