-- ==== Sys2Proof/Machine/Net.lean ====
section
/-! DEFINITION. Frames at the external ports: receive checks, PRP and HSR, dispatch, PAUSE, underruns, supervision, and the NET commands (R341 to R369, KL-02, KL-06). -/
namespace Sys2Proof.Machine

/-- The network section in force. -/
def netSection (h : Hw) : NetSection := (h.cfg.bloom.map (fun b => b.net)).getD {}

/-! ### Frames -/

/-- A multicast or broadcast address. -/
def groupMac (m : Nat) : Bool := m / 2 ^ 40 % 2 == 1

/-- Destination address and protocol of an IP packet, and its TCP or UDP destination port. -/
def parseIp (f : Parsed) (bs : List Byte) : Option (Nat × Nat × Nat) :=
  if f.etype = 0x0800 then
    let ihl := 4 * (beFld bs f.body 1 % 16)
    some (beFld bs (f.body + 16) 4, beFld bs (f.body + 9) 1, beFld bs (f.body + ihl + 2) 2)
  else if f.etype = 0x86DD then some (beFld bs (f.body + 24) 16, beFld bs (f.body + 6) 1, beFld bs (f.body + 42) 2)
  else none

/-- The IPv6 link-local address formed from a MAC address (R361). -/
def linkLocal6 (mac : Nat) : Nat := 0xFE80 * 2 ^ 112 + (mac / 2 ^ 24 ^^^ 0x020000) * 2 ^ 40 + 0xFFFE * 2 ^ 24 + mac % 2 ^ 24

/-- Port 11's addresses, link-local without a Bloom and in SNOWDROP (R361). -/
def addresses11 (h : Hw) : List Nat :=
  if h.cfg.bloom.isNone ∨ h.mode = .snowdrop then [Config.linkLocal4 (ownMac 11 h), linkLocal6 (ownMac 11 h)]
  else (netSection h).port11.1.toList ++ (netSection h).port11.2.toList

/-- The module's addresses. -/
def addresses (h : Hw) : List Nat := (netSection h).pair4.1.toList ++ (netSection h).pair4.2.toList ++ addresses11 h

/-- The die of a slice's functions: that of the home of its first function; none while it is not placed (R535). -/
def sliceDie (s : Nat) (h : Hw) : Option Nat :=
  if h.fault.unplaced.contains s then none
  else ((fnsOf h).find? (fun f => f.slice == s && !homeless f h)).map (fun f => homeOf f h / 4)

/-! ### Records and counters (R367, R368) -/

/-- The payload of R368. -/
def netPayload (port old new pair path mac : Nat) (h : Hw) : List Byte :=
  le 1 port ++ le 1 old ++ le 1 new ++ le 1 pair ++ le 1 path ++ zeros 3 ++ le 8 mac ++ nowBytes h

/-- Change a port. -/
def modPort (p : Nat) (f : Port → Port) (h : Hw) : Hw := putPort p (f (portAt p h)) h

/-- The frame as the mirror and the queues see it. -/
def frameOf (port : Nat) (bs : List Byte) (h : Hw) : QFrame :=
  let f := parseFrame bs
  { input := port, born := h.time.mono, cls := if f.etype = 0x88F7 then 7 else pcpClass (f.pcp.getD (portAt port h).cfg.pcp)
    cells := (bs.length + 63) / 64, length := bs.length, etype := f.etype, bytes := bs }

/-- A frame without a route: dropped and counted at its input (R345, R346). -/
def noRoute (port : Nat) (q : QFrame) (h : Hw) : Hw :=
  mirror 2 port 6 q (modPort port (fun x => { x with noRoute := inc32 x.noRoute }) { h with net := { h.net with noRoute := inc32 h.net.noRoute } })

/-! ### Duplicate windows (R348, R585) -/

/-- How long a source is remembered: 400 ms, or 200 ms on a PRP pair with more than 512 sources (R348, R585). -/
def windowLife (prp : Bool) (l : List SeqWindow) : Nat := if prp ∧ 512 < l.length then nsUnits 200000000 else nsUnits 400000000

/-- Forget the sources whose time is over. -/
def freshWindows (prp : Bool) (mono : Nat) (l : List SeqWindow) : List SeqWindow :=
  l.filter (fun w => decide (mono - w.at_ < windowLife prp l))

/-- The window's verdict on a sequence number: 0 first copy, 1 second copy, 2 behind the window, 3 no room for the source. -/
def seeSequence (prp : Bool) (mono mac seq : Nat) (l : List SeqWindow) : Nat × List SeqWindow :=
  let l := freshWindows prp mono l
  match l.find? (fun w => w.mac == mac) with
  | none => if l.length < 1024 then (0, l ++ [{ mac := mac, highest := seq, seen := [seq], at_ := mono }]) else (3, l)
  | some w =>
    let behind := (w.highest + 65536 - seq) % 65536
    let put (w : SeqWindow) : List SeqWindow := l.map (fun x => if x.mac = mac then w else x)
    if 32768 ≤ behind then
      let w := { w with highest := seq, seen := (seq :: w.seen).filter (fun s => (seq + 65536 - s) % 65536 ≤ 1024), at_ := mono }
      (0, put w)
    else if 1024 < behind then (2, put { w with at_ := mono })
    else if w.seen.contains seq then (1, put { w with at_ := mono })
    else (0, put { w with seen := seq :: w.seen, at_ := mono })

/-- PRP_WINDOW_EXPIRY's effect: the windows whose time is over are forgotten. -/
def windowExpiry (pair : Nat) (h : Hw) : Hw :=
  let x := netPair pair h
  let prp := x.mode == 0
  putNetPair pair { x with windows := freshWindows prp h.time.mono x.windows, passEven := freshWindows prp h.time.mono x.passEven, passOdd := freshWindows prp h.time.mono x.passOdd } h

/-- PRP_WINDOW_EXPIRY. -/
def execPrpWindowExpiry (pair : Nat) : State → Host.Outcome State Fault Refusal := lift (onlyIf (decide (pair ≤ 4)) (windowExpiry pair))

/-! ### The node table (R350) -/

/-- The Bloom names the node (output stages, remote stations, the partner): its MAC is in the section's list. -/
def nodeNamed (pair mac : Nat) (h : Hw) : Bool := (netSection h).nodes.contains (pair, mac)

/-- A path is up: its last frame lies within the timeout and the port has link. -/
def pathIsUp (pair path : Nat) (t : Option Nat) (h : Hw) : Bool :=
  match t with | some t => decide (h.time.mono - t ≤ nsUnits (1000000 * (netPair pair h).timeoutMs)) && portUp (2 * pair + path) h | none => false

/-- Bring a node's paths up to date; each change of a named node is recorded. -/
def refreshNode (pair mac : Nat) (h : Hw) : Hw :=
  let x := netPair pair h
  match x.nodes.find? (fun n => n.mac == mac) with
  | none => h
  | some n =>
    let a := pathIsUp pair 0 n.a h
    let b := pathIsUp pair 1 n.b h
    let h := putNetPair pair { x with nodes := x.nodes.map (fun m => if m.mac = mac then { n with upA := a, upB := b } else m) } h
    let note (path : Nat) (old new : Bool) (h : Hw) : Hw :=
      if old != new ∧ nodeNamed pair mac h then evr 0x0E11 0x02FF (netPayload (2 * pair + path) (flag old 0) (flag new 0) pair path mac h) h else h
    note 1 n.upB b (note 0 n.upA a h)

/-- A frame of a node on a path. -/
def nodeSeen (pair path mac : Nat) (tagged : Bool) (h : Hw) : Hw :=
  let x := netPair pair h
  let touch (n : Node) : Node :=
    { n with a := if path = 0 then some h.time.mono else n.a, b := if path = 1 then some h.time.mono else n.b, tagged := n.tagged || tagged }
  let nodes := if x.nodes.any (fun n => n.mac == mac) then x.nodes.map (fun n => if n.mac = mac then touch n else n)
    else if x.nodes.length < 1024 then x.nodes ++ [touch { mac := mac }] else x.nodes
  refreshNode pair mac (putNetPair pair { x with nodes := nodes } h)

/-- NODE_PATH_TIMEOUT. -/
def execNodePathTimeout (pair mac : Nat) : State → Host.Outcome State Fault Refusal := lift (onlyIf (decide (pair ≤ 4)) (refreshNode pair mac))

/-- Both paths of a node are down: what the supervision of R326 tests. -/
def nodeDown (pair mac : Nat) (h : Hw) : Bool :=
  match (netPair pair h).nodes.find? (fun n => n.mac == mac) with
  | some n => !(pathIsUp pair 0 n.a h) && !(pathIsUp pair 1 n.b h)
  | none => true

/-- Bring every node of a port's pair up to date (R350). -/
def refreshPort (port : Nat) (h : Hw) : Hw :=
  if port < 10 then (netPair (port / 2) h).nodes.foldl (fun h n => refreshNode (port / 2) n.mac h) h else h

/-- Link changes: the port, its losses, the record, the nodes of its path, and what waits in its queue (R350, R368). -/
def linkChange (port : Nat) (up : Bool) (h : Hw) : Hw :=
  let x := portAt port h
  if 12 ≤ port ∨ portEnabled port h = false ∨ x.link = up then h
  else
    let h := putPort port { x with link := up, linkLosses := if up then x.linkLosses else inc32 x.linkLosses } h
    let h := evr 0x0E10 (0x0200 + port) (netPayload port (flag (!up) 0) (flag up 0) 0xFF 0xFF 0 h) h
    pump port (refreshPort port h)

/-- PORT_LINK_CHANGE. -/
def execPortLinkChange (port : Nat) (up : Bool) : State → Host.Outcome State Fault Refusal := lift (linkChange port up)

/-! ### PAUSE (R357, R358) -/

/-- A received PAUSE: honoured, or dropped and counted. -/
def pauseRx (port quanta : Nat) (h : Hw) : Hw :=
  if portExists port h = false then h
  else if honoursPause port then
    pump port (modPort port (fun x => { x with held := some (h.time.mono + quanta * 512 * 2 ^ 64 / wireRate port h), pauseRx := inc32 x.pauseRx }) h)
  else modPort port (fun x => { x with pauseIgnored := inc32 x.pauseIgnored }) h

/-- A MAC control frame with PAUSE (IEEE 802.3 annex 31B), from a source address given as its bytes. -/
def pauseBytes (src : List Byte) (quanta : Nat) : List Byte := be 6 0x0180C2000001 ++ src ++ be 2 0x8808 ++ be 2 1 ++ be 2 quanta ++ zeros 42

/-- PAUSE_FRAME_RX's effect: at an external port the frame counts as received and the mirror sees it; its source address is free. -/
def pauseFrameRx (port quanta : Nat) (h : Hw) : Hw :=
  if 12 ≤ port then pauseRx port quanta h
  else if portUp port h = false then h
  else
    let q := frameOf port (pauseBytes ((List.range 6).map (fun i => Config.freeByte (h.free * 4096 + i))) quanta) h
    pauseRx port quanta (enterSwitch port q (drawn h))

/-- PAUSE_FRAME_RX. -/
def execPauseFrameRx (port quanta : Nat) : State → Host.Outcome State Fault Refusal := lift (pauseFrameRx port (quanta % 65536))

/-- PAUSE_HOLD_EXPIRY's effect: the time is over and the port resumes. -/
def holdExpiry (port : Nat) (h : Hw) : Hw :=
  if (portAt port h).held.isNone ∨ isHeld port h then h
  else pump port (modPort port (fun x => { x with held := none }) h)

/-- PAUSE_HOLD_EXPIRY. -/
def execPauseHoldExpiry (port : Nat) : State → Host.Outcome State Fault Refusal := lift (holdExpiry port)

/-- Input occupancy of a port: its frames' cells at every output that no received PAUSE holds. -/
def occupancy (port : Nat) (h : Hw) : Nat :=
  h.net.ports.foldl (fun a e => if isHeld e.1 h then a else a + cellsOf ((atOutput e.2).filter (fun f => f.input == port))) 0

/-- Send PAUSE; at an external port it is a frame, which the mirror sees. -/
def sendPause (port quanta : Nat) (on : Bool) (h : Hw) : Hw :=
  let h := emit (.pause port quanta) (modPort port (fun x => { x with pausing := on, pausedAt := h.time.mono, pauseTx := inc32 x.pauseTx }) h)
  if port < 12 then mirror 1 port 0 (frameOf port (pauseBytes (be 6 (ownMac port h)) quanta) h) h else h

/-- PAUSE_SEND's effect: quanta 0xFFFF at the high watermark, 0 at the low one. -/
def pauseSend (port : Nat) (h : Hw) : Hw :=
  let x := portAt port h
  if sendsPause port = false ∨ portEnabled port h = false then h
  else if x.pausing = false ∧ 16 * x.cfg.high ≤ occupancy port h then sendPause port 0xFFFF true h
  else if x.pausing ∧ occupancy port h ≤ 16 * x.cfg.low then sendPause port 0 false h
  else h

/-- PAUSE_SEND. -/
def execPauseSend (port : Nat) : State → Host.Outcome State Fault Refusal := lift (pauseSend port)

/-- PAUSE_RESEND's effect: every half of the time of 0xFFFF quanta while above the low watermark. -/
def pauseResend (port : Nat) (h : Hw) : Hw :=
  let x := portAt port h
  if portEnabled port h ∧ x.pausing ∧ 16 * x.cfg.low < occupancy port h ∧ 0xFFFF * 256 * 2 ^ 64 / wireRate port h ≤ h.time.mono - x.pausedAt then sendPause port 0xFFFF true h
  else h

/-- PAUSE_RESEND. -/
def execPauseResend (port : Nat) : State → Host.Outcome State Fault Refusal := lift (pauseResend port)

/-! ### Receiving (R344 to R349) -/

/-- Order 6 of R345 on a port. -/
def forHub (port : Nat) (f : Parsed) (bs : List Byte) (h : Hw) : Bool :=
  let addressed := f.dest == ownMac port h || f.dest == 2 ^ 48 - 1 || (groupMac f.dest && (netSection h).multicast.contains f.dest)
  let ip := parseIp f bs
  if port = 11 then
    let nd := match ip with
      | some (_, 58, _) => let t := beFld bs (f.body + 40) 1; 133 ≤ t && t ≤ 137
      | _ => false
    let mine := match ip with | some (a, _, _) => (addresses11 h).contains a | none => false
    (f.etype == 0x0806 || nd || mine) && addressed
  else addressed

/-- Order 5 of R345: the slice of a bound port. -/
def boundSlice (f : Parsed) (bs : List Byte) (h : Hw) : Option Nat :=
  match parseIp f bs with
  | some (a, proto, port) =>
    if (addresses h).contains a ∧ (proto = 6 ∨ proto = 17) then
      ((netSection h).bindings.find? (fun b => b.port == port && b.tcp == (proto == 6))).map (fun b => b.slice)
    else none
  | none => none

/-- A PTP port is enabled. -/
def ptpEnabled (port : Nat) (h : Hw) : Bool := port ≤ 10 && (tget h.time.ports port {}).ptp

/-- Some order from 2 to 6 takes the frame. -/
def forModule (port : Nat) (f : Parsed) (bs : List Byte) (h : Hw) : Bool :=
  (f.etype == 0x88BA && port ≤ 7) || f.etype == 0x88FB || (f.etype == 0x88F7 && ptpEnabled port h) || (boundSlice f bs h).isSome || forHub port f bs h

/-- Orders 2 to 7 of R345, beside the pass-through copy of order 1 in `extra`: with a copy for a unit behind the switch, both are the
copies of one frame (R355). -/
def dispatchFrame (port : Nat) (extra : List (Nat × QFrame)) (bs : List Byte) (h : Hw) : Hw :=
  let f := parseFrame bs
  let q := frameOf port bs h
  if f.etype = 0x88BA ∧ port ≤ 7 then emit (.toIngest port bs) (forward extra h)
  else if f.etype = 0x88FB then (let h := forward extra h; if port < 10 then nodeSeen (port / 2) (port % 2) f.src false h else h)
  else if f.etype = 0x88F7 ∧ ptpEnabled port h then forward (extra ++ [(19, q)]) h
  else match boundSlice f bs h with
    | some s => match sliceDie s h with
      | some d => forward (extra ++ [(12 + d, { q with slice := some s, generation := (sliceAt s h).generation })]) h
      | none => noRoute port q (forward extra h)
    | none => if forHub port f bs h then forward (extra ++ [(19, q)]) h else noRoute port q (forward extra h)

/-- A duplicate dropped. -/
def dropDup (port : Nat) (q : QFrame) (h : Hw) : Hw := mirror 2 port 7 q (modPort port (fun x => { x with dup := inc32 x.dup }) h)

/-- A frame on a PRP pair (R348). -/
def prpRx (port : Nat) (bs : List Byte) (h : Hw) : Hw :=
  let f := parseFrame bs
  match f.prp with
  | none => dispatchFrame port [] bs h
  | some (seq, lan) =>
    let body := bs.take (bs.length - 6)
    let pair := port / 2
    let h := nodeSeen pair (port % 2) f.src true h
    if lan ≠ 10 + port % 2 then dispatchFrame port [] body (modPort port (fun x => { x with wrongLan := inc32 x.wrongLan }) h)
    else
      let x := netPair pair h
      let (v, w) := seeSequence true h.time.mono f.src seq x.windows
      let h := putNetPair pair { x with windows := w } h
      match v with
      | 0 => dispatchFrame port [] body h
      | 1 => dropDup port (frameOf port body h) h
      | 2 => dispatchFrame port [] body (modPort port (fun x => { x with outOfWindow := inc32 x.outOfWindow }) h)
      | _ => dispatchFrame port [] body (modPort port (fun x => { x with tableFull := inc32 x.tableFull }) h)

/-- Pass a frame on and deliver it, or one of both; one that does neither has no route. -/
def passAndDeliver (port : Nat) (extra : List (Nat × QFrame)) (bs : List Byte) (h : Hw) : Hw :=
  if forModule port (parseFrame bs) bs h then dispatchFrame port extra bs h
  else if extra = [] then noRoute port (frameOf port bs h) h else forward extra h

/-- A frame on an HSR pair (R349): passed on, delivered, or both. One without a tag has no sequence number and is never a duplicate. -/
def hsrRx (port : Nat) (bs : List Byte) (h : Hw) : Hw :=
  let f := parseFrame bs
  let pair := port / 2
  let other := if port % 2 = 0 then port + 1 else port - 1
  let mine := f.dest == ownMac port h
  if f.src = ownMac port h then mirror 2 port 7 (frameOf port bs h) (modPort port (fun x => { x with ownReturn := inc32 x.ownReturn }) h)
  else match f.hsr with
  | none => passAndDeliver port (if mine then [] else [(other, frameOf port bs h)]) bs h
  | some seq =>
    let body := bs.take f.tagAt ++ bs.drop (f.tagAt + 6)
    let h := nodeSeen pair (port % 2) f.src true h
    let x := netPair pair h
    let (vp, wp) := if mine then (1, if port % 2 = 0 then x.passEven else x.passOdd)
      else seeSequence false h.time.mono f.src seq (if port % 2 = 0 then x.passEven else x.passOdd)
    let wants := forModule port f body h
    let (vd, wd) := if wants then seeSequence false h.time.mono f.src seq x.windows else (0, x.windows)
    let h := putNetPair pair { x with windows := wd, passEven := if port % 2 = 0 then wp else x.passEven, passOdd := if port % 2 = 1 then wp else x.passOdd } h
    let h := if (vp = 3 ∧ mine = false) ∨ (vd = 3 ∧ wants) then modPort port (fun x => { x with tableFull := inc32 x.tableFull }) h else h
    let h := if (vp = 2 ∧ mine = false) ∨ (vd = 2 ∧ wants) then modPort port (fun x => { x with outOfWindow := inc32 x.outOfWindow }) h else h
    let passes := !mine && vp != 1
    let extra := if passes then [(other, frameOf port bs h)] else []
    if (wants ∧ vd = 1) ∨ (wants = false ∧ passes = false ∧ mine = false) then dropDup port (frameOf port body h) (forward extra h)
    else passAndDeliver port extra body h

/-- ETH_FRAME_RX's effect: bytes from the destination MAC, without the frame check (R344, R345). -/
def ethRx (port : Nat) (bs : List Byte) (fcsOk : Bool) (h : Hw) : Hw :=
  if 12 ≤ port ∨ portUp port h = false then h
  else
    let f := parseFrame bs
    let plain := port < 10 ∧ (netPair (port / 2) h).mode = 0 ∧ f.prp.isSome
    let q := { frameOf port bs h with length := if plain then bs.length - 6 else bs.length }
    let n := bs.length + 4
    if fcsOk = false then mirror 2 port 1 q (modPort port (fun x => { x with fcsErr := inc32 x.fcsErr }) h)
    else if n < 64 then mirror 2 port 2 q (modPort port (fun x => { x with runt := inc32 x.runt }) h)
    else if 2048 < n then mirror 2 port 2 q (modPort port (fun x => { x with oversize := inc32 x.oversize }) h)
    else
      let h := modPort port (fun x => { x with rxFrames := x.rxFrames + 1, rxBytes := x.rxBytes + n }) h
      let h := mirror 0 port 0 q h
      if f.etype = 0x8808 ∧ beFld bs f.body 2 = 1 then pauseRx port (beFld bs (f.body + 2) 2) h
      else if 10 ≤ port then dispatchFrame port [] bs h
      else match (netPair (port / 2) h).mode with
        | 0 => prpRx port bs h
        | 1 => hsrRx port bs h
        | _ => dispatchFrame port [] bs h

/-- ETH_FRAME_RX. -/
def execEthFrameRx (port : Nat) (bs : List Byte) (fcsOk : Bool) : State → Host.Outcome State Fault Refusal := lift (ethRx port bs fcsOk)

/-! ### Sending (R346, R347, R351, R356, R359, R360) -/

/-- A slice's frame enters the switch from its die's port, towards pair 4 only, with base + 4 as its source (R343, R346). -/
def netTransmit (s die : Nat) (bs : List Byte) (h : Hw) : Hw :=
  let bs := bs.take 6 ++ be 6 (h.net.base + 4) ++ bs.drop 12
  let q := { frameOf (12 + die) bs h with slice := some s, generation := (sliceAt s h).generation }
  let d := beFld bs 0 6
  let h := enterSwitch (12 + die) q h
  if h.net.base ≤ d ∧ d ≤ h.net.base + 6 then noRoute (12 + die) q h else sendFrame [8, 9] q h

/-- The addresses that a port answers for (R361). -/
def addressesAt (port : Nat) (h : Hw) : List Nat :=
  if port = 11 then addresses11 h else if port = 8 ∨ port = 9 then (netSection h).pair4.1.toList ++ (netSection h).pair4.2.toList else []

/-- A request that the command processor answers: ARP (RFC 826), ICMP echo (RFC 792), IPv6 neighbour solicitation (RFC 4861) or
ICMPv6 echo (RFC 4443), for one of the addresses (R361). -/
def asksModule (f : Parsed) (bs : List Byte) (own : List Nat) : Bool :=
  if f.etype = 0x0806 then beFld bs (f.body + 6) 2 == 1 && own.contains (beFld bs (f.body + 24) 4)
  else match parseIp f bs with
    | some (a, 1, _) => own.contains a && beFld bs (f.body + 4 * (beFld bs f.body 1 % 16)) 1 == 8
    | some (a, 58, _) => (beFld bs (f.body + 40) 1 == 128 && own.contains a) || (beFld bs (f.body + 40) 1 == 135 && own.contains (beFld bs (f.body + 48) 16))
    | _ => false

/-- The command processor answers ARP, IPv6 neighbour discovery and ICMP (R361). -/
def ipAnswer (f : QFrame) (h : Hw) : Hw :=
  if asksModule (parseFrame f.bytes) f.bytes (addressesAt f.input h) then emit (.ipAnswer (if f.input = 11 then [11] else [8, 9]) f.bytes) h else h

/-- FRAME_TRANSMIT_END's effect: the frame has left, its cells are free, and the next one starts (R351). -/
def transmitEnd (port : Nat) (h : Hw) : Hw :=
  let x := portAt port h
  match x.sending with
  | none => h
  | some f =>
    let h := putPort port { x with sending := none, txFrames := x.txFrames + 1, txBytes := x.txBytes + f.bytes.length + 4 } h
    let h := if port < 12 then emit (.frame port f.bytes false) h
      else if port = 19 then ipAnswer f (emit (.toHub f.bytes) h)
      else match f.slice with
        | some s =>
          let x := sliceAt s h
          if x.state ≠ 1 then putSlice s { x with quiesceDrop := inc32 x.quiesceDrop } h
          else { h with slc := { h.slc with rxFrames := h.slc.rxFrames ++ [{ slice := s, generation := f.generation, since := h.time.mono, bytes := f.bytes }] } }
        | none => h
    pump port h

/-- FRAME_TRANSMIT_END. -/
def execFrameTransmitEnd (port : Nat) : State → Host.Outcome State Fault Refusal := lift (transmitEnd port)

/-- FRAME_AGEING_SCAN's effect: once per microsecond, the head of each class queue of every output. -/
def ageingScan (h : Hw) : Hw :=
  if h.time.mono - h.net.scannedAt < nsUnits 1000 then h
  else (List.range 20).foldl (fun h p => agePort p h) { h with net := { h.net with scannedAt := h.time.mono } }

/-- FRAME_AGEING_SCAN. -/
def execFrameAgeingScan : State → Host.Outcome State Fault Refusal := lift ageingScan

/-- TX_UNDERRUN's effect: the frame ends with a bad frame check, and the start step rises; at step 4 the whole frame is there. -/
def txUnderrun (port : Nat) (h : Hw) : Hw :=
  let x := portAt port h
  match x.sending with
  | none => h
  | some f =>
    if 4 ≤ x.step then h
    else
      let due := match x.stepRecord with | some t => decide (t + secUnit ≤ h.time.mono) | none => true
      let h := putPort port { x with sending := none, underrun := inc32 x.underrun, step := x.step + 1, stepAt := h.time.mono
                                     stepRecord := if due then some h.time.mono else x.stepRecord } h
      let h := mirror 2 port 5 f h
      let h := if port < 12 then emit (.frame port f.bytes true) h else h
      let h := if due then evr 0x0E12 (0x0200 + port) (netPayload port x.step (x.step + 1) 0xFF 0xFF 0 h) h else h
      pump port h

/-- TX_UNDERRUN. -/
def execTxUnderrun (port : Nat) : State → Host.Outcome State Fault Refusal := lift (txUnderrun port)

/-- START_STEP_DECAY's effect: one down after each second without underrun, to the floor; never on port 11 (R360, R581). -/
def stepDecay (port : Nat) (h : Hw) : Hw :=
  let x := portAt port h
  if port = 11 ∨ x.step ≤ x.cfg.floor ∨ h.time.mono - x.stepAt < secUnit then h
  else putPort port { x with step := x.step - 1, stepAt := h.time.mono } h

/-- START_STEP_DECAY. -/
def execStartStepDecay (port : Nat) : State → Host.Outcome State Fault Refusal := lift (stepDecay port)

/-- PRP_SUPERVISION_SEND's effect: every 2 s a supervision frame on both ports of every PRP and HSR pair (R350). -/
def supervise (h : Hw) : Hw :=
  if h.time.mono < h.net.superviseAt then h
  else (List.range 5).foldl (fun h p => if (netPair p h).mode = 2 ∨ (portEnabled (2 * p) h = false ∧ portEnabled (2 * p + 1) h = false) then h
    else emit (.supervision p) h) { h with net := { h.net with superviseAt := h.time.mono + 2 * secUnit } }

/-- PRP_SUPERVISION_SEND. -/
def execPrpSupervisionSend : State → Host.Outcome State Fault Refusal := lift supervise

/-! ### The image (R342, R361, R369) -/

/-- A port's parameters are within R341 and R342. -/
def portRange (p : Nat) (c : PortConfig) : Bool :=
  c.pcp ≤ 7 && c.floor ≤ 4 && 64 ≤ c.high && c.high ≤ 8192 && 32 ≤ c.low && c.low + 32 ≤ c.high && c.cap ≤ 20736 && p ≤ 11

/-- The line option exists on the port. -/
def lineOption (p : Nat) (c : PortConfig) : Bool :=
  (if p ≤ 7 then c.speed == 1 || c.speed == 2 else if p ≤ 9 then c.speed ≤ 1 else if p = 10 then c.speed == 2 else c.speed == 0)
  && (!c.fec || (p ≤ 7 && c.speed == 2))

/-- The refusals of R369: reason and the port, pair or binding concerned. -/
def checkNet (b : Image) : Option (Nat × Nat) :=
  let n := b.net
  let mode (p : Nat) : Nat := if p = 4 then 0 else tget n.modes p 0
  let services := b.synchros.flatMap (fun s => (if s.transport ≠ 1 then [(true, s.tcpPort)] else []) ++ (if s.transport ≠ 0 then [(false, s.udpPort)] else []))
  let bound := n.bindings.map (fun x => (x.tcp, x.port))
  match n.ports.find? (fun e => !portRange e.1 e.2) with
  | some e => some (rcNetParamRange, e.1)
  | none =>
  if n.modes.any (fun e => 3 < e.1 || 2 < e.2) ∨ n.timeouts.any (fun e => 4 < e.1 || e.2 < 10 || 60000 < e.2) then some (rcNetParamRange, 0xFFFFFFFF)
  else match n.ports.find? (fun e => !lineOption e.1 e.2) with
  | some e => some (rcNetPairMode, e.1)
  | none => match b.streams.find? (fun s => if s.single then mode (s.port / 2) != 2 else mode s.port == 2) with
  | some s => some (rcNetPairMode, s.port)
  | none => match b.time.ptpPorts.find? (fun s => if s.1 then mode (s.2 / 2) != 2 && s.2 < 10 else mode s.2 == 2) with
  | some s => some (rcNetPairMode, s.2)
  | none => match b.outStages.find? (fun s => mode s.pair == 2) with
  | some s => some (rcNetPairMode, s.stage)
  | none => match (b.cycles.flatMap (fun i => i.stations)).find? (fun s => mode s.pair == 2) with
  | some s => some (rcNetPairMode, s.station)
  | none =>
  if 64 < n.bindings.length ∨ bound.eraseDups.length ≠ bound.length ∨ bound.contains (true, 30270) ∨ services.any (fun x => bound.contains x)
    ∨ (n.pair4.1.isSome ∧ n.pair4.1 = n.port11.1) ∨ (n.pair4.2.isSome ∧ n.pair4.2 = n.port11.2) then some (rcNetIp, 0xFFFFFFFF)
  else none

/-- Take a Bloom's network section: every tuned value ends; port 11's start step returns to its floor (R342, R366, R581). -/
def installNet (new : NetSection) (h : Hw) : Hw :=
  let h := (List.range 20).foldl (fun h p =>
    let x := portAt p h
    let c := tget new.ports p (portDefault p)
    putPort p { x with cfg := c, forced := none, step := if p = 11 then c.floor else max x.step c.floor } h) h
  let h := (List.range 5).foldl (fun h p =>
    let x := netPair p h
    let m := if p = 4 then 0 else tget new.modes p 0
    let x := if x.mode = m then x else { x with mode := m, windows := [], passEven := [], passOdd := [] }
    putNetPair p { x with timeoutMs := tget new.timeouts p 6000 } h) h
  let h := (List.range 5).foldl (fun h p => refreshPort (2 * p) h) h
  (List.range 20).foldl (fun h p => pump p h) { h with net := { h.net with ageing := [100000, 100000, 100000, 100000, 10000, 5000, 2000, 1000] } }

/-! ### Commands (R365 to R367) -/

/-- Bits of the ports for which a condition holds. -/
def portMask (f : Nat → Bool) : Nat := (List.range 20).foldl (fun a p => a + flag (f p) p) 0

def netStatusBytes (h : Hw) : List Byte :=
  let m := h.net.mirror
  le 4 (h.net.ports.foldl (fun a e => a + cellsOf (atOutput e.2)) 0) ++ le 4 (poolUsed h) ++ le 4 h.net.poolHigh ++ le 1 (if m.running then h.acq.mirrorSegments else 0)
  ++ le 1 (m.rules.filter (fun e => e.2.enable)).length ++ zeros 2 ++ le 8 m.written ++ le 4 m.lost ++ le 4 h.net.noRoute ++ le 4 h.net.partials ++ zeros 4
  ++ (List.range 5).flatMap (fun p => le 1 (netPair p h).mode) ++ zeros 3 ++ le 4 (portMask (fun p => portUp p h)) ++ le 4 (portMask (fun p => isHeld p h)) ++ zeros 8

def netStatus (p : List Byte) (h : Hw) : CmdResult :=
  .ok (if bit (u8 p 0) 0 then { h with net := { h.net with noRoute := 0, partials := 0, poolHigh := poolUsed h, mirror := { h.net.mirror with lost := 0 } } } else h) (netStatusBytes h)

def cmdNetStatus : Cmd := { row := rowNetStatus, reserved := [(1, 3)], reservedBits := [(0, 1, 0xFE)], body := fun _ p h => netStatus p h }

def portStatusBytes (p : Nat) (h : Hw) : List Byte :=
  let x := portAt p h
  le 1 p ++ le 1 (if portEnabled p h = false then 2 else flag x.link 0) ++ le 1 x.cfg.speed ++ le 1 (flag x.cfg.fec 0 + flag x.pausing 1 + flag (isHeld p h) 2)
  ++ le 1 x.step ++ zeros 3 ++ le 8 x.rxFrames ++ le 8 x.txFrames ++ le 8 x.rxBytes ++ le 8 x.txBytes ++ le 4 x.fcsErr ++ le 4 x.runt ++ le 4 x.oversize
  ++ le 4 x.dup ++ le 4 x.outOfWindow ++ le 4 x.wrongLan ++ le 4 x.ownReturn ++ le 4 x.tableFull ++ le 4 x.noRoute ++ le 4 x.dropBuffer ++ le 4 x.dropAged
  ++ le 4 x.underrun ++ le 4 x.pauseTx ++ le 4 x.pauseRx ++ le 4 x.pauseIgnored ++ le 4 (cellsOf (atOutput x)) ++ le 4 x.queueHigh ++ le 4 (occupancy p h)
  ++ le 4 x.linkLosses ++ zeros 12

/-- A port with its counters cleared. -/
def clearPort (x : Port) : Port :=
  { cfg := x.cfg, forced := x.forced, link := x.link, queue := x.queue, sending := x.sending, step := x.step, stepAt := x.stepAt, stepRecord := x.stepRecord, held := x.held,
    pausing := x.pausing, pausedAt := x.pausedAt, queueHigh := cellsOf (atOutput x) }

/-- An internal port of an unpopulated region (R5). -/
def absentPort (p : Nat) (h : Hw) : Bool := p ≤ 19 && !portExists p h

def netPortStatus (p : List Byte) (h : Hw) : CmdResult :=
  let n := u8 p 0
  if 19 < n then no stBadParam rcNetNoPort
  else .ok (if bit (u8 p 1) 0 then putPort n (clearPort (portAt n h)) h else h) (portStatusBytes n h)

def cmdNetPortStatus : Cmd :=
  { row := rowNetPortStatus, absent := fun _ p h => absentPort (u8 p 0) h, reserved := [(2, 2)], reservedBits := [(1, 1, 0xFE)], body := fun _ p h => netPortStatus p h }

/-- A node's entry in the NET.NODE_READ reply. -/
def nodeEntry (pair : Nat) (n : Node) (h : Hw) : List Byte :=
  let last := max (n.a.getD 0) (n.b.getD 0)
  le 8 n.mac ++ le 1 (flag (pathIsUp pair 0 n.a h) 0 + flag (pathIsUp pair 1 n.b h) 1 + flag (nodeNamed pair n.mac h) 2 + flag (!n.tagged) 3) ++ zeros 3
  ++ le 4 (sat32 ((h.time.mono - last) * 1000 / 2 ^ 64))

def netNodeRead (p : List Byte) (h : Hw) : CmdResult :=
  let pair := u8 p 0
  let first := u16 p 2
  let count := u16 p 4
  if 4 < pair ∨ count = 0 ∨ 64 < count then no stBadParam rcNetParamRange
  else
    let nodes := (netPair pair h).nodes
    if nodes.length ≤ first then no stBadParam rcNetNoEntry
    else
      let l := (nodes.drop first).take count
      .ok h (le 2 nodes.length ++ le 2 l.length ++ zeros 4 ++ l.flatMap (fun n => nodeEntry pair n h))

def cmdNetNodeRead : Cmd := { row := rowNetNodeRead, reserved := [(1, 1), (6, 2)], body := fun _ p h => netNodeRead p h }

/-- NET.MIRROR_SET (R362, R363, R366). -/
def netMirrorSet (c : Call) (p : List Byte) (h : Hw) : CmdResult :=
  let r := u8 p 0
  let m := h.net.mirror
  let segs := u8 p 12
  if r ≠ 0xFF then
    let fl := u8 p 1
    let rule : MirrorRule := { enable := bit fl 0, rx := bit fl 1, tx := bit fl 2, drops := bit fl 3, etype := u16 p 2, ports := u32 p 4, n := u16 p 8 }
    if 15 < r ∨ u16 p 8 = 0 then no stBadParam rcNetParamRange
    else if m.running then no stBusy rcNetMirrorRunning
    else .ok { h with net := { h.net with mirror := { m with rules := tset m.rules r rule } } } (zeros 8)
  else if 1 < u8 p 13 then no stBadParam rcNetParamRange
  else if u8 p 13 = 0 then
    .ok { h with net := { h.net with mirror := { m with running := false, ring := [] } }, acq := { h.acq with mirrorSegments := 0 } } (zeros 8)
  else if segs = 0 ∨ 8 < segs then no stBadParam rcNetParamRange
  else if m.running then (if segs = h.acq.mirrorSegments then .ok h (zeros 8) else no stBusy rcNetMirrorRunning)
  else if 8 < h.acq.segments + segs then .refuse stResourceConflict rcNetSramHeld (le 2 h.acq.holder.1 ++ le 2 0x0903 ++ le 4 h.acq.holder.2)
  else
    .ok { h with
      net := { h.net with mirror := { m with running := true, ring := [], written := 0, window := (0, 0), rules := tmap m.rules (fun _ r => { r with count := 0 }) } }
      acq := { h.acq with mirrorSegments := segs, mirrorHolder := (c.hdr.slice, 0xFF) } } (zeros 8)

def cmdNetMirrorSet : Cmd :=
  { row := rowNetMirrorSet, absent := fun _ p h => u8 p 0 != 0xFF && (List.range 20).any (fun i => bit (u32 p 4) i && absentPort i h), reserved := [(10, 2), (14, 2)], reservedBits := [(1, 1, 0xF0), (4, 4, 0xFFF00000)], body := fun c p h => netMirrorSet c p h }

/-- An entry of the mirror ring (R364). -/
def mirrorBytes (e : MirrorEntry) : List Byte :=
  timeBytes e.time ++ le 4 e.number ++ le 1 e.port ++ le 1 e.flags ++ le 1 e.reason ++ le 1 e.cls ++ le 2 e.length ++ le 1 e.rule ++ zeros 1 ++ zeros 8 ++ slice e.frame 0 64

def netMirrorRead (p : List Byte) (h : Hw) : CmdResult :=
  let first := u32 p 0
  let count := u32 p 4
  let m := h.net.mirror
  let oldest := m.written - m.ring.length
  if count = 0 ∨ 64 < count then no stBadParam rcNetParamRange
  else if first < oldest ∨ m.written < first + count ∨ m.ring = [] then no stBadParam rcNetNoEntry
  else .ok h (le 4 oldest ++ le 4 (m.written - 1) ++ zeros 8 ++ (List.range count).flatMap (fun i => mirrorBytes (m.ring.getD (m.written - 1 - (first + i)) {})))

def cmdNetMirrorRead : Cmd := { row := rowNetMirrorRead, body := fun _ p h => netMirrorRead p h }

def netPortEnable (p : List Byte) (h : Hw) : CmdResult :=
  let n := u8 p 0
  if 11 < n then no stBadParam rcNetNoPort
  else if 1 < u8 p 1 then no stBadParam rcNetParamRange
  else done (pump n (refreshPort n (modPort n (fun x => { x with forced := some (u8 p 1 == 1) }) h)))

def cmdNetPortEnable : Cmd := { row := rowNetPortEnable, absent := fun _ p h => absentPort (u8 p 0) h, reserved := [(2, 2)], body := fun _ p h => netPortEnable p h }

/-- A field that keeps its value when it holds the given mark. -/
def keepOr (v mark old : Nat) : Nat := if v = mark then old else v

def netTune (p : List Byte) (h : Hw) : CmdResult :=
  let n := u8 p 0
  let x := portAt n h
  let t := u32 p 16
  let c := { x.cfg with pcp := keepOr (u8 p 1) 0xFF x.cfg.pcp, floor := keepOr (u8 p 2) 0xFF x.cfg.floor, high := keepOr (u32 p 4) 0 x.cfg.high
                        low := keepOr (u32 p 8) 0 x.cfg.low, cap := keepOr (u32 p 12) 0 x.cfg.cap }
  if 19 < n then no stBadParam rcNetNoPort
  else if portRange 0 c = false ∨ (t ≠ 0 ∧ (t < 10 ∨ 60000 < t ∨ 9 < n)) then no stBadParam rcNetParamRange
  else
    let h := putPort n { x with cfg := c, step := max x.step c.floor } h
    done (if t = 0 then h else refreshPort n (putNetPair (n / 2) { netPair (n / 2) h with timeoutMs := t } h))

def cmdNetTune : Cmd := { row := rowNetTune, absent := fun _ p h => absentPort (u8 p 0) h, reserved := [(3, 1), (20, 4)], body := fun _ p h => netTune p h }

def netAgeingSet (p : List Byte) (h : Hw) : CmdResult :=
  let l := (List.range 8).map (fun i => u32 p (4 * i))
  if l.any (fun v => v != 0 && (v < 10 || 100000 < v)) then no stBadParam rcNetParamRange
  else done { h with net := { h.net with ageing := l.zipIdx.map (fun e => keepOr e.1 0 (h.net.ageing.getD e.2 0)) } }

def cmdNetAgeingSet : Cmd := { row := rowNetAgeingSet, body := fun _ p h => netAgeingSet p h }

/-- NET.STATUS. -/
def execNetStatus (c : Call) (p : List Byte) : State → Host.Outcome State Fault Refusal := lift (runCmd cmdNetStatus c p)
/-- NET.PORT_STATUS. -/
def execNetPortStatus (c : Call) (p : List Byte) : State → Host.Outcome State Fault Refusal := lift (runCmd cmdNetPortStatus c p)
/-- NET.NODE_READ. -/
def execNetNodeRead (c : Call) (p : List Byte) : State → Host.Outcome State Fault Refusal := lift (runCmd cmdNetNodeRead c p)
/-- NET.MIRROR_SET. -/
def execNetMirrorSet (c : Call) (p : List Byte) : State → Host.Outcome State Fault Refusal := lift (runCmd cmdNetMirrorSet c p)
/-- NET.MIRROR_READ. -/
def execNetMirrorRead (c : Call) (p : List Byte) : State → Host.Outcome State Fault Refusal := lift (runCmd cmdNetMirrorRead c p)
/-- NET.PORT_ENABLE. -/
def execNetPortEnable (c : Call) (p : List Byte) : State → Host.Outcome State Fault Refusal := lift (runCmd cmdNetPortEnable c p)
/-- NET.TUNE. -/
def execNetTune (c : Call) (p : List Byte) : State → Host.Outcome State Fault Refusal := lift (runCmd cmdNetTune c p)
/-- NET.AGEING_SET. -/
def execNetAgeingSet (c : Call) (p : List Byte) : State → Host.Outcome State Fault Refusal := lift (runCmd cmdNetAgeingSet c p)

end Sys2Proof.Machine
end

