-- ==== Sys2Proof/Machine/Budget.lean ====
section
/-! DEFINITION. The budget controller, block clocks, the dispatcher tick, and the FABRIC, BUDGET and SPEC commands (R164, R176 to R179, R281, R284 to R295, R565). -/
namespace Sys2Proof.Machine

/-! ### Clocks (R284, R565) -/

/-- Setpoint of a die's rail for its fastest block clock, mV. -/
def setpointFor (mhz : Nat) : Nat :=
  if mhz ≤ 400 then 600 else if mhz ≤ 800 then 650 else if mhz ≤ 1000 then 700 else if mhz ≤ 1600 then 800 else 950

/-- The fastest clock that a die's blocks run at or rise to. -/
def fastestClock (die : Nat) (h : Hw) : Nat :=
  ((List.range 4).map (fun b => let x := blockAt (4 * die + b) h; max x.now (x.changing.getD 0))).foldl max 0

/-- Write VOUT_COMMAND when a die's setpoint has changed. -/
def setVolts (die : Nat) (h : Hw) : Hw :=
  let v := setpointFor (fastestClock die h)
  if tget h.power.setpoints die 800 = v then h
  else emit (.pmbus die v) { h with power := { h.power with setpoints := tset h.power.setpoints die v } }

/-- The clock a block is to run at (R284). -/
def targetClock (n : Nat) (h : Hw) : Nat :=
  if protectBlock n h then 2200 else if h.fab.budget.level = 2 then min (blockAt n h).clock 800 else (blockAt n h).clock

/-- Start a clock change where a block is not at its target: the voltage rises before the clock, and the block goes on at the
lower of the two clocks. -/
def retarget (n : Nat) (h : Hw) : Hw :=
  let b := blockAt n h
  let t := targetClock n h
  if b.changing.getD b.now = t ∨ blockPresent n h = false then h
  else setVolts (n / 4) (putBlock n { b with changing := some t, now := min b.now t } h)

/-- BLOCK_CLOCK_CHANGE_DONE's effect; after a lowering the voltage follows. -/
def clockDone (n : Nat) (h : Hw) : Hw :=
  let b := blockAt n h
  match b.changing with
  | none => h
  | some t => setVolts (n / 4) (putBlock n { b with changing := none, now := t } h)

/-- BLOCK_CLOCK_CHANGE_DONE. -/
def execBlockClockChangeDone (n : Nat) : State → Host.Outcome State Fault Refusal := lift (onlyIf true (clockDone n))

/-! ### The budget controller (R285 to R287) -/

/-- Power budget in force, 0.1 W (R3, R291). -/
def maxPower (h : Hw) : Nat := if h.variant = 0x20 then 440 else if h.variant = 0x40 then 620 else 1150
def powerBudget (h : Hw) : Nat := h.fab.budget.budget.getD (maxPower h)

/-- Rail limits, mA, by rail index (R564); `none` where the variant does not monitor the rail. -/
def railLimit (rail : Nat) (h : Hw) : Option Nat :=
  let col (a b c : Nat) : Option Nat := some (if h.variant = 0x20 then a else if h.variant = 0x40 then b else c)
  match rail with
  | 0 => col 16000 19000 24000
  | 1 => col 3000 3500 4500
  | 8 => col 4500 5500 7500
  | 9 => col 1500 1800 2400
  | 10 => some 2500
  | 11 => some 3000
  | 12 => some 500
  | 13 => some 300
  | 14 => if h.variant = 0x20 then none else some 2500
  | r => if 2 ≤ r ∧ r ≤ 7 ∧ r - 2 < computeDies h ∧ h.fault.fenced.contains (r - 2) = false then some 14000 else none

/-- Regions whose sensors count: populated and not fenced (R7, R534). -/
def sensorRegions (h : Hw) : List Nat := (populated h).filter (fun r => r < 2 || !h.fault.fenced.contains (r - 2))

/-- A sensor that does not respond or reads outside -50 °C to 150 °C. -/
def sensorBad (t : Option Int) : Bool := match t with | none => true | some x => x < -500 || 1500 < x

/-- The highest junction temperature and its region. -/
def hottest (h : Hw) : Int × Nat :=
  (sensorRegions h).foldl (fun (m : Int × Nat) r => match tget h.fab.budget.sensed r (some 0) with
    | some t => if m.1 < t then (t, r) else m
    | none => m) (-32768, 0)

/-- The 1 ms mean power, 0.1 W. -/
def meanPower (h : Hw) : Nat := match h.fab.budget.power with | [] => 0 | l => l.foldl (· + ·) 0 / (l.length * 100000)

/-- P compared with a percentage of the budget, exactly: mean * 100 against pct * budget. -/
def powerTerms (h : Hw) : Nat × Nat := match h.fab.budget.power with | [] => (0, 1) | l => (l.foldl (· + ·) 0 * 100, l.length * 100000)
def powerReaches (pct : Nat) (h : Hw) : Bool := let (a, n) := powerTerms h; pct * powerBudget h * n ≤ a
def powerAtMost (pct : Nat) (h : Hw) : Bool := let (a, n) := powerTerms h; a ≤ pct * powerBudget h * n

/-- Count the time spent at the present level. -/
def accrueLevel (h : Hw) : Hw :=
  let b := h.fab.budget
  let dt := h.time.mono - b.countedAt
  { h with fab := { h.fab with budget := { b with
      countedAt := h.time.mono
      amberTime := if b.level = 1 then b.amberTime + dt else b.amberTime
      redTime := if b.level = 2 then b.redTime + dt else b.redTime } } }

/-- Conditions of R285 that hold at a sample: temperature, power, rail, sensor fault, as cause bits for a level. -/
def levelCauses (tLim pLim : Nat) (red : Bool) (h : Hw) : Nat :=
  let b := h.fab.budget
  let t := (hottest h).1
  flag (b.temps.getD tLim 0 ≤ t) 0 + flag (powerReaches (b.powers.getD pLim 0) h) 1
  + (if red then flag (b.rails95 != 0) 2 + flag ((sensorRegions h).any (fun r => sensorBad (tget b.sensed r (some 0)))) 4 else 0)

/-- Exit conditions of RED and of AMBER. -/
def redExitMet (h : Hw) : Bool :=
  let b := h.fab.budget
  (hottest h).1 ≤ b.temps.getD 2 0 && powerAtMost (b.powers.getD 2 0) h && b.rails90 == 0
  && !(sensorRegions h).any (fun r => sensorBad (tget b.sensed r (some 0)))
def amberExitMet (h : Hw) : Bool :=
  let b := h.fab.budget
  (hottest h).1 ≤ b.temps.getD 3 0 && powerAtMost (b.powers.getD 3 0) h

/-- The level computed from the counters and holds (R285). -/
def computeLevel (h : Hw) : Nat :=
  let b := h.fab.budget
  let held (t : Option Nat) (ms : Nat) : Bool := match t with | some s => nsUnits (ms * 1000000) ≤ h.time.mono - s | none => false
  if 2 ≤ b.redCount then 2
  else match b.computed with
    | 0 => if 2 ≤ b.amberCount then 1 else 0
    | 1 => if held b.amberExit b.holds.2 then 0 else 1
    | _ => if held b.redExit b.holds.1 then 1 else 2

/-- Ask for the level that the computed level and the floor give, at the next tick (R286, R287). -/
def askLevel (h : Hw) : Hw :=
  let b := h.fab.budget
  let lv := max b.computed b.floor
  let base := if b.computed = 2 then levelCauses 1 1 true h else if b.computed = 1 then levelCauses 0 0 false h else 0
  let causes := base + flag (b.computed < b.floor) 3
  { h with fab := { h.fab with budget := { b with due := if lv = b.level then none else some (lv, causes), causes := if lv = b.level then causes else b.causes } } }

/-- BUDGET_SAMPLE's effect: temperatures by region (0.1 °C, none for no response) and rails as (index, mA, mV) (R285). -/
def budgetSample (temps : List (Nat × Option Int)) (rails : List (Nat × Nat × Nat)) (h : Hw) : Hw :=
  if h.mode ≠ .idle ∧ h.mode ≠ .ready ∧ h.mode ≠ .serving ∧ h.mode ≠ .test then h
  else
    let h := accrueLevel h
    let used := rails.filter (fun r => (railLimit r.1 h).isSome)
    let at_ (pct : Nat) : Nat := (used.map (fun r => if pct * (railLimit r.1 h).getD 0 ≤ 100 * r.2.1 then 2 ^ r.1 else 0)).foldl (· + ·) 0
    let uw := (used.map (fun r => r.2.1 * r.2.2)).foldl (· + ·) 0
    let sensed : Tbl (Option Int) := (sensorRegions h).map (fun r => (r, ((temps.find? (fun t => t.1 == r)).map (fun t => t.2)).getD none))
    let h := { h with fab := { h.fab with budget := { h.fab.budget with
      sensed := sensed, power := (uw :: h.fab.budget.power).take 10, rails90 := at_ 90, rails95 := at_ 95, sampledAt := some h.time.mono } } }
    let b := h.fab.budget
    let keep (met : Bool) (t : Option Nat) : Option Nat := if met then some (t.getD h.time.mono) else none
    let h := { h with fab := { h.fab with budget := { b with
      powerMax := max b.powerMax (meanPower h)
      redCount := if levelCauses 1 1 true h ≠ 0 then b.redCount + 1 else 0
      amberCount := if levelCauses 0 0 false h ≠ 0 then b.amberCount + 1 else 0
      redExit := if b.computed = 2 then keep (redExitMet h) b.redExit else none
      amberExit := if b.computed = 1 then keep (amberExitMet h) b.amberExit else none } } }
    let lv := computeLevel h
    let b := h.fab.budget
    let h := if lv = b.computed then h
      else { h with fab := { h.fab with budget := { b with computed := lv, redExit := none, amberExit := none } } }
    askLevel h

/-- Leaving SERVING, TEST and READY clears the floor (R287). -/
def clearFloor (h : Hw) : Hw := askLevel { h with fab := { h.fab with budget := { h.fab.budget with floor := 0 } } }

/-! ### The dispatcher tick (R281, R286) -/

/-- Items in slots that the level no longer allows go back to the head of their lists (R288). -/
def returnSlots (n : Nat) (h : Hw) : Hw :=
  (blockAt n h).slots.foldl (fun h e =>
    if levelAllows n e.2 h then h
    else
      let b := blockAt n h
      putBlock n { b with slots := tdel b.slots e.1, ready := { e.2 with front := true } :: b.ready } h) h

/-- When the level leaves RED, the timeouts of AUTO captures withheld at RED restart (R229). -/
def restartTimeouts (old lv : Nat) (h : Hw) : Hw :=
  if old = 2 ∧ lv ≠ 2 then
    { h with acq := { h.acq with captures := tmap h.acq.captures (fun _ c => if c.state = 1 ∧ c.since = none then { c with since := some h.time.mono } else c) } }
  else h

/-- A new level comes into force: the record, the time, and at RED the runs still SPECULATING cancelled (R164, R286); a run
that has completed within the same tick resolves as CANCELLED_BUDGET too, without a RESCIND (R582). -/
def takeLevel (lv causes : Nat) (h : Hw) : Hw :=
  let h := accrueLevel h
  let old := h.fab.budget.level
  let (t, _) := hottest h
  let h := { h with fab := { h.fab with budget := { h.fab.budget with
    level := lv, causes := causes, due := none, changes := inc32 h.fab.budget.changes, changedAt := h.time.now } } }
  let h := evr 0x0B10 0x0F01 (le 1 old ++ le 1 lv ++ le 1 causes ++ zeros 1 ++ le 2 (min (meanPower h) 0xFFFF) ++ leInt 2 t ++ zeros 8 ++ le 8 0xFFFFFFFFFFFFFFFF ++ nowBytes h) h
  let h := restartTimeouts old lv h
  let h := if lv = 2 then
      (h.spec.entries.filter (fun e => e.2.state == 1 || (e.2.state == 2 && e.2.decidedAt * 100000 / 2 ^ 64 == h.fab.lastTick))).foldl (fun h e => resolveOther e.1 8 false h) h
    else h
  (List.range (blockCount h)).foldl (fun h n => returnSlots n h) h

/-- Tuned values of blocks and slices, and reopened admission, take effect (R294, R312, R316); buckets are filled at the old rates first. -/
def takeTuned (h : Hw) : Hw :=
  let blocks := tmap h.fab.blocks (fun _ b => match b.next with
    | some (p, c, l) => { b with protect := p, clock := c, limits := l, next := none }
    | none => b)
  let slices := tmap h.slc.insts (fun _ s =>
    let s := match s.next with | some c => { fillBuckets s h.time.mono with cfg := c, next := none } | none => s
    if s.resuming then { s with state := 1, resuming := false } else s)
  { h with fab := { h.fab with blocks := blocks }, slc := { h.slc with insts := slices } }

/-- Release the items of a delay list whose release is at or before the tick, in release order. DESIGN CHOICE (log 89): an item whose list
is full waits for the next tick (R281). -/
def releaseDelayed (n : Nat) (h : Hw) : Hw :=
  let b := blockAt n h
  let now := timeWord (h.fab.lastTick * 2 ^ 64 / 100000)
  let due := (b.delay.filter (fun i => wordReached now i.desc.release)).mergeSort (fun x y => wordReached y.desc.release x.desc.release)
  due.foldl (fun h i =>
    if listRoom n i.desc.cls h then
      let b := blockAt n h
      putBlock n { b with delay := b.delay.erase i, ready := b.ready ++ [i] } h
    else h) h

/-- The completion queue writes its entries into the slices' rings, discarding stale ones (R307, R308). -/
def writeCompletions (h : Hw) : Hw :=
  let l := h.slc.completions
  l.foldl (fun h d =>
    let s := sliceAt d.slice h
    if d.generation ≠ s.generation then putSlice d.slice { s with stale := inc32 s.stale } h
    else
      let (base, size) := sliceRange d.slice h
      let off := s.cfg.ring - 0x100000000 + 16 * (s.completion % 256)
      let bytes := le 2 d.tag ++ le 1 d.status ++ le 1 d.engine ++ le 4 d.count ++ le 2 d.generation ++ zeros 2 ++ le 4 s.completion
      let h := putSlice d.slice { s with completion := (s.completion + 1) % 2 ^ 32 } h
      if off + 16 ≤ size then { h with fab := { h.fab with dram := memPut h.fab.dram (base + off) bytes } } else h)
    { h with slc := { h.slc with completions := [] } }

/-- DISPATCHER_TICK's effect: tuned values, level, clocks, then releases and completions (R281, R307). -/
def dispatcherTick (h : Hw) : Hw :=
  let tick := h.time.now * 100000 / 2 ^ 64
  if tick = h.fab.lastTick then h
  else
    let h := takeTuned { h with fab := { h.fab with lastTick := tick } }
    let h := match h.fab.budget.due with | some (lv, causes) => takeLevel lv causes h | none => h
    let all := List.range (blockCount h)
    let h := all.foldl (fun h n => retarget n h) h
    let h := all.foldl (fun h n => releaseDelayed n h) h
    writeCompletions h

/-- C4_WINDOW_END's effect: the window's cell times are kept and restart (R289, R292). -/
def windowEnd (n : Nat) (h : Hw) : Hw :=
  let b := blockAt n h
  if h.time.mono - b.windowAt < nsUnits 1000000 then h
  else
    let part (e : Nat × Run) : Nat := h.time.mono - max e.2.since b.windowAt
    let all := b.busy + (b.running.map part).foldl (· + ·) 0
    putBlock n { b with lastBusy := all, lastC4 := c4Used n h, busy := 0, busyC4 := 0, windowAt := h.time.mono } h

/-- C4_WINDOW_END. -/
def execC4WindowEnd (n : Nat) : State → Host.Outcome State Fault Refusal := lift (onlyIf true (windowEnd n))

/-! ### FABRIC and BUDGET commands (R290 to R295) -/

/-- A command names an unpopulated compute die (R5). -/
def dieAbsent (die : Nat) (h : Hw) : Bool := die ≤ 5 && computeDies h ≤ die

/-- Per mille of the block's cell time over 1 ms. -/
def perMille (t : Nat) : Nat := min 1000 (t * 1000 / (8 * nsUnits 1000000))

/-- The FABRIC.STATUS payload of R292. -/
def fabricStatusBytes (n : Nat) (h : Hw) : List Byte :=
  let b := blockAt n h
  let c (i : Nat) : List Byte := le 2 (classItems i b.ready).length
  le 2 (cellSource n 0xFF) ++ le 1 (cellsInService n h).length
  ++ le 1 (flag (b.quarantined || h.fault.fenced.contains (n / 4)) 0 + flag (protectBlock n h) 1 + flag b.tuned 2 + flag b.changing.isSome 3)
  ++ le 2 b.now ++ le 1 (if protectBlock n h then b.protect else 0) ++ zeros 1 ++ c 0 ++ c 1 ++ c 2 ++ c 3 ++ c 4 ++ le 2 b.delay.length
  ++ le 4 b.dispatched ++ le 4 b.overrun ++ le 4 b.missed ++ le 4 b.full ++ le 4 b.affinity ++ le 4 b.takenBack
  ++ le 2 (perMille b.lastBusy) ++ le 2 (perMille b.lastC4) ++ zeros 16

/-- FABRIC.STATUS (R291, R292). -/
def fabricStatus (p : List Byte) (h : Hw) : CmdResult :=
  if 5 < u8 p 0 ∨ 3 < u8 p 1 then no stBadParam rcFabricNoBlock
  else
    let n := 4 * u8 p 0 + u8 p 1
    let b := blockAt n h
    .ok (if bit (u8 p 2) 0 then putBlock n { b with dispatched := 0, overrun := 0, missed := 0, full := 0, affinity := 0, takenBack := 0 } h else h)
      (fabricStatusBytes n h)

def cmdFabricStatus : Cmd :=
  { row := rowFabricStatus, absent := fun _ p h => dieAbsent (u8 p 0) h, reserved := [(3, 1)], reservedBits := [(2, 1, 0xFE)], body := fun _ p h => fabricStatus p h }

/-- The blocks that a die and a block selector name. -/
def selectBlocks (die block : Nat) : List Nat := if block = 0xFF then [4 * die, 4 * die + 1, 4 * die + 2, 4 * die + 3] else [4 * die + block]

/-- What a block will be tuned to, before a new change. -/
def tunedOf (b : Block) : Nat × Nat × List Nat := b.next.getD (b.protect, b.clock, b.limits)

/-- FABRIC.PROFILE (R291). -/
def fabricProfile (p : List Byte) (h : Hw) : CmdResult :=
  let die := u8 p 0
  let block := u8 p 1
  if 5 < die ∨ (3 < block ∧ block ≠ 0xFF) then no stBadParam rcFabricNoBlock
  else if u8 p 2 = 0 ∨ 3 < u8 p 2 then no stBadParam rcFabricParamRange
  else if (selectBlocks die block).any (fun n => protectBlock n h) then no stBadParam rcFabricProtectClock
  else
    let mhz := match u8 p 2 with | 1 => 2200 | 2 => 1600 | _ => 1000
    done ((selectBlocks die block).foldl (fun h n =>
      let b := blockAt n h
      let (q, _, l) := tunedOf b
      putBlock n { b with next := some (q, mhz, l), tuned := true } h) h)

def cmdFabricProfile : Cmd :=
  { row := rowFabricProfile, absent := fun _ p h => dieAbsent (u8 p 0) h, reserved := [(3, 1)], body := fun _ p h => fabricProfile p h }

/-- Run-time limit ranges of R282, µs. -/
def limitRange (cls v : Nat) : Bool := 5 ≤ v && v ≤ (match cls with | 0 => 500 | 1 => 10000 | _ => 1000000)

/-- FABRIC.TUNE (R294). -/
def fabricTune (p : List Byte) (h : Hw) : CmdResult :=
  let die := u8 p 0
  let block := u8 p 1
  let prot := u8 p 2
  let mhz := u16 p 4
  let lims := (List.range 5).map (fun i => u32 p (8 + 4 * i))
  if 5 < die ∨ (3 < block ∧ block ≠ 0xFF) then no stBadParam rcFabricNoBlock
  else if (4 < prot ∧ prot ≠ 0xFF) ∨ (mhz ≠ 0 ∧ (mhz < 400 ∨ 2200 < mhz ∨ mhz % 100 ≠ 0))
      ∨ lims.zipIdx.any (fun e => e.1 != 0 && !limitRange e.2 e.1) then no stBadParam rcFabricParamRange
  else if mhz ≠ 0 ∧ (selectBlocks die block).any (fun n => protectBlock n h) then no stBadParam rcFabricProtectClock
  else
    done ((selectBlocks die block).foldl (fun h n =>
      let b := blockAt n h
      let (q, c, l) := tunedOf b
      let l' := List.zipWith (fun new old => if new = 0 then old else new) lims l
      putBlock n { b with next := some (if prot = 0 then q else if prot = 0xFF then 0 else prot, if mhz = 0 then c else mhz, l'), tuned := true } h) h)

def cmdFabricTune : Cmd :=
  { row := rowFabricTune, absent := fun _ p h => dieAbsent (u8 p 0) h, reserved := [(3, 1), (6, 2), (28, 4)], body := fun _ p h => fabricTune p h }

/-- Milliseconds of a duration. -/
def msOf (t : Nat) : Nat := t * 1000 / 2 ^ 64

/-- The BUDGET.STATUS payload of R293; the temperature of a sensor that does not respond is free (log 3). -/
def budgetStatusBytes (h : Hw) : List Byte :=
  let b := h.fab.budget
  let temp (r : Nat) : List Byte :=
    if (sensorRegions h).contains r then (match tget b.sensed r (some 0) with | some t => leInt 2 t | none => le 2 (Config.freeNat (8 * h.free + r) % 65536)) else le 2 0x8000
  le 1 b.level ++ le 1 b.floor ++ le 1 b.causes ++ le 1 (hottest h).2 ++ le 2 (powerBudget h) ++ le 2 (min (meanPower h) 0xFFFF)
  ++ ((List.range 8).map temp).flatten ++ le 4 b.changes ++ le 4 (sat32 (msOf b.amberTime)) ++ le 4 (sat32 (msOf b.redTime))
  ++ le 2 (min b.powerMax 0xFFFF) ++ le 2 b.rails90 ++ timeBytes b.changedAt ++ zeros 12

/-- BUDGET.STATUS (R293): its counters and the times since the last clear. -/
def budgetStatus (p : List Byte) (h : Hw) : CmdResult :=
  let h := accrueLevel h
  let pay := budgetStatusBytes h
  let h := drawn h
  let b := h.fab.budget
  .ok (if bit (u8 p 0) 0 then { h with fab := { h.fab with budget := { b with changes := 0, amberTime := 0, redTime := 0, powerMax := 0 } } } else h) pay

def cmdBudgetStatus : Cmd := { row := rowBudgetStatus, reserved := [(1, 3)], reservedBits := [(0, 1, 0xFE)], body := fun _ p h => budgetStatus p h }

def cmdBudgetSet : Cmd :=
  { row := rowBudgetSet, reserved := [(2, 2)]
    body := fun _ p h =>
      if u16 p 0 < 200 ∨ maxPower h < u16 p 0 then no stBadParam rcBudgetRange
      else done { h with fab := { h.fab with budget := { h.fab.budget with budget := some (u16 p 0) } } } }

/-- BUDGET.THRESHOLDS (R295). -/
def budgetThresholds (p : List Byte) (h : Hw) : CmdResult :=
  let ta := s16 p 0; let tr := s16 p 2; let trx := s16 p 4; let tax := s16 p 6
  let pa := u8 p 8; let pr := u8 p 9; let prx := u8 p 10; let pax := u8 p 11
  if tax < ta ∧ ta ≤ tr ∧ tr ≤ 1020 ∧ tax < trx ∧ trx < tr ∧ pax < pa ∧ pa ≤ pr ∧ pr ≤ 100 ∧ pax < prx ∧ prx < pr
      ∧ 1 ≤ u16 p 12 ∧ u16 p 12 ≤ 60000 ∧ 1 ≤ u16 p 14 ∧ u16 p 14 ≤ 60000 then
    done { h with fab := { h.fab with budget := { h.fab.budget with
      temps := [ta, tr, trx, tax], powers := [pa, pr, prx, pax], holds := (u16 p 12, u16 p 14) } } }
  else no stBadParam rcBudgetThreshold

def cmdBudgetThresholds : Cmd := { row := rowBudgetThresholds, body := fun _ p h => budgetThresholds p h }

def cmdBudgetForce : Cmd :=
  { row := rowBudgetForce, reserved := [(1, 3)]
    body := fun _ p h =>
      if 2 < u8 p 0 then no stBadParam rcBudgetRange
      else done (askLevel { h with fab := { h.fab with budget := { h.fab.budget with floor := u8 p 0 } } }) }

/-! ### SPEC commands (R177 to R179) -/

/-- Entries of a slice, or of the module. -/
def specEntries (s : Nat) (h : Hw) : List (Nat × Entry) := if s = 0xFFFF then h.spec.entries else h.spec.entries.filter (fun e => e.2.slice == s)

/-- The SPEC.STATUS payload of R177. -/
def specStatusBytes (s : Nat) (h : Hw) : List Byte :=
  let c := tget h.spec.counters s {}
  let x := sliceAt s h
  let used := (specEntries s h).length
  let depth := if s = 0xFFFF then (if publishes h then budgetDepth h else 0) else depthLimit s h
  le 2 s ++ le 1 (if s = 0xFFFF then 0xFF else x.cfg.specMode) ++ le 1 depth
  ++ le 4 c.opened ++ le 4 c.prime ++ le 4 c.confirmed ++ le 4 c.rescinded ++ le 4 c.agreed ++ le 4 c.differed ++ le 4 c.overflow ++ le 4 c.effect
  ++ le 4 c.overtaken ++ le 4 c.cancelled ++ le 4 c.faulted ++ le 4 c.depthLimited ++ le 4 c.ledgerFull ++ le 4 c.primeExpired ++ le 4 c.writeThrough
  ++ le 4 c.discarded ++ le 4 c.badCode ++ le 2 used ++ le 2 (min c.high 0xFFFF) ++ le 2 (min c.linesHigh 0xFFFF) ++ zeros 2
  ++ le 4 (sat32 c.mean) ++ zeros 12

/-- A slice the Bloom defines. -/
def sliceDefined (s : Nat) (h : Hw) : Bool := s != 0 && (sliceAt s h).state != 0

/-- The counters after a clear: the high-water marks start at the present levels and the mean resolve time, no counter, stays. -/
def clearedSpec (s : Nat) (h : Hw) : SpecCounters :=
  let l := specEntries s h
  { high := l.length, linesHigh := (l.map (fun e => e.2.lines.length)).foldl max 0, mean := (tget h.spec.counters s {}).mean }

/-- SPEC.STATUS (R177, R182): the occupancy fields are not cleared. -/
def specStatus (p : List Byte) (h : Hw) : CmdResult :=
  let s := u16 p 0
  if s ≠ 0xFFFF ∧ sliceDefined s h = false then no stBadParam rcSpecNoSlice
  else
    .ok (if bit (u8 p 2) 0 then { h with spec := { h.spec with counters := tset h.spec.counters s (clearedSpec s h) } } else h) (specStatusBytes s h)

def cmdSpecStatus : Cmd :=
  { row := rowSpecStatus, inScope := fun n _ p _ => u16 p 0 == n, reserved := [(3, 1)], reservedBits := [(2, 1, 0xFE)], body := fun _ p h => specStatus p h }

/-- Change a slice's speculation values, unless it is quiesced (R178, R179, R182). -/
def specChange (s : Nat) (f : SliceConfig → SliceConfig) (h : Hw) : CmdResult :=
  if sliceDefined s h = false then no stBadParam rcSpecNoSlice
  else if (sliceAt s h).state ≠ 1 then no stStateRefused rcSpecQuiesced
  else
    let x := sliceAt s h
    done (putSlice s { x with cfg := f x.cfg, next := x.next.map f } h)

def cmdSpecSet : Cmd :=
  { row := rowSpecSet, inScope := fun n _ p _ => u16 p 0 == n, reserved := [(3, 1)]
    body := fun _ p h => if 2 < u8 p 2 then no stBadParam rcSpecParamRange else specChange (u16 p 0) (fun c => { c with specMode := u8 p 2 }) h }

def cmdSpecTune : Cmd :=
  { row := rowSpecTune, inScope := fun n _ p _ => u16 p 0 == n, reserved := [(3, 1), (8, 4)]
    body := fun _ p h =>
      let cap := u8 p 2; let lines := u16 p 4; let margin := u16 p 6
      if 3 < cap ∨ (lines ≠ 0 ∧ (lines < 16 ∨ 1024 < lines)) ∨ (margin ≠ 0 ∧ (margin < 10 ∨ 500 < margin)) then no stBadParam rcSpecParamRange
      else specChange (u16 p 0) (fun c => { c with
        depthCap := if cap = 0 then c.depthCap else cap, lineCap := if lines = 0 then c.lineCap else lines, margin := if margin = 0 then c.margin else margin }) h }

/-- FABRIC.STATUS. -/
def execFabricStatus (c : Call) (p : List Byte) : State → Host.Outcome State Fault Refusal := lift (runCmd cmdFabricStatus c p)
/-- FABRIC.PROFILE. -/
def execFabricProfile (c : Call) (p : List Byte) : State → Host.Outcome State Fault Refusal := lift (runCmd cmdFabricProfile c p)
/-- BUDGET.STATUS. -/
def execBudgetStatus (c : Call) (p : List Byte) : State → Host.Outcome State Fault Refusal := lift (runCmd cmdBudgetStatus c p)
/-- BUDGET.SET. -/
def execBudgetSet (c : Call) (p : List Byte) : State → Host.Outcome State Fault Refusal := lift (runCmd cmdBudgetSet c p)
/-- FABRIC.TUNE. -/
def execFabricTune (c : Call) (p : List Byte) : State → Host.Outcome State Fault Refusal := lift (runCmd cmdFabricTune c p)
/-- BUDGET.THRESHOLDS. -/
def execBudgetThresholds (c : Call) (p : List Byte) : State → Host.Outcome State Fault Refusal := lift (runCmd cmdBudgetThresholds c p)
/-- BUDGET.FORCE. -/
def execBudgetForce (c : Call) (p : List Byte) : State → Host.Outcome State Fault Refusal := lift (runCmd cmdBudgetForce c p)
/-- SPEC.STATUS. -/
def execSpecStatus (c : Call) (p : List Byte) : State → Host.Outcome State Fault Refusal := lift (runCmd cmdSpecStatus c p)
/-- SPEC.SET. -/
def execSpecSet (c : Call) (p : List Byte) : State → Host.Outcome State Fault Refusal := lift (runCmd cmdSpecSet c p)
/-- SPEC.TUNE. -/
def execSpecTune (c : Call) (p : List Byte) : State → Host.Outcome State Fault Refusal := lift (runCmd cmdSpecTune c p)
/-! ### Image checks (R148, R149, R159, R170, R277) -/

/-- The refusals of the Forsythia chapter: reason and slice, function or stage. -/
def checkSpec (b : Image) (h : Hw) : Option (Nat × Nat) :=
  match b.fns.find? (fun f => f.eligible && f.cls != 0) with
  | some f => some (rcSpecClass, f.index)
  | none =>
  match b.slices.find? (fun s => 2 < s.specMode || s.depthCap == 0 || 3 < s.depthCap || s.lineCap < 16 || 1024 < s.lineCap || s.margin < 10 || 500 < s.margin) with
  | some s => some (rcSpecParamRange, s.slice)
  | none =>
  let badAction (a : Action) : Bool :=
    16 < a.channels.length || a.code == 0 || a.channels.any (fun c => match b.outStages.find? (fun s => s.stage == c.1) with
      | some s => s.channels ≤ c.2
      | none => true)
  match b.fns.find? (fun f => 64 < f.actions.length || f.actions.any badAction || f.actions.zipIdx.any (fun e => (f.actions.take e.2).any (fun a => a.code == e.1.code))) with
  | some f => some (rcSpecAction, f.index)
  | none =>
  let badStage (e : StageConfig × Nat) : Bool :=
    let s := e.1
    0xFFF < s.stage || 0x3FFF < s.appid || 3 < s.pair || 4095 < s.vlan || 7 < s.priority || s.channels == 0 || 16 < s.channels
    || !(match s.key with | some x => macHandle x h | none => false) || (b.outStages.take e.2).any (fun x => x.stage == s.stage)
  if 256 < b.outStages.length then some (rcSpecAction, 0xFFFFFFFF)
  else (b.outStages.zipIdx.find? badStage).map (fun e => (rcSpecAction, e.1.stage))

/-- Home blocks and run-time limits of an image (R277, R282). -/
def checkFabric (b : Image) : Option (Nat × Nat) :=
  match b.fns.find? (fun f => f.region < 2 || 7 < f.region || 3 < f.block || 4 < f.cls) with
  | some f => some (rcFabricParamRange, f.index)
  | none =>
    if b.fabric.limits.length ≠ 5 ∨ b.fabric.limits.zipIdx.any (fun e => !limitRange e.2 e.1)
      ∨ b.fabric.protectCells.any (fun e => 4 < e.2) ∨ b.fabric.clocks.any (fun e => e.2 < 400 || 2200 < e.2 || e.2 % 100 != 0)
    then some (rcFabricParamRange, 0xFFFFFFFF) else none

end Sys2Proof.Machine
end

