-- ==== Sys2Proof/Machine/Pair.lean ====
section
/-! DEFINITION. Pairing: heartbeats, roles, claims, stage status and the health report (R370 to R399). -/
namespace Sys2Proof.Machine

/-- The pair section in force; `none` on a SOLO module. -/
def pairOf (h : Hw) : Option PairSection := h.cfg.bloom.bind (fun b => b.pair)

/-- Own rank; 0 SOLO. -/
def rankOf (h : Hw) : Nat := (pairOf h).elim 0 (fun p => p.rank)

/-- A path, and its replacement. -/
def pathAt (p : Nat) (h : Hw) : HbPath := tget h.pair.paths p {}
def putPath (p : Nat) (x : HbPath) (h : Hw) : Hw := { h with pair := { h.pair with paths := tset h.pair.paths p x } }

/-- The module is SERVING or in TEST. -/
def serving (h : Hw) : Bool := h.mode == .serving || h.mode == .test

/-! ### Health (R387) -/

/-- Findings of the health report. -/
def findings (h : Hw) : Nat :=
  let l := h.pair.latched
  let anyQ := h.fault.fenced != [] || (List.range (blockCount h)).any (fun n => (blockAt n h).quarantined || (blockAt n h).badCells != [])
  let lost := (fnsOf h).any (fun f => f.cls ≤ 1 && h.fault.unplaced.contains f.slice)
  flag (bit l 0) 0 + flag (bit l 1) 1 + flag (bit l 2) 2 + flag h.keys.selftestFailed 3 + flag (3 ≤ timeClass h) 4
  + flag (h.fab.budget.level == 2) 5 + flag anyQ 6 + flag lost 7

/-- The verdict: UNFIT on finding 0 in region H, 3, 7, or time class 6 or 7; DEGRADED on any other finding. -/
def verdictOf (h : Hw) : Nat :=
  let f := findings h
  if bit h.pair.latched 8 ∨ bit f 3 ∨ bit f 7 ∨ 6 ≤ timeClass h then 2 else if f ≠ 0 then 1 else 0

/-! ### Records (R398) -/

/-- The payload of R398. -/
def pairPayload (old new cause flags other stage verdict finds : Nat) (h : Hw) : List Byte :=
  le 1 old ++ le 1 new ++ le 1 cause ++ le 1 flags ++ le 4 h.pair.claim ++ le 4 other ++ le 2 stage ++ le 1 verdict ++ le 1 finds ++ nowBytes h

/-- A record that carries the present role twice; `stage` is the stage whose status gave rise to it, 0xFFFF none. -/
def pairRecord (code cause flags other stage : Nat) (h : Hw) : Hw :=
  evr code 0x0F03 (pairPayload h.pair.role h.pair.role cause flags other stage 0 0 h) h

/-! ### Stages (R382, R386) -/

/-- Status of the Bloom's stages heard within 4 ms. -/
def reachable (h : Hw) : List StageStatus :=
  (h.pair.status.filter (fun e => (h.spec.stages.any (fun s => s.1 == e.1 && !s.2.dropped)) && h.time.mono - e.2.2 ≤ nsUnits 4000000)).map (fun e => e.2.1)

/-- A stage echoes the module's claim as accepted. -/
def echoes (h : Hw) (s : StageStatus) : Bool := s.accepted == h.pair.claim && s.moduleId == h.moduleId

/-- Highest EPOCH seen: own, and the partner's and the stages' ever heard (R380). -/
def highestEpoch (h : Hw) : Nat := max (h.pair.claim / 256) h.pair.epochSeen

/-! ### Heartbeats out (R372, R373, R377) -/

/-- The 32-byte health report of R387. -/
def healthReport (h : Hw) : List Byte :=
  let cells := ((List.range (blockCount h)).map (fun n => (cellsInService n h).length)).foldl (· + ·) 0
  let running := ((List.range (streamsOf h).length).filter (fun s => streamState (streamAt s h) == 1)).length
  let scrub := min 1000 ((h.time.mono - h.pair.scrubAt) * 1000 / (h.pair.scrubPeriod * secUnit))
  be 1 (verdictOf h) ++ be 1 (findings h) ++ be 2 cells ++ be 2 running ++ be 2 (reachable h).length ++ be 2 scrub ++ be 2 h.pair.scrubPasses
  ++ be 4 h.pair.corePassed ++ be 4 h.pair.coreFailed ++ be 4 h.keys.passed ++ be 4 (sat32 ((h.time.mono - h.pair.cycleAt) / secUnit))
  ++ be 1 (timeClass h) ++ be 1 h.fab.budget.level ++ zeros 2

/-- A clash is on: a clashing heartbeat within the last second (R374). -/
def clashing (h : Hw) : Bool := match h.pair.clashAt with | some t => h.time.mono < t + secUnit | none => false

/-- The claim the module shows: its own while it publishes, else the highest EPOCH it knows, with its rank (R373). -/
def ownClaim (h : Hw) : Nat := if publishes h then h.pair.claim else highestEpoch h * 256 + rankOf h

/-- The heartbeat payload of R373, in network byte order. -/
def heartbeatPayload (kind path due : Nat) (s : PairSection) (h : Hw) : List Byte :=
  let x := pathAt path h
  be 1 1 ++ be 1 kind ++ be 1 path ++ be 1 s.rank ++ be 2 h.moduleId ++ be 2 s.partner ++ be 4 (ownClaim h) ++ be 4 (stateWord h) ++ be 4 x.sent
  ++ be 4 (x.heardSeq.getD 0xFFFFFFFF) ++ be 8 (secOf due) ++ be 4 (fracOf due)
  ++ be 2 (flag (pathAt 0 h).live 0 + flag (pathAt 1 h).live 1 + flag h.pair.hold 2 + flag h.pair.mismatch 3 + flag (h.mode == .test) 4 + flag (clashing h) 5)
  ++ zeros 2 ++ s.fingerprint ++ healthReport h ++ zeros 8

/-- A heartbeat's frame: on the pairing link or on both ports of pair 4, each with a new stNum (R372). -/
def heartbeatGoose (path now seq : Nat) (s : PairSection) (payload : List Byte) : Goose :=
  let i := if path = 0 then s.link else s.station
  { block := .heartbeat path, ports := if path = 0 then [10] else [8, 9], priority := 7, mac := some i.mac, gocbRef := i.gocbRef, datSet := i.datSet, goId := i.goId
    timeAllowedMs := if path = 0 then 1 else 3, t := now, stNum := seq, payload := payload }

/-- Send one heartbeat frame, under the pair key. -/
def sendHeartbeat (kind path due : Nat) (h : Hw) : Hw :=
  match pairOf h with
  | none => h
  | some s =>
    let x := pathAt path h
    let h' := putPath path { x with sent := (x.sent + 1) % 2 ^ 32 } h
    sendGoose s.key (heartbeatGoose path h.time.now x.sent s (heartbeatPayload kind path due s h)) h'

/-- Period of a path's heartbeats. -/
def heartbeatPeriodNs (path : Nat) : Nat := if path = 0 then 250000 else 1000000

/-- Heartbeats go out in every state from IDLE to HALTED (R372). -/
def heartbeatStates (h : Hw) : Bool := 4 ≤ modeCode h.mode && modeCode h.mode ≤ 8

/-- HEARTBEAT_SEND's effect while the pairing engine runs: the heartbeat of the last due time passed. -/
def heartbeatSend (path : Nat) (h : Hw) : Hw :=
  let x := pathAt path h
  let n := h.time.now * 1000000000 / (heartbeatPeriodNs path * 2 ^ 64)
  if heartbeatStates h = false ∨ h.pair.stopped ∨ (pairOf h).isNone ∨ 1 < path ∨ n = x.nextDue then h
  else sendHeartbeat (if h.pair.relinquish then 2 else 1) path (nsUnits (n * heartbeatPeriodNs path)) (putPath path { x with nextDue := n } h)

/-! ### Roles (R378 to R384) -/

/-- Change the role, with CODE 0x0F10; `stage` as in `pairRecord`. -/
def setRole (new cause flags other stage : Nat) (h : Hw) : Hw :=
  let old := h.pair.role
  if old = new then h
  else
    let h := { h with pair := { h.pair with role := new, roleAt := h.time.mono, relinquish := if new = 2 then false else h.pair.relinquish } }
    evr 0x0F10 0x0F03 (pairPayload old new cause flags other stage 0 0 h) h

/-- Become STANDBY from a publishing role: the publisher stops at once, entries resolve as CANCELLED_ROLE, programs stop (R175, R320, R383). -/
def becomeStandby (cause other stage : Nat) (h : Hw) : Hw :=
  let h := stopPublisher (setRole 2 cause 0 other stage h)
  let h := (cancellable h).foldl (fun h e => resolveOther e.1 10 false h) h
  { h with pair := { h.pair with hooks := h.pair.hooks ++ [1], contestAt := none } }

/-- RELINQUISH at once on both paths, then STANDBY (R377). -/
def relinquish (cause : Nat) (h : Hw) : Hw :=
  if h.pair.role ≠ 1 ∧ h.pair.role ≠ 3 then h
  else
    let h := { h with pair := { h.pair with relinquish := true } }
    becomeStandby cause h.pair.partnerClaim 0xFFFF (sendHeartbeat 2 1 h.time.now (sendHeartbeat 2 0 h.time.now h))

/-- Enter CONTESTED with a new claim and send it to every stage; an UNFIT module never claims (R379 to R381). From STANDBY the
programs start: by a claim at the start (cause 2) as after power-up, by any other as after a switch-over (R333, log 116). -/
def contest (cause : Nat) (h : Hw) : Hw :=
  let epoch := highestEpoch h + 1
  if verdictOf h = 2 then h
  else if 0xFFFFFF < epoch then pairRecord 0x0F12 3 0 h.pair.partnerClaim 0xFFFF h
  else
    let fresh := h.pair.role = 2
    let h := if fresh then rebuildChannels h else h
    let h := { h with pair := { h.pair with
      claim := epoch * 256 + rankOf h, contests := inc32 h.pair.contests, contestAt := some h.time.mono
      hooks := if fresh then h.pair.hooks ++ [if cause = 2 then 3 else 2] else h.pair.hooks } }
    announceAll (setRole 3 cause 0 h.pair.partnerClaim 0xFFFF h)

/-- A claim trigger of R379: a STANDBY module in SERVING or TEST that is not UNFIT. -/
def claimOn (cause : Nat) (h : Hw) : Hw :=
  if h.pair.role = 2 ∧ serving h ∧ verdictOf h ≠ 2 ∧ (pairOf h).isSome then contest cause h else h

/-- Yield to a higher claim, that of a stage's status where one is named (R383, R384). -/
def yieldTo (other stage : Nat) (h : Hw) : Hw :=
  if h.pair.role ≠ 1 ∧ h.pair.role ≠ 3 then h
  else
    let contested := h.pair.role = 3
    let silent := !(pathAt 0 h).live && !(pathAt 1 h).live
    let h := becomeStandby 3 other stage h
    let h := { h with pair := { h.pair with
      yields := inc32 h.pair.yields, contestsLost := if contested then inc32 h.pair.contestsLost else h.pair.contestsLost
      hold := silent, notLiveSince := none } }
    if contested then pairRecord 0x0F12 2 0 other stage h else h

/-- Win the contest: ACTIVE (R382). -/
def winContest (silent : Bool) (stage : Nat) (h : Hw) : Hw :=
  let h := setRole 1 7 (flag silent 0) h.pair.partnerClaim stage h
  let h := { h with pair := { h.pair with contestAt := none } }
  pairRecord 0x0F12 1 (flag silent 0) h.pair.partnerClaim stage h

/-- CONTEST_TIMEOUT's effect: 2,000 µs after the first frame of the claim (R382). -/
def contestTimeout (h : Hw) : Hw :=
  match h.pair.contestAt with
  | some t =>
    if h.pair.role = 3 ∧ nsUnits 2000000 ≤ h.time.mono - t then
      winContest ((reachable h).isEmpty || (reachable h).any (fun s => !echoes h s)) 0xFFFF h
    else h
  | none => h

/-- STARTUP_CLAIM_TIMEOUT's effect: 3,250 µs in SERVING or TEST without a valid heartbeat since entry, and no yield hold (R379, R384). -/
def startupTimeout (h : Hw) : Hw :=
  match h.pair.entered with
  | some t => if h.pair.heardSince = false ∧ h.pair.hold = false ∧ nsUnits 3250000 ≤ h.time.mono - t then claimOn 2 h else h
  | none => h

/-- Silence limits of R375, ns. -/
def silenceNs (path : Nat) : Nat := if path = 0 then 1062500 else 3250000

/-- A path is silent while the other is not (R375). -/
def pathFault (path : Nat) (h : Hw) : Hw :=
  let x := pathAt path h
  pairRecord 0x0F11 path 0 h.pair.partnerClaim 0xFFFF (putPath path { x with faults := inc32 x.faults, faulted := true } h)

/-- PATH_SILENT's effect: a path fault, or the recognition of partner failure when both are silent (R375, R376, R379). -/
def pathSilent (path : Nat) (h : Hw) : Hw :=
  let x := pathAt path h
  if (pairOf h).isNone ∨ 1 < path ∨ x.silent ∨ h.time.mono - x.lastValid < nsUnits (silenceNs path) then h
  else
    let other := pathAt (1 - path) h
    let h := putPath path { x with live := false, silent := true } h
    if other.live then pathFault path h
    else if other.silent ∧ h.pair.partnerLost = false then
      let h := { h with pair := { h.pair with partnerLost := true } }
      if h.pair.role = 1 then contest 0 h else if h.pair.hold then h else claimOn 0 h
    else h

/-- A sequence is later than another, modulo 2^32. -/
def laterSeq (new old : Nat) : Bool := let d := (new + 2 ^ 32 - old % 2 ^ 32) % 2 ^ 32; d != 0 && d < 2 ^ 31

/-- R374's validity of a heartbeat. -/
def heartbeatValid (b : Heartbeat) (s : PairSection) (h : Hw) : Bool :=
  b.authentic && (match s.key with | some k => keyUsable k h | none => false) && b.version == 1 && b.moduleId == s.partner && b.partnerId == h.moduleId
  && b.path ≤ 1 && (match (pathAt b.path h).heardSeq with | some q => laterSeq b.sequence q | none => true)

/-- A clash of ranks: recorded at its first heartbeat and then at most once a second (R374). -/
def noteClash (b : Heartbeat) (h : Hw) : Hw :=
  if b.rank ≠ rankOf h then h
  else
    let fresh := !clashing h
    let due := fresh || (match h.pair.clashRecord with | some t => t + secUnit ≤ h.time.mono | none => true)
    let h := { h with pair := { h.pair with rankClashes := inc32 h.pair.rankClashes, clashAt := some h.time.mono, clashRecord := if due then some h.time.mono else h.pair.clashRecord } }
    if due then pairRecord 0x0F14 0 0 b.claim 0xFFFF h else h

/-- What a valid heartbeat tells of the partner, and the path live again (R374, R375, R384). -/
def hearPartner (b : Heartbeat) (s : PairSection) (h : Hw) : Hw :=
  let x := pathAt b.path h
  let gap := match x.heardSeq with | some q => (b.sequence + 2 ^ 32 - q - 1) % 2 ^ 32 | none => 0
  let role := b.stateWord / 16 % 16
  let h := putPath b.path { x with live := true, silent := false, faulted := false, lastValid := h.time.mono, heardSeq := some b.sequence, missed := sat32 (x.missed + gap) } h
  let h := { h with pair := { h.pair with
    partnerClaim := b.claim, partnerVerdict := b.verdict, partnerRole := role, partnerState := b.stateWord % 16
    partnerStandby := if b.path = 0 then (if role = 2 then h.pair.partnerStandby + 1 else 0) else h.pair.partnerStandby
    mismatch := b.fingerprint != s.fingerprint, epochSeen := max h.pair.epochSeen (b.claim / 256)
    hold := false, notLiveSince := none, partnerLost := false, heardSince := true } }
  let h := if x.faulted then pairRecord 0x0F11 b.path 2 b.claim 0xFFFF h else h
  let other := pathAt (1 - b.path) h
  if other.silent ∧ other.faulted = false then pathFault (1 - b.path) h else h

/-- HEARTBEAT_RX's effect (R374, R376, R379, R383). -/
def heartbeatRx (b : Heartbeat) (h : Hw) : Hw :=
  match pairOf h with
  | none => h
  | some s =>
    if heartbeatValid b s h = false then { h with pair := { h.pair with invalid := inc32 h.pair.invalid } }
    else
      let h := noteClash b (hearPartner b s h)
      let role := b.stateWord / 16 % 16
      let state := b.stateWord % 16
      if b.kind = 2 then claimOn 1 h
      else if (h.pair.role = 1 ∨ h.pair.role = 3) ∧ (role = 1 ∨ role = 3) ∧ h.pair.claim < b.claim then yieldTo b.claim 0xFFFF h
      else if (role = 2 ∨ (state ≠ 6 ∧ state ≠ 7)) ∧ (b.verdict = 2 ∨ (s.rank = 1 ∧ 8 ≤ h.pair.partnerStandby)) then claimOn (if b.verdict = 2 then 6 else 2) h
      else h

/-- What the module keeps of a stage's status: the frame, the highest EPOCH and cseq in it, and in STANDBY the stage's channel table
(R380, R381, R386, R389). -/
def keepStatus (s : StageStatus) (st : StageOut) (h : Hw) : Hw :=
  let h := putStage (if h.pair.role = 2 then statusChannels s.channels st else seeChannels s.channels st) h
  { h with pair := { h.pair with
    status := tset h.pair.status s.stage (s, h.time.mono), epochSeen := max h.pair.epochSeen (max (s.accepted / 256) (s.rejected / 256)) } }

/-- STAGE_STATUS_RX's effect: kept, and it may force a yield, resolve a contest or bear on the hold (R382 to R386). -/
def stageStatusRx (s : StageStatus) (h : Hw) : Hw :=
  match tfind h.spec.stages s.stage with
  | none => h
  | some st =>
    if s.authentic = false ∨ stageKeyUsable st h = false ∨ s.mac ≠ st.cfg.statusMac ∨ s.gocbRef ≠ st.cfg.statusRef ∨ s.goId ≠ st.cfg.statusGoId then h
    else
      let rejects := (s.rejected != 0 && s.rejected == h.pair.claim) || (h.pair.role == 0 && h.pair.claim < s.accepted)
      let h := keepStatus s st h
      let h := { h with pair := { h.pair with rejections := if rejects then inc32 h.pair.rejections else h.pair.rejections } }
      let r := reachable h
      let dead := r != [] && r.all (fun x => !bit x.flags 1)
      let h := { h with pair := { h.pair with notLiveSince := if dead then some (h.pair.notLiveSince.getD h.time.mono) else none } }
      if (h.pair.role = 1 ∨ h.pair.role = 3) ∧ (h.pair.claim < s.accepted ∨ (s.accepted = h.pair.claim ∧ s.moduleId ≠ h.moduleId)) then yieldTo s.accepted s.stage h
      else if h.pair.role = 3 ∧ r != [] ∧ r.all (echoes h) then winContest false s.stage h
      else h

/-- YIELD_HOLD_CLEAR's effect: 4 ms with every reachable stage's claim not live; R379 applies again (R384). -/
def yieldHoldClear (h : Hw) : Hw :=
  match h.pair.notLiveSince with
  | some t =>
    if h.pair.hold ∧ nsUnits 4000000 ≤ h.time.mono - t ∧ reachable h ≠ [] ∧ (reachable h).all (fun x => !bit x.flags 1) then
      let h := { h with pair := { h.pair with hold := false, notLiveSince := none } }
      if (pathAt 0 h).live ∨ (pathAt 1 h).live then h else claimOn 0 h
    else h
  | none => h

/-- The verdict is taken anew: CODE 0x0F13 on a change, and RELINQUISH when it becomes UNFIT beside a HEALTHY partner (R377, R390). -/
def evalHealth (h : Hw) : Hw :=
  let v := verdictOf h
  let f := findings h
  let old := h.pair.verdict
  let h := { h with pair := { h.pair with verdict := v, findings := f } }
  if v = old then h
  else
    let h := evr 0x0F13 0x0F03 (pairPayload h.pair.role h.pair.role v 0 h.pair.partnerClaim 0xFFFF old f h) h
    if v = 2 ∧ h.pair.partnerVerdict = 0 ∧ ((pathAt 0 h).live ∨ (pathAt 1 h).live) then relinquish 6 h else h

/-- Entry to SERVING or TEST: the wait of R379 begins; a role that publishes rebuilds its table and sends first frames (R175). -/
def pairEnter (h : Hw) : Hw :=
  let h := { h with pair := { h.pair with entered := some h.time.mono, heardSince := false } }
  if h.pair.role = 2 then h else announceAll (rebuildChannels h)

/-- Exit from SERVING or TEST: final frames, RELINQUISH, STANDBY (R175, R377). -/
def pairExit (h : Hw) : Hw :=
  let h := if publishes h then finalFrames h else h
  let h := relinquish 5 h
  { h with pair := { h.pair with entered := none } }

/-- The role at a swap: SOLO without a pair section, where a STANDBY begins to publish (R175, log 93), STANDBY when one is added (R378); in service
the wait of R379 for a first heartbeat begins with the swap (the model's reading, log 118). -/
def pairSwap (h : Hw) : Hw :=
  match pairOf h with
  | none =>
    if h.pair.role = 0 then h
    else
      let standby := h.pair.role = 2
      let h := setRole 0 8 0 h.pair.partnerClaim 0xFFFF { h with pair := { h.pair with contestAt := none, hold := false } }
      if standby ∧ serving h then announceAll (rebuildChannels h) else h
  | some _ =>
    if h.pair.role = 0 then
      becomeStandby 8 h.pair.partnerClaim 0xFFFF
        { h with pair := { h.pair with entered := if serving h then some h.time.mono else none, heardSince := false } }
    else h

/-! ### Retain images from the partner (R391) -/

/-- A fragment is the partner's, for this module, and well formed (R373, R391). -/
def fragmentValid (f : RetainFragment) (s : PairSection) (h : Hw) : Bool :=
  f.authentic && s.key.elim false (fun k => keyUsable k h) && f.version == 1 && f.moduleId == s.partner && f.partnerId == h.moduleId
  && f.core ≤ 3 && f.fragments != 0 && f.fragments ≤ 64 && f.fragment < f.fragments && f.data.length ≤ 1024

/-- RETAIN_FRAME_RX's effect: the fragment is stored; the newest complete image whose CRC verifies is kept. -/
def retainFrameRx (f : RetainFragment) (h : Hw) : Hw :=
  match pairOf h with
  | none => h
  | some s =>
    if fragmentValid f s h = false then h
    else
      let p : RetainPartial := tget h.pair.partials f.core {}
      let p : RetainPartial := if p.image = f.image ∧ p.parts ≠ [] then p
        else if p.parts ≠ [] ∧ laterSeq f.image p.image = false then p
        else { image := f.image, fragments := f.fragments, crc := f.crc, identity := f.identity }
      if p.image ≠ f.image then h
      else
        let p : RetainPartial := { p with parts := tset p.parts f.fragment f.data }
        let data : List Byte := (p.parts.map (fun e => e.2)).flatten
        if p.parts.length = p.fragments ∧ crc32c data = p.crc then
          let newest : Bool := match tfind h.pair.partnerRetain f.core with | some (r, _) => laterSeq p.image r.sequence | none => true
          { h with pair := { h.pair with
              partials := tdel h.pair.partials f.core
              partnerRetain := if newest = false then h.pair.partnerRetain else tset h.pair.partnerRetain f.core ({ sequence := p.image, identity := p.identity, data := data }, h.time.mono) } }
        else { h with pair := { h.pair with partials := tset h.pair.partials f.core p } }

/-- RETAIN_FRAME_RX. -/
def execRetainFrameRx (f : RetainFragment) : State → Host.Outcome State Fault Refusal := lift (retainFrameRx f)

/-! ### Commands (R393 to R397) -/

/-- The PAIR.STATUS payload of R395. -/
def pairStatusBytes (h : Hw) : List Byte :=
  let p := h.pair
  let a := pathAt 0 h
  let b := pathAt 1 h
  let current := p.partnerRetain != [] && p.partnerRetain.all (fun e => h.time.mono - e.2.2 ≤ nsUnits 300000000)
  le 1 p.role ++ le 1 (rankOf h) ++ le 2 ((pairOf h).elim 0xFFFF (fun s => s.partner)) ++ le 4 (ownClaim h) ++ le 4 p.partnerClaim
  ++ le 1 (verdictOf h) ++ le 1 p.partnerVerdict
  ++ le 1 (flag a.live 0 + flag b.live 1 + flag p.hold 2 + flag p.mismatch 3 + flag current 4 + flag (clashing h) 5) ++ le 1 p.partnerRole
  ++ le 4 p.contests ++ le 4 p.contestsLost ++ le 4 a.faults ++ le 4 b.faults ++ le 4 a.missed ++ le 4 b.missed ++ le 4 p.invalid
  ++ le 2 (reachable h).length ++ le 2 ((reachable h).filter (echoes h)).length ++ le 4 p.rejections ++ le 4 p.yields
  ++ le 4 (sat32 (msOf (h.time.mono - p.roleAt))) ++ zeros 4

/-- PAIR.STATUS. -/
def pairStatus (p : List Byte) (h : Hw) : CmdResult :=
  let clr (h : Hw) : Hw := { h with pair := { h.pair with
    contests := 0, contestsLost := 0, rankClashes := 0, invalid := 0, rejections := 0, yields := 0
    paths := tmap h.pair.paths (fun _ x => { x with missed := 0, faults := 0 }) } }
  .ok (if bit (u8 p 0) 0 then clr h else h) (pairStatusBytes h)

def cmdPairStatus : Cmd := { row := rowPairStatus, reserved := [(1, 3)], reservedBits := [(0, 1, 0xFE)], body := fun _ p h => pairStatus p h }

/-- On a SOLO module every other command of the group is refused (R393). -/
def paired (f : Hw → CmdResult) (h : Hw) : CmdResult := if (pairOf h).isNone then no stStateRefused rcPairNotPaired else f h

/-- PAIR.SWITCH (R394). -/
def pairSwitch (h : Hw) : CmdResult :=
  if h.pair.role ≠ 1 then no stStateRefused rcPairNotActive
  else if (pathAt 0 h).live ∧ (pathAt 1 h).live ∧ h.pair.partnerRole = 2 ∧ (h.pair.partnerState = 6 ∨ h.pair.partnerState = 7)
      ∧ h.pair.partnerVerdict = 0 ∧ h.pair.mismatch = false then done (relinquish 4 h)
  else no stDenied rcPairPartnerUnfit

def cmdPairSwitch : Cmd := { row := rowPairSwitch, body := fun _ _ h => paired pairSwitch h }

/-- The status payload of R386 as kept: network byte order. -/
def stageStatusBytes (s : StageStatus) : List Byte :=
  be 1 1 ++ be 1 s.flags ++ be 2 s.stage ++ be 4 s.accepted ++ be 4 s.rejected ++ be 2 s.moduleId ++ be 1 s.channels.length ++ zeros 1
  ++ (s.channels.zipIdx.map (fun e => be 1 e.2 ++ be 1 e.1.1 ++ be 1 e.1.2.1 ++ zeros 1 ++ be 4 e.1.2.2)).flatten

/-- PAIR.STAGE_READ (R396). -/
def pairStageRead (p : List Byte) (h : Hw) : CmdResult :=
  match tfind h.spec.stages (u16 p 0), tfind h.pair.status (u16 p 0) with
  | some st, some (s, t) =>
    if st.dropped then no stBadParam rcPairNoStage
    else .ok h (le 4 (sat32 ((h.time.mono - t) * 1000000 / 2 ^ 64)) ++ zeros 4 ++ stageStatusBytes s)
  | _, _ => no stBadParam rcPairNoStage

def cmdPairStageRead : Cmd := { row := rowPairStageRead, reserved := [(2, 2)], body := fun _ p h => paired (pairStageRead p) h }

/-- PAIR.TUNE (R397). -/
def pairTune (p : List Byte) (h : Hw) : CmdResult :=
  let bad (v lo hi : Nat) : Bool := v != 0 && (v < lo || hi < v)
  let keep (v old : Nat) : Nat := if v = 0 then old else v
  if bad (u32 p 0) 3600 604800 || bad (u32 p 4) 100 60000 || bad (u32 p 8) 1 3600 then no stBadParam rcPairParamRange
  else done { h with pair := { h.pair with
    scrubPeriod := keep (u32 p 0) h.pair.scrubPeriod, coreInterval := keep (u32 p 4) h.pair.coreInterval, katInterval := keep (u32 p 8) h.pair.katInterval } }

def cmdPairTune : Cmd := { row := rowPairTune, reserved := [(12, 4)], body := fun _ p h => paired (pairTune p) h }

/-- PAIR.STATUS. -/
def execPairStatus (c : Call) (p : List Byte) : State → Host.Outcome State Fault Refusal := lift (runCmd cmdPairStatus c p)
/-- PAIR.STAGE_READ. -/
def execPairStageRead (c : Call) (p : List Byte) : State → Host.Outcome State Fault Refusal := lift (runCmd cmdPairStageRead c p)
/-- PAIR.TUNE. -/
def execPairTune (c : Call) (p : List Byte) : State → Host.Outcome State Fault Refusal := lift (runCmd cmdPairTune c p)
/-- The refusals of R370: the pair section. -/
def checkPair (b : Image) (h : Hw) : Option (Nat × Nat) :=
  match b.pair with
  | none => none
  | some s =>
    if (s.rank ≠ 1 ∧ s.rank ≠ 2) ∨ s.fingerprint.length ≠ 16 ∨ 4095 < s.partner ∨ s.partner = (b.constellation.map (fun c => c.moduleId)).getD 0xFFFF ∨ s.key.elim true (fun x => !macHandle x h)
    then some (rcPairConfig, 0xFFFFFFFF) else none

end Sys2Proof.Machine
end

