-- ==== Sys2Proof/Machine/Cycle.lean ====
section
/-! DEFINITION. Cyclic control programs and remote stations (R318 to R340), and the RETAIN frames to the partner (R333, R391). -/
namespace Sys2Proof.Machine

/-- A control core's program. -/
def progAt (c : Nat) (h : Hw) : Program := tget h.cycle.programs c {}
def putProg (c : Nat) (x : Program) (h : Hw) : Hw := { h with cycle := { h.cycle with programs := tset h.cycle.programs c x } }

/-- A station of a program. -/
def stationState (n : Nat) (p : Program) : StationState := tget p.stations n {}

/-- Programs run: SERVING or TEST, and a role that publishes (R320). -/
def programsRun (h : Hw) : Bool := serving h && h.pair.role != 2

/-- The payload of R339. -/
def cyclePayload (core station old new cause cycle key : Nat) (h : Hw) : List Byte :=
  le 1 core ++ le 1 station ++ le 1 old ++ le 1 new ++ le 1 cause ++ zeros 3 ++ le 4 cycle ++ zeros 4 ++ le 8 key ++ nowBytes h

/-- Change a program's state, with CODE 0x0D10 (R320). -/
def setProg (c new : Nat) (h : Hw) : Hw :=
  let p := progAt c h
  if p.state = new then h
  else evr 0x0D10 (0x0100 + c) (cyclePayload c 0xFF p.state new p.fault p.cycle 0 h) (putProg c { p with state := new } h)

/-- CODE 0x0D12 for a force: 0 set, 1 released, 2 dropped. -/
def forceRecord (c cause key : Nat) (h : Hw) : Hw := evr 0x0D12 (0x0100 + c) (cyclePayload c 0xFF 0 0 cause (progAt c h).cycle key h) h

/-! ### Retain images (R333, R334, R391) -/

/-- Bytes of a symbol's value. -/
def symbolBytes (s : Symbol) : Nat := (s.width + 7) / 8

/-- Place bytes in a string at an offset. -/
def overlay (l : List Byte) (o : Nat) (b : List Byte) : List Byte := l.take o ++ b ++ l.drop (o + b.length)

/-- The program identity: the first 16 bytes of the SHA-512 of the retain symbol table (R333). Each entry is the key, the type code
and the offset, least significant byte first, in the image's order (the model's choice, log 113). -/
def identityOf (i : CycleImage) : List Byte :=
  slice (Config.sha512 (i.symbols.flatMap (fun s => match s.retain with | some o => le 8 s.key ++ le 1 s.typ ++ le 4 o | none => []))) 0 16

/-- The retain image of the present values. -/
def retainOf (i : CycleImage) (vars : Tbl Nat) (seq : Nat) : RetainImage :=
  { sequence := seq, identity := identityOf i
    data := i.symbols.foldl (fun l s => match s.retain with | some o => overlay l o (le (symbolBytes s) (tget vars s.key 0)) | none => l) (zeros i.retainSize) }

/-- A retain variable's value in an image. -/
def retainedValue (r : RetainImage) (s : Symbol) : Nat := match s.retain with | some o => fld r.data o (symbolBytes s) | none => s.initial

/-- Retain transfer is on and its frames can be authenticated (R391). -/
def retainOn (h : Hw) : Bool :=
  match pairOf h with
  | some s => s.retain && (match s.key with | some k => keyUsable k h | none => false)
  | none => false

/-- Send a program's committed image in RETAIN frames of at most 1,024 bytes, on the pairing link or, while its path is
faulted, on the station bus. -/
def sendRetain (c : Nat) (h : Hw) : Hw :=
  match pairOf h, (progAt c h).retained with
  | some s, some r =>
    let path := if (pathAt 0 h).live then 0 else 1
    let n := max 1 ((r.data.length + 1023) / 1024)
    let head := be 1 1 ++ be 1 3 ++ be 1 path ++ be 1 s.rank ++ be 2 h.moduleId ++ be 2 s.partner ++ be 4 h.pair.claim ++ be 4 (stateWord h)
    let seq := (progAt c h).sequence
    let h := putProg c { progAt c h with sequence := (seq + 1) % 2 ^ 32 } h
    (List.range n).foldl (fun h i =>
      let part := (r.data.drop (1024 * i)).take 1024
      emit (.retain path (head ++ be 1 c ++ zeros 1 ++ be 2 i ++ be 2 n ++ be 2 part.length ++ be 4 seq ++ be 4 (crc32c r.data) ++ r.identity ++ part)) h) h
  | _, _ => h

/-- RETAIN_SEND's effect: every 100 ms while ACTIVE or CONTESTED. -/
def retainSend (h : Hw) : Hw :=
  if retainOn h = false ∨ (h.pair.role ≠ 1 ∧ h.pair.role ≠ 3) ∨ h.time.mono < h.pair.retainAt then h
  else [0, 1, 2, 3].foldl (fun h c => sendRetain c h) { h with pair := { h.pair with retainAt := h.time.mono + nsUnits 100000000 } }

/-- RETAIN_SEND. -/
def execRetainSend : State → Host.Outcome State Fault Refusal := lift retainSend

/-! ### Stops (R320, R333) -/

/-- A program stops; its cycle in progress is abandoned and its image goes to the partner. -/
def stopProgram (c : Nat) (h : Hw) : Hw :=
  let p := progAt c h
  if p.state ≠ 2 ∧ p.state ≠ 3 then h
  else
    let h := putProg c { p with phase := 0, edge := false, stopDue := false } h
    let h := setProg c 1 h
    if retainOn h then sendRetain c h else h

/-- Every program stops (R320). -/
def stopPrograms (h : Hw) : Hw := [0, 1, 2, 3].foldl (fun h c => stopProgram c h) h

/-- POWER_FAIL_N falls: committed images are written to the older flash areas (R334). Whether an area will verify is open (log 114). -/
def saveRetain (h : Hw) : Hw :=
  [0, 1, 2, 3].foldl (fun h c => match (progAt c h).retained with
    | some r => drawn { h with cycle := { h.cycle with flash := tset h.cycle.flash c (((r, Config.freeBit h.free) :: tget h.cycle.flash c []).take 2) } }
    | none => h) h

/-- At the next boot hub SRAM holds the newest valid image of flash, else the newest, which fails its check; the area that was
not the last written is erased (R333, R334). -/
def bootRetain (h : Hw) : Hw :=
  let areas (c : Nat) : List (RetainImage × Bool) := tget h.cycle.flash c []
  let load (c : Nat) : Program := match (areas c).find? (fun e => e.2) with
    | some e => { retained := some e.1 }
    | none => { retained := (areas c).head?.map (fun e => e.1), retainOk := (areas c).isEmpty }
  { h with cycle := { programs := ([0, 1, 2, 3] : List Nat).map (fun c => (c, load c)), flash := tmap h.cycle.flash (fun _ l => l.take 1) } }

/-- After a switch-over to ACTIVE, the image last received from the partner is the one to start from; without one, none is (R333). -/
def takePartnerRetain (h : Hw) : Hw :=
  [0, 1, 2, 3].foldl (fun h c =>
    putProg c { progAt c h with retained := (tfind h.pair.partnerRetain c).map (fun e => e.1), retainOk := true } h) h

/-- Adopt a new image: common retain variables keep their values, the others are initial; forces of removed symbols drop (R330, R332). -/
def adoptImage (c : Nat) (i : CycleImage) (h : Hw) : Hw :=
  let p := progAt c h
  let old := (p.image.map (fun x => x.symbols)).getD []
  let kept (s : Symbol) : Bool := s.retain.isSome && old.any (fun o => o.key == s.key && o.typ == s.typ && o.width == s.width && o.retain.isSome)
  let vars := i.symbols.foldl (fun t s => tset t s.key (if kept s then tget p.vars s.key s.initial else s.initial)) []
  let gone := p.forces.filter (fun f => !(i.symbols.any (fun s => s.key == f.1)))
  let stations := i.stations.foldl (fun t s => tset t s.station (tget p.stations s.station { seen := s.substitute })) []
  let h := putProg c { p with
    image := some i, next := none, vars := vars, blocks := [], read := vars, stations := stations
    forces := p.forces.filter (fun f => i.symbols.any (fun s => s.key == f.1)) } h
  gone.foldl (fun h f => forceRecord c 2 f.1 h) h

/-- The parameters that say when the next cycle starts: those in force, but after a swap, until the program adopts its new image,
the ones that wait (the model's choice, log 106). -/
def startParams (p : Program) : CycleParams := if p.next.isSome then p.paramsNext.getD p.params else p.params

/-- Change a station's state, with CODE 0x0D11 (R327). -/
def setStation (c n new : Nat) (f : StationState → StationState) (h : Hw) : Hw :=
  let p := progAt c h
  let s := stationState n p
  let h := putProg c { p with stations := tset p.stations n { f s with state := new } } h
  if s.state = new then h else evr 0x0D11 (0x0100 + c) (cyclePayload c n s.state new 0 p.cycle 0 h) h

/-! ### Restarts (R327, R333) -/

/-- The cause of CODE 0x0D13 for a restart: 0 warm, 1 cold as requested, 2 check failed, 3 identity, 4 no image. -/
def restartCause (cold : Bool) (i : CycleImage) (p : Program) : Nat :=
  if cold then 1 else match p.retained with
    | none => 4
    | some r => if p.retainOk = false then 2 else if r.identity ≠ identityOf i then 3 else 0

/-- Start a program: warm where its image allows, else cold, with CODE 0x0D13; its stations wait for their first answer. -/
def startProgram (c : Nat) (cold : Bool) (h : Hw) : Hw :=
  let p := progAt c h
  match p.image with
  | none => h
  | some i =>
    let cause := restartCause cold i p
    let vars := i.symbols.foldl (fun t s => tset t s.key (match p.retained with | some r => if cause = 0 then retainedValue r s else s.initial | none => s.initial)) []
    let h := putProg c { p with
      fault := 0, phase := 0, begun := false, cycle := 0, edge := false, stopDue := false, vars := vars, blocks := [], read := vars, ended := 0
      lastCold := decide (cause ≠ 0), becameCold := if cold then p.becameCold else decide (2 ≤ cause), startedAt := 0 } h
    let h := evr 0x0D13 (0x0100 + c) (cyclePayload c 0xFF 0 0 cause 0 0 h) h
    let h := i.stations.foldl (fun h s => setStation c s.station 3 (fun x => { x with
      missing := 0, lastInput := none, answered := false, present := false, absent := false, image := [], seen := s.substitute }) h) h
    setProg c 2 h

/-- Autostart on entry to SERVING or TEST, and on a role that publishes (R319, R381). -/
def autostart (h : Hw) : Hw :=
  if programsRun h = false then h
  else [0, 1, 2, 3].foldl (fun h c => let p := progAt c h; if p.state = 1 ∧ (startParams p).autostart then startProgram c false h else h) h

/-! ### The cycle (R321 to R323) -/

/-- The newest settled row: the latest instant of the newest grid that has one (R322). -/
def newestSettled (h : Hw) : Option Row :=
  match newestOf (fun r => r.f == fGrid h) h.ing.ring with
  | some r => some r
  | none => newestOf (fun _ => true) h.ing.ring

/-- The snapshot of R322. -/
def takeSnapshot (h : Hw) : Snapshot :=
  let row := newestSettled h
  { row := row, phasors := row.bind (fun r => h.phasor.ring.find? (fun x => x.k == r.k)), word := stateWord h, time := h.time.now
    channels := h.spec.stages.map (fun s => (s.1, s.2.chans.map (fun e => (e.1, if e.2.state = 2 then 2 else 0)))) }

/-- The payload of a station I/O frame (R325), in network byte order. -/
def stationPayload (kind flags c station cycle : Nat) (data : List Byte) (h : Hw) : List Byte :=
  be 1 1 ++ be 1 kind ++ be 1 (flags + flag (h.mode == .test) 0) ++ be 1 c ++ be 4 h.pair.claim ++ be 2 h.moduleId ++ be 2 station ++ be 4 cycle
  ++ be 2 data.length ++ zeros 2 ++ data

/-- The stNum of a control block's next station I/O frame (R325). -/
def nextStNum (ref : List Byte) (h : Hw) : Nat :=
  match h.cycle.stNums.find? (fun e => e.1 == ref) with | some e => (e.2 + 1) % 2 ^ 32 | none => 1

/-- Note the stNum of a control block's last frame. -/
def noteStNum (ref : List Byte) (n : Nat) (h : Hw) : Hw :=
  { h with cycle := { h.cycle with stNums := (ref, n) :: h.cycle.stNums.filter (fun e => e.1 != ref) } }

/-- A station I/O frame, under the station's key: on both ports of its path, each with a new stNum of its control block (R325). -/
def stationFrame (kind flags c station cycle : Nat) (data : List Byte) (s : StationIo) (h : Hw) : Hw :=
  let stNum := nextStNum s.gocbRef h
  let h := noteStNum s.gocbRef stNum h
  sendGoose s.key {
    block := .station c station, ports := [2 * s.pair, 2 * s.pair + 1], mac := if station = 0xFFFF then none else some s.mac, gocbRef := s.gocbRef, datSet := s.datSet, goId := s.goId
    timeAllowedMs := (2 * (progAt c h).params.watchdogUs + 999) / 1000, t := h.time.now, stNum := stNum
    payload := stationPayload kind flags c station cycle data h } h

/-- A cycle may start now (R319, R321). -/
def cycleDue (p : Program) (h : Hw) : Bool :=
  p.state == 2 && p.phase == 0 && (match (startParams p).teu with
    | some _ => p.edge
    | none => !p.begun || decide (nsUnits (1000 * (startParams p).minUs) ≤ h.time.mono - p.startedAt))

/-- CYCLE_START_EVENT's effect: the new image, parameters, writes and forces, then the snapshot and the REQUEST (R321, R329 to R331, R337). -/
def cycleStart (c : Nat) (h : Hw) : Hw :=
  if cycleDue (progAt c h) h = false then h
  else
    let h := match (progAt c h).next with | some i => adoptImage c i h | none => h
    let p := progAt c h
    let vars := p.waiting.foldl (fun t w => w.foldl (fun t e => tset t e.1 e.2) t) p.vars
    let vars := p.forces.foldl (fun t f => tset t f.1 f.2) vars
    let p := { p with
      params := p.paramsNext.getD p.params, paramsNext := none, vars := vars, forcing := p.forces, writes := sat32 (p.writes + p.waiting.length), waiting := []
      cycle := if p.begun then (p.cycle + 1) % 2 ^ 32 else 0, begun := true, phase := 1, startedAt := h.time.mono, edge := false, snapshot := takeSnapshot h
      stations := tmap p.stations (fun _ s => { s with answered := false }) }
    let h := putProg c p h
    match (p.image.map (fun i => i.stations)).getD [] with
    | [] => h
    | s :: rest => ((s :: rest).map (fun x => x.pair)).eraseDups.foldl (fun h pair => stationFrame 1 0 c 0xFFFF p.cycle [] { s with pair := pair } h) h

/-- CYCLE_START_EVENT. -/
def execCycleStartEvent (c : Nat) : State → Host.Outcome State Fault Refusal := lift (onlyIf (decide (c ≤ 3)) (cycleStart c))

/-- An edge of a unit with target 3: it starts the waiting program, or counts as OVERLAP (R321). -/
def coreEdge (unit c : Nat) (h : Hw) : Hw :=
  let p := progAt c h
  if p.state ≠ 2 ∨ (startParams p).teu ≠ some unit then h
  else if p.phase = 0 then putProg c { p with edge := true } h
  else putProg c { p with overlap := inc32 p.overlap } h

/-- The path's ports have link and, on a PRP or HSR pair, supervision reports the node (R326). -/
def stationPath (s : StationIo) (h : Hw) : Bool :=
  (portUp (2 * s.pair) h || portUp (2 * s.pair + 1) h) && ((netPair s.pair h).mode == 2 || !nodeDown s.pair s.mac h)

/-- STATION_INPUT_RX's effect (R325, R327). -/
def stationInput (b : StationInput) (h : Hw) : Hw :=
  let p := progAt b.core h
  match ((p.image.map (fun i => i.stations)).getD []).find? (fun s => s.station == b.station) with
  | none => h
  | some s =>
    let x := stationState b.station p
    if b.authentic = false ∨ s.key.elim true (fun k => !keyUsable k h) then
      putProg b.core { p with stations := tset p.stations b.station { x with authFailures := inc32 x.authFailures } } h
    else if b.version ≠ 1 ∨ b.kind ≠ 2 ∨ b.data.length ≠ s.inLen then h
    else if p.phase = 0 ∨ p.state ≠ 2 ∨ b.cycle ≠ p.cycle then putProg b.core { p with inputLate := inc32 p.inputLate } h
    else setStation b.core b.station 0 (fun x => { x with
      answered := true, missing := 0, lastInput := some p.cycle, image := b.data, seen := if p.phase = 1 then b.data else x.seen, present := x.present || stationPath s h
      returns := if x.state = 1 ∨ x.state = 2 then inc32 x.returns else x.returns }) h

/-- STATION_INPUT_RX. -/
def execStationInputRx (b : StationInput) : State → Host.Outcome State Fault Refusal := lift (stationInput b)

/-- A station that did not answer by the end of the input phase (R327). -/
def missStation (c : Nat) (s : StationIo) (h : Hw) : Hw :=
  let p := progAt c h
  let x := stationState s.station p
  if x.answered then h
  else
    let run := inc32 x.missing
    let new := match x.state with | 0 => 1 | 1 => if p.params.stale < run then 2 else 1 | n => n
    setStation c s.station new (fun x => { x with missing := run, missed := inc32 x.missed, seen := if new = 1 then x.image else s.substitute }) h

/-- Values of the input symbols, from the images the program sees; a forced one keeps its force (R331). -/
def inputValues (p : Program) (vars : Tbl Nat) : Tbl Nat :=
  ((p.image.map (fun i => i.symbols)).getD []).foldl (fun t s => match s.place with
    | some (false, n, o) => if (tfind p.forcing s.key).isSome then t else tset t s.key (ofBe (((stationState n p).seen.drop o).take (symbolBytes s)) % 2 ^ s.width)
    | _ => t) vars

/-- INPUT_WINDOW_END's effect: every ONLINE station has answered or the window is over; missing stations are substituted (R321, R327). -/
def inputEnd (c : Nat) (h : Hw) : Hw :=
  let p := progAt c h
  let all := p.stations.all (fun e => e.2.state != 0 || e.2.answered)
  if p.phase ≠ 1 ∨ (all = false ∧ h.time.mono - p.startedAt < nsUnits (1000 * p.params.windowUs)) then h
  else
    let h := ((p.image.map (fun i => i.stations)).getD []).foldl (fun h s => missStation c s h) h
    let p := progAt c h
    putProg c { p with phase := 2, vars := inputValues p p.vars } h

/-- INPUT_WINDOW_END. -/
def execInputWindowEnd (c : Nat) : State → Host.Outcome State Fault Refusal := lift (inputEnd c)

/-- A station's output image from the variables; the forces in force override them (R331). -/
def outputImage (p : Program) (s : StationIo) : List Byte :=
  ((p.image.map (fun i => i.symbols)).getD []).foldl (fun l y => match y.place with
    | some (true, n, o) => if n = s.station then overlay l o (be (symbolBytes y) (tget p.vars y.key 0)) else l
    | _ => l) (zeros s.outLen)

/-- The output phase for one station (R326, R328): one that was absent is sent again in the cycle in which it first answers again
(the model's reading, log 115). -/
def outputTo (c : Nat) (s : StationIo) (h : Hw) : Hw :=
  let p := progAt c h
  let x := stationState s.station p
  let recent := match x.lastInput with | some n => (p.cycle + 2 ^ 32 - n) % 2 ^ 32 ≤ p.params.stale | none => false
  let put (x : StationState) (p : Program) : Hw := putProg c { p with stations := tset p.stations s.station x } h
  if stationPath s h && recent && (!x.absent || x.answered) then
    stationFrame 3 (flag x.absent 1) c s.station p.cycle (outputImage p s) s (put { x with present := true, absent := false } p)
  else
    put { x with present := false, absent := x.lastInput.isSome, notQueued := inc32 x.notQueued, dropouts := if x.present then inc32 x.dropouts else x.dropouts }
      { p with notQueued := inc32 p.notQueued }

/-- Elapsed time at the start of the present cycle, ns of the 2 ns cycle counter (R324). -/
def scanTime (p : Program) : Nat := p.startedAt * 500000000 / 2 ^ 64 * 2

/-- One scan of a timer or counter at an elapsed time, as IEC 61131-3 defines the block (R324, log 112). -/
def scanBlock (now : Nat) (f : BlockScan) (b : BlockInst) : BlockInst :=
  let rise := f.in1 && !b.in1
  let rise2 := f.in2 && !b.in2
  let x := { b with in1 := f.in1, in2 := f.in2 }
  match f.kind with
  | .ton =>
    let start := if rise then now else b.start
    { x with start := start, q := f.in1 && decide (f.preset ≤ now - start), value := if f.in1 then min f.preset (now - start) else 0 }
  | .tof =>
    let start := if b.in1 && !f.in1 then now else b.start
    let runs := b.q && decide (now - start < f.preset)
    { x with start := start, q := f.in1 || runs, value := if f.in1 then 0 else if b.q then min f.preset (now - start) else b.value }
  | .tp =>
    let begins := rise && !b.q
    let start := if begins then now else b.start
    let runs := (begins || b.q) && decide (now - start < f.preset)
    { x with start := start, q := runs, value := if runs then (now - start : Nat) else if f.in1 then f.preset else 0 }
  | .ctu =>
    let n := if f.reset then 0 else if rise ∧ b.value < 32767 then b.value + 1 else b.value
    { x with value := n, q := decide ((f.preset : Int) ≤ n) }
  | .ctd =>
    let n : Int := if f.load then f.preset else if rise ∧ -32768 < b.value then b.value - 1 else b.value
    { x with value := n, q := decide (n ≤ 0) }
  | .ctud =>
    let n : Int := if f.reset then 0 else if f.load then f.preset else if rise && rise2 then b.value
      else if rise ∧ b.value < 32767 then b.value + 1 else if rise2 ∧ -32768 < b.value then b.value - 1 else b.value
    { x with value := n, q := decide ((f.preset : Int) ≤ n), q2 := decide (n ≤ 0) }

/-- A program writes a variable: not a forced one, and in the symbol's width (R331). -/
def writeVar (i : CycleImage) (p : Program) (key value : Nat) : Program :=
  match i.symbols.find? (fun s => s.key == key) with
  | some s => if (tfind p.forcing key).isSome then p else { p with vars := tset p.vars key (value % 2 ^ s.width) }
  | none => p

/-- One operation of a body. -/
def bodyOp (i : CycleImage) (p : Program) (o : BodyOp) : Program :=
  match o with
  | .write k v => writeVar i p k v
  | .scan f =>
    let b := scanBlock (scanTime p) f (tget p.blocks f.instance_ {})
    let give (k : Option Nat) (v : Nat) (p : Program) : Program := k.elim p (fun k => writeVar i p k v)
    give f.value (b.value % 2 ^ 64).toNat (give f.q2 (flag b.q2 0) (give f.q (flag b.q 0) { p with blocks := tset p.blocks f.instance_ b }))

/-- CYCLE_BODY_END's effect: the body has done these operations; outputs, then the commit, then the cycle end (R321, R324, R328, R331). -/
def bodyEnd (c : Nat) (ops : List BodyOp) (h : Hw) : Hw :=
  let p := progAt c h
  match p.image with
  | none => h
  | some i =>
    if p.phase ≠ 2 ∨ p.state ≠ 2 then h
    else
      let h := putProg c (ops.foldl (bodyOp i) p) h
      let h := i.stations.foldl (fun h s => outputTo c s h) h
      let p := progAt c h
      let ns := (h.time.mono - p.startedAt) * 1000000000 / 2 ^ 64
      let mean := (roundOpen (mkRat ((p.meanNs * 255 + ns : Nat) : Int) 256) h).toNat
      let h := drawn (putProg c { p with
        phase := 0, retained := some (retainOf i p.vars p.sequence), retainOk := true, ended := p.cycle, read := p.vars
        lastNs := sat32 ns, longestNs := max p.longestNs (sat32 ns), meanNs := sat32 mean } h)
      if p.stopDue then stopProgram c h else h

/-- CYCLE_BODY_END. -/
def execCycleBodyEnd (c : Nat) (ops : List BodyOp) : State → Host.Outcome State Fault Refusal := lift (bodyEnd c ops)

/-- A fault abandons the cycle; like every stop it sends the committed image to the partner (R323, R333). -/
def faultProgram (c cause : Nat) (h : Hw) : Hw :=
  let h := setProg c 3 (putProg c { progAt c h with fault := cause, phase := 0, edge := false, stopDue := false } h)
  if retainOn h then sendRetain c h else h

/-- CYCLE_WATCHDOG_EXPIRY's effect. -/
def watchdogExpiry (c : Nat) (h : Hw) : Hw :=
  let p := progAt c h
  if p.state ≠ 2 ∨ p.phase = 0 ∨ h.time.mono - p.startedAt < nsUnits (1000 * p.params.watchdogUs) then h else faultProgram c 1 h

/-- CYCLE_WATCHDOG_EXPIRY. -/
def execCycleWatchdogExpiry (c : Nat) : State → Host.Outcome State Fault Refusal := lift (watchdogExpiry c)

/-- CONTROL_CORE_EXCEPTION's effect: the same, with cause exception. -/
def coreFault (c : Nat) (h : Hw) : Hw :=
  let p := progAt c h
  if p.state ≠ 2 then h else faultProgram c 2 h

/-- CONTROL_CORE_EXCEPTION. -/
def execControlCoreException (c : Nat) : State → Host.Outcome State Fault Refusal := lift (coreFault c)

/-! ### The image (R318, R319, R330, R340) -/

/-- Parameters are within R319. -/
def cycleRange (p : CycleParams) : Bool :=
  p.minUs ≤ 1000000 && 100 ≤ p.watchdogUs && p.watchdogUs ≤ 1000000 && 10 ≤ p.windowUs && p.windowUs ≤ 2000 && 1 ≤ p.stale && p.stale ≤ 255
  && p.teu.elim true (fun u => u ≤ 15)

/-- A station of an image is complete (R340). -/
def stationOk (s : StationIo) (h : Hw) : Bool :=
  s.station ≤ 255 && s.pair ≤ 4 && s.inLen ≤ 512 && s.outLen ≤ 512 && s.substitute.length == s.inLen && (match s.key with | some k => macHandle k h | none => false)

/-- A symbol retained or forced in the program that the core has changes its type (R330, log 92). -/
def typeChange (i : CycleImage) (h : Hw) : Bool :=
  let p := progAt i.core h
  ((p.image.map (fun x => x.symbols)).getD []).any (fun o =>
    (o.retain.isSome || (tfind p.forces o.key).isSome) && i.symbols.any (fun s => s.key == o.key && (s.typ != o.typ || s.width != o.width)))

/-- The refusals of R340 in an image: reason and core or station. -/
def checkCycle (b : Image) (h : Hw) : Option (Nat × Nat) :=
  let l := b.cycles
  let armed (u c : Nat) : Bool := let t := tget h.time.teus u {}
    b.time.teus.any (fun t => t.unit == u && t.target == 3 && t.index == c) || (t.armed && t.holderOpcode != 0x0203 && t.cfg.target == 3 && t.cfg.index == c)
  let stations := l.flatMap (fun i => i.stations.map (fun s => s.station))
  match l.zipIdx.find? (fun e => 3 < e.1.core || !cycleRange e.1.params || (l.take e.2).any (fun x => x.core == e.1.core)) with
  | some e => some (rcCycleParamRange, e.1.core)
  | none => match l.find? (fun i => i.params.teu.elim false (fun u => !armed u i.core)) with
  | some i => some (rcCycleTeuSource, i.core)
  | none => match (l.flatMap (fun i => i.stations)).find? (fun s => !stationOk s h) with
  | some s => some (rcCycleStation, s.station)
  | none =>
  if hasRepeat stations then some (rcCycleStation, 0xFFFFFFFF)
  else if 65536 < l.foldl (fun a i => a + i.retainSize) 0 then some (rcCycleRetain, 0xFFFFFFFF)
  else (l.find? (fun i => typeChange i h)).map (fun i => (rcCycleTypeChange, i.core))

/-- Take a Bloom's cycle images at a swap: a program adopts a changed one at its next cycle start, an EMPTY core at once; without
an image the core is EMPTY; tuned values end (R320, R330, R337). -/
def installCycles (new : List CycleImage) (h : Hw) : Hw :=
  [0, 1, 2, 3].foldl (fun h c =>
    let p := progAt c h
    match new.find? (fun i => i.core == c) with
    | none =>
      if p.image.isNone then h
      else
        let h := p.forces.foldl (fun h f => forceRecord c 2 f.1 h) (putProg c { p with
          image := none, next := none, phase := 0, params := {}, paramsNext := none, tuned := false, stations := [], forces := [], forcing := [], vars := [], blocks := []
          read := [], waiting := [] } h)
        setProg c 0 h
    | some i =>
      if p.state = 0 then setProg c 1 (adoptImage c i (putProg c { p with params := i.params, paramsNext := none, tuned := false } h))
      else if p.image = some i then putProg c { p with next := none, params := i.params, paramsNext := none, tuned := false } h
      else putProg c { p with next := some i, paramsNext := some i.params, tuned := false } h) h

/-! ### Commands (R335 to R338) -/

/-- A command on a program that is not EMPTY. -/
def onProgram (c : Nat) (f : CycleImage → Program → CmdResult) (h : Hw) : CmdResult :=
  let p := progAt c h
  match p.image with
  | some i => if 3 < c then no stBadParam rcCycleNoProgram else f i p
  | none => no stBadParam rcCycleNoProgram

def cycleStatusBytes (c : Nat) (i : CycleImage) (p : Program) : List Byte :=
  le 1 c ++ le 1 p.state ++ le 1 (flag p.params.teu.isSome 0 + flag p.tuned 1 + flag (p.forces != []) 2 + flag p.lastCold 3 + flag p.becameCold 4) ++ le 1 p.fault
  ++ le 4 p.cycle ++ le 4 p.lastNs ++ le 4 p.longestNs ++ le 4 p.meanNs ++ le 4 p.params.watchdogUs ++ le 4 p.overlap ++ le 2 i.stations.length
  ++ le 2 (p.stations.filter (fun s => s.2.state != 0)).length ++ le 2 p.forces.length ++ le 2 (min i.retainSize 0xFFFF) ++ le 4 p.writes ++ le 4 p.inputLate
  ++ le 4 p.notQueued ++ identityOf i

def cycleStatus (p : List Byte) (h : Hw) : CmdResult :=
  let c := u8 p 0
  onProgram c (fun i x =>
    .ok (if bit (u8 p 1) 0 then putProg c { x with overlap := 0, writes := 0, inputLate := 0, notQueued := 0 } h else h) (cycleStatusBytes c i x)) h

def cmdCycleStatus : Cmd := { row := rowCycleStatus, reserved := [(2, 2)], reservedBits := [(1, 1, 0xFE)], body := fun _ p h => cycleStatus p h }

/-- CYCLE.START (R320, R333): in a role that does not publish no program runs, and none starts. -/
def cycleStartCmd (p : List Byte) (h : Hw) : CmdResult :=
  let c := u8 p 0
  let go (c : Nat) (h : Hw) : Hw := if programsRun h then startProgram c (u8 p 1 == 1) h else h
  if 1 < u8 p 1 then no stBadParam rcCycleParamRange
  else if c = 0xFF then
    done ([0, 1, 2, 3].foldl (fun h c => if (progAt c h).state = 1 ∨ (progAt c h).state = 3 then go c h else h) h)
  else onProgram c (fun _ x => if x.state = 2 then no stBusy rcCycleNotStopped else done (go c h)) h

def cmdCycleStart : Cmd := { row := rowCycleStart, reserved := [(2, 2)], body := fun _ p h => cycleStartCmd p h }

/-- A RUNNING program stops at the next cycle end, after that cycle's outputs (R320). -/
def stopAtEnd (c : Nat) (h : Hw) : Hw :=
  let p := progAt c h
  if p.state ≠ 2 then h else putProg c { p with stopDue := true } h

def cycleStop (p : List Byte) (h : Hw) : CmdResult :=
  let c := u8 p 0
  if c = 0xFF then done ([0, 1, 2, 3].foldl (fun h c => stopAtEnd c h) h) else onProgram c (fun _ _ => done (stopAtEnd c h)) h

def cmdCycleStop : Cmd := { row := rowCycleStop, reserved := [(1, 3)], body := fun _ p h => cycleStop p h }

/-- The program that owns a station. -/
def ownerOf (n : Nat) (h : Hw) : Option Nat :=
  [0, 1, 2, 3].find? (fun c => ((progAt c h).image.map (fun i => i.stations.any (fun s => s.station == n))).getD false)

def cycleStationStatus (p : List Byte) (h : Hw) : CmdResult :=
  let n := u8 p 0
  match ownerOf n h with
  | none => no stBadParam rcCycleStation
  | some c =>
    let x := progAt c h
    let s := stationState n x
    let z := { s with missed := 0, dropouts := 0, notQueued := 0, returns := 0, authFailures := 0 }
    .ok (if bit (u8 p 1) 0 then putProg c { x with stations := tset x.stations n z } h else h)
      (le 1 n ++ le 1 s.state ++ le 1 c ++ le 1 (min 255 s.missing) ++ le 4 (s.lastInput.getD 0) ++ le 4 s.missed ++ le 4 s.dropouts ++ le 4 s.notQueued ++ le 4 s.returns
       ++ le 4 s.authFailures ++ zeros 4)

def cmdCycleStationStatus : Cmd :=
  { row := rowCycleStationStatus, reserved := [(2, 2)], reservedBits := [(1, 1, 0xFE)], body := fun _ p h => cycleStationStatus p h }

/-- Keys of the entries of CYCLE.READ and CYCLE.WRITE. -/
def entryKeys (n step : Nat) (p : List Byte) : List Nat := (List.range n).map (fun i => u64 p (8 + step * i))

/-- A symbol of an image. -/
def symbolOf (k : Nat) (i : CycleImage) : Option Symbol := i.symbols.find? (fun s => s.key == k)

/-- CYCLE.READ: of a symbol that is not a single value, the u64 is open (log 3). -/
def cycleRead (p : List Byte) (h : Hw) : CmdResult :=
  let n := u8 p 1
  onProgram (u8 p 0) (fun i x =>
    let keys := entryKeys n 8 p
    let entry (k : Nat) : List Byte := match symbolOf k i with
      | none => []
      | some s => le 1 s.typ ++ le 1 (flag (tfind x.forces k).isSome 0 + flag s.retain.isSome 1) ++ zeros 6
          ++ le 8 (if s.single then tget x.read k s.initial else Config.freeNat h.free)
    if n = 0 ∨ 16 < n then no stBadParam rcCycleParamRange
    else if keys.any (fun k => (symbolOf k i).isNone) then no stBadParam rcCycleNoSymbol
    else .ok (drawn h) (le 4 x.ended ++ zeros 4 ++ keys.flatMap entry)) h

def cmdCycleRead : Cmd := { row := rowCycleRead, reserved := [(2, 6)], body := fun _ p h => cycleRead p h }

def cycleProfile (p : List Byte) (h : Hw) : CmdResult :=
  let c := u8 p 0
  onProgram c (fun _ x =>
    let base := x.paramsNext.getD x.params
    let set (m w i : Nat) : CmdResult := done (putProg c { x with paramsNext := some { base with minUs := m, watchdogUs := w, windowUs := i }, tuned := true } h)
    match u8 p 1 with
    | 1 => set 0 1000 100
    | 2 => set 1000 10000 250
    | 3 => set 10000 100000 1000
    | _ => no stBadParam rcCycleParamRange) h

def cmdCycleProfile : Cmd := { row := rowCycleProfile, reserved := [(2, 2)], body := fun _ p h => cycleProfile p h }

/-- CYCLE.WRITE (R329). -/
def cycleWrite (p : List Byte) (h : Hw) : CmdResult :=
  let c := u8 p 0
  let n := u8 p 1
  onProgram c (fun i x =>
    let l := (List.range n).map (fun j => (u64 p (8 + 16 * j), u64 p (16 + 16 * j)))
    if n = 0 ∨ 16 < n then no stBadParam rcCycleParamRange
    else if l.any (fun e => (symbolOf e.1 i).isNone) then no stBadParam rcCycleNoSymbol
    else if l.any (fun e => match symbolOf e.1 i with | some s => !s.single | none => true) then no stBadParam rcCycleNotSingle
    else if l.any (fun e => (tfind x.forces e.1).isSome) then no stBadParam rcCycleForced
    else if l.any (fun e => match symbolOf e.1 i with | some s => decide (2 ^ s.width ≤ e.2) | none => true) then no stBadParam rcCycleParamRange
    else done (putProg c { x with waiting := x.waiting ++ [l] } h)) h

def cmdCycleWrite : Cmd := { row := rowCycleWrite, reserved := [(2, 6)], body := fun _ p h => cycleWrite p h }

/-- CYCLE.TUNE (R336, R337). -/
def cycleTune (p : List Byte) (h : Hw) : CmdResult :=
  let c := u8 p 0
  let src := u8 p 1
  let u := u8 p 2
  onProgram c (fun _ x =>
    let b := x.paramsNext.getD x.params
    let y := { b with
      teu := if src = 0 then none else if src = 1 then some u else b.teu, stale := keepOr (u8 p 3) 0 b.stale, minUs := keepOr (u32 p 4) 0xFFFFFFFF b.minUs
      watchdogUs := keepOr (u32 p 8) 0 b.watchdogUs, windowUs := keepOr (u32 p 12) 0 b.windowUs }
    if (1 < src ∧ src ≠ 0xFF) ∨ 15 < u ∨ cycleRange y = false then no stBadParam rcCycleParamRange
    else if src = 1 ∧ (let t := tget h.time.teus u {}; t.armed && t.cfg.target == 3 && t.cfg.index == c) = false then no stBadParam rcCycleTeuSource
    else done (putProg c { x with paramsNext := some y, tuned := true } h)) h

def cmdCycleTune : Cmd := { row := rowCycleTune, reserved := [(16, 8)], body := fun _ p h => cycleTune p h }

/-- CYCLE.FORCE (R331, R332). -/
def cycleForce (p : List Byte) (h : Hw) : CmdResult :=
  let c := u8 p 0
  let key := u64 p 8
  let v := u64 p 16
  onProgram c (fun i x =>
    match u8 p 1 with
    | 0 => if (tfind x.forces key).isNone then no stBadParam rcCycleNoSymbol else done (forceRecord c 1 key (putProg c { x with forces := tdel x.forces key } h))
    | 1 => match symbolOf key i with
      | none => no stBadParam rcCycleNoSymbol
      | some s =>
        if s.single = false then no stBadParam rcCycleNotSingle
        else if 2 ^ s.width ≤ v then no stBadParam rcCycleParamRange
        else if (tfind x.forces key).isNone ∧ 256 ≤ x.forces.length then no stBadParam rcCycleForceTable
        else done (forceRecord c 0 key (putProg c { x with forces := tset x.forces key v } h))
    | 2 => done (x.forces.foldl (fun h f => forceRecord c 1 f.1 h) (putProg c { x with forces := [] } h))
    | _ => no stBadParam rcCycleParamRange) h

def cmdCycleForce : Cmd := { row := rowCycleForce, reserved := [(2, 6)], body := fun _ p h => cycleForce p h }

/-- CYCLE.STATUS. -/
def execCycleStatus (c : Call) (p : List Byte) : State → Host.Outcome State Fault Refusal := lift (runCmd cmdCycleStatus c p)
/-- CYCLE.START. -/
def execCycleStart (c : Call) (p : List Byte) : State → Host.Outcome State Fault Refusal := lift (runCmd cmdCycleStart c p)
/-- CYCLE.STOP. -/
def execCycleStop (c : Call) (p : List Byte) : State → Host.Outcome State Fault Refusal := lift (runCmd cmdCycleStop c p)
/-- CYCLE.STATION_STATUS. -/
def execCycleStationStatus (c : Call) (p : List Byte) : State → Host.Outcome State Fault Refusal := lift (runCmd cmdCycleStationStatus c p)
/-- CYCLE.READ. -/
def execCycleRead (c : Call) (p : List Byte) : State → Host.Outcome State Fault Refusal := lift (runCmd cmdCycleRead c p)
/-- CYCLE.PROFILE. -/
def execCycleProfile (c : Call) (p : List Byte) : State → Host.Outcome State Fault Refusal := lift (runCmd cmdCycleProfile c p)
/-- CYCLE.WRITE. -/
def execCycleWrite (c : Call) (p : List Byte) : State → Host.Outcome State Fault Refusal := lift (runCmd cmdCycleWrite c p)
/-- CYCLE.TUNE. -/
def execCycleTune (c : Call) (p : List Byte) : State → Host.Outcome State Fault Refusal := lift (runCmd cmdCycleTune c p)
/-- CYCLE.FORCE. -/
def execCycleForce (c : Call) (p : List Byte) : State → Host.Outcome State Fault Refusal := lift (runCmd cmdCycleForce c p)

end Sys2Proof.Machine
end

