-- ==== Sys2Proof/Machine/Rtc.lean ====
section
/-! DEFINITION. The real-time clock and the always-on island (R69 to R89, KL-07). -/
namespace Sys2Proof.Machine

/-- The RTC count wraps after 2^40 s (R69). -/
def rtcWrap : Nat := 2 ^ 55

/-- SEC40 and FRAC15 of a count. -/
def rtcSec (n : Nat) : Nat := n / 2 ^ 15
def rtcFrac (n : Nat) : Nat := n % 2 ^ 15

/-- The packing of RTC.SET: SEC40 in bits 39:0, FRAC15 in bits 54:40 (R87). -/
def rtcPack (n : Nat) : Nat := rtcSec n % 2 ^ 40 + rtcFrac n * 2 ^ 40
def rtcUnpack (v : Nat) : Nat := v % 2 ^ 40 * 2 ^ 15 + v / 2 ^ 40 % 2 ^ 15

/-- Set a bit of AON_STATUS. -/
def setAon (i : Nat) (b : Bool) (h : Hw) : Hw := { h with rtc := { h.rtc with status := withBit h.rtc.status i b } }

/-- Note a firing in RETAIN for the next RTC boot report: 0 and 1 the alarms, 2 the wake (R76). -/
def noteFired (i : Nat) (skipped : Bool) (h : Hw) : Hw :=
  if h.mode = .retain then { h with rtc := { h.rtc with firedRetain := h.rtc.firedRetain ||| (2 ^ i + flag skipped (i + 4)) } } else h

/-- A firing: in RETAIN it drives WAKE_N low; outside OFF and RETAIN it writes a record with SOURCE 0x0400 (R77, R78). -/
def signalWake (h : Hw) : Hw :=
  match h.mode with
  | .off => h
  | .retain => emit (.wake true) { h with rtc := { h.rtc with wakeLow := true } }
  | _ => evrOpen 0x04 0x0400 h

/-- Fire an alarm: FIRED, SKIPPED after a forward step, and disarm (R77, R79). -/
def fireAlarm (a : Nat) (skipped : Bool) (h : Hw) : Hw :=
  let h := setAon (aonAlm0Fired + a) true h
  let h := if skipped then setAon (aonAlm0Skipped + a) true h else h
  let al := tget h.rtc.alarms a {}
  signalWake (noteFired a skipped { h with rtc := { h.rtc with alarms := tset h.rtc.alarms a { al with armed := false } } })

/-- An armed alarm whose time has come. -/
def alarmDue (a : Nat) (h : Hw) : Bool := let al := tget h.rtc.alarms a {}; al.armed && al.at_ ≤ h.rtc.count

/-- The number of the last multiple of P (1/256 s, 128 counts each) at or before a count. -/
def wakeIndex (p : Nat) (n : Int) : Int := if p = 0 then 0 else n / (p * 128 : Nat)

/-- A step of the RTC by `d` counts: alarms and the wake by R79; a change by no count is no step. The count wraps after 2^40 s, and a forward step goes on
over the wrap. Multiples that a forward step passes over are counted from the last one handled. -/
def rtcStep (d : Int) (h : Hw) : Hw :=
  if d = 0 then h else
  let far : Int := h.rtc.count + d
  let wrapped := decide ((rtcWrap : Int) ≤ far)
  let new := (far % (rtcWrap : Int)).toNat
  let p := h.rtc.wakeP
  let passed : Int := if p = 0 then 0
    else if wrapped then wakeIndex p ((rtcWrap : Int) - 1) - wakeIndex p h.rtc.wakeFrom + wakeIndex p new + 1
    else wakeIndex p new - wakeIndex p h.rtc.wakeFrom
  let fwd := decide (0 < d)
  let from_ : Int := if fwd then (new : Int) else max (new : Int) (h.rtc.wakeLast.getD 0 : Nat)
  let due (a : Nat) : Bool := let al := tget h.rtc.alarms a {}; fwd && al.armed && decide ((al.at_ : Int) ≤ far)
  let h := { h with rtc := { h.rtc with
    count := new, wakeFrom := from_, wakePassed := if fwd then h.rtc.wakePassed + passed.toNat else h.rtc.wakePassed } }
  let h := if h.mode = .snowdrop then noteAnchor h else h
  let h := if due 0 then fireAlarm 0 true h else h
  if due 1 then fireAlarm 1 true h else h

/-- A step of the RTC to a count. -/
def rtcStepTo (new : Nat) (h : Hw) : Hw := rtcStep ((new : Int) - h.rtc.count) h

/-- The next multiple of P is due: the first one later than the last handled count. -/
def wakeDue (h : Hw) : Bool :=
  h.rtc.wakeP != 0 && decide (wakeIndex h.rtc.wakeP h.rtc.wakeFrom < wakeIndex h.rtc.wakeP h.rtc.count)

/-- Fire the wake: WAKE_FIRED, and WAKE_SKIPPED with the multiples a forward step passed over (R78, R79). -/
def fireWake (h : Hw) : Hw :=
  let n := h.rtc.count / (h.rtc.wakeP * 128) * (h.rtc.wakeP * 128)
  let skipped := h.rtc.wakePassed
  let h := setAon aonWakeFired true h
  let h := if skipped = 0 then h else setAon aonWakeSkipped true h
  signalWake (noteFired 2 (skipped != 0) { h with rtc := { h.rtc with
    wakeLast := some n, wakeFrom := n, wakePassed := 0
    wakeSkips := if skipped = 0 then h.rtc.wakeSkips else sat32 skipped } })

/-- RTC_ALARM_FIRE. -/
def execRtcAlarmFire (a : Nat) : State → Host.Outcome State Fault Refusal :=
  lift (fun h => onlyIf (a < 2 && alarmDue a h) (fireAlarm a false) h)

/-- RTC_WAKE_FIRE. -/
def execRtcWakeFire : State → Host.Outcome State Fault Refusal := lift (fun h => onlyIf (wakeDue h) fireWake h)

/-- Station time as a count of 2^-15 s, the low 40 bits of seconds. -/
def stationCount (h : Hw) : Nat := h.time.now / 2 ^ 49 % rtcWrap

/-- The count goes on by one; when it wraps to 0, multiples of P are due from 0 on (R69, R78). -/
def rtcTick (h : Hw) : Hw :=
  let n := (h.rtc.count + 1) % rtcWrap
  { h with rtc := { h.rtc with count := n, edgeAt := h.time.now, wakeFrom := if n = 0 then -1 else h.rtc.wakeFrom } }

/-- One rising edge of the oscillator: the count advances; a write or a shift that waits is applied, which is a step, and then
the value of this edge (R69, R79, R83, R84). RTC.SET takes effect here (the model's choice, log 62). -/
def rtcEdge (h : Hw) : Hw :=
  if h.rtc.oscStopped then h
  else
    let h := rtcTick h
    let h := match (if h.rtc.writeStation then some (stationCount h) else h.rtc.write) with
      | some v => rtcStepTo (v % rtcWrap) { h with rtc := { h.rtc with write := none, writeStation := false, lastShift := none } }
      | none => h
    match h.rtc.shift with
    | some d => rtcStep d { h with rtc := { h.rtc with shift := none } }
    | none => h

/-! ### OSF and the island's supply (R70 to R74) -/

/-- OSF becomes set: a cause bit, the boot-attempt counter and its causes cleared, TIME_SET cleared (R72 to R74, R522). A
further cause while OSF is set counts as OSF becoming set again (the model's reading, log 63). -/
def setOsf (cause : Nat) (h : Hw) : Hw :=
  let st := withBootCount (withBit (withBit (withBit h.rtc.status aonOsf true) cause true) aonTimeSet false) 0
  { h with
    rtc := { h.rtc with status := st }
    time := { h.time with osfSinceBoot := true }
    boot := { h.boot with causes := [0, 0, 0] } }

/-- The island after its rail fell below 1.65 V: every retained field at its reset value, OSF and exactly one cause set;
the reset of the count is a step for nothing that survives (R74, R79). WAKE_N stays as it is until BOOT (R77). The rail is up
again, and the hold-up begins anew where no supply is there (R70). -/
def islandReset (cause : Nat) (h : Hw) : Hw :=
  let fresh : RtcState := {}
  let st := withBit ((withBit fresh.status aonCauseFirst false)) cause true
  { h with
    rtc := { fresh with status := withBit st aonSource (!h.rtc.vaon), vaon := h.rtc.vaon, vbat := h.rtc.vbat,
                        oscStopped := h.rtc.oscStopped, edgeAt := h.rtc.edgeAt, phase := h.rtc.phase, wakeLow := h.rtc.wakeLow,
                        holdup := if h.rtc.vaon || h.rtc.vbat then none else some h.time.mono, sqwOwner := h.rtc.sqwOwner, sqwLowUntil := h.rtc.sqwLowUntil, sqwBall := h.rtc.sqwBall }
    time := { h.time with osfSinceBoot := true }
    boot := { h.boot with causes := [0, 0, 0], oneShot := none } }

/-- OSC_STOP: 8 missed edges; the oscillator stays stopped until it runs again (R72). -/
def execOscStop (stopped : Bool) : State → Host.Outcome State Fault Refusal :=
  lift (fun h =>
    if stopped then setOsf aonCauseOsc { h with rtc := { h.rtc with oscStopped := true } }
    else { h with rtc := { h.rtc with oscStopped := false } })

/-- The hold-up has carried the rail for 200 µs, without VAON and VBAT (R70). -/
def holdupOver (h : Hw) : Bool :=
  !h.rtc.vaon && !h.rtc.vbat && (match h.rtc.holdup with | some t => decide (nsUnits 200000 ≤ h.time.mono - t) | none => true)

/-- The island rail can have fallen below 1.65 V: the hold-up is over, or was over when a supply came back (R70). -/
def railDown (h : Hw) : Bool := h.rtc.railFell || holdupOver h

/-- The supplies of the island change: the hold-up begins when both are below 1.8 V, and where it was over as one comes back the
rail can have fallen (R70). -/
def noteSupply (vaon vbat : Bool) (h : Hw) : Hw :=
  { h with rtc := { h.rtc with
      vaon := vaon, vbat := vbat, railFell := (vaon || vbat) && railDown h
      holdup := if vaon || vbat then none else if h.rtc.holdup.isSome then h.rtc.holdup else some h.time.mono } }

/-- ISLAND_RAIL_DIP: below 1.65 V for `ns`; 4 µs or longer is a dip (R72, R74). The rail falls only after the hold-up (R70). -/
def execIslandRailDip (ns : Nat) : State → Host.Outcome State Fault Refusal :=
  lift (fun h => onlyIf (railDown h && decide (4000 ≤ ns)) (islandReset aonCauseDip) h)

/-- ISLAND_POWER_UP: a rise of the rail from below 1.0 V, to which it falls only after the hold-up (R70, R72, R74). -/
def execIslandPowerUp : State → Host.Outcome State Fault Refusal :=
  lift (fun h => onlyIf (railDown h) (islandReset aonCauseFirst) h)

/-- VBAT_SAMPLE: once per second while VAON is present; VBAT_LOW below 2.1 V (R71). -/
def execVbatSample (mv : Nat) : State → Host.Outcome State Fault Refusal :=
  lift (fun h => onlyIf h.rtc.vaon (fun h => setAon aonVbatLow (mv < 2100) { h with rtc := { h.rtc with vbatMv := min mv 0xFFFF } }) h)

/-! ### The square wave and its ball (R80, R81) -/

/-- On any exit from SERVING a unit with target 8 is disarmed, and a record names it (R81). -/
def releaseTrigOut3 (h : Hw) : Hw :=
  let due := h.time.teus.filter (fun e => e.2.armed && e.2.cfg.target == 8)
  due.foldl (fun h e => evrOpen 0x03 (0x0300 + e.1) (stopTeu e.1 h)) h

/-! ### Discipline (R82, R83) -/

/-- The RTC has been written by discipline or by RTC.SET: TIME_SET (R73). -/
def markTimeSet (h : Hw) : Hw := setAon aonTimeSet true h

/-- A discipline pass: n = round((RTC - station time) * 32,768) at the last edge; a shift of -n, or a write of station
time at the next edge (R83). The pass's shift takes the place of a shift that waits; a station-time write comes before one that
waits (the model's choice, log 98). -/
def disciplinePass (h : Hw) : Hw :=
  let rtc : Int := (h.rtc.count : Int)
  let e : Rat := (rtc : Rat) - mkRat (h.rtc.edgeAt % (2 ^ 104)) (2 ^ 49)
  let n := ratRound e
  let r := { h.rtc with lastPass := some h.time.mono }
  let r := if n = 0 then r
    else if n.natAbs ≤ 32767 then { r with shift := some (-n), lastShift := none }
    else { r with writeStation := true }
  markTimeSet (setAon aonDisciplined true { h with rtc := r })

/-- RTC_DISCIPLINE_PASS: while LOCKED with discipline on, once per interval, never within 2 ms of its own shift. -/
def execRtcDisciplinePass : State → Host.Outcome State Fault Refusal :=
  lift (fun h =>
    let due := match h.rtc.lastPass with | none => true | some t => decide (h.rtc.interval * secUnit ≤ h.time.mono - t)
    onlyIf (h.time.servo = .locked && h.rtc.discipline && due && !h.rtc.oscStopped) disciplinePass h)

/-- DISCIPLINED: a pass completed within the last two intervals (R85). -/
def settleDisciplined (h : Hw) : Hw :=
  match h.rtc.lastPass with
  | none => setAon aonDisciplined false h
  | some t => setAon aonDisciplined (h.time.mono - t ≤ 2 * h.rtc.interval * secUnit) h

/-! ### Commands (R86 to R89) -/

/-- The RTC.STATUS payload of R87. -/
def rtcStatusBytes (h : Hw) : List Byte :=
  le 4 h.rtc.status.toNat ++ le 2 (rtcFrac h.rtc.count) ++ zeros 2 ++ le 8 (rtcSec h.rtc.count % 2 ^ 40)
  ++ le 4 h.rtc.wakeSkips ++ le 4 h.rtc.wakeP ++ le 2 h.rtc.vbatMv
  ++ le 1 (flag (tget h.rtc.alarms 0 {}).armed 0 + flag (tget h.rtc.alarms 1 {}).armed 1) ++ zeros 5

/-- RTC.STATUS: the W1C bits of the clear mask are cleared after the read (R85, R87). -/
def rtcStatus (p : List Byte) (h : Hw) : CmdResult :=
  let h := settleDisciplined h
  .ok { h with rtc := { h.rtc with status := h.rtc.status &&& ~~~(BitVec.ofNat 32 (u32 p 0) &&& aonW1c) } } (rtcStatusBytes h)

def cmdRtcStatus : Cmd := { row := rowRtcStatus, body := fun _ p h => rtcStatus p h }

/-- RTC discipline on while the servo is ACQUIRING or LOCKED (R88). -/
def rtcDisciplined (h : Hw) : Bool := h.rtc.discipline && sourceLocked h

/-- RTC.SET (R79, R87 to R89): the count takes the value at the next oscillator edge, and a shift that waits is dropped (the
model's choice, log 62). -/
def rtcSet (p : List Byte) (h : Hw) : CmdResult :=
  if rtcDisciplined h then no stStateRefused rcRtcDisciplined
  else if h.rtc.oscStopped then no stStateRefused rcRtcOscStopped
  else done (markTimeSet { h with rtc := { h.rtc with shift := none, writeStation := false, write := some (rtcUnpack (u64 p 0)), lastShift := none } })

def cmdRtcSet : Cmd := { row := rowRtcSet, reservedBits := [(0, 8, 0xFF80000000000000)], body := fun _ p h => rtcSet p h }

/-- RTC.CLEAR_OSF (R73). -/
def rtcClearOsf (h : Hw) : CmdResult :=
  if h.rtc.status.getLsbD aonTimeSet = false then no stStateRefused rcRtcTimeNotSet
  else done (setAon aonOsf false (setAon aonCauseFirst false (setAon aonCauseDip false (setAon aonCauseOsc false h))))

def cmdRtcClearOsf : Cmd := { row := rowRtcClearOsf, body := fun _ _ h => rtcClearOsf h }

/-- RTC.CAPTURE (R82, R87). Within 2 ms of an RTC.SHIFT the value may be the one before the shift (KL-07). -/
def rtcCapture (h : Hw) : CmdResult :=
  if h.rtc.oscStopped then no stStateRefused rcRtcOscStopped
  else
    let stale := match h.rtc.lastShift with
      | some (t, d) => if decide (h.time.mono - t < nsUnits 2000000) ∧ h.rtc.shift = none ∧ Config.freeBit h.free then some d else none
      | none => none
    let n := match stale with
      | some d => (((h.rtc.count : Int) - d) % (rtcWrap : Int)).toNat
      | none => h.rtc.count
    .ok (drawn h) (le 8 (rtcPack n) ++ timeBytes h.rtc.edgeAt ++ le 1 (timeClass h) ++ zeros 3)

def cmdRtcCapture : Cmd := { row := rowRtcCapture, body := fun _ _ h => rtcCapture h }

/-- RTC.SHIFT (R84, R88, R89). -/
def rtcShift (p : List Byte) (h : Hw) : CmdResult :=
  let n := s16 p 0
  if n < -32767 then no stBadParam rcRtcRange
  else if rtcDisciplined h then no stStateRefused rcRtcDisciplined
  else if h.rtc.oscStopped then no stStateRefused rcRtcOscStopped
  else done { h with rtc := { h.rtc with shift := some (h.rtc.shift.getD 0 + n), lastShift := some (h.time.mono, h.rtc.shift.getD 0 + n) } }

def cmdRtcShift : Cmd := { row := rowRtcShift, reserved := [(2, 2)], body := fun _ p h => rtcShift p h }

/-- RTC.ALARM_SET: an alarm armed with a time already passed fires at once, without SKIPPED (R77). -/
def rtcAlarmSet (p : List Byte) (h : Hw) : CmdResult :=
  if 1 < u8 p 0 then no stBadParam rcRtcRange
  else
    let a := u8 p 0
    let h := { h with rtc := { h.rtc with alarms := tset h.rtc.alarms a { armed := bit (u8 p 1) 0, at_ := rtcUnpack (u64 p 8) } } }
    done (if alarmDue a h then fireAlarm a false h else h)

def cmdRtcAlarmSet : Cmd :=
  { row := rowRtcAlarmSet, reserved := [(2, 6)], reservedBits := [(1, 1, 0xFE), (8, 8, 0xFF80000000000000)], body := fun _ p h => rtcAlarmSet p h }

/-- RTC.WAKE_SET (R78, R87): multiples passed over under the old P are forgotten (the model's choice, log 64). -/
def rtcWakeSet (p : List Byte) (h : Hw) : CmdResult :=
  if 16588800 < u32 p 0 then no stBadParam rcRtcRange
  else done { h with rtc := { h.rtc with wakeP := u32 p 0, wakeFrom := h.rtc.count, wakePassed := 0 } }

def cmdRtcWakeSet : Cmd := { row := rowRtcWakeSet, body := fun _ p h => rtcWakeSet p h }

/-- RTC.SQW_SET (R80, R85). -/
def rtcSqwSet (p : List Byte) (h : Hw) : CmdResult :=
  if 3 < u8 p 0 then no stBadParam rcRtcRange
  else done (settleSqw { h with rtc := { h.rtc with status := withSqwSel h.rtc.status (u8 p 0) } })

def cmdRtcSqwSet : Cmd := { row := rowRtcSqwSet, reserved := [(1, 3)], body := fun _ p h => rtcSqwSet p h }

/-- RTC.DISCIPLINE_SET (R87). R89 gives no reason for an enable above 1: it is refused as a value out of range (the model's
choice, log 99). -/
def rtcDisciplineSet (p : List Byte) (h : Hw) : CmdResult :=
  if u16 p 0 = 0 ∨ 3600 < u16 p 0 ∨ 1 < u8 p 2 then no stBadParam rcRtcRange
  else done { h with rtc := { h.rtc with interval := u16 p 0, discipline := u8 p 2 == 1 } }

def cmdRtcDisciplineSet : Cmd := { row := rowRtcDisciplineSet, reserved := [(3, 1)], body := fun _ p h => rtcDisciplineSet p h }

/-- RTC.STATUS. -/
def execRtcStatus (c : Call) (p : List Byte) : State → Host.Outcome State Fault Refusal := lift (runCmd cmdRtcStatus c p)
/-- RTC.SET. -/
def execRtcSet (c : Call) (p : List Byte) : State → Host.Outcome State Fault Refusal := lift (runCmd cmdRtcSet c p)
/-- RTC.CLEAR_OSF. -/
def execRtcClearOsf (c : Call) (p : List Byte) : State → Host.Outcome State Fault Refusal := lift (runCmd cmdRtcClearOsf c p)
/-- RTC.CAPTURE. -/
def execRtcCapture (c : Call) (p : List Byte) : State → Host.Outcome State Fault Refusal := lift (runCmd cmdRtcCapture c p)
/-- RTC.SHIFT. -/
def execRtcShift (c : Call) (p : List Byte) : State → Host.Outcome State Fault Refusal := lift (runCmd cmdRtcShift c p)
/-- RTC.ALARM_SET. -/
def execRtcAlarmSet (c : Call) (p : List Byte) : State → Host.Outcome State Fault Refusal := lift (runCmd cmdRtcAlarmSet c p)
/-- RTC.WAKE_SET. -/
def execRtcWakeSet (c : Call) (p : List Byte) : State → Host.Outcome State Fault Refusal := lift (runCmd cmdRtcWakeSet c p)
/-- RTC.SQW_SET. -/
def execRtcSqwSet (c : Call) (p : List Byte) : State → Host.Outcome State Fault Refusal := lift (runCmd cmdRtcSqwSet c p)
/-- RTC.DISCIPLINE_SET. -/
def execRtcDisciplineSet (c : Call) (p : List Byte) : State → Host.Outcome State Fault Refusal := lift (runCmd cmdRtcDisciplineSet c p)
end Sys2Proof.Machine
end

