-- ==== Sys2Proof/Machine/Evr.lean ====
section
/-! DEFINITION. The event recorder: time anchors, the drop report, the sequence floor, the save, the window cursor and the EVR commands (R546 to R558). -/
namespace Sys2Proof.Machine

/-- The 64 bytes of a record (R546). -/
def eventBytes (r : Record) : List Byte :=
  le 8 r.seq ++ le 2 r.code ++ le 2 r.source ++ le 2 r.slice ++ le 2 r.flags ++ pad48 r.payload

/-- The newest SEQ, and the oldest SEQ held: that of the next record when none is held (R553). -/
def newestSeq (h : Hw) : Nat := h.evr.next - 1
def oldestSeq (h : Hw) : Nat := match h.evr.ring.getLast? with | some r => r.seq | none => h.evr.next

/-- The payload of a time anchor: in SNOWDROP, SEC and FRAC are 0 (R551). -/
def anchorPayload (h : Hw) : List Byte :=
  (if h.mode = .snowdrop then zeros 12 else le 8 (secOf h.time.now) ++ le 4 0) ++ le 1 (timeClass h) ++ le 1 (servoCode h.time.servo)
  ++ le 2 (utcOf h).1 ++ le 8 (rtcPack h.rtc.count) ++ le 1 h.time.steps ++ le 1 (modeCode h.mode)

/-- TIME_ANCHOR's effect: a new whole second, of the RTC in SNOWDROP, outside BOOT (R550, R551). -/
def timeAnchor (h : Hw) : Hw :=
  if h.mode = .off ∨ h.mode = .retain ∨ h.mode = .boot ∨ h.evr.anchored = anchorSecond h then h
  else evrDirect 0x0001 0x0DFF (anchorPayload h) (noteAnchor h)

/-- TIME_ANCHOR. -/
def execTimeAnchor : State → Host.Outcome State Fault Refusal := lift timeAnchor

/-- EVR_QUEUE_ROOM's effect: the queue has room again after drops (R549). -/
def queueRoom (h : Hw) : Hw :=
  match h.evr.dropRun with
  | none => h
  | some (n, first, last, source) =>
    if 4096 ≤ queued h then h
    else
      let h := { h with evr := { h.evr with dropRun := none } }
      evrDirect 0x1310 0x0DFF (le 4 n ++ le 2 first ++ le 2 last ++ le 2 source) h

/-- EVR_QUEUE_ROOM. -/
def execEvrQueueRoom : State → Host.Outcome State Fault Refusal := lift queueRoom

/-- EVR_SEQ_FLOOR_WRITE's effect: with SEQ at F - 2^31, the next floor is written (R548). -/
def floorWrite (h : Hw) : Hw :=
  if h.evr.floorOk ∧ h.evr.unanchored = false ∧ h.evr.floor ≤ newestSeq h + 2 ^ 31 then { h with evr := { h.evr with floor := h.evr.floor + 2 ^ 32 } } else h

/-- EVR_SEQ_FLOOR_WRITE. -/
def execEvrSeqFloorWrite : State → Host.Outcome State Fault Refusal := lift floorWrite

/-- Slot i of the window as it stands (R554, R555). -/
def windowSlot (i : Nat) (h : Hw) : List Byte :=
  match h.evr.ring.find? (fun r => r.seq % ringSize h == (h.evr.cursor.toNat + i) % ringSize h) with
  | some r => eventBytes r
  | none => zeros 64

/-! ### Start and save (R548, R550, R555, R556) -/

/-- The newest saved copy whose CRC verifies (R556). -/
def savedCopy (h : Hw) : Option SavedCopy := h.evr.saved.find? (fun c => c.crcOk)

/-- The recorder starts at a boot: an empty ring, the first SEQ, and the next floor written before its first record (R548, R555). -/
def startRecorder (h : Hw) : Hw :=
  let e := h.evr
  if e.floorOk = false ∧ h.mode = .snowdrop then
    { h with evr := { e with ring := [], next := 1, unanchored := true, stopped := false, backlog := 0, dropRun := none } }
  else
    let last := ((savedCopy h).bind (fun c => c.records.getLast?)).elim 0 (fun r => r.seq)
    let first := max (max e.floor (last + 1)) 1
    { h with evr := { e with ring := [], next := first, floor := (first / 2 ^ 32 + 1) * 2 ^ 32, floorOk := true, unanchored := false, stopped := false, backlog := 0, dropRun := none } }

/-- Write the events of the boot queue, in the order raised, with DEFERRED (R550). -/
def flushBoot (h : Hw) : Hw :=
  let q := h.evr.bootQueue
  q.foldl (fun h r => writeRecord { r with flags := r.flags + 4 } h) { h with evr := { h.evr with bootQueue := [] } }

/-- The save: CODE 0x1311, then no more events, and the newest 256 records go to the older flash area (R556). -/
def saveEvents (cause : Nat) (h : Hw) : Hw :=
  if h.evr.stopped then h
  else
    let h := evrDirect 0x1311 0x0DFF (le 1 cause ++ zeros 7 ++ nowBytes h) h
    let copy : SavedCopy := { records := (h.evr.ring.take 256).reverse, cause := cause }
    { h with evr := { h.evr with stopped := true, saved := copy :: h.evr.saved.take 1 } }

/-! ### Commands (R557, R558) -/

def evrStatusBytes (h : Hw) : List Byte :=
  let s := savedCopy h
  le 8 (newestSeq h) ++ le 8 (oldestSeq h) ++ le 4 h.evr.dropped ++ le 4 h.evr.overwritten
  ++ le 1 (flag s.isSome 0 + flag h.evr.bootOverflow 1 + flag h.evr.stopped 2) ++ zeros 1 ++ le 2 ((s.map (fun c => c.records.length)).getD 0) ++ zeros 4

/-- EVR.STATUS. -/
def evrStatus (p : List Byte) (h : Hw) : CmdResult :=
  .ok (if bit (u8 p 0) 0 then { h with evr := { h.evr with dropped := 0, overwritten := 0 } } else h) (evrStatusBytes h)

def cmdEvrStatus : Cmd := { row := rowEvrStatus, reserved := [(1, 3)], reservedBits := [(0, 1, 0xFE)], body := fun _ p h => evrStatus p h }

/-- EVR.READ. -/
def evrRead (p : List Byte) (h : Hw) : CmdResult :=
  let first := u64 p 0
  let n := u16 p 8
  if n = 0 ∨ 64 < n then no stBadParam rcEvrParamRange
  else if newestSeq h + 1 < first then no stBadParam rcEvrFuture
  else if first < oldestSeq h then no stBadParam rcEvrOverwritten
  else
    let got := (h.evr.ring.reverse.filter (fun r => decide (first ≤ r.seq))).take n
    .ok h (le 8 (oldestSeq h) ++ le 8 (newestSeq h) ++ (got.map eventBytes).flatten)

def cmdEvrRead : Cmd := { row := rowEvrRead, reserved := [(10, 6)], body := fun _ p h => evrRead p h }

/-- EVR.SAVED_READ. -/
def evrSavedRead (p : List Byte) (h : Hw) : CmdResult :=
  let first := u16 p 0
  let n := u16 p 2
  if n = 0 ∨ 64 < n ∨ 255 < first then no stBadParam rcEvrParamRange
  else match savedCopy h with
    | none => no stBadParam rcEvrNoSaved
    | some c =>
      if c.records.length ≤ first then no stBadParam rcEvrNoSaved
      else
        let got := (c.records.drop first).take n
        .ok h (le 8 ((c.records.head?.map (fun r => r.seq)).getD 0) ++ le 2 c.records.length ++ le 1 c.cause ++ zeros 5 ++ (got.map eventBytes).flatten)

def cmdEvrSavedRead : Cmd := { row := rowEvrSavedRead, reserved := [(4, 4)], body := fun _ p h => evrSavedRead p h }

/-- SOURCE of a transport's mark. -/
def markSource : Transport → Nat
  | .pcie => 0x0001
  | .tls _ => 0x0002
  | .pairing => 0x0000

/-- EVR.MARK: at most 100 in each station second of a session. A mark that finds the input queue full gets no SEQ: what the
reply then holds is free (log 3). -/
def evrMark (c : Call) (p : List Byte) (h : Hw) : CmdResult :=
  let sec := secOf h.time.now
  let used (s : Session) : Nat := if s.markSecond = sec then s.marks else 0
  let mine (s : Session) : Bool := s.number == c.hdr.session
  if c.hdr.session ≠ 0 ∧ h.cmd.sessions.any (fun s => mine s && decide (100 ≤ used s)) then no stBusy rcEvrMarkRate
  else
    let seq := h.evr.next
    let h := { h with cmd := { h.cmd with sessions := h.cmd.sessions.map (fun s => if mine s then { s with markSecond := sec, marks := used s + 1 } else s) } }
    let h := evrFlagged 8 0x1312 (markSource c.via) c.hdr.slice (slice p 0 48) h
    if h.evr.next = seq then .ok (drawn h) (freeBytes 8 h) else .ok h (le 8 seq)

def cmdEvrMark : Cmd := { row := rowEvrMark, body := fun c p h => evrMark c p h }

/-- EVR.STATUS. -/
def execEvrStatus (c : Call) (p : List Byte) : State → Host.Outcome State Fault Refusal := lift (runCmd cmdEvrStatus c p)
/-- EVR.READ. -/
def execEvrRead (c : Call) (p : List Byte) : State → Host.Outcome State Fault Refusal := lift (runCmd cmdEvrRead c p)
/-- EVR.SAVED_READ. -/
def execEvrSavedRead (c : Call) (p : List Byte) : State → Host.Outcome State Fault Refusal := lift (runCmd cmdEvrSavedRead c p)
/-- EVR.MARK. -/
def execEvrMark (c : Call) (p : List Byte) : State → Host.Outcome State Fault Refusal := lift (runCmd cmdEvrMark c p)

end Sys2Proof.Machine
end

