-- ==== Sys2Proof/Machine/Const.lean ====
section
/-! DEFINITION. The constellation: beacons, the manifest, peers and the CONST commands (R400 to R417). -/
namespace Sys2Proof.Machine

/-! ### Own causes (R407 to R409) -/

/-- The compatibility level of the running firmware (R498). -/
def ownCompat (h : Hw) : Nat := (if h.boot.running = 0 then h.boot.imageA else h.boot.imageB).compat

/-- The fingerprint of the Bloom in force. -/
def ownPrint (h : Hw) : List Byte := (h.cfg.bloom.map (fun b => b.fingerprint)).getD (zeros 16)

/-- A fingerprint matches an entry (R402). -/
def printMatches (e : ManifestEntry) (f : List Byte) : Bool := f == e.a || (e.bValid && f == e.b)

/-- Causes 1 to 3 of R407 for a module under the committed manifest: the compatibility level counts with or without an entry. -/
def listCauses (m : Manifest) (id compat : Nat) (f : List Byte) : Nat :=
  (match m.entries.find? (fun e => e.moduleId == id) with
  | none => 2
  | some e => flag (!printMatches e f) 2) + flag (compat < m.compatMin || m.compatMax < compat) 3

/-- The causes of DISSENTING that hold (R407). -/
def dissentCauses (h : Hw) : Nat :=
  match h.const.manifest with
  | none => 1
  | some m => listCauses m h.moduleId (ownCompat h) (ownPrint h)

/-- The causes of TIME-SUSPECT that hold (R408). -/
def suspectCauses (h : Hw) : Nat :=
  flag (3 ≤ timeClass h) 8 + flag (h.time.servo ≠ .locked && h.time.servo ≠ .holdover) 9 + flag (nsUnits 1000 < h.time.theta.natAbs) 10

/-- The payload of R416. -/
def constPayload (id old new causes : Nat) (h : Hw) : List Byte :=
  le 2 id ++ le 1 old ++ le 1 new ++ le 2 causes ++ zeros 2 ++ le 4 ((h.const.manifest.map (fun m => m.sequence)).getD 0) ++ zeros 4 ++ nowBytes h

/-- DISSENTING and TIME-SUSPECT as flags. -/
def ownFlags (h : Hw) : Nat := flag h.const.dissenting 0 + flag h.const.suspect 1

/-- Change one or both flags together, with CODE 0x1010 on a change. -/
def setOwnFlag (d t : Bool) (h : Hw) : Hw :=
  let old := ownFlags h
  let h := { h with const := { h.const with dissenting := d, suspect := t } }
  if ownFlags h = old then h else evr 0x1010 0x0000 (constPayload h.moduleId old (ownFlags h) h.const.causes h) h

/-- Set both flags: each entry and each exit has a record of its own, DISSENTING first (R409). -/
def setOwnFlags (d t : Bool) (h : Hw) : Hw := setOwnFlag d t (setOwnFlag d h.const.suspect h)

/-- Evaluate the module's own causes (R409): at a beacon's due time, at a swap, at a manifest commit. -/
def evalConst (beacon : Bool) (h : Hw) : Hw :=
  match constOf h with
  | none => setOwnFlags false false { h with const := { h.const with causes := 0, clean := 0, cleanSince := none } }
  | some _ =>
    let d := dissentCauses h
    let t := suspectCauses h
    let clean := if d ≠ 0 then 0 else if beacon then h.const.clean + 1 else h.const.clean
    let since := if t ≠ 0 then none else some (h.const.cleanSince.getD h.time.mono)
    let h := { h with const := { h.const with causes := d + t, clean := clean, cleanSince := since } }
    setOwnFlags (d ≠ 0 || (h.const.dissenting && clean < h.const.dissentHold)) (t ≠ 0 || h.const.suspect) h

/-- TIME_SUSPECT_HOLD_EXPIRY's effect. -/
def suspectExpiry (h : Hw) : Hw :=
  match h.const.cleanSince with
  | none => h
  | some t => if h.const.suspect ∧ t + h.const.timeHold * secUnit ≤ h.time.mono then setOwnFlags h.const.dissenting false h else h

/-- TIME_SUSPECT_HOLD_EXPIRY. -/
def execTimeSuspectHoldExpiry : State → Host.Outcome State Fault Refusal := lift suspectExpiry

/-! ### Sending beacons (R404, R405) -/

/-- Station time at which beacon n is due: n * 100 ms and the module's stagger. -/
def beaconDue (n id : Nat) : Nat := (n * 4096 + id) * 2 ^ 64 / 40960

/-- The beacon payload of R405. -/
def beaconPayload (due : Nat) (h : Hw) : List Byte :=
  be 1 1 ++ be 1 (flag h.const.dissenting 0 + flag h.const.suspect 1 + flag (h.mode == .test) 2 + flag h.const.manifest.isNone 3)
  ++ be 2 h.moduleId ++ be 4 (stateWord h) ++ be 2 ((pairOf h).elim 0xFFFF (fun s => s.partner)) ++ be 1 h.pair.partnerRole ++ be 1 (timeClass h)
  ++ be 4 (if h.boot.running = 0 then h.boot.imageA else h.boot.imageB).version ++ be 2 (ownCompat h) ++ be 2 h.const.causes
  ++ be 4 ((h.const.manifest.map (fun m => m.sequence)).getD 0) ++ be 8 (secOf due) ++ be 4 (fracOf due)
  ++ (leInt 4 ((h.time.theta * 10 ^ 9).tdiv (2 ^ 64))).reverse
  ++ be 4 (match errorBound h with | some e => sat32 (e / (1000 * psUnit)) | none => 0xFFFFFFFF)
  ++ be 4 h.const.sequence ++ ownPrint h ++ be 8 h.time.grandmaster ++ zeros 24

/-- The states in which a member sends beacons. -/
def beaconStates (h : Hw) : Bool := h.mode == .ready || h.mode == .serving || h.mode == .test

/-- The beacon's frame: on both ports of pair 4, each with a new stNum (R404). -/
def beaconGoose (c : ConstSection) (payload : List Byte) (h : Hw) : Goose :=
  { block := .beacon, ports := [8, 9], priority := 6, vlan := some c.vlan, mac := some c.mac, gocbRef := c.gocbRef, datSet := c.datSet, goId := c.goId
    timeAllowedMs := 350, t := h.time.now, stNum := h.const.sequence, payload := payload }

/-- BEACON_SEND's effect: the evaluation, then the beacon of the last due time passed. -/
def beaconSend (h : Hw) : Hw :=
  match constOf h with
  | none => h
  | some c =>
    let n := (h.time.now * 40960 / 2 ^ 64 - h.moduleId) / 4096
    if beaconStates h = false ∨ n + 1 = h.const.nextBeacon ∨ h.time.now < beaconDue n h.moduleId then h
    else
      let h := evalConst true { h with const := { h.const with nextBeacon := n + 1 } }
      let pay := beaconPayload (beaconDue n h.moduleId) h
      let h := { h with const := { h.const with sequence := (h.const.sequence + 1) % 2 ^ 32 } }
      if c.key.elim false (fun k => keyUsable k h) then sendGoose c.key (beaconGoose c pay h) { h with const := { h.const with sent := inc32 h.const.sent } } else h

/-- BEACON_SEND. -/
def execBeaconSend : State → Host.Outcome State Fault Refusal := lift beaconSend

/-! ### Peers (R406, R410) -/

/-- Flags of a peer in a record (R416). -/
def peerFlags (id : Nat) (h : Hw) : Nat :=
  match tfind h.const.peers id with
  | none => 12
  | some p => flag p.dissenting 0 + flag p.suspect 1 + flag p.absent 2 + flag (gateClosed id h) 3

/-- The local view of a peer: its causes (R410). -/
def viewCauses (b : Beacon) (inversion : Bool) (h : Hw) : Nat :=
  (match h.const.manifest with | none => 2 | some m => listCauses m b.moduleId b.compat b.fingerprint)
  + flag (bit b.flags 0) 4 + flag (3 ≤ b.cls) 8 + flag inversion 11

/-- A peer's view: its flags but the gate's, and its causes (R410). -/
def peerView (id : Nat) (h : Hw) : Nat × Nat := (peerFlags id h % 8, (tget h.const.peers id {}).causes)

/-- Settle a peer's view; a change of it for a bound peer writes CODE 0x1011. -/
def setPeer (id : Nat) (p : Peer) (h : Hw) : Hw :=
  let g := { h with const := { h.const with peers := tset h.const.peers id p } }
  let bound := ((constOf h).map (fun c => c.bindings.any (fun b => b.peer == id))).getD false
  if peerView id g ≠ peerView id h ∧ bound then evr 0x1011 0x0000 (constPayload id (peerFlags id h) (peerFlags id g) p.causes g) g else g

/-- A peer's view under its last beacon. -/
def viewOf (b : Beacon) (inversion : Bool) (p : Peer) (h : Hw) : Peer :=
  let c := viewCauses b inversion h
  { p with beacon := b, inversion := inversion, causes := c, dissenting := c % 32 ≠ 0, suspect := bit b.flags 1 || 3 ≤ b.cls || inversion }

/-- A beacon that was sent later than it arrived, by more than both error bounds and 1 µs (R410). -/
def inverted (b : Beacon) (h : Hw) : Bool :=
  match errorBound h with
  | none => false
  | some e => h.time.now * 10 ^ 12 + e + (b.errorNs + 1000) * 1000 * psUnit < ofSecFrac b.sec b.frac * 10 ^ 12

/-- BEACON_RX's effect. -/
def beaconRx (b : Beacon) (h : Hw) : Hw :=
  match constOf h with
  | none => h
  | some c =>
    if modeCode h.mode < 4 ∨ 7 < modeCode h.mode then h
    else if b.authentic = false ∨ c.key.elim true (fun k => !keyUsable k h) ∨ b.version ≠ 1 then { h with const := { h.const with invalid := inc32 h.const.invalid } }
    else if b.moduleId = h.moduleId then
      if b.ownMac then { h with const := { h.const with invalid := inc32 h.const.invalid } }
      else
        let due := h.const.clashSecond ≠ some (secOf h.time.now)
        let h := { h with const := { h.const with clashes := inc32 h.const.clashes, clashSecond := some (secOf h.time.now) } }
        if due then evrOpen 0x10 0x0000 h else h
    else
      let old := tfind h.const.peers b.moduleId
      if old.elim false (fun p => !laterSeq b.sequence p.beacon.sequence) then { h with const := { h.const with invalid := inc32 h.const.invalid } }
      else
        let h := { h with const := { h.const with received := inc32 h.const.received, heard := max h.const.heard b.manifest } }
        let p := viewOf b (inverted b h) { old.getD {} with at_ := h.time.mono, absent := false } h
        setPeer b.moduleId p h

/-- BEACON_RX. -/
def execBeaconRx (b : Beacon) : State → Host.Outcome State Fault Refusal := lift (beaconRx b)

/-- PEER_ABSENT's effect. -/
def peerAbsent (id : Nat) (h : Hw) : Hw :=
  match tfind h.const.peers id with
  | none => h
  | some p =>
    if p.absent = false ∧ p.at_ + nsUnits (h.const.absentMs * 1000000) ≤ h.time.mono then setPeer id { p with absent := true } h else h

/-- PEER_ABSENT. -/
def execPeerAbsent (id : Nat) : State → Host.Outcome State Fault Refusal := lift (peerAbsent id)

/-- Every peer's view again, after a manifest commit or a swap. -/
def reviewPeers (h : Hw) : Hw :=
  h.const.peers.foldl (fun h e => setPeer e.1 (viewOf e.2.beacon e.2.inversion e.2 h) h) h

/-- What a swap does to the constellation unit: tuned holds end, and the causes are evaluated (R409, R414). -/
def constSwap (h : Hw) : Hw :=
  let h := { h with const := { h.const with dissentHold := 10, timeHold := 10, absentMs := 350 } }
  reviewPeers (evalConst false { h with moduleId := ((constOf h).map (fun c => c.moduleId)).getD 0xFFFF })

/-! ### The image (R401) -/

/-- The constellation section is consistent (R401); `linePartner` gives the partner of each line the image defines. -/
def checkConst (c : ConstSection) (linePartner : Nat → Option Nat) (h : Hw) : Option Nat :=
  let bad := 4095 < c.moduleId || c.constellation == 0 || 2 ^ 32 ≤ c.constellation || 4095 < c.vlan || c.key.elim true (fun k => !macHandle k h)
    || c.bindings.any (fun b => b.peer == c.moduleId || 4095 < b.peer)
    || hasRepeat (c.bindings.flatMap (fun b => b.streams)) || hasRepeat (c.bindings.flatMap (fun b => b.groups)) || hasRepeat (c.bindings.flatMap (fun b => b.lines))
    || c.bindings.any (fun b => b.lines.any (fun l => linePartner l != some b.peer))
  if bad then some rcConstConfig else none

/-! ### The commands (R413 to R415) -/

/-- The CONST.STATUS payload. -/
def constStatusBytes (h : Hw) : List Byte :=
  let s := h.const
  let bound := ((constOf h).map (fun c => c.bindings.map (fun b => b.peer))).getD []
  let seq := (s.manifest.map (fun m => m.sequence)).getD 0
  le 2 h.moduleId ++ le 1 (flag s.dissenting 0 + flag s.suspect 1 + flag (constOf h).isNone 2 + flag s.manifest.isSome 3 + flag (decide (seq < s.heard)) 4)
  ++ zeros 1 ++ le 2 s.causes ++ le 2 (ownCompat h) ++ le 4 seq ++ le 4 s.heard
  ++ le 2 (s.peers.filter (fun e => !e.2.absent)).length ++ le 2 (bound.filter (fun p => gateClosed p h)).length
  ++ le 2 (s.peers.filter (fun e => e.2.dissenting)).length ++ le 2 (s.peers.filter (fun e => e.2.suspect)).length
  ++ ownPrint h ++ le 4 s.sent ++ le 4 s.received ++ le 4 s.invalid ++ le 4 s.clashes ++ zeros 8

def constStatus (p : List Byte) (h : Hw) : CmdResult :=
  let h' := if bit (u8 p 0) 0 then { h with const := { h.const with sent := 0, received := 0, invalid := 0, clashes := 0 } } else h
  .ok h' (constStatusBytes h)

def cmdConstStatus : Cmd := { row := rowConstStatus, reserved := [(1, 3)], reservedBits := [(0, 1, 0xFE)], body := fun _ p h => constStatus p h }

/-- A command of the group other than CONST.STATUS needs a section (R413). -/
def withSection (f : ConstSection → CmdResult) (h : Hw) : CmdResult :=
  match constOf h with
  | none => no stStateRefused rcConstNoSection
  | some c => f c

/-- A peer entry of R415; for a peer never heard the fields of its last beacon are the free bytes given (log 3). -/
def peerEntry (id : Nat) (free : List Byte) (c : ConstSection) (h : Hw) : List Byte :=
  let listed := (h.const.manifest.map (fun m => m.entries.any (fun e => e.moduleId == id))).getD false
  let heard := tfind h.const.peers id
  let p : Peer := heard.getD { absent := true, causes := flag (!listed) 1 }
  let b := p.beacon
  le 2 id ++ le 1 (flag (c.bindings.any (fun x => x.peer == id)) 0 + flag p.absent 1 + flag p.dissenting 2 + flag p.suspect 3 + flag (gateClosed id h) 4 + flag (!listed) 5)
  ++ (if heard.isSome then
      le 1 b.cls ++ le 4 b.stateWord ++ le 2 b.partner ++ le 1 b.partnerRole ++ zeros 1 ++ le 2 b.compat ++ le 2 p.causes ++ le 4 b.manifest ++ b.fingerprint
      ++ le 4 (sat32 ((h.time.mono - p.at_) * 1000 / 2 ^ 64)) ++ le 4 b.sequence ++ leInt 4 b.theta
    else slice free 0 8 ++ zeros 1 ++ slice free 8 2 ++ le 2 p.causes ++ slice free 10 20 ++ le 4 0xFFFFFFFF ++ slice free 30 8)

/-- CONST.PEER_READ: the spec does not lay out the first 8 bytes of the reply; they are free (log 3). -/
def constPeerRead (c : ConstSection) (p : List Byte) (h : Hw) : CmdResult :=
  let first := u16 p 0
  let count := u16 p 2
  let filt := u8 p 4
  if 4095 < first ∨ count = 0 ∨ 64 < count ∨ 2 < filt then no stBadParam rcConstParamRange
  else
    let want (id : Nat) : Bool := id != h.moduleId && (match filt with
      | 0 => true
      | 1 => c.bindings.any (fun b => b.peer == id)
      | _ => match tfind h.const.peers id with | none => true | some x => x.absent || x.dissenting || x.suspect)
    let ids := (((List.range (4096 - first)).map (fun i => first + i)).filter want).take count
    .ok (drawn h) (freeBytes 8 h ++ ids.zipIdx.flatMap (fun e => peerEntry e.1 ((freeBytes (46 + 38 * e.2) h).drop (8 + 38 * e.2)) c h))

def cmdConstPeerRead : Cmd :=
  { row := rowConstPeerRead, reserved := [(5, 3)], body := fun _ p h => withSection (fun c => constPeerRead c p h) h }

/-- An entry of the manifest's layout (R402). -/
def readEntry (bs : List Byte) (o : Nat) : ManifestEntry :=
  { moduleId := u16 bs o, bValid := bit (u8 bs (o + 2)) 0, a := slice bs (o + 8) 16, b := slice bs (o + 24) 16 }

/-- The reserved fields of an entry are zero. -/
def entryOk (bs : List Byte) (o : Nat) : Bool := u16 bs o ≤ 4095 && u8 bs (o + 2) < 2 && zeroAt bs (o + 3) 5

/-- Module IDs strictly rise. -/
def risingIds : List ManifestEntry → Bool
  | a :: b :: r => a.moduleId < b.moduleId && risingIds (b :: r)
  | _ => true

/-- Read a whole manifest; none where the layout or the order is outside R402. -/
def readManifest (bs : List Byte) : Option Manifest :=
  let n := u16 bs 12
  let offs := (List.range n).map (fun i => 32 + 40 * i)
  let m : Manifest := { sequence := u32 bs 4, constellation := u32 bs 8, compatMin := u16 bs 14, compatMax := u16 bs 16, entries := offs.map (readEntry bs) }
  if u8 bs 0 = 1 ∧ zeroAt bs 1 3 ∧ zeroAt bs 18 14 ∧ 1 ≤ n ∧ n ≤ 4096 ∧ m.compatMin ≤ m.compatMax ∧ bs.length = 32 + 40 * n + 132
      ∧ offs.all (entryOk bs) ∧ risingIds m.entries then some m else none

/-- The committed header and entries as CONST.MANIFEST_READ returns them. -/
def manifestHeader (m : Manifest) : List Byte :=
  le 1 1 ++ zeros 3 ++ le 4 m.sequence ++ le 4 m.constellation ++ le 2 m.entries.length ++ le 2 m.compatMin ++ le 2 m.compatMax ++ zeros 14
def entryBytes (e : ManifestEntry) : List Byte := le 2 e.moduleId ++ le 1 (flag e.bValid 0) ++ zeros 5 ++ e.a ++ e.b

/-- Commit a manifest: CODE 0x1012, then the evaluation of the module's own causes and of every peer (R403, R409). -/
def commitManifest (m : Manifest) (h : Hw) : Hw :=
  let f := ownFlags h
  let h := evalConst false { h with const := { h.const with manifest := some m, staged := none } }
  reviewPeers (evr 0x1012 0x0000 (constPayload h.moduleId f (ownFlags h) h.const.causes h) h)

/-- CONST.MANIFEST_LOAD. -/
def constManifestLoad (s : ConstSection) (c : Call) (p : List Byte) (h : Hw) : CmdResult :=
  let seq := u32 p 0
  let frag := u16 p 4
  let n := u16 p 6
  let len := u32 p 8
  let old := h.const.staged
  if n = 0 ∨ 41 < n ∨ len = 0 ∨ 4096 < len then no stBadParam rcConstParamRange
  else if n ≤ frag ∨ (frag + 1 < n ∧ len ≠ 4096) ∨ old.elim false (fun g => seq < g.sequence || (seq == g.sequence && g.fragments != n)) then no stBadParam rcConstFragment
  else
    let g : Staged := match old with
      | some g => if g.sequence = seq then g else { sequence := seq, fragments := n }
      | none => { sequence := seq, fragments := n }
    let g : Staged := { g with parts := tset g.parts frag (p.drop 16) }
    let data : List Byte := (g.parts.map (fun e => e.2)).flatten
    let pay := le 4 data.length ++ zeros 4
    if g.parts.length < n then .ok { h with const := { h.const with staged := some g } } pay
    else if c.crypto.signed = false then no stAuthFailed rcConstManifestSig
    else match readManifest data with
      | none => no stBadParam rcConstManifestFormat
      | some m =>
        if m.constellation ≠ s.constellation ∨ m.sequence ≠ seq then no stBadParam rcConstManifestFormat
        else if h.const.manifest.elim false (fun x => m.sequence ≤ x.sequence) then no stReplay rcConstManifestOld
        else .ok (commitManifest m h) pay

def cmdConstManifestLoad : Cmd :=
  { row := rowConstManifestLoad, reserved := [(12, 4)], body := fun c p h => withSection (fun s => constManifestLoad s c p h) h }

def constManifestRead (p : List Byte) (h : Hw) : CmdResult :=
  let first := u16 p 0
  let count := u16 p 2
  match h.const.manifest with
  | none => no stBadParam rcConstParamRange
  | some m =>
    if count = 0 ∨ 64 < count ∨ m.entries.length < first + count then no stBadParam rcConstParamRange
    else .ok h (manifestHeader m ++ (((m.entries.drop first).take count).map entryBytes).flatten)

def cmdConstManifestRead : Cmd :=
  { row := rowConstManifestRead, reserved := [(4, 4)], body := fun _ p h => withSection (fun _ => constManifestRead p h) h }

def constTune (p : List Byte) (h : Hw) : CmdResult :=
  let d := u16 p 0
  let t := u16 p 2
  let a := u16 p 4
  let s := h.const
  if 600 < d ∨ 3600 < t ∨ (a ≠ 0 ∧ (a < 200 ∨ 10000 < a)) then no stBadParam rcConstParamRange
  else done { h with const := { s with
    dissentHold := if d = 0 then s.dissentHold else d
    timeHold := if t = 0 then s.timeHold else t
    absentMs := if a = 0 then s.absentMs else a } }

def cmdConstTune : Cmd := { row := rowConstTune, reserved := [(6, 10)], body := fun _ p h => withSection (fun _ => constTune p h) h }

/-- CONST.STATUS. -/
def execConstStatus (c : Call) (p : List Byte) : State → Host.Outcome State Fault Refusal := lift (runCmd cmdConstStatus c p)
/-- CONST.PEER_READ. -/
def execConstPeerRead (c : Call) (p : List Byte) : State → Host.Outcome State Fault Refusal := lift (runCmd cmdConstPeerRead c p)
/-- CONST.MANIFEST_READ. -/
def execConstManifestRead (c : Call) (p : List Byte) : State → Host.Outcome State Fault Refusal := lift (runCmd cmdConstManifestRead c p)
/-- CONST.TUNE. -/
def execConstTune (c : Call) (p : List Byte) : State → Host.Outcome State Fault Refusal := lift (runCmd cmdConstTune c p)

end Sys2Proof.Machine
end

