-- ==== Sys2Proof/Machine/Filter.lean ====
section
/-! DEFINITION. Filter and decimation chains (R183 to R210). -/
namespace Sys2Proof.Machine

/-! ### Stage arithmetic (R186) -/

/-- The non-zero coefficients of a half-band of a length: the centre, then those at odd offsets 1, 3, …; the formula of
R186 rounded to single precision (log 10). -/
def halfBand : Nat → List F32
  | 7 => [0x3F0E0DA3#32, 0x3E63E4BB#32]
  | 11 => [0x3F00409F#32, 0x3E8AAD07#32, 0xBCAEDA6B#32]
  | 15 => [0x3F00001A#32, 0x3E95FF15#32, 0xBD478FA5#32, 0x3BBCB17A#32]
  | 19 => [0x3EFFFD4D#32, 0x3E9B00F1#32, 0xBD88E4A1#32, 0x3C868BEE#32, 0xBB17973C#32]
  | 23 => [0x3F0000D9#32, 0x3E9D9BB3#32, 0xBD9FF249#32, 0x3CD81F3A#32, 0xBBEE456F#32, 0x3A972888#32]
  | 27 => [0x3EFFFF00#32, 0x3E9F1C67#32, 0xBDAEAF20#32, 0x3D0C22B8#32, 0xBC5222E9#32, 0x3B796578#32, 0xBA2C52DB#32]
  | 31 => [0x3F00004E#32, 0x3EA0117A#32, 0xBDB889FA#32, 0x3D2447AD#32, 0xBC92C6BC#32, 0x3BE8AE4F#32, 0xBB1229FB#32, 0x39D7209A#32]
  | 35 => [0x3EFFFF9D#32, 0x3EA0B4B0#32, 0xBDBF63A8#32, 0x3D366163#32, 0xBCB616BB#32, 0x3C2B12CB#32, 0xBB8D3524#32, 0x3AB9BF0F#32, 0xB98F598D#32]
  | 39 => [0x3F000021#32, 0x3EA12850#32, 0xBDC4544F#32, 0x3D4419D2#32, 0xBCD3175D#32, 0x3C5D93CB#32, 0xBBD72686#32, 0x3B378F4E#32, 0xBA7AB62A#32, 0x3948B54A#32]
  | 43 => [0x3EFFFFD3#32, 0x3EA17C1F#32, 0xBDC7FE7B#32, 0x3D4EA707#32, 0xBCEAAED2#32, 0x3C850A3C#32, 0xBC0FE7AA#32, 0x3B8F5D8D#32, 0xBAFB96EF#32, 0x3A313B64#32, 0xB9120746#32]
  | 47 => [0x3F000010#32, 0x3EA1BB85#32, 0xBDCAC956#32, 0x3D56E691#32, 0xBCFDE311#32, 0x3C98388E#32, 0xBC31BA3D#32, 0x3BC47D1C#32, 0xBB48080E#32, 0x3AB3CE30#32, 0xBA01F9D7#32, 0x38DB2CAE#32]
  | 51 => [0x3EFFFFE9#32, 0x3EA1EC1A#32, 0xBDCCF539#32, 0x3D5D71C5#32, 0xBD06CC3F#32, 0x3CA89811#32, 0xBC50478A#32, 0x3BF81C59#32, 0xBB8B9B67#32, 0x3B10D3E8#32, 0xBA84EF75#32, 0x39C4642A#32, 0xB8A8B686#32]
  | 55 => [0x3F000008#32, 0x3EA21289#32, 0xBDCEAE28#32, 0x3D62B660#32, 0xBD0D4529#32, 0x3CB68824#32, 0xBC6B6CB2#32, 0x3C144700#32, 0xBBB3672D#32, 0x3B4D0045#32, 0xBAD83DDA#32, 0x3A4A212A#32, 0xB9980ECB#32, 0x3884A8C3#32]
  | 59 => [0x3EFFFFF3#32, 0x3EA23129#32, 0xBDD01135#32, 0x3D6701C8#32, 0xBD12A52C#32, 0x3CC267CB#32, 0xBC81AA7D#32, 0x3C2A872D#32, 0xBBD9ECC4#32, 0x3B858FF1#32, 0xBB1AB323#32, 0x3AA59F7A#32, 0xBA1D4AEB#32, 0x39705BBE#32, 0xB8546A48#32]
  | 63 => [0x3F000005#32, 0x3EA24A2F#32, 0xBDD13379#32, 0x3D6A8D00#32, 0xBD17256D#32, 0x3CCC8D39#32, 0xBC8C2739#32, 0x3C3EB4FB#32, 0xBBFE5130#32, 0x3BA46781#32, 0xBB4BD3FD#32, 0x3AEEFA59#32, 0xBA81A2A7#32, 0x39F9AE01#32, 0xB941524E#32, 0x382CB78E#32]
  | _ => []

/-- The taps of a half-band that are not zero, as position and coefficient, in rising position. -/
def halfBandTaps (len : Nat) : List (Nat × F32) :=
  let c := (len - 1) / 2
  match halfBand len with
  | [] => []
  | m :: odd =>
    let side := odd.zipIdx.map (fun e => (2 * e.2 + 1, e.1))
    (side.reverse.map (fun e => (c - e.1, e.2))) ++ [(c, m)] ++ side.map (fun e => (c + e.1, e.2))

/-- Decimation of a stage. -/
def stageDec (s : FiltStage) : Nat := if s.kind = 2 then 2 else s.decimation

/-- The taps a stage multiplies by. -/
def stageTaps (s : FiltStage) : List (Nat × F32) :=
  if s.kind = 2 then halfBandTaps s.taps else (List.range s.taps).map (fun i => (i, tget s.coefs i 0#32))

/-- A sample through the integrators: each adds what the one before it holds. -/
def integrate : List (BitVec 72) → BitVec 72 → List (BitVec 72) × BitVec 72
  | [], x => ([], x)
  | y :: ys, x => let v := y + x; let (t, o) := integrate ys v; (v :: t, o)

/-- A sample through the combs of differential delay 1. -/
def comb : List (BitVec 72) → BitVec 72 → List (BitVec 72) × BitVec 72
  | [], x => ([], x)
  | y :: ys, x => let (t, o) := comb ys (x - y); (x :: t, o)

/-- One sample into one stage; `keep` says that its output is kept (R186, R187). -/
def stageStep (s : FiltStage) (keep : Bool) (code : Int) (x : F32) (r : StageRegs) : StageRegs × F32 :=
  if s.kind = 1 then
    let z := List.replicate s.order 0#72
    let (i, o) := integrate (if r.integrators = [] then z else r.integrators) (BitVec.ofInt 72 code)
    if keep then
      let (c, y) := comb (if r.combs = [] then z else r.combs) o
      ({ r with integrators := i, combs := c }, fMul (fOfInt y.toInt) (fOfFrac 1 (s.decimation ^ s.order)))
    else ({ r with integrators := i }, 0#32)
  else
    let line := (x :: r.line).take s.taps
    ({ r with line := line }, if keep then (stageTaps s).foldl (fun a e => fAdd a (fMul e.2 (line.getD e.1 0#32))) 0#32 else 0#32)

/-- The cascade for one channel at input index n: the registers after it, and the output if it is kept. -/
def cascade (n ch : Nat) : List FiltStage → Nat → Nat → Int → F32 → Tbl StageRegs → Tbl StageRegs × Option F32
  | [], _, _, _, x, regs => (regs, some x)
  | s :: rest, i, d, code, x, regs =>
    let d' := d * stageDec s
    let keep := n % d' = 0
    let (r, y) := stageStep s keep code x (tget regs (8 * i + ch) {})
    let regs := tset regs (8 * i + ch) r
    if keep then cascade n ch rest (i + 1) d' code y regs else (regs, none)

/-! ### Delay and support (R187 to R190) -/

/-- Product of the decimations. -/
def chainDec (l : List FiltStage) : Nat := l.foldl (fun d s => d * stageDec s) 1

/-- Linear phase: coefficients symmetric or antisymmetric in their bit patterns (R188). -/
def linearPhase (s : FiltStage) : Bool :=
  let c (i : Nat) : F32 := tget s.coefs i 0#32
  let l := List.range s.taps
  l.all (fun i => c i == c (s.taps - 1 - i)) || l.all (fun i => if 2 * i + 1 = s.taps then c i &&& 0x7FFFFFFF#32 == 0#32 else c i == fNeg (c (s.taps - 1 - i)))

/-- Delay of a stage in its own input samples. -/
def stageDelay (s : FiltStage) : Rat :=
  if s.kind = 1 then mkRat (s.order * (s.decimation - 1)) 2
  else if s.kind = 2 ∨ linearPhase s then mkRat (s.taps - 1) 2
  else fRat s.delay

/-- Group delay in s of a cascade fed at rate f. -/
def groupDelay : List FiltStage → Nat → Nat → Rat
  | [], _, _ => 0
  | s :: r, f, d => stageDelay s * mkRat d f + groupDelay r f (d * stageDec s)

/-- Length of a stage's impulse response. -/
def stageLen (s : FiltStage) : Nat := if s.kind = 1 then s.order * (s.decimation - 1) + 1 else s.taps

/-- Support S less 1. -/
def support : List FiltStage → Nat → Nat
  | [], _ => 0
  | s :: r, d => (stageLen s - 1) * d + support r (d * stageDec s)

/-- Input rate of a chain. -/
def chainRate (c : ChainConfig) (h : Hw) : Nat := if c.fast then chanRate (c.inputs.headD 0) h else fGrid h

/-- Group delay in 2^-64 s. -/
def tau (c : ChainConfig) (h : Hw) : Nat := (groupDelay c.stages (chainRate c h) 1 * (2 ^ 64 : Nat)).floor.toNat

/-- Support S in input samples. -/
def supportOf (c : ChainConfig) : Nat := 1 + support c.stages 1

/-! ### States (R191 to R193) -/

/-- A chain. -/
def chainAt (n : Nat) (h : Hw) : Chain := tget h.filt.chains n {}
/-- Replace a chain. -/
def putChain (n : Nat) (c : Chain) (h : Hw) : Hw := { h with filt := { h.filt with chains := tset h.filt.chains n c } }

/-- A record of R209. -/
def filtRecord (code n ch cmp old new : Nat) (v : F32) (t : Nat) (h : Hw) : Hw :=
  evr code (0x0800 + n) (le 1 ch ++ le 1 cmp ++ le 1 old ++ le 1 new ++ leF v ++ time40Bytes (to40 t)) h

/-- Move a chain to a state: registers are cleared on entry to PRIMING, comparators go idle on entry to STOPPED. -/
def moveChain (n new : Nat) (h : Hw) : Hw :=
  let c := chainAt n h
  if c.state = new then h
  else
    let c' : Chain := match new with
      | 0 => { c with state := 0, formed := [], gathering := [], lastGood := [], comparators := tmap c.comparators (fun _ x => { x with asserted := false }) }
      | 1 => { c with state := 1, consumed := 0, regs := [], countdown := [], gathering := [], formed := [], ring := [], newest := 0, firstDue := false }
      | 3 => { c with state := 3, formed := [], gathering := [], suspensions := inc32 c.suspensions }
      | _ => { c with state := new, firstDue := true }
    filtRecord 0x0812 n 0 0 c.state new 0#32 h.time.now (putChain n c' h)

/-- The FAST source of a chain is lost (R191). -/
def inputsLost (c : ChainConfig) (h : Hw) : Bool := c.fast && c.inputs.any (fun i => !chanLive i h)

/-- A chain starts: PRIMING, and SUSPENDED at once where its source is lost. -/
def startChain (n : Nat) (h : Hw) : Hw :=
  let h := moveChain n 1 h
  if inputsLost (chainAt n h).cfg h then moveChain n 3 h else h

/-- Chains follow the links: suspended on a loss, primed on a return (R191). -/
def followLinks (h : Hw) : Hw :=
  h.filt.chains.foldl (fun h e =>
    let c := chainAt e.1 h
    if (c.state = 1 ∨ c.state = 2) ∧ inputsLost c.cfg h then moveChain e.1 3 h
    else if c.state = 3 ∧ inputsLost c.cfg h = false then moveChain e.1 1 h
    else h) h

/-- Stop every chain, or the chains of one owner slice (R191, R193). -/
def stopChains (sel : Chain → Bool) (h : Hw) : Hw :=
  h.filt.chains.foldl (fun h e => if sel (chainAt e.1 h) then moveChain e.1 0 h else h) h

/-! ### Samples (R187, R189, R190) -/

/-- The states in which chains process (R192). -/
def chainsRun (h : Hw) : Bool := h.mode == .ready || h.mode == .serving || h.mode == .test

/-- One input sample of every channel: code, value, not good. -/
def feedChain (n idx : Nat) (ins : List (Int × F32 × Bool)) (h : Hw) : Hw :=
  let c := chainAt n h
  if c.state ≠ 1 ∧ c.state ≠ 2 then h
  else
    let s := supportOf c.cfg
    let count := c.consumed + 1
    let cd : Tbl Nat := ins.zipIdx.map (fun e => (e.2, if e.1.2.2 then s else tget c.countdown e.2 0 - 1))
    let (regs, outs) := ins.zipIdx.foldl (fun (a : Tbl StageRegs × List (Option F32)) e =>
      let (r, o) := cascade idx e.2 c.cfg.stages 0 1 e.1.1 e.1.2.1 a.1
      (r, a.2 ++ [o])) (c.regs, [])
    let h := putChain n { c with consumed := count, countdown := cd, regs := regs } h
    let h := if c.state = 1 ∧ s ≤ count then moveChain n 2 h else h
    match outs.mapM id with
    | none => h
    | some vs =>
      let c := chainAt n h
      let t := idx * 2 ^ 64 / chainRate c.cfg h - tau c.cfg h
      let warm := count < s
      let o : FiltOut := { time := t, flags := flag warm 0 + flag (cd.any (fun e => 0 < e.2)) 1 + flag (c.firstDue && !warm) 2, values := vs }
      putChain n { c with formed := c.formed ++ [o], firstDue := c.firstDue && warm } h

/-- A settled row into every ROW chain (R192). -/
def feedRow (r : Row) (h : Hw) : Hw :=
  if chainsRun h = false then h
  else h.filt.chains.foldl (fun h e =>
    let c := chainAt e.1 h
    if c.cfg.fast then h
    else feedChain e.1 r.k (c.cfg.inputs.map (fun i =>
      let s : Slot := tget r.slots i { origin := 6 }
      (0, s.value, s.origin == 2 || s.origin == 4 || s.origin == 5 || s.q % 4 != 0))) h) h

/-- Samples of one link into the FAST chains: a chain goes on when every channel of an index is there. -/
def feedFast (idx : Nat) (vals : List (Nat × Int)) (h : Hw) : Hw :=
  if chainsRun h = false then h
  else h.filt.chains.foldl (fun h e =>
    let c := chainAt e.1 h
    if c.cfg.fast = false ∨ (c.state ≠ 1 ∧ c.state ≠ 2) then h
    else
      let mine := c.cfg.inputs.zipIdx.filterMap (fun (i : Nat × Nat) => (tfind vals i.1).map (fun v => (i.2, v, v == -32768)))
      if mine = [] then h
      else
        let have_ := tget c.gathering idx [] ++ mine
        if have_.length < c.cfg.inputs.length then putChain e.1 { c with gathering := tset c.gathering idx have_ } h
        else
          let h := putChain e.1 { c with gathering := c.gathering.filter (fun g => idx < g.1) } h
          feedChain e.1 idx ((List.range c.cfg.inputs.length).map (fun i =>
            match have_.find? (fun x => x.1 == i) with | some (_, v, b) => (v, fOfInt v, b) | none => (0, 0#32, false))) h) h

/-! ### Comparators (R200 to R203) -/

/-- The value a comparator looks at. -/
def looked (m : Nat) (y : F32) : F32 := if m = 3 then fAbs y else y

/-- The level at which an asserted comparator deasserts. -/
def releaseLevel (k : Comparator) : F32 := if k.mode = 2 then fAdd k.level k.hysteresis else fSub k.level k.hysteresis

/-- What a comparator does between two unflagged outputs: some true asserts, some false deasserts (R200). -/
def crossing (k : Comparator) (ya yb : F32) : Option Bool :=
  let a := looked k.mode ya
  let b := looked k.mode yb
  if k.mode = 0 then none
  else if k.asserted then
    (if k.mode = 2 then (if fLt (releaseLevel k) b then some false else none) else if fLt b (releaseLevel k) then some false else none)
  else if k.mode = 2 then (if fLe k.level a ∧ fLt b k.level then some true else none)
  else if fLe a k.level ∧ fLt k.level b then some true else none

/-- The interpolated time of R201 in 2^-64 s; free where the two values do not differ or are not finite (log 3). -/
def crossTime (k : Comparator) (up : Bool) (ta : Nat) (ya : F32) (tb : Nat) (yb : F32) (h : Hw) : Nat :=
  let a := looked k.mode ya
  let b := looked k.mode yb
  let v := if up then k.level else releaseLevel k
  if fRat a = fRat b ∨ fFinite a = false ∨ fFinite b = false ∨ fFinite v = false then Config.freeNat h.free
  else ((ta : Rat) + (fRat v - fRat a) / (fRat b - fRat a) * ((tb : Rat) - (ta : Rat))).floor.toNat

/-- One comparator against a new unflagged output: its record unless withheld, and an assert to the trigger engine and to bound functions. -/
def compareOne (n ch cmp tb : Nat) (yb : F32) (h : Hw) : Hw :=
  let c := chainAt n h
  let k := tget c.comparators (2 * ch + cmp) {}
  match tfind c.lastGood ch with
  | none => h
  | some (ta, ya) => match crossing k ya yb with
    | none => h
    | some up =>
      let t := crossTime k up ta ya tb yb h
      let due := k.recorded.elim true (fun r => r + nsUnits (k.holdoffMs * 1000000) ≤ h.time.mono)
      let k' : Comparator := { k with asserted := up, recorded := if due then some h.time.mono else k.recorded }
      let h := putChain n { c with
        comparators := tset c.comparators (2 * ch + cmp) k'
        asserts := if up then inc32 c.asserts else c.asserts
        withheld := if due then c.withheld else inc32 c.withheld } (drawn h)
      let h := if due then filtRecord (if up then 0x0810 else 0x0811) n ch cmp 0 0 yb t h else h
      if up then launch { source := .chain n ch cmp, time := to40 t } { h with fab := { h.fab with events := h.fab.events ++ [.chain n] } } else h

/-- An output enters the ring (R199), and its comparators look at it (R200). -/
def filterOutput (n : Nat) (h : Hw) : Hw :=
  let c := chainAt n h
  match c.formed with
  | [] => h
  | o :: rest =>
    let h := putChain n { c with
      formed := rest, ring := (o :: c.ring).take (c.cfg.ringSize / 48), newest := c.newest + 1
      questionable := if bit o.flags 1 then inc32 c.questionable else c.questionable } h
    if o.flags % 4 ≠ 0 then h
    else
      let h := (List.range o.values.length).foldl (fun h ch =>
        compareOne n ch 1 o.time (o.values.getD ch 0#32) (compareOne n ch 0 o.time (o.values.getD ch 0#32) h)) h
      let c := chainAt n h
      putChain n { c with lastGood := o.values.zipIdx.map (fun e => (e.2, o.time, e.1)) } h

/-! ### Checks (R184, R185, R195, R197) -/

/-- A stage's parameters are in their ranges (R184). -/
def stageRange (s : FiltStage) : Bool :=
  match s.kind with
  | 1 => 1 ≤ s.order && s.order ≤ 5 && 2 ≤ s.decimation && s.decimation ≤ 1024
  | 2 => 7 ≤ s.taps && s.taps ≤ 63 && s.taps % 4 == 3
  | 3 => 1 ≤ s.taps && s.taps ≤ 256 && 1 ≤ s.decimation && s.decimation ≤ 16 && fLe 0#32 s.delay && fLe s.delay (fOfInt (s.taps - 1))
  | _ => false

/-- The structure of a cascade (R185). -/
def cascadeOk (fast : Bool) (l : List FiltStage) : Bool :=
  l.length ≤ 8 && l.zipIdx.all (fun e => e.1.kind != 1 || (e.2 == 0 && fast)) && chainDec l ≤ 2 ^ 20

/-- FIR words of a cascade in the coefficient pool (R195). -/
def poolWords (l : List FiltStage) : Nat := l.foldl (fun a s => if s.kind = 3 then a + s.taps else a) 0

/-- CIC input and multiply-accumulate loads of a chain at rate f (R197). -/
def chainLoad (c : ChainConfig) (f : Nat) : Nat × Rat :=
  let ch := c.inputs.length
  let cic := match c.stages with | s :: _ => if s.kind = 1 then ch * f else 0 | [] => 0
  let (m, _) := c.stages.foldl (fun (a : Rat × Nat) s =>
    let d := a.2 * stageDec s
    (if s.kind = 1 then a.1 else a.1 + mkRat (ch * (stageTaps s).length * f) d, d)) ((0 : Rat), 1)
  (cic, m)

/-- The loads of a set of chains are within R197. -/
def loadsOk (l : List (ChainConfig × Nat)) : Bool :=
  let (a, b) := l.foldl (fun (t : Nat × Rat) e => let (x, y) := chainLoad e.1 e.2; (t.1 + x, t.2 + y)) (0, (0 : Rat))
  a ≤ 800000000 && b ≤ 40000000000

/-- Coefficients of every tap of every FIR stage are there (R195). -/
def coefsOk (l : List FiltStage) : Bool := l.all (fun s => s.kind != 3 || (List.range s.taps).all (fun i => (tfind s.coefs i).isSome))

/-- A chain's parameters of R183 and R184 are in their ranges. -/
def chainRange (c : ChainConfig) : Bool :=
  c.chain ≤ 63 && c.owner ≤ 511 && 1 ≤ c.inputs.length && c.inputs.length ≤ 8 && (!c.fast || c.inputs.all (fun i => i ≤ 31)) && c.stages.all stageRange
  && c.ringSize == 2 ^ Nat.log2 c.ringSize && 4096 ≤ c.ringSize && c.ringSize ≤ 2 ^ 24

/-- The inputs of a chain are of one rate, or are slots of the row (R185); `rate` gives the rate of a fast channel that is there. -/
def inputsOk (fast : Bool) (inputs : List Nat) (rate : Nat → Option Nat) (width : Nat) : Bool :=
  if fast then !inputs.any (fun i => inputs.any (fun j => (rate i).isSome && (rate j).isSome && rate i != rate j)) else inputs.all (fun i => i < width)

/-- A chain as it will stand after the change-over: one whose definition stays keeps the stages set by command (R196). -/
def chainAfter (h : Hw) (c : ChainConfig) : ChainConfig :=
  if (h.cfg.bloom.bind (fun o => o.chains.find? (fun x => x.chain == c.chain))) = some c then { c with stages := (chainAt c.chain h).cfg.stages } else c

/-- The refusals of R184, R185, R195 and R197, as reason and chain, with the stages in force of the chains it does not change. DESIGN CHOICE (log 81): a
number of stages outside R183 is structure, and two chains of one number are structure. -/
def checkFilter (b : Image) (rate : Nat → Option Nat) (f width : Nat) (h : Hw) : Option (Nat × Nat) :=
  let bad (c : ChainConfig) : Bool := c.stages = [] || !cascadeOk c.fast c.stages || !inputsOk c.fast c.inputs rate width
  let same (c : ChainConfig) : Bool := (h.cfg.bloom.bind (fun o => o.chains.find? (fun x => x.chain == c.chain))) == some c
  let runs (c : ChainConfig) : Bool := if same c then (chainAt c.chain h).state != 0 else c.autostart
  let rateOf (c : ChainConfig) : Nat := if c.fast then (rate (c.inputs.headD 0)).getD 0 else f
  match b.chains.find? (fun c => !chainRange c) with
  | some c => some (rcFiltParamRange, c.chain)
  | none => match b.chains.zipIdx.find? (fun e => bad e.1 || (b.chains.take e.2).any (fun x => x.chain == e.1.chain)) with
  | some e => some (rcFiltStructure, e.1.chain)
  | none => match b.chains.find? (fun c => c.fast && c.inputs.any (fun i => (rate i).isNone)) with
  | some c => some (rcFiltSource, c.chain)
  | none =>
  if 32768 < b.chains.foldl (fun a c => a + poolWords (chainAfter h c).stages) 0 then some (rcFiltCoefPool, 0xFFFFFFFF)
  else if loadsOk ((b.chains.filter runs).map (fun c => (chainAfter h c, rateOf c))) = false then some (rcFiltThroughput, 0xFFFFFFFF)
  else none

/-- A chain of the Bloom that is STOPPED starts if autostart is 1 and its coefficients are there (R184, R195). -/
def autostartChain (c : ChainConfig) (h : Hw) : Hw :=
  if c.autostart ∧ coefsOk c.stages ∧ chainsRun h ∧ (chainAt c.chain h).state = 0 then startChain c.chain h else h

/-- The changeover of the chains that `sel` takes: a chain whose definition changes stops, takes the new one and starts if autostart
is 1 (R191, R196). -/
def installChains (sel : Nat → Bool) (old new : List ChainConfig) (h : Hw) : Hw :=
  let h := h.filt.chains.foldl (fun h e =>
    if sel e.1 = false ∨ new.find? (fun c => c.chain == e.1) = old.find? (fun c => c.chain == e.1) then h
    else let h := moveChain e.1 0 h; { h with filt := { h.filt with chains := tdel h.filt.chains e.1 } }) h
  new.foldl (fun h c =>
    if sel c.chain = false ∨ (tfind h.filt.chains c.chain).isSome then h
    else autostartChain c (putChain c.chain { cfg := c } h)) h

/-- A chain that takes rows, before a swap or after it: it goes on with the old rows until they have settled (R489). -/
def takesRows (old new : List ChainConfig) (n : Nat) : Bool := (old ++ new).any (fun c => c.chain == n && !c.fast)

/-! ### Commands (R204 to R208) -/

/-- A command on a defined chain. -/
def onChain (n : Nat) (f : Chain → CmdResult) (h : Hw) : CmdResult :=
  match tfind h.filt.chains n with
  | none => no stBadParam rcFiltNoChain
  | some c => f c

/-- The chain belongs to the slice of a scoped principal. -/
def chainScope (n : Nat) (_ : Call) (p : List Byte) (h : Hw) : Bool := (chainAt (u8 p 0) h).cfg.owner == n

/-- The FILT.STATUS payload. -/
def filtStatusBytes (n : Nat) (c : Chain) (h : Hw) : List Byte :=
  le 1 n ++ le 1 c.state ++ le 1 (flag (c.cfg.stages.any (fun s => s.kind == 3 && !linearPhase s)) 0 + flag c.tuned 1 + flag (c.comparators.any (fun e => e.2.asserted)) 2)
  ++ le 1 c.cfg.stages.length ++ le 4 (chainDec c.cfg.stages) ++ le 8 (to40 (tau c.cfg h)) ++ le 4 (supportOf c.cfg) ++ le 4 c.asserts ++ le 4 c.withheld
  ++ le 4 c.questionable ++ le 4 c.suspensions ++ le 4 c.newest ++ zeros 8

def filtStatus (p : List Byte) (h : Hw) : CmdResult :=
  let n := u8 p 0
  onChain n (fun c =>
    .ok (if bit (u8 p 1) 0 then putChain n { c with asserts := 0, withheld := 0, questionable := 0, suspensions := 0 } h else h) (filtStatusBytes n c h)) h

def cmdFiltStatus : Cmd := { row := rowFiltStatus, inScope := chainScope, reserved := [(2, 2)], reservedBits := [(1, 1, 0xFE)], body := fun _ p h => filtStatus p h }

/-- FILT.START (R195, R197). -/
def filtStart (p : List Byte) (h : Hw) : CmdResult :=
  let n := u8 p 0
  onChain n (fun c =>
    if c.state ≠ 0 then done h
    else if c.cfg.stages = [] then no stBadParam rcFiltStructure
    else if c.cfg.fast ∧ c.cfg.inputs.any (fun i => !chanEnabled i h) then no stConsistencyRefused rcFiltSource
    else if coefsOk c.cfg.stages = false then no stConsistencyRefused rcFiltCoefMissing
    else
      let on := (h.filt.chains.filter (fun e => e.2.state != 0 || e.1 == n)).map (fun e => (e.2.cfg, chainRate e.2.cfg h))
      if loadsOk on = false then no stConsistencyRefused rcFiltThroughput else done (startChain n h)) h

def cmdFiltStart : Cmd := { row := rowFiltStart, inScope := chainScope, reserved := [(1, 3)], body := fun _ p h => filtStart p h }

def cmdFiltStop : Cmd :=
  { row := rowFiltStop, inScope := chainScope, reserved := [(1, 3)], body := fun _ p h => onChain (u8 p 0) (fun _ => done (moveChain (u8 p 0) 0 h)) h }

/-- A change of structure or coefficients needs a STOPPED chain (R194). -/
def whileStopped (n : Nat) (f : Chain → CmdResult) (h : Hw) : CmdResult :=
  onChain n (fun c => if c.state ≠ 0 then .refuse stBusy rcFiltNotStopped (le 1 c.state) else f c) h

/-- Install stages by command: the pool and the marks. -/
def setStages (n : Nat) (c : Chain) (l : List FiltStage) (h : Hw) : CmdResult :=
  if 32768 < (h.filt.chains.filter (fun e => e.1 != n)).foldl (fun a e => a + poolWords e.2.cfg.stages) (poolWords l) then no stBadParam rcFiltCoefPool
  else done (putChain n { c with cfg := { c.cfg with stages := l }, tuned := true } h)

/-- Nominal frequency of a slot: that of its loop instance, or the Bloom's station nominal frequency (R244). -/
def slotNominal (slot : Nat) (h : Hw) : Nat :=
  match (((slotChannels (streamsOf h)).find? (fun e => e.1 == slot)).bind (fun e => e.2.loop)).bind (fun n => tfind h.loop.insts n) with
  | some i => i.params.f0
  | none => (h.cfg.bloom.map (fun b => b.nominal)).getD 50

def filtProfile (p : List Byte) (h : Hw) : CmdResult :=
  let n := u8 p 0
  let prof := u8 p 1
  whileStopped n (fun c =>
    if prof = 0 ∨ 3 < prof then no stBadParam rcFiltParamRange
    else if (prof ≤ 2 ∧ c.cfg.fast = false) ∨ (prof = 3 ∧ c.cfg.fast) then no stBadParam rcFiltStructure
    else if prof = 3 then
      let f0 := slotNominal (c.cfg.inputs.headD 0) h
      let taps := (fGrid h + f0 / 2) / f0
      let v := fOfFrac 1 taps
      if 256 < taps then no stBadParam rcFiltParamRange
      else setStages n c [{ kind := 3, taps := taps, coefs := (List.range taps).map (fun i => (i, v)) }] h
    else
      let cic : FiltStage := if prof = 1 then { kind := 1, order := 4, decimation := 5 } else { kind := 1, order := 5, decimation := 125 }
      setStages n c [cic, { kind := 2, decimation := 2, taps := 23 }] h) h

def cmdFiltProfile : Cmd := { row := rowFiltProfile, inScope := chainScope, reserved := [(2, 2)], body := fun _ p h => filtProfile p h }

/-- The rate of a fast channel whose link is there. -/
def rateNow (h : Hw) (i : Nat) : Option Nat := (chanOf h.acq.links i).map (fun e => e.2.1.cfg.fs)

/-- FILT.STAGE_SET (R185, R206): parameters that do not apply to the type are zero. -/
def filtStageSet (p : List Byte) (h : Hw) : CmdResult :=
  let n := u8 p 0
  let i := u8 p 1
  let kind := u8 p 2
  let order := u8 p 3
  let dec := u16 p 4
  let taps := u16 p 6
  let delay := f32 p 8
  whileStopped n (fun c =>
    if 7 < i ∨ 3 < kind then no stBadParam rcFiltParamRange
    else if kind = 0 then
      if order ≠ 0 ∨ dec ≠ 0 ∨ taps ≠ 0 ∨ delay ≠ 0#32 then no stBadParam rcFiltParamRange
      else done (putChain n { c with cfg := { c.cfg with stages := c.cfg.stages.take i }, tuned := true } h)
    else if (kind = 1 ∧ (taps ≠ 0 ∨ delay ≠ 0#32)) ∨ (kind = 2 ∧ (order ≠ 0 ∨ dec ≠ 0 ∨ delay ≠ 0#32)) ∨ (kind = 3 ∧ order ≠ 0) then no stBadParam rcFiltParamRange
    else
      let s : FiltStage := { kind := kind, order := order, decimation := if kind = 2 then 2 else dec, taps := taps, delay := delay }
      let l := c.cfg.stages.take i ++ [s] ++ c.cfg.stages.drop (i + 1)
      if stageRange s = false then no stBadParam rcFiltParamRange
      else if c.cfg.stages.length < i ∨ cascadeOk c.cfg.fast l = false ∨ inputsOk c.cfg.fast c.cfg.inputs (rateNow h) (8 * (streamsOf h).length) = false then
        no stBadParam rcFiltStructure
      else setStages n c l h) h

def cmdFiltStageSet : Cmd := { row := rowFiltStageSet, inScope := chainScope, reserved := [(12, 4)], body := fun _ p h => filtStageSet p h }

/-- FILT.COEF_LOAD (R206). -/
def filtCoefLoad (p : List Byte) (h : Hw) : CmdResult :=
  let n := u8 p 0
  let i := u8 p 1
  let first := u16 p 2
  let count := u16 p 4
  whileStopped n (fun c =>
    match c.cfg.stages[i]? with
    | none => no stBadParam rcFiltParamRange
    | some s =>
      if s.kind ≠ 3 ∨ count = 0 ∨ 256 < count ∨ s.taps < first + count then no stBadParam rcFiltParamRange
      else
        let s : FiltStage := { s with coefs := (List.range count).foldl (fun t j => tset t (first + j) (f32 p (8 + 4 * j))) s.coefs }
        done (putChain n { c with cfg := { c.cfg with stages := c.cfg.stages.take i ++ [s] ++ c.cfg.stages.drop (i + 1) }, tuned := true } h)) h

def cmdFiltCoefLoad : Cmd := { row := rowFiltCoefLoad, inScope := chainScope, reserved := [(6, 2)], body := fun _ p h => filtCoefLoad p h }

/-- FILT.THRESHOLD_SET (R203, R207): a change of mode returns the comparator to idle. -/
def filtThresholdSet (p : List Byte) (h : Hw) : CmdResult :=
  let n := u8 p 0
  let ch := u8 p 1
  let cmp := u8 p 2
  let mode := u8 p 3
  let hold := u16 p 12
  onChain n (fun c =>
    if c.cfg.inputs.length ≤ ch ∨ 1 < cmp ∨ 3 < mode ∨ 1000 < hold ∨ fLe 0#32 (f32 p 8) = false then no stBadParam rcFiltParamRange
    else
      let k := tget c.comparators (2 * ch + cmp) {}
      let k' : Comparator := { k with mode := mode, level := f32 p 4, hysteresis := f32 p 8, holdoffMs := hold, asserted := k.asserted && k.mode == mode }
      done (putChain n { c with comparators := tset c.comparators (2 * ch + cmp) k' } h)) h

def cmdFiltThresholdSet : Cmd := { row := rowFiltThresholdSet, inScope := chainScope, reserved := [(14, 2)], body := fun _ p h => filtThresholdSet p h }

/-- A ring entry of R199. -/
def filtEntry (o : FiltOut) : List Byte :=
  timeBytes o.time ++ le 1 o.flags ++ le 1 o.values.length ++ zeros 2 ++ (List.range 8).flatMap (fun i => leF (o.values.getD i 0#32))

def filtRead (p : List Byte) (h : Hw) : CmdResult :=
  let n := u8 p 0
  let j := u32 p 8
  let count := u32 p 12
  onChain n (fun c =>
    let oldest := c.newest + 1 - c.ring.length
    if count = 0 ∨ 64 < count ∨ j < oldest ∨ c.newest + 1 < j + count then no stBadParam rcFiltParamRange
    else .ok h (le 4 oldest ++ le 4 c.newest ++ zeros 8 ++ (List.range count).flatMap (fun i => filtEntry (c.ring.getD (c.newest - (j + i)) {})))) h

def cmdFiltRead : Cmd := { row := rowFiltRead, inScope := chainScope, reserved := [(1, 7)], body := fun _ p h => filtRead p h }

/-- FILT.STATUS. -/
def execFiltStatus (c : Call) (p : List Byte) : State → Host.Outcome State Fault Refusal := lift (runCmd cmdFiltStatus c p)
/-- FILT.START. -/
def execFiltStart (c : Call) (p : List Byte) : State → Host.Outcome State Fault Refusal := lift (runCmd cmdFiltStart c p)
/-- FILT.STOP. -/
def execFiltStop (c : Call) (p : List Byte) : State → Host.Outcome State Fault Refusal := lift (runCmd cmdFiltStop c p)
/-- FILT.PROFILE. -/
def execFiltProfile (c : Call) (p : List Byte) : State → Host.Outcome State Fault Refusal := lift (runCmd cmdFiltProfile c p)
/-- FILT.THRESHOLD_SET. -/
def execFiltThresholdSet (c : Call) (p : List Byte) : State → Host.Outcome State Fault Refusal := lift (runCmd cmdFiltThresholdSet c p)
/-- FILT.READ. -/
def execFiltRead (c : Call) (p : List Byte) : State → Host.Outcome State Fault Refusal := lift (runCmd cmdFiltRead c p)
/-- FILT.STAGE_SET. -/
def execFiltStageSet (c : Call) (p : List Byte) : State → Host.Outcome State Fault Refusal := lift (runCmd cmdFiltStageSet c p)
/-- FILT.COEF_LOAD. -/
def execFiltCoefLoad (c : Call) (p : List Byte) : State → Host.Outcome State Fault Refusal := lift (runCmd cmdFiltCoefLoad c p)

end Sys2Proof.Machine
end

