-- ==== Sys2Proof/Machine/Acq.lean ====
section
/-! DEFINITION. The trigger and acquisition engine: JESD204C links, the pre-trigger ring, triggers, captures and records (R211 to R243, KL-05). -/
namespace Sys2Proof.Machine

/-! ### Links (R211 to R216) -/

/-- A link, a capture. -/
def linkAt (l : Nat) (h : Hw) : LinkInst := tget h.acq.links l { cfg := { lanes := 0 } }
def putLink (l : Nat) (x : LinkInst) (h : Hw) : Hw := { h with acq := { h.acq with links := tset h.acq.links l x } }
def captureAt (c : Nat) (h : Hw) : Capture := tget h.acq.captures c {}
def putCapture (c : Nat) (x : Capture) (h : Hw) : Hw := { h with acq := { h.acq with captures := tset h.acq.captures c x } }

/-- The acquisition section of the Bloom in force. -/
def acqSection (h : Hw) : AcqSection := (h.cfg.bloom.map (fun b => b.acq)).getD {}

/-- Samples per T_LEMC: E * (256 / F) * S. -/
def lemcSamples (c : LinkConfig) : Nat := c.blocks * (256 / c.octets) * c.samples

/-- A link's own parameters are within R211 and R212. -/
def linkOk (c : LinkConfig) (period : Option Nat) : Bool :=
  (c.lanes == 1 || c.lanes == 2 || c.lanes == 4 || c.lanes == 8) && c.first + c.lanes ≤ 8
  && 1 ≤ c.converters && c.converters ≤ 32 && 1 ≤ c.octets && c.octets ≤ 64 && 256 % c.octets == 0
  && 1 ≤ c.samples && c.samples ≤ 32 && 1 ≤ c.blocks && c.blocks ≤ 32 && 1000000 ≤ c.fs && c.fs ≤ 25000000
  && c.octets * 8 * c.lanes == c.converters * c.samples * 16
  && 1000000000 * 64 * c.lanes ≤ c.converters * 16 * c.fs * 66 && c.converters * 16 * c.fs * 66 ≤ 16500000000 * 64 * c.lanes
  && c.fs % lemcSamples c == 0
  && period.elim true (fun ps => ps * c.fs % (lemcSamples c * 10 ^ 12) == 0)

/-- Two links share a lane. -/
def lanesMeet (a b : LinkConfig) : Bool := a.first < b.first + b.lanes && b.first < a.first + a.lanes

/-- A set of links is within R211 and R212; `period` gives the SYSREF period of a unit in ps, where it is known. -/
def linksOk (l : List LinkConfig) (period : Nat → Option Nat) : Bool :=
  l.length ≤ 4 && l.all (fun c => linkOk c (period c.teu)) && l.foldl (fun a c => a + c.converters) 0 ≤ 32
  && l.zipIdx.all (fun a => l.zipIdx.all (fun b => a.2 == b.2 || !lanesMeet a.1 b.1))

/-- The period of a unit that gives SYSREF, as configured now. -/
def sysrefPeriod (h : Hw) (u : Nat) : Option Nat :=
  let t := tget h.time.teus u {}
  if t.armed ∧ t.cfg.target = 1 ∧ t.cfg.periodic then some t.cfg.periodPs else none

/-- Times of an envelope increase. -/
def risingTimes : List (Int × F32) → Bool
  | a :: b :: r => a.1 < b.1 && risingTimes (b :: r)
  | _ => true

/-- An envelope has 2 to 32 vertices in rising order (R230, R239). -/
def envelopeOk (l : List (Int × F32)) : Bool := 2 ≤ l.length && l.length ≤ 32 && risingTimes l

/-- A mask test names an enabled channel and two envelopes. -/
def maskOk (enabled : Nat → Bool) (m : MaskTest) : Bool := enabled m.channel && envelopeOk m.upper && envelopeOk m.lower

/-- Vertices of a capture's masks. -/
def vertexCount (l : Tbl MaskTest) : Nat := l.foldl (fun a e => a + e.2.upper.length + e.2.lower.length) 0

/-- A capture definition is within R238. -/
def captureOk (enabled : Nat → Bool) (c : CaptureConfig) : Bool :=
  c.mode ≤ 2 && (List.range 32).all (fun i => !bit c.channels i || enabled i) && 1 ≤ c.post && 1 ≤ c.timeoutMs && c.timeoutMs ≤ 60000
  && c.gatherUs ≤ 2000 && c.owner ≤ 511 && c.sendGroup ≤ 255 && c.groups.length ≤ 4 && c.groups.all (fun g => g ≤ 255)
  && (c.decisionSlice ≤ 511 || c.decisionSlice == 0xFFFF) && c.selectors.all (fun x => x &&& 0x7C00 == 0)

/-- The refusal of a wavefront section: an image's links, captures, masks, ring and store are within R211, R212, R214, R217, R230, R233 and R238; `enabled` tells the channels
the image enables. DESIGN CHOICE (log 83): what R212 does not name is a parameter out of range. -/
def checkAcq (b : Image) (enabled : Nat → Bool) (h : Hw) : Option Nat :=
  let period (u : Nat) : Option Nat := match b.time.teus.find? (fun t => t.unit == u && t.target == 1) with
    | some t => some t.periodPs
    | none => sysrefPeriod h u
  let links := (b.acq.links.filter (fun e => e.2.lanes != 0)).map (fun e => e.2)
  if linksOk links period = false then some rcAcqLink
  else if links.all (fun c => c.latency ≤ 4095) ∧ b.acq.captures.all (fun e => e.1 ≤ 15 && captureOk enabled e.2 && e.2.masks.all (fun m => m.1 ≤ 15 && maskOk enabled m.2))
      ∧ b.acq.captures.foldl (fun a e => a + vertexCount e.2.masks) 0 ≤ 2048 ∧ 1 ≤ b.acq.segments ∧ b.acq.segments ≤ 8
      ∧ 2 ^ 24 ≤ b.acq.storeBytes ∧ b.acq.storeBytes ≤ 2 ^ 33 then none
  else some rcAcqParamRange

/-- A record of R242. -/
def acqRecord (code source n old new rec t : Nat) (h : Hw) : Hw :=
  evr code source (le 1 n ++ le 1 old ++ le 1 new ++ zeros 1 ++ le 4 rec ++ time40Bytes t) h

/-- Channels of a capture's mask that are enabled, in rising order. -/
def captureChannels (c : Capture) (h : Hw) : List Nat := (List.range 32).filter (fun i => bit c.cfg.channels i && chanEnabled i h)

/-- The links that carry a capture's channels, in rising order. -/
def captureLinks (c : Capture) (h : Hw) : List Nat :=
  let used := (captureChannels c h).filterMap (fun i => (chanOf h.acq.links i).map (fun x => x.1))
  [0, 1, 2, 3].filter (fun l => used.contains l)

/-- A record that loses a link is truncated (R228). -/
def truncateFor (l : Nat) (h : Hw) : Hw :=
  { h with acq := { h.acq with captures := tmap h.acq.captures (fun _ c =>
      if (c.state = 2 ∨ c.state = 3) ∧ (captureLinks c h).contains l then { c with truncated := true } else c) } }

/-- Move a link to a state, with CODE 0x0910; chains and captures follow (R191, R213, R228). -/
def moveLink (l new : Nat) (h : Hw) : Hw :=
  let x := linkAt l h
  if x.state = new then h
  else
    let h := putLink l { x with state := new, since := h.time.mono, reported := false } h
    let h := acqRecord 0x0910 0x09FF l x.state new 0 (to40 h.time.now) h
    followLinks (if x.state = 4 then truncateFor l h else h)

/-- JESD_LINK_STATE_CHANGE's effect. -/
def linkReport (l : Nat) (r : LinkReport) (h : Hw) : Hw :=
  let x := linkAt l h
  if x.cfg.lanes = 0 then h
  else match r with
    | .headerLock => if x.state = 0 then moveLink l 1 h else h
    | .blockLock skew => if x.state = 1 then moveLink l 2 (putLink l { x with skew := skew } h) else h
    | .loss => moveLink l 0 h

/-- JESD_LINK_STATE_CHANGE. -/
def execJesdLinkStateChange (l : Nat) (r : LinkReport) : State → Host.Outcome State Fault Refusal := lift (linkReport l r)

/-- KL-05: realignment on a lane rate above 15.0 Gb/s with E of 9 or more goes through DOWN (R584). -/
def realignDown (c : LinkConfig) : Bool := 15000000000 * 64 * c.lanes < c.converters * 16 * c.fs * 66 && 9 ≤ c.blocks

/-- A SYSREF edge at one link; `far` says that it falls more than a device-clock period from an LEMC boundary (R213). -/
def sysrefAt (nominal : Nat) (far : List Nat) (l : Nat) (h : Hw) : Hw :=
  let x := linkAt l h
  if x.state = 2 then moveLink l 3 (putLink l { x with aligned := nominal, shift := 0 } h)
  else if (x.state = 3 ∨ x.state = 4) ∧ far.contains l then
    let x := { x with phaseErrors := inc32 x.phaseErrors }
    if x.state = 4 ∧ x.cfg.realign then
      if realignDown x.cfg then moveLink l 0 (putLink l x h)
      else moveLink l 3 (putLink l { x with aligned := nominal, shift := 0, realigns := inc32 x.realigns } h)
    else putLink l x h
  else h

/-- An edge of this nominal time, 2^-40 s, has come from a time event unit with target 1 (R213). -/
def sysrefFired (nominal : Nat) (h : Hw) : Bool :=
  h.time.teus.any (fun e => e.2.cfg.target == 1 && (e.2.lastN.map (fun n => to40 (edgeFine e.2 n / 10 ^ 12))) == some nominal)

/-- JESD_SYSREF_EDGE's effect: δ is the loopback capture less the nominal time (R214), both in 2^-40 s. -/
def sysrefEdge (nominal captured : Nat) (far : List Nat) (h : Hw) : Hw :=
  if sysrefFired nominal h then
    let h := { h with acq := { h.acq with delta := (captured : Int) - nominal } }
    [0, 1, 2, 3].foldl (fun h l => sysrefAt nominal far l h) h
  else h

/-- JESD_SYSREF_EDGE. -/
def execJesdSysrefEdge (nominal captured : Nat) (far : List Nat) : State → Host.Outcome State Fault Refusal := lift (sysrefEdge nominal captured far)

/-- Samples from second 0 to the first LEMC boundary after the edge a link aligned to. -/
def alignSample (x : LinkInst) : Nat :=
  let p := lemcSamples x.cfg
  ((x.aligned * x.cfg.fs + 2 ^ 39) / 2 ^ 40 / p + 1) * p

/-- JESD_ALIGN_DONE's effect: RBD octets after that boundary the link enters DATA (R213), its first sample that of the boundary (R214). -/
def alignDone (l : Nat) (h : Hw) : Hw :=
  let x := linkAt l h
  let n := alignSample x
  if x.state = 3 ∧ ((n * x.cfg.octets + x.cfg.rbd * x.cfg.samples : Nat) : Int) * 2 ^ 64 ≤ ((h.time.now : Int) - x.shift) * x.cfg.octets * x.cfg.fs then
    moveLink l 4 (putLink l { x with next := n - x.cfg.latency } h)
  else h

/-- JESD_ALIGN_DONE. -/
def execJesdAlignDone (l : Nat) : State → Host.Outcome State Fault Refusal := lift (alignDone l)

/-- JESD_NO_SYSREF's effect: once after 2 s in EMB_LOCK (R213). -/
def noSysref (l : Nat) (h : Hw) : Hw :=
  let x := linkAt l h
  if x.state = 2 ∧ x.reported = false ∧ x.since + 2 * secUnit ≤ h.time.mono then
    acqRecord 0x0914 0x09FF l 0 0 0 (to40 h.time.now) (putLink l { x with reported := true } h)
  else h

/-- JESD_NO_SYSREF. -/
def execJesdNoSysref (l : Nat) : State → Host.Outcome State Fault Refusal := lift (noSysref l)

/-! ### The pre-trigger ring (R217, R218) -/

/-- Enabled converters of a link. -/
def enabledCount (x : LinkInst) : Nat := if x.cfg.lanes = 0 then 0 else ((List.range x.cfg.converters).filter (fun i => bit x.cfg.enable i)).length

/-- Bytes per second that the enabled channels bring. -/
def ringRate (h : Hw) : Nat := h.acq.links.foldl (fun a e => a + enabledCount e.2 * e.2.cfg.fs * 2) 0

/-- Samples of a link that the ring holds. -/
def ringDepth (x : LinkInst) (segments : Nat) (h : Hw) : Nat := segments * 4194304 * x.cfg.fs / ringRate h

/-- The ring gives its segments back when every capture is STOPPED. -/
def releaseRing (h : Hw) : Hw :=
  if h.acq.captures.any (fun e => e.2.state != 0) then h
  else { h with acq := { h.acq with segments := 0, links := tmap h.acq.links (fun _ x => { x with ring := [] }) } }

/-- Stop a capture; a record in progress is discarded. -/
def stopCapture (c : Nat) (h : Hw) : Hw :=
  releaseRing (putCapture c { captureAt c h with state := 0, samples := [], held := [], stopDue := false, since := none } h)

/-! ### Triggers (R219 to R226) -/

/-- A capture selects a trigger (R219, R220, R238). -/
def selects (n : Nat) (c : CaptureConfig) (s : TrigSource) : Bool :=
  match s with
  | .input i f => bit c.trigIn i && f == bit c.falling i
  | .cross g => c.groups.contains g
  | .chain n ch k => c.selectors.any (fun x => bit x 15 && x % 1024 == n * 16 + ch * 2 + k)
  | .decision sl fn _ code trip => c.decisionSlice == sl && (c.decisionFn == 0xFFFF || c.decisionFn == fn) && (if c.decisionCode = 0 then trip else c.decisionCode == code)
  | .command none => true
  | .command (some x) => x == n
  | .timeout x => x == n

/-- A further trigger is secondary (R226). -/
def addSecondary (t : Nat) (c : Capture) : Capture :=
  let c := { c with secondaries := inc32 c.secondaries }
  if c.secondary.length < 8 then { c with secondary := c.secondary ++ [t] } else { c with more := c.more + 1 }

/-- Trigger time less δ, times the rate, in 2^-40 samples (R219). -/
def place (t : Nat) (delta : Int) (fs : Nat) : Nat := (((t : Int) - delta) * fs).toNat

/-- n_t of a trigger time on a link. -/
def placeOn (l t : Nat) (h : Hw) : Nat := place t h.acq.delta (linkAt l h).cfg.fs / 2 ^ 40

/-- A trigger's sample exists on a link: it is in the ring or older than the ring, or the link in DATA will bring it; a sample in a gap
does not (R216, R222, R228; the model's reading, log 84). -/
def sampleThere (t l : Nat) (h : Hw) : Bool :=
  let x := linkAt l h
  let nt := placeOn l t h
  (x.state == 4 && decide (x.next ≤ nt)) || x.ring.any (fun s => s.n == nt) || x.ring.getLast?.elim (x.state == 4) (fun s => decide (nt < s.n))

/-- The link has left DATA before a capture's last post-trigger sample (R228). -/
def cutShort (t post l : Nat) (h : Hw) : Bool := (linkAt l h).state != 4 && decide ((linkAt l h).next < placeOn l t h + post)

/-- A capture takes a trigger whose time has come (R224 to R226, R228). -/
def takeTrigger (n : Nat) (t : Trigger) (h : Hw) : Hw :=
  let c := captureAt n h
  if c.state = 0 then h
  else if c.state = 1 then
    let ls := captureLinks c h
    if ls = [] ∨ ls.any (fun l => !sampleThere t.time l h) then h
    else putCapture n { c with
      state := 2, trigger := t, cls := timeClass h, errorNs := errorNs h, accepted := h.time.mono, secondary := [], more := 0, samples := []
      truncated := ls.any (fun l => cutShort t.time c.cfg.post l h), triggers := inc32 c.triggers
      forced := if t.source = .timeout n then inc32 c.forced else c.forced } h
  else if c.state = 2 ∧ t.time < c.trigger.time ∧ h.time.mono < c.accepted + nsUnits (c.cfg.gatherUs * 1000) then
    putCapture n { addSecondary c.trigger.time c with trigger := t, cls := timeClass h, errorNs := errorNs h } h
  else putCapture n (addSecondary t.time c) h

/-- A trigger reaches one capture: one ahead of station time is held until its samples exist, one more than 1 s ahead is discarded (R222). -/
def triggerAt (n : Nat) (t : Trigger) (h : Hw) : Hw :=
  let c := captureAt n h
  if c.state = 0 ∨ selects n c.cfg t.source = false then h
  else if to40 h.time.now + 2 ^ 40 < t.time then putCapture n { c with future := inc32 c.future } h
  else if to40 h.time.now < t.time then putCapture n { c with held := c.held ++ [t] } h
  else takeTrigger n t h

/-- A held trigger's samples exist on every link of its capture that is in DATA. -/
def heldDue (c : Capture) (h : Hw) (t : Trigger) : Bool :=
  (captureLinks c h).all (fun l => (linkAt l h).state != 4 || decide (placeOn l t.time h < (linkAt l h).next))

/-- Held triggers whose samples exist now are taken, in the order of their arrival (R222). -/
def takeHeld (h : Hw) : Hw :=
  h.acq.captures.foldl (fun h e =>
    let c := captureAt e.1 h
    if c.held = [] then h
    else
      let h' := putCapture e.1 { c with held := c.held.filter (fun t => !heldDue c h t) } h
      (c.held.filter (heldDue c h)).foldl (fun h t => takeTrigger e.1 t h) h') h

/-- A trigger reaches every capture. -/
def triggerAll (t : Trigger) (h : Hw) : Hw := (List.range 16).foldl (fun h n => if (tfind h.acq.captures n).isSome then triggerAt n t h else h) h

/-- TRIGGER_ARRIVAL's effect: one of the triggers on their way reaches the engine. -/
def triggerArrival (i : Nat) (h : Hw) : Hw :=
  match h.acq.inFlight[i]? with
  | none => h
  | some t => triggerAll t { h with acq := { h.acq with inFlight := h.acq.inFlight.eraseIdx i } }

/-- TRIGGER_ARRIVAL. -/
def execTriggerArrival (i : Nat) : State → Host.Outcome State Fault Refusal := lift (triggerArrival i)

/-- AUTO_TIMEOUT's effect: a forced trigger, withheld while the level is RED (R229). -/
def autoTimeout (n : Nat) (h : Hw) : Hw :=
  let c := captureAt n h
  match c.since with
  | none => h
  | some s =>
    if c.state ≠ 1 ∨ c.cfg.mode ≠ 1 ∨ h.time.mono < s + nsUnits (c.cfg.timeoutMs * 1000000) then h
    else if h.fab.budget.level = 2 then putCapture n { c with since := none, forcedSuspended := inc32 c.forcedSuspended } h
    else triggerAt n { source := .timeout n, time := to40 h.time.now } (putCapture n { c with since := some h.time.mono } h)

/-- AUTO_TIMEOUT. -/
def execAutoTimeout (n : Nat) : State → Host.Outcome State Fault Refusal := lift (autoTimeout n)

/-! ### Cross-triggers (R223) -/

/-- Source code of R219. -/
def sourceCode : TrigSource → Nat
  | .input .. => 1 | .cross .. => 2 | .chain .. => 3 | .decision .. => 4 | .command .. => 5 | .timeout .. => 6

/-- Source detail of R234. -/
def sourceDetail : TrigSource → Nat
  | .input i _ => i | .cross g => g | .chain n ch k => n * 16 + ch * 2 + k | .decision s .. => s | .command _ => 0 | .timeout _ => 0

/-- The payload of a cross-trigger message. -/
def crossPayload (c : Capture) (seq : Nat) (h : Hw) : List Byte :=
  be 1 1 ++ be 1 (flag (h.mode == .test) 0 + flag h.const.dissenting 1 + flag h.const.suspect 2) ++ be 2 h.moduleId ++ be 1 c.cfg.sendGroup
  ++ be 1 (sourceCode c.trigger.source) ++ be 1 c.cls ++ zeros 1 ++ be 4 seq ++ zeros 4 ++ be 8 (c.trigger.time / 2 ^ 40) ++ be 8 (c.trigger.time % 2 ^ 40)

/-- The key of a trigger group is usable. -/
def groupKeyUsable (g : Nat) (h : Hw) : Bool := (((tfind (acqSection h).groups g).bind (fun x => x.key)).map (fun k => keyUsable k h)).getD false

/-- The frame of a trigger group's control block: on the pairing link and both station-bus ports (R223). -/
def groupGoose (g : Nat) (s : GooseSend) (h : Hw) : Goose :=
  let c := (tfind (acqSection h).groups g).getD {}
  { block := .group g, ports := [8, 9, 10], priority := 5, mac := some c.mac, gocbRef := c.gocbRef, datSet := c.datSet, goId := c.goId
    timeAllowedMs := 2000, t := s.changedAt, stNum := s.sequence, sqNum := s.sqNum, payload := s.payload }

/-- Put a group's message on the wire. -/
def sendGroup (g : Nat) (s : GooseSend) (h : Hw) : Hw :=
  sendGoose ((tfind (acqSection h).groups g).bind (fun x => x.key)) (groupGoose g s h) { h with acq := { h.acq with sends := tset h.acq.sends g s } }

/-- Send a new message for a capture whose trigger point has become final. -/
def sendCross (c : Capture) (h : Hw) : Hw :=
  let g := c.cfg.sendGroup
  let received : Bool := match c.trigger.source with | .cross _ => true | _ => false
  if c.cfg.sendCross = false ∨ received ∨ h.const.dissenting ∨ groupKeyUsable g h = false then h
  else
    let seq := ((tget h.acq.sends g {}).sequence + 1) % 2 ^ 32
    sendGroup g { sequence := seq, at_ := h.time.mono, changedAt := h.time.now, payload := crossPayload c seq h } h

/-- Repetition n of a cross-trigger message leaves this many µs after it (R223). -/
def crossRepeatUs (n : Nat) : Nat := match n with | 0 => 250 | 1 => 1000 | 2 => 4000 | m => 4000 + 1000000 * (m - 2)

/-- The next repetition of a message is due (R223). -/
def repeatDue (s : GooseSend) (h : Hw) : Bool := decide (s.at_ + nsUnits (1000 * crossRepeatUs s.repeats) ≤ h.time.mono)

/-- A message as it is repeated. -/
def repeated (s : GooseSend) : GooseSend := { s with sqNum := s.sqNum + 1, repeats := s.repeats + 1 }

/-- The repetition timer of a trigger group expires. -/
def crossRepetition (g : Nat) (h : Hw) : Hw :=
  match tfind h.acq.sends g with
  | none => h
  | some s => if chainsRun h ∧ h.const.dissenting = false ∧ groupKeyUsable g h ∧ repeatDue s h then sendGroup g (repeated s) h else h

/-- CROSS_TRIGGER_RX's effect (R223, R411). -/
def crossRx (m : CrossMessage) (h : Hw) : Hw :=
  let shut : Bool := match boundPeer (fun b => b.groups) m.group h with | some p => gateClosed p h | none => (constOf h).isNone
  let id := m.moduleId * 256 + m.group
  if chainsRun h = false ∨ m.authentic = false ∨ groupKeyUsable m.group h = false ∨ m.version ≠ 1 ∨ h.const.dissenting ∨ bit m.flags 1
      ∨ bit m.flags 0 ≠ (h.mode == .test) ∨ shut ∨ (tget h.acq.seen id []).contains m.sequence then h
  else
    let either : Bool := match boundPeer (fun b => b.groups) m.group h with | some p => suspectEither p h | none => false
    let late := bit m.flags 2 || m.cls == 6 || m.cls == 7 || either
    let t : Trigger := { source := .cross m.group, time := if late then to40 h.time.now else m.sec * 2 ^ 40 + m.frac40 % 2 ^ 40, suspect := late }
    launch t { h with acq := { h.acq with seen := tset h.acq.seen id (m.sequence :: tget h.acq.seen id []) } }

/-- CROSS_TRIGGER_RX. -/
def execCrossTriggerRx (m : CrossMessage) : State → Host.Outcome State Fault Refusal := lift (crossRx m)

/-! ### Collecting a record (R225, R227) -/

/-- n_t on a link. -/
def triggerIndex (c : Capture) (fs : Nat) : Nat := place c.trigger.time c.delta fs / 2 ^ 40

/-- The runs of consecutive samples of a list that is newest first, newest run first. -/
def sampleRuns : List FastSample → List (List FastSample)
  | [] => []
  | x :: r => match sampleRuns r with
    | (y :: run) :: rest => if y.n + 1 = x.n then (x :: y :: run) :: rest else [x] :: (y :: run) :: rest
    | rest => [x] :: rest

/-- The samples of a list, oldest first, with the indices that are missing between them as invalid samples (R215; log 30). -/
def fillHoles : List FastSample → List FastSample
  | x :: y :: r => x :: ((List.range (y.n - x.n - 1)).map (fun i => { n := x.n + 1 + i, codes := x.codes.map (fun _ => (-32768 : Int)) })) ++ fillHoles (y :: r)
  | l => l

/-- The samples of a record, oldest first: from the run that holds n_t, so from the first sample after a gap (R216, R222), the newest
run that begins at or before n_t, else the oldest. A record that a link cut short ends with that run (R228); in another one a
gap that was over before its trigger came stands as invalid samples. -/
def sampleRunAt (cut : Bool) (nt : Nat) (l : List FastSample) : List FastSample :=
  let runs := sampleRuns l
  let run := ((runs.find? (fun r => r.getLast?.elim false (fun s => decide (s.n ≤ nt)))) <|> runs.getLast?).getD []
  if cut then run.reverse
  else match run.getLast? with
    | some s => fillHoles (l.filter (fun x => s.n ≤ x.n)).reverse
    | none => []

/-- GATHER_WINDOW_END's effect: the trigger point is final, the ring's part is copied, a cross-trigger is sent. -/
def gatherEnd (n : Nat) (h : Hw) : Hw :=
  let c := captureAt n h
  if c.state ≠ 2 ∨ h.time.mono < c.accepted + nsUnits (c.cfg.gatherUs * 1000) then h
  else
    let c := { c with state := 3, delta := h.acq.delta }
    let got (l : Nat) : List FastSample :=
      let x := linkAt l h
      let nt := triggerIndex c x.cfg.fs
      sampleRunAt c.truncated nt (x.ring.filter (fun s => nt - c.cfg.pre ≤ s.n && s.n < nt + c.cfg.post))
    let c := { c with samples := (captureLinks c h).map (fun l => (l, got l)) }
    sendCross c (putCapture n c h)

/-- GATHER_WINDOW_END. -/
def execGatherWindowEnd (n : Nat) : State → Host.Outcome State Fault Refusal := lift (gatherEnd n)

/-- A sample joins the records being collected. -/
def collect (l : Nat) (fs : Nat) (s : FastSample) (c : Capture) : Capture :=
  if c.state ≠ 3 ∨ c.truncated then c
  else match tfind c.samples l with
    | none => c
    | some got =>
      let nt := triggerIndex c fs
      if nt - c.cfg.pre ≤ s.n ∧ s.n < nt + c.cfg.post then { c with samples := tset c.samples l (got ++ [s]) } else c

/-- At an LEMC boundary that lies on a whole second of station time SEC_b is taken anew: after a step by a multiple of T_LEMC the index
then follows station time again; after any other step no boundary lies on a whole second (R214). -/
def retake (x : LinkInst) : LinkInst :=
  let d : Int := x.shift * x.cfg.fs
  let m : Int := x.next + x.cfg.latency + d / (2 ^ 64 : Nat)
  if x.shift ≠ 0 ∧ d % ((lemcSamples x.cfg * 2 ^ 64 : Nat) : Int) = 0 ∧ m % (x.cfg.fs : Int) = 0 then { x with next := (m - x.cfg.latency).toNat, shift := 0 } else x

/-- FAST_SAMPLE_DEFRAMED's effect: one sample of every converter of a link with the mark of a failed multiblock, and the
multiblocks found bad since the last one (R214 to R216). -/
def fastSample (l : Nat) (vals : List (Int × Bool)) (crc hdr : Nat) (h : Hw) : Hw :=
  let x := retake (linkAt l h)
  if x.state ≠ 4 ∨ vals.length ≠ x.cfg.converters then h
  else
    let on := vals.zipIdx.filter (fun e => bit x.cfg.enable e.2)
    let stored (v : Int × Bool) : Int := if v.2 then -32768 else if v.1 ≤ -32768 then -32767 else if 32767 < v.1 then 32767 else v.1
    let s : FastSample := {
      n := x.next
      codes := vals.zipIdx.map (fun e => if bit x.cfg.enable e.2 then stored e.1 else 0)
      clipped := (on.filter (fun e => !e.1.2 && e.1.1 ≤ -32768)).map (fun e => e.2) }
    let ring := if h.acq.segments = 0 then [] else (s :: x.ring).take (ringDepth x h.acq.segments h)
    let h := putLink l { x with
      next := x.next + 1, ring := ring, crcErrors := sat32 (x.crcErrors + crc), headerErrors := sat32 (x.headerErrors + hdr)
      invalid := sat32 (x.invalid + (on.filter (fun e => e.1.2)).length) } h
    let h := { h with acq := { h.acq with captures := tmap h.acq.captures (fun _ c => collect l x.cfg.fs s c) } }
    let base := chanBase l h.acq.links
    feedFast s.n (on.map (fun e => (base + e.2, stored e.1))) (takeHeld h)

/-- FAST_SAMPLE_DEFRAMED. -/
def execFastSampleDeframed (l : Nat) (vals : List (Int × Bool)) (crc hdr : Nat) : State → Host.Outcome State Fault Refusal := lift (fastSample l vals crc hdr)

/-! ### Masks and the record (R230, R234) -/

/-- An envelope at a time, linear between its vertices; none outside them. -/
def envelope : List (Int × F32) → Rat → Option Rat
  | (t0, v0) :: (t1, v1) :: r, x =>
    if x < (t0 : Rat) then none
    else if x ≤ (t1 : Rat) then some (fRat v0 + (fRat v1 - fRat v0) * (x - (t0 : Rat)) / ((t1 : Rat) - (t0 : Rat)))
    else envelope ((t1, v1) :: r) x
  | [(t0, v0)], x => if x = (t0 : Rat) then some (fRat v0) else none
  | [], _ => none

/-- A value violates a test at an offset from the trigger in ns. -/
def violates (m : MaskTest) (v x : Rat) : Bool :=
  (envelope m.upper x).elim false (fun u => u < v) || (envelope m.lower x).elim false (fun d => v < d)

/-- The samples of a record: by offset from the first index, the code of each channel and whether it clipped. -/
structure RecordData where
  first : Nat := 0
  nt : Nat := 0
  fs : Nat := 1
  rows : List (List (Int × Bool)) := []

/-- Lay out what a capture collected: the rows of the lowest link, other links by the same offset from their own trigger index;
a sample that does not exist stands as invalid (log 30). -/
def layRecord (c : Capture) (h : Hw) : RecordData :=
  match c.samples with
  | [] => {}
  | (l0, got) :: _ =>
    let fs := (linkAt l0 h).cfg.fs
    let nt := triggerIndex c fs
    let chans := (captureChannels c h).filterMap (fun i => chanOf h.acq.links i)
    let rows := got.map (fun s => chans.map (fun (e : Nat × LinkInst × Nat) =>
      if e.1 = l0 then (s.codes.getD e.2.2 (-32768), s.clipped.contains e.2.2)
      else
        match (tget c.samples e.1 []).find? (fun y => y.n + nt == s.n + triggerIndex c e.2.1.cfg.fs) with
        | some y => (y.codes.getD e.2.2 (-32768), y.clipped.contains e.2.2)
        | none => (-32768, false)))
    { first := (got.head?.map (fun s => s.n)).getD nt, nt := nt, fs := fs, rows := rows }

/-- The mask tests of a record, each channel at the times of its own link's samples (R230). -/
def runMasks (c : Capture) (d : RecordData) (h : Hw) : MaskResult :=
  let chans := captureChannels c h
  (c.cfg.masks.filter (fun e => e.2.enabled)).foldl (fun (a : MaskResult) e =>
    match chans.idxOf? e.2.channel, chanOf h.acq.links e.2.channel with
    | some col, some (_, x, _) =>
      let fs := x.cfg.fs
      let at0 : Int := (triggerIndex c fs : Int) - d.nt + d.first
      let shift : Rat := mkRat (place c.trigger.time c.delta fs) (2 ^ 40)
      let scale := tget (acqSection h).scales e.2.channel 0x3F800000#32
      d.rows.zipIdx.foldl (fun (a : MaskResult) (r : List (Int × Bool) × Nat) =>
        let code := (r.1.getD col (-32768, false)).1
        if code = -32768 then { a with untested := a.untested + 1 }
        else if violates e.2 (fRat (fMul (fOfInt code) scale)) ((((at0 + r.2 : Int) : Rat) - shift) * 1000000000 / (fs : Rat)) then
          { a with failing := a.failing ||| 2 ^ e.1, first := if a.first.elim true (fun o => r.2 < o.1) then some (r.2, e.2.channel) else a.first }
        else a) a
    | _, _ => a) {}

/-- δ in ps, truncated towards zero: a correction and no time (log 31). -/
def deltaPs (d : Int) : Int := (d * 10 ^ 12).tdiv (2 ^ 40)

/-- A secondary trigger as ns after the trigger time, rounded down, so that its time is never reported later than it is (R27,
log 31). -/
def secondaryNs (t t0 : Nat) : Int := ((t : Int) - t0) * 1000000000 / 2 ^ 40

/-- The header of a record with the secondary triggers that its capture has by now: listed, counted, and their times (R226, R234). -/
def withSecondaries (c : Capture) (t0 : Nat) (header : List Byte) : List Byte :=
  let secs := c.secondary.map (fun t => secondaryNs t t0)
  header.take 37 ++ le 1 c.secondary.length ++ slice header 38 32 ++ le 2 (min c.more 0xFFFF) ++ slice header 72 24 ++ (List.range 8).flatMap (fun i => leInt 4 (secs.getD i 0))

/-- Build a record: its header of R234 without its number and the locked bit, and its data. -/
def buildRecord (n : Nat) (c : Capture) (h : Hw) : CapRecord × MaskResult :=
  let d := layRecord c h
  let m := runMasks c d h
  let codes := d.rows.flatten
  let invalid := (codes.filter (fun x => x.1 == -32768)).length
  let data := codes.flatMap (fun x => leInt 2 x.1)
  let short := d.nt - c.cfg.pre < d.first
  let forced := match c.trigger.source with | .timeout _ => true | _ => false
  let flags := flag forced 0 + flag short 1 + flag c.truncated 2 + flag (m.failing != 0) 3 + flag (invalid != 0) 4 + flag c.trigger.suspect 5 + flag (codes.any (fun x => x.2)) 6
  let k := match c.trigger.source with | .decision _ _ k _ _ => k | _ => 0
  let chmask := (captureChannels c h).foldl (fun a i => a + 2 ^ i) 0
  let secs := c.secondary.map (fun t => secondaryNs t c.trigger.time)
  let header := zeros 4 ++ le 1 n ++ le 1 (sourceCode c.trigger.source) ++ le 2 (sourceDetail c.trigger.source) ++ time40Bytes c.trigger.time
    ++ le 8 d.nt ++ leF (fOfFrac (place c.trigger.time c.delta d.fs % 2 ^ 40) (2 ^ 40)) ++ le 1 c.cls ++ le 1 c.secondary.length ++ le 2 flags ++ le 4 chmask ++ le 4 d.fs
    ++ le 8 d.first ++ le 4 d.rows.length ++ le 4 (min (d.nt - d.first) d.rows.length) ++ leInt 4 (deltaPs c.delta) ++ le 2 m.failing ++ le 2 (min c.more 0xFFFF) ++ le 4 invalid
    ++ le 4 ((m.first.map (fun o => o.1)).getD 0xFFFFFFFF) ++ le 8 k ++ le 4 128 ++ le 4 data.length ++ (List.range 8).flatMap (fun i => leInt 4 (secs.getD i 0))
  ({ capture := n, owner := c.cfg.owner, generation := (sliceAt c.cfg.owner h).generation, header := header, data := data, time := c.trigger.time, channels := chmask, fs := d.fs
     cls := c.cls, errorNs := c.errorNs, first := d.first, samples := d.rows.length, deltaPs := deltaPs c.delta }, m)

/-- CAPTURE_POST_COMPLETE's effect: every link has delivered the last post-trigger sample, or the record is truncated; the record is
whole, its masks tested, and goes to DRAM (R224, R228, R230). -/
def postComplete (n : Nat) (h : Hw) : Hw :=
  let c := captureAt n h
  let there (l : Nat) : Bool := triggerIndex c (linkAt l h).cfg.fs + c.cfg.post ≤ (linkAt l h).next
  if c.state = 3 ∧ (c.truncated ∨ c.samples.all (fun e => there e.1)) then
    let (r, m) := buildRecord n c h
    putCapture n { c with state := 4, built := r, found := m, samples := [], preShort := bit (u16 r.header 38) 1 } h
  else h

/-- CAPTURE_POST_COMPLETE. -/
def execCapturePostComplete (n : Nat) : State → Host.Outcome State Fault Refusal := lift (postComplete n)

/-! ### The record store (R233) -/

/-- Bytes of a record. -/
def recordBytes (r : CapRecord) : Nat := 128 + r.data.length

/-- Bytes of the locked records. -/
def lockedBytes (l : List CapRecord) : Nat := l.foldl (fun a r => if r.locked then a + recordBytes r else a) 0

/-- Make room for some bytes by dropping the oldest records that are not locked; none where the locked ones leave no room. -/
def makeRoom : Nat → Nat → Nat → List CapRecord → Option (List CapRecord)
  | 0, _, _, _ => none
  | fuel + 1, need, size, l =>
    if l.foldl (fun a r => a + recordBytes r) 0 + need ≤ size then some l
    else match (l.filter (fun r => !r.locked)).getLast? with
      | none => none
      | some r => makeRoom fuel need size (l.filter (fun x => x.number != r.number))

/-- The time a capture needs is within 7/8 of the ring's depth (R218), on each of its links. -/
def fitsRing (c : Capture) (segments : Nat) (h : Hw) : Bool :=
  let rate := ringRate h
  let ls := captureLinks c h
  ls != [] && ls.all (fun l =>
    let fs := (linkAt l h).cfg.fs
    8 * ((c.cfg.pre + c.cfg.post) * 1000000 + c.cfg.gatherUs * fs) * rate ≤ 7 * segments * 4194304 * fs * 1000000)

/-- Segments the ring will hold. -/
def wantSegments (h : Hw) : Nat := if h.acq.segments = 0 then (acqSection h).segments else h.acq.segments

/-- The claim finds its segments free (R217). -/
def segmentsFree (h : Hw) : Bool := h.acq.segments != 0 || (acqSection h).segments + h.acq.mirrorSegments ≤ 8

/-- Arm a capture that is STOPPED; the first one armed claims the ring for a holder (R63, R217). -/
def armCapture (holder : Nat × Nat) (n : Nat) (h : Hw) : Hw :=
  let c := captureAt n h
  if c.state ≠ 0 then h
  else
    let h := { h with acq := { h.acq with holder := if h.acq.segments = 0 then holder else h.acq.holder, segments := wantSegments h } }
    putCapture n { c with state := 1, since := some h.time.mono, byViolation := false, stopDue := false } h

/-- A capture that is STOPPED is armed where its definition has autoarm 1 and the ring holds it (R217, R218, R224). DESIGN CHOICE
(log 85): the holder is the capture's owner slice. -/
def autoarmOne (n : Nat) (c : CaptureConfig) (h : Hw) : Hw :=
  if c.autoarm ∧ chainsRun h ∧ segmentsFree h ∧ fitsRing (captureAt n h) (wantSegments h) h then armCapture (c.owner, n) n h else h

/-- A STOPPED capture takes a definition, or ceases to be defined. -/
def redefine (n : Nat) (d : Option CaptureConfig) (h : Hw) : Hw :=
  match d with
  | some c => putCapture n { captureAt n h with cfg := c, tuned := false, follow := none } h
  | none => { h with acq := { h.acq with captures := tdel h.acq.captures n } }

/-- Stop by command, as with abandon or not: a record in progress completes unless abandoned; a commit always completes (R231). -/
def stopBy (abandon : Bool) (n : Nat) (h : Hw) : Hw :=
  let c := captureAt n h
  if c.state = 4 ∨ ((c.state = 2 ∨ c.state = 3) ∧ abandon = false) then putCapture n { c with stopDue := true } h
  else if c.state = 0 then h else stopCapture n h

/-- Where a capture goes after a commit (R224, R230 to R232): the definition of a swap during it is taken now (log 85). -/
def afterCommit (n rec : Nat) (h : Hw) : Hw :=
  let c := captureAt n h
  let h := if c.cfg.stopOnViolation ∧ c.found.failing ≠ 0 then
      stopCapture n (acqRecord 0x0912 ((c.found.first.map (fun o => 0x0900 + o.2)).getD 0x09FF) n 0 0 rec c.built.time (putCapture n { c with byViolation := true } h))
    else if c.stopDue ∨ c.cfg.mode = 2 then stopCapture n h
    else putCapture n { c with state := 1, since := some h.time.mono } h
  match c.follow with
  | none => h
  | some d => let h := redefine n d h; match d with | some x => autoarmOne n x h | none => h

/-- Blocks that can run a firmware item. -/
def openBlocks (h : Hw) : List Nat := (List.range 24).filter (fun n => !(cellsInService n h).isEmpty)

/-- A locator's item of class C2 MEASURE in slice 0 for a line and a record. The spec names no block, image or entry for it: each is free
(R257, log 87). -/
def dispatchLocator (line rec : Nat) (h : Hw) : Hw :=
  let l := openBlocks h
  match l[Config.freeNat (3 * h.free) % l.length]? with
  | none => h
  | some n =>
    let seq := tget h.fab.sequences 0 0
    let d : Descriptor := { cls := 2, argument := rec, entry := Config.freeNat (3 * h.free + 1), image := Config.freeNat (3 * h.free + 2) }
    placeItem n { desc := d, sequence := seq, locator := some (line, rec) }
      (drawn { h with fab := { h.fab with sequences := tset h.fab.sequences 0 ((seq + 1) % 2 ^ 32) } })

/-- The locators of a capture's lines look at a record that is not FORCED (R257). -/
def dispatchLocators (r : CapRecord) (h : Hw) : Hw :=
  if bit (u16 r.header 38) 0 then h
  else h.phasor.lines.foldl (fun h e => if e.2.cfg.capture = r.capture then dispatchLocator e.1 r.number h else h) h

/-- CAPTURE_COMMIT_DONE's effect: the record is complete in DRAM, or is dropped for want of room (R227, R233). -/
def commitDone (n : Nat) (h : Hw) : Hw :=
  let c := captureAt n h
  if c.state ≠ 4 then h
  else
    let s := acqSection h
    let num := h.acq.nextRecord
    let r : CapRecord := { c.built with number := num, header := le 4 num ++ (withSecondaries c c.built.time c.built.header).drop 4 }
    let c := { c with
      untested := sat32 (c.untested + c.found.untested), shorts := if c.preShort then inc32 c.shorts else c.shorts
      maskFailures := if c.found.failing ≠ 0 then inc32 c.maskFailures else c.maskFailures }
    match makeRoom (h.acq.records.length + 1) (recordBytes r) s.storeBytes h.acq.records with
    | none =>
      let h := acqRecord 0x0913 0x09FF n 0 0 r.number r.time (putCapture n { c with noSpace := inc32 c.noSpace } h)
      afterCommit n r.number h
    | some l =>
      let lock := c.cfg.lockEach && lockedBytes l + recordBytes r ≤ s.storeBytes / 2
      let h := putCapture n { c with records := inc32 c.records, last := r.number } h
      let h := { h with
        acq := { h.acq with records := { r with locked := lock } :: l, nextRecord := (h.acq.nextRecord + 1) % 2 ^ 32 }
        fab := { h.fab with events := h.fab.events ++ [.capture n] } }
      afterCommit n r.number (dispatchLocators r (acqRecord 0x0911 0x09FF n 0 0 r.number r.time h))

/-! ### Arming and the swap (R217, R224, R232) -/

/-- The captures of a section with autoarm 1 are armed (R224). -/
def autoarm (new : AcqSection) (h : Hw) : Hw :=
  (List.range 16).foldl (fun h n => match tfind new.captures n with
    | some c => autoarmOne n c h
    | none => h) h

/-- A capture at a change-over: one whose definition changes, or that commands have changed, stops as with abandon and takes the new
one, at the end of its commit where it is COMMITTING (R231, R232). -/
def swapCapture (n : Nat) (old want : Option CaptureConfig) (h : Hw) : Hw :=
  match tfind h.acq.captures n with
  | none => if want = none then h else redefine n want h
  | some x =>
    if want = old ∧ x.tuned = false ∧ x.follow = none then h
    else if x.state = 4 then putCapture n { x with stopDue := true, follow := some want } h
    else redefine n want (stopCapture n h)

/-- The changeover of the links and captures (R224, R232). -/
def installAcq (old new : AcqSection) (h : Hw) : Hw :=
  let h := [0, 1, 2, 3].foldl (fun h l =>
    let want := tget new.links l { lanes := 0 }
    if (linkAt l h).cfg = want then h
    else
      let h := moveLink l 0 h
      if want.lanes = 0 then { h with acq := { h.acq with links := tdel h.acq.links l } }
      else putLink l { linkAt l h with cfg := want, ring := [] } h) h
  let h := (List.range 16).foldl (fun h n => swapCapture n (tfind old.captures n) (tfind new.captures n) h) h
  let fit : List CapRecord := (makeRoom (h.acq.records.length + 1) 0 new.storeBytes h.acq.records).getD []
  let h := followLinks { h with acq := { h.acq with records := fit } }
  autoarm new h

/-- Captures stop as with abandon; a commit completes (R231, R232). -/
def stopCaptures (sel : Capture → Bool) (h : Hw) : Hw := h.acq.captures.foldl (fun h e => if sel (captureAt e.1 h) then stopBy true e.1 h else h) h

/-! ### Commands (R235 to R241) -/

/-- A command on a defined capture. -/
def onCapture (n : Nat) (f : Capture → CmdResult) (h : Hw) : CmdResult :=
  match tfind h.acq.captures n with
  | none => no stBadParam rcAcqNoCapture
  | some c => f c

/-- The capture belongs to the slice of a scoped principal. -/
def captureScope (n : Nat) (_ : Call) (p : List Byte) (h : Hw) : Bool := u8 p 0 != 0xFF && (captureAt (u8 p 0) h).cfg.owner == n

/-- The record belongs to the slice of a scoped principal. -/
def recordScope (n : Nat) (_ : Call) (p : List Byte) (h : Hw) : Bool := h.acq.records.any (fun r => r.number == u32 p 0 && r.owner == n)

def acqStatusBytes (n : Nat) (c : Capture) (h : Hw) : List Byte :=
  le 1 n ++ le 1 c.state ++ le 1 c.cfg.mode ++ le 1 (flag c.tuned 0 + flag c.byViolation 1) ++ le 4 c.records ++ le 4 c.triggers ++ le 4 c.secondaries
  ++ le 4 c.forced ++ le 4 c.forcedSuspended ++ le 4 c.noSpace ++ le 4 c.shorts ++ le 4 c.maskFailures ++ le 4 c.future ++ le 4 c.last
  ++ le 4 (h.acq.segments * 4194304 * 1000000 / ringRate h)

def acqStatus (p : List Byte) (h : Hw) : CmdResult :=
  let n := u8 p 0
  onCapture n (fun c =>
    let z := { c with records := 0, triggers := 0, secondaries := 0, forced := 0, forcedSuspended := 0, noSpace := 0, shorts := 0, maskFailures := 0, future := 0 }
    .ok (if bit (u8 p 1) 0 then putCapture n z h else h) (acqStatusBytes n c h)) h

def cmdAcqStatus : Cmd := { row := rowAcqStatus, inScope := captureScope, reserved := [(2, 2)], reservedBits := [(1, 1, 0xFE)], body := fun _ p h => acqStatus p h }

def acqLinkStatus (p : List Byte) (h : Hw) : CmdResult :=
  match tfind h.acq.links (u8 p 0) with
  | none => no stBadParam rcAcqNoCapture
  | some x =>
    .ok h (le 1 (u8 p 0) ++ le 1 x.state ++ le 1 x.cfg.lanes ++ le 1 (flag x.cfg.realign 0) ++ le 4 x.crcErrors ++ le 4 x.headerErrors ++ le 4 x.phaseErrors
      ++ le 4 x.realigns ++ leInt 4 (deltaPs h.acq.delta) ++ le 2 x.skew ++ zeros 2 ++ le 4 x.invalid)

def cmdAcqLinkStatus : Cmd := { row := rowAcqLinkStatus, reserved := [(1, 3)], body := fun _ p h => acqLinkStatus p h }

/-- ACQ.ARM (R217, R218, R236). -/
def acqArm (p : List Byte) (c : Call) (h : Hw) : CmdResult :=
  let n := u8 p 0
  let ns := if n = 0xFF then h.acq.captures.map (fun e => e.1) else [n]
  let due := ns.filter (fun i => (captureAt i h).state == 0)
  if ns.any (fun i => (tfind h.acq.captures i).isNone) then no stBadParam rcAcqNoCapture
  else if due = [] then .ok h (zeros 8)
  else if segmentsFree h = false then .refuse stResourceConflict rcAcqSramHeld (le 2 h.acq.mirrorHolder.1 ++ le 2 0x0E04 ++ le 4 h.acq.mirrorHolder.2)
  else if due.any (fun i => !fitsRing (captureAt i h) (wantSegments h) h) then no stBadParam rcAcqTooLong
  else
    .ok (due.foldl (fun h i => armCapture (c.hdr.slice, i) i h) h) (zeros 8)

def cmdAcqArm : Cmd := { row := rowAcqArm, inScope := captureScope, reserved := [(1, 3)], body := fun c p h => acqArm p c h }

/-- ACQ.STOP (R231). -/
def acqStop (p : List Byte) (h : Hw) : CmdResult :=
  let n := u8 p 0
  let ns := if n = 0xFF then h.acq.captures.map (fun e => e.1) else [n]
  if ns.any (fun i => (tfind h.acq.captures i).isNone) then no stBadParam rcAcqNoCapture
  else done (ns.foldl (fun h i => stopBy (bit (u8 p 1) 0) i h) h)

def cmdAcqStop : Cmd := { row := rowAcqStop, inScope := captureScope, reserved := [(2, 2)], reservedBits := [(1, 1, 0xFE)], body := fun _ p h => acqStop p h }

/-- Oldest sample time in the ring, 2^-40 s, rounded up. -/
def ringOldest (h : Hw) : Option Nat :=
  h.acq.links.foldl (fun m e => match e.2.ring.getLast? with
    | none => m
    | some s => let t := (s.n * 2 ^ 40 + e.2.cfg.fs - 1) / e.2.cfg.fs; some (m.elim t (fun u => min u t))) none

/-- ACQ.TRIGGER (R222, R236). -/
def acqTrigger (p : List Byte) (h : Hw) : CmdResult :=
  let n := u8 p 0
  let t := if u64 p 8 = 0 ∧ u64 p 16 = 0 then to40 h.time.now else u64 p 8 * 2 ^ 40 + u64 p 16
  if n ≠ 0xFF ∧ (tfind h.acq.captures n).isNone then no stBadParam rcAcqNoCapture
  else if 2 ^ 40 ≤ u64 p 16 then no stBadParam rcAcqParamRange
  else if (ringOldest h).elim false (fun o => t < o) then no stBadParam rcAcqTooOld
  else done (launch { source := .command (if n = 0xFF then none else some n), time := t } h)

def cmdAcqTrigger : Cmd := { row := rowAcqTrigger, inScope := captureScope, reserved := [(1, 7)], body := fun _ p h => acqTrigger p h }

/-- A record's header with its locked bit (R234). -/
def headerOf (r : CapRecord) : List Byte := r.header.take 38 ++ le 2 (u16 r.header 38 + flag r.locked 7) ++ r.header.drop 40

def acqRecordRead (p : List Byte) (h : Hw) : CmdResult :=
  match h.acq.records.find? (fun r => r.number == u32 p 0) with
  | none => no stBadParam rcAcqNoRecord
  | some r =>
    if 16384 < u32 p 8 ∨ r.data.length < u32 p 4 + u32 p 8 then no stBadParam rcAcqParamRange
    else .ok h (headerOf r ++ slice r.data (u32 p 4) (u32 p 8))

def cmdAcqRecordRead : Cmd := { row := rowAcqRecordRead, inScope := recordScope, body := fun _ p h => acqRecordRead p h }

def acqRecordLock (p : List Byte) (h : Hw) : CmdResult :=
  match h.acq.records.find? (fun r => r.number == u32 p 0) with
  | none => no stBadParam rcAcqNoRecord
  | some r =>
    let lock := u8 p 4 == 1
    if 1 < u8 p 4 then no stBadParam rcAcqParamRange
    else if lock ∧ r.locked = false ∧ (acqSection h).storeBytes / 2 < lockedBytes h.acq.records + recordBytes r then no stBadParam rcAcqLockLimit
    else done { h with acq := { h.acq with records := h.acq.records.map (fun x => if x.number = r.number then { x with locked := lock } else x) } }

def cmdAcqRecordLock : Cmd := { row := rowAcqRecordLock, inScope := recordScope, reserved := [(5, 3)], body := fun _ p h => acqRecordLock p h }

/-- A change of a capture's definition needs it STOPPED (R232). -/
def stoppedCapture (n : Nat) (f : Capture → CmdResult) (h : Hw) : CmdResult :=
  onCapture n (fun c => if c.state ≠ 0 then no stBusy rcAcqNotStopped else f c) h

/-- ACQ.PROFILE (R237). -/
def acqProfile (p : List Byte) (h : Hw) : CmdResult :=
  let n := u8 p 0
  stoppedCapture n (fun c =>
    let all := (List.range 32).filter (fun i => chanEnabled i h)
    match all.head? with
    | none => no stBadParam rcAcqParamRange
    | some i =>
      let ms (t : Nat) : Nat := t * chanRate i h / 1000
      let mask := all.foldl (fun a i => a + 2 ^ i) 0
      let put (mode pre post gather : Nat) : CmdResult :=
        done (putCapture n { c with tuned := true, cfg := { c.cfg with mode := mode, channels := mask, pre := ms pre, post := ms post, gatherUs := gather, timeoutMs := if mode = 1 then 1000 else c.cfg.timeoutMs } } h)
      match u8 p 1 with
      | 1 => put 0 2 8 1000
      | 2 => put 0 5 10 2000
      | 3 => put 1 1 1 0
      | _ => no stBadParam rcAcqParamRange) h

def cmdAcqProfile : Cmd := { row := rowAcqProfile, inScope := captureScope, reserved := [(2, 2)], body := fun _ p h => acqProfile p h }

/-- ACQ.CAPTURE_SET (R238); it defines a capture the Bloom does not (log 32). -/
def acqCaptureSet (p : List Byte) (h : Hw) : CmdResult :=
  let n := u8 p 0
  let c := captureAt n h
  let f := u8 p 2
  let cfg : CaptureConfig := {
    mode := u8 p 1, stopOnViolation := bit f 0, sendCross := bit f 1, lockEach := bit f 2, autoarm := bit f 3, trigIn := u8 p 3 % 16, falling := u8 p 3 / 16
    channels := u32 p 4, pre := u32 p 8, post := u32 p 12, timeoutMs := u32 p 16, gatherUs := u16 p 20, owner := u16 p 22, sendGroup := u8 p 24
    groups := (List.range (min 4 (u8 p 25))).map (fun i => u8 p (26 + i)), selectors := [u16 p 32, u16 p 34, u16 p 36, u16 p 38]
    decisionSlice := u16 p 40, decisionFn := u16 p 42, decisionCode := u16 p 44, masks := c.cfg.masks }
  if 15 < n then no stBadParam rcAcqParamRange
  else if c.state ≠ 0 then no stBusy rcAcqNotStopped
  else if 4 < u8 p 25 ∨ captureOk (fun i => chanEnabled i h) cfg = false then no stBadParam rcAcqParamRange
  else done (putCapture n { c with cfg := cfg, tuned := true } h)

def cmdAcqCaptureSet : Cmd :=
  { row := rowAcqCaptureSet, inScope := fun n c p h => captureScope n c p h && u16 p 22 == n, reserved := [(30, 2), (46, 18)], reservedBits := [(2, 1, 0xF0)], body := fun _ p h => acqCaptureSet p h }

/-- Vertices of an envelope. -/
def readVertices (p : List Byte) (o n : Nat) : List (Int × F32) := (List.range n).map (fun i => (s32 p (o + 8 * i), f32 p (o + 8 * i + 4)))

/-- ACQ.MASK_SET (R230, R239). -/
def acqMaskSet (p : List Byte) (h : Hw) : CmdResult :=
  let n := u8 p 0
  let u := u8 p 4
  let d := u8 p 5
  stoppedCapture n (fun c =>
    let m : MaskTest := { channel := u8 p 2, enabled := bit (u8 p 3) 0, upper := readVertices p 8 u, lower := readVertices p (8 + 8 * u) d }
    let masks := tset c.cfg.masks (u8 p 1) m
    let total := (h.acq.captures.filter (fun e => e.1 != n)).foldl (fun a e => a + vertexCount e.2.cfg.masks) (vertexCount masks)
    if 15 < u8 p 1 ∨ 1 < u8 p 3 ∨ maskOk (fun i => chanEnabled i h) m = false ∨ 2048 < total then
      no stBadParam rcAcqParamRange
    else done (putCapture n { c with cfg := { c.cfg with masks := masks }, tuned := true } h)) h

def cmdAcqMaskSet : Cmd := { row := rowAcqMaskSet, inScope := captureScope, reserved := [(6, 2)], body := fun _ p h => acqMaskSet p h }

/-- ACQ.LINK_SET (R212, R240): the link restarts from DOWN; L = 0 removes it. -/
def acqLinkSet (p : List Byte) (h : Hw) : CmdResult :=
  let l := u8 p 0
  let old := (linkAt l h).cfg
  let c : LinkConfig := {
    lanes := u8 p 1, first := u8 p 2, converters := u8 p 3, octets := u8 p 4, samples := u8 p 5, blocks := u8 p 6, rbd := u8 p 7, fs := u32 p 8
    latency := u16 p 12, realign := bit (u8 p 14) 0, enable := u32 p 16, teu := old.teu }
  if 3 < l ∨ 1 < u8 p 14 ∨ 4095 < c.latency then no stBadParam rcAcqParamRange
  else if c.lanes = 0 then
    let h := moveLink l 0 h
    done (followLinks { h with acq := { h.acq with links := tdel h.acq.links l } })
  else if linksOk (c :: (h.acq.links.filter (fun e => e.1 != l)).map (fun e => e.2.cfg)) (sysrefPeriod h) = false then no stBadParam rcAcqLink
  else
    let h := moveLink l 0 h
    done (followLinks (putLink l { linkAt l h with cfg := c, ring := [] } h))

def cmdAcqLinkSet : Cmd := { row := rowAcqLinkSet, reserved := [(15, 1), (20, 4)], body := fun _ p h => acqLinkSet p h }

/-- ACQ.STATUS. -/
def execAcqStatus (c : Call) (p : List Byte) : State → Host.Outcome State Fault Refusal := lift (runCmd cmdAcqStatus c p)
/-- ACQ.LINK_STATUS. -/
def execAcqLinkStatus (c : Call) (p : List Byte) : State → Host.Outcome State Fault Refusal := lift (runCmd cmdAcqLinkStatus c p)
/-- ACQ.ARM. -/
def execAcqArm (c : Call) (p : List Byte) : State → Host.Outcome State Fault Refusal := lift (runCmd cmdAcqArm c p)
/-- ACQ.STOP. -/
def execAcqStop (c : Call) (p : List Byte) : State → Host.Outcome State Fault Refusal := lift (runCmd cmdAcqStop c p)
/-- ACQ.TRIGGER. -/
def execAcqTrigger (c : Call) (p : List Byte) : State → Host.Outcome State Fault Refusal := lift (runCmd cmdAcqTrigger c p)
/-- ACQ.RECORD_READ. -/
def execAcqRecordRead (c : Call) (p : List Byte) : State → Host.Outcome State Fault Refusal := lift (runCmd cmdAcqRecordRead c p)
/-- ACQ.RECORD_LOCK. -/
def execAcqRecordLock (c : Call) (p : List Byte) : State → Host.Outcome State Fault Refusal := lift (runCmd cmdAcqRecordLock c p)
/-- ACQ.PROFILE. -/
def execAcqProfile (c : Call) (p : List Byte) : State → Host.Outcome State Fault Refusal := lift (runCmd cmdAcqProfile c p)
/-- ACQ.CAPTURE_SET. -/
def execAcqCaptureSet (c : Call) (p : List Byte) : State → Host.Outcome State Fault Refusal := lift (runCmd cmdAcqCaptureSet c p)
/-- ACQ.MASK_SET. -/
def execAcqMaskSet (c : Call) (p : List Byte) : State → Host.Outcome State Fault Refusal := lift (runCmd cmdAcqMaskSet c p)
/-- ACQ.LINK_SET. -/
def execAcqLinkSet (c : Call) (p : List Byte) : State → Host.Outcome State Fault Refusal := lift (runCmd cmdAcqLinkSet c p)

end Sys2Proof.Machine
end

