-- ==== Sys2Proof/Machine/Slice.lean ====
section
/-! DEFINITION. Slices: the quiesce procedure, the shared DMA engines, reset, limits, and the SLICE commands (R298 to R317). -/
namespace Sys2Proof.Machine

/-- The payload of R317: the slice's new generation. -/
def slicePayload (s : Nat) (h : Hw) : List Byte := le 2 (sliceAt s h).generation ++ zeros 46

/-- Number of items of a slice. -/
def sliceItems (s : Nat) (l : List Item) : Nat := (l.filter (fun i => i.slice == s)).length

/-- An item that quiescing removes: the slice's own, but not a rerun already dispatched (R165, R310). -/
def dropped (s : Nat) (i : Item) : Bool := i.slice == s && !bit i.desc.flags 1

/-- Step 2 of R310 in one block. -/
def dropItems (s n : Nat) (h : Hw) : Hw :=
  let b := blockAt n h
  let gone := (b.ready.filter (dropped s)).length + (b.delay.filter (dropped s)).length + (b.slots.filter (fun e => dropped s e.2)).length
  let h := putBlock n { b with ready := b.ready.filter (fun i => !dropped s i), delay := b.delay.filter (fun i => !dropped s i), slots := b.slots.filter (fun e => !dropped s e.2) } h
  let x := sliceAt s h
  putSlice s { x with quiesceDrop := sat32 (x.quiesceDrop + gone) } h

/-- Step 3 of R310, the ledger's part (R165). -/
def quiesceLedger (s : Nat) (h : Hw) : Hw :=
  (h.spec.entries.filter (fun e => e.2.slice == s && (e.2.state == 1 || e.2.state == 2))).foldl (fun h e => resolveOther e.1 9 true h) h

/-- Step 3 of R310, the captures' part: as with abandon; a commit completes (R231). -/
def quiesceCaptures (s : Nat) (h : Hw) : Hw :=
  h.acq.captures.foldl (fun h e => if (captureAt e.1 h).cfg.owner = s then stopBy true e.1 h else h) h

/-- Cancel the queued descriptors of a slice in one queue; the head is in progress. -/
def cancelQueue (s : Nat) (busy : Bool) (l : List DmaDesc) : List DmaDesc × List DmaDesc :=
  let head := if busy then l.take 1 else []
  let rest := if busy then l.drop 1 else l
  (head ++ rest.filter (fun d => d.slice != s), rest.filter (fun d => d.slice == s))

/-- Step 4 of R310: cancelled descriptors, with their completions, and the frames that have not started. -/
def quiesceEngines (s : Nat) (h : Hw) : Hw :=
  let (rec, c1) := cancelQueue s true h.slc.recQueue
  let (net, c2) := cancelQueue s true h.slc.netQueue
  let (rx, c3) := cancelQueue s false h.slc.rxQueue
  let gone := c1 ++ c2 ++ c3
  let done := (gone.filter (fun d => bit d.flags 0)).map (fun d => ({ slice := s, tag := d.tag, status := 1, engine := d.engine, generation := d.generation } : DmaCompletion))
  let frames := h.slc.rxFrames.filter (fun f => f.slice == s)
  let queued := h.net.ports.foldl (fun a e => a + (e.2.queue.filter (fun f => f.slice == some s)).length) 0
  let h := { h with
    slc := { h.slc with recQueue := rec, netQueue := net, rxQueue := rx, completions := h.slc.completions ++ done, rxFrames := h.slc.rxFrames.filter (fun f => f.slice != s) }
    net := { h.net with ports := tmap h.net.ports (fun _ x => { x with queue := x.queue.filter (fun f => f.slice != some s) }) } }
  let x := sliceAt s h
  putSlice s { x with cancelled := sat32 (x.cancelled + gone.length), quiesceDrop := sat32 (x.quiesceDrop + frames.length + queued) } h

/-- The quiesce procedure (R310). -/
def quiesceSlice (s : Nat) (h : Hw) : Hw :=
  let h := putSlice s { sliceAt s h with state := 2, resuming := false } h
  let h := (List.range (blockCount h)).foldl (fun h n => dropItems s n h) h
  let h := quiesceLedger s h
  let h := stopChains (fun c => c.cfg.owner == s) h
  let h := quiesceCaptures s h
  quiesceEngines s h

/-- The conditions of R311. -/
def quiescent (s : Nat) (h : Hw) : Bool :=
  !(h.fab.blocks.any (fun b => b.2.running.any (fun r => r.2.item.slice == s)))
  && !(h.slc.recQueue.any (fun d => d.slice == s) || h.slc.netQueue.any (fun d => d.slice == s) || h.slc.rxQueue.any (fun d => d.slice == s))
  && !(h.spec.entries.any (fun e => e.2.slice == s))
  && !(h.filt.chains.any (fun c => c.2.cfg.owner == s && c.2.state != 0))
  && !(h.acq.captures.any (fun c => c.2.cfg.owner == s && c.2.state != 0))

/-- SLICE_QUIESCED's effect (R309, R311, R312, R512). -/
def sliceQuiesced (s : Nat) (h : Hw) : Hw :=
  let x := sliceAt s h
  if s = 0 ∨ x.state ≠ 2 ∨ quiescent s h = false then h
  else
    let h := putSlice s { x with state := 3, quiesces := inc32 x.quiesces } h
    complete (.quiesce s) stOk 0 [] (evrSlice 0x0C10 0x0000 s (slicePayload s h) h)

/-- SLICE_QUIESCED. -/
def execSliceQuiesced (s : Nat) : State → Host.Outcome State Fault Refusal := lift (sliceQuiesced s)

/-- The next generation (R308). -/
def nextGeneration (g : Nat) : Nat := if 65535 ≤ g then 1 else g + 1

/-- SLICE_ZEROING_DONE's effect (R313, R512). -/
def zeroingDone (s : Nat) (h : Hw) : Hw :=
  let x := sliceAt s h
  if x.zeroing = false then h
  else
    let h := putSlice s { x with zeroing := false } h
    let h := { h with fab := { h.fab with dram := memZero h.fab.dram x.cfg.base x.cfg.size } }
    complete (.sliceReset s) stOk 0 [] (evrSlice 0x0C11 0x0000 s (slicePayload s h) h)

/-- SLICE_ZEROING_DONE. -/
def execSliceZeroingDone (s : Nat) : State → Host.Outcome State Fault Refusal := lift (zeroingDone s)

/-! ### The shared engines (R304 to R307) -/

/-- Time that a slice's rate gives a transfer, 2^-64 s. -/
def paceTime (rate length : Nat) : Nat := length * 2 ^ 64 / (rate * 1000000)

/-- Post a completion where one is wanted: status 0 DONE, 2 FAULT. -/
def postCompletion (d : DmaDesc) (status count : Nat) (h : Hw) : Hw :=
  if bit d.flags 0 then
    { h with slc := { h.slc with completions := h.slc.completions ++ [{ slice := d.slice, tag := d.tag, status := status, engine := d.engine, count := count, generation := d.generation }] } }
  else h

/-- An engine lets go of a descriptor: `move` is its transfer, done where it did not fail and the slice still has the generation and
the memory that the descriptor was accepted with; no other slice's memory is reached (R302, R304). -/
def letGo (d : DmaDesc) (fault : Bool) (count : Nat) (move : Hw → Hw) (h : Hw) : Hw :=
  let x := sliceAt d.slice h
  let inside := (d.engine = 2 ∨ inData d.source d.length x) ∧ (d.engine = 1 ∨ inData d.destination d.length x)
  if fault ∨ d.generation ≠ x.generation ∨ ¬inside then postCompletion d 2 0 h else postCompletion d 0 count (move h)

/-- Write bytes of a transfer into the slice's data range. -/
def dmaWrite (d : DmaDesc) (bs : List Byte) (h : Hw) : Hw :=
  { h with fab := { h.fab with dram := memPut h.fab.dram (physical d.slice d.destination h) bs } }

/-- The bytes that a transfer reads from the slice's data range. -/
def dmaRead (d : DmaDesc) (h : Hw) : List Byte := memGet h.fab.dram (physical d.slice d.source h) d.length

/-- The first waiting frame with a posted buffer of its slice. -/
def rxNext (h : Hw) : Option (RxFrame × DmaDesc) :=
  h.slc.rxFrames.findSome? (fun f => (h.slc.rxQueue.find? (fun d => d.slice == f.slice)).map (fun d => (f, d)))

/-- DMA_DESCRIPTOR_DONE's effect: the engine lets go of its descriptor, no sooner than the slice's rate gives; `fault` when the
transfer failed (R305, R307). -/
def dmaDone (engine : Nat) (fault : Bool) (h : Hw) : Hw :=
  match engine with
  | 0 => match h.slc.recQueue with
    | [] => h
    | d :: rest =>
      if h.time.mono - h.slc.recSince < paceTime (sliceAt d.slice h).cfg.recRate d.length then h
      else letGo d fault d.length (fun h => dmaWrite d (dmaRead d h) h) { h with slc := { h.slc with recQueue := rest, recSince := h.time.mono } }
  | 1 => match h.slc.netQueue with
    | [] => h
    | d :: rest =>
      if h.time.mono - h.slc.netSince < paceTime (sliceAt d.slice h).cfg.netRate d.length then h
      else letGo d fault d.length (fun h => netTransmit d.slice ((sliceDie d.slice h).getD 0) (dmaRead d h) h)
        { h with slc := { h.slc with netQueue := rest, netSince := h.time.mono } }
  | 2 => match rxNext h with
    | none => h
    | some (f, d) =>
      let x := sliceAt d.slice h
      let data := f.bytes.take d.length
      if f.generation ≠ x.generation then putSlice d.slice { x with stale := inc32 x.stale } { h with slc := { h.slc with rxFrames := h.slc.rxFrames.erase f } }
      else if h.time.mono - max h.slc.rxSince (max f.since d.posted) < paceTime x.cfg.netRate data.length then h
      else letGo d fault data.length (dmaWrite d data)
        { h with slc := { h.slc with rxQueue := h.slc.rxQueue.erase d, rxFrames := h.slc.rxFrames.erase f, rxSince := h.time.mono } }
  | _ => h

/-- DMA_DESCRIPTOR_DONE. -/
def execDmaDescriptorDone (engine : Nat) (fault : Bool) : State → Host.Outcome State Fault Refusal := lift (dmaDone engine fault)

/-! ### The image (R300, R301, R308, R309) -/

/-- Bytes of DRAM below the firmware reserve. -/
def sliceMemory : Nat := 63 * 2 ^ 30

/-- A slice's fields are within R300. -/
def sliceRangeOk (s : SliceConfig) : Bool :=
  1 ≤ s.slice && s.slice ≤ 511 && s.base % 0x200000 == 0 && s.size % 0x200000 == 0 && 0x200000 ≤ s.size && s.size ≤ 60 * 2 ^ 30
  && 1 ≤ s.weight && s.weight ≤ 255 && s.engines ≤ 3 && 1 ≤ s.burst && s.burst ≤ 65535 && 1 ≤ s.itemRate && s.itemRate ≤ 10000000
  && 1 ≤ s.recRate && s.recRate ≤ 16000 && 1 ≤ s.netRate && s.netRate ≤ 2500
  && s.ring % 4096 == 0 && 0x100000000 ≤ s.ring && s.ring + 4096 ≤ 0x100000000 + s.size

/-- Two ranges meet. -/
def rangesMeet (a b : SliceConfig) : Bool := a.base < b.base + b.size && b.base < a.base + a.size

/-- A key root of R301: a DERIVE key (USE 1) at depth 2 directly under the MRK. -/
def keyRootOk (s : SliceConfig) (h : Hw) : Bool :=
  let k := keySlot (hdlSlot s.keyRoot) h
  validHandle s.keyRoot h && k.use == 1 && k.depth == 2 && k.parent == 3

/-- A swap changes a slice in a way that needs it QUIESCED. -/
def liveChange (new : Option SliceConfig) (x : SliceInst) : Bool :=
  match new with
  | none => true
  | some c => c.asid != x.cfg.asid || c.base != x.cfg.base || c.size != x.cfg.size || c.keyRoot != x.cfg.keyRoot

/-- The refusals of R301 but the last: reason and slice. -/
def checkSlices (b : Image) (h : Hw) : Option (Nat × Nat) :=
  let l := b.slices
  let named := b.fns.map (fun f => f.slice) ++ b.chains.map (fun c => c.owner) ++ b.acq.captures.map (fun c => c.2.owner) ++ b.net.bindings.map (fun x => x.slice)
    ++ (b.acq.captures.map (fun c => c.2.decisionSlice)).filter (fun s => s != 0xFFFF) ++ b.access.filterMap (fun p => p.scope)
  match l.zipIdx.find? (fun e => e.1.asid == 0 || 65535 < e.1.asid || (l.take e.2).any (fun s => s.asid == e.1.asid)) with
  | some e => some (rcSliceAsid, e.1.slice)
  | none => match l.zipIdx.find? (fun e => sliceMemory < e.1.base + e.1.size || (l.take e.2).any (fun s => rangesMeet s e.1)) with
  | some e => some (rcSliceMemory, e.1.slice)
  | none =>
  if sliceMemory < l.foldl (fun a s => a + s.size) 0 then some (rcSliceMemory, 0xFFFFFFFF)
  else match l.zipIdx.find? (fun e => !keyRootOk e.1 h || (l.take e.2).any (fun s => s.keyRoot == e.1.keyRoot)) with
  | some e => some (rcSliceKeyRoot, e.1.slice)
  | none => match l.zipIdx.find? (fun e => !sliceRangeOk e.1 || (l.take e.2).any (fun s => s.slice == e.1.slice)) with
  | some e => some (rcSliceParamRange, e.1.slice)
  | none => (named.find? (fun s => s != 0 && !(l.any (fun x => x.slice == s)))).map (fun s => (rcSliceNoSlice, s))

/-- The last refusal of R301: a live change of a slice that is not QUIESCED. -/
def checkLive (b : Image) (h : Hw) : Option (Nat × Nat) :=
  (h.slc.insts.find? (fun e => e.1 != 0 && e.2.state != 0 && e.2.state != 3 && liveChange (b.slices.find? (fun s => s.slice == e.1)) e.2)).map (fun e => (rcSliceLiveChange, e.1))

/-- A slice that the new Bloom does not define: UNDEFINED. Its generation goes on, and its resets count since boot (R308, R309, R315, log 91). -/
def removedSlice (x : SliceInst) : SliceInst := { generation := nextGeneration x.generation, resets := x.resets }

/-- A slice that a Bloom defines, with full buckets (R309, log 5). -/
def definedSlice (c : SliceConfig) (x : SliceInst) (mono : Nat) : SliceInst :=
  { state := 1, cfg := c, generation := x.generation, resets := x.resets, items := c.burst * 2 ^ 64, recBytes := (c.recRate * 1000 * 2 ^ 64 : Nat)
    netBytes := (c.netRate * 1000 * 2 ^ 64 : Nat), filledAt := mono }

/-- Take a Bloom's slices at a swap: tuned values end, changed slices get a new generation, new ones run (R308, R309). -/
def installSlices (new : List SliceConfig) (h : Hw) : Hw :=
  let h := { h with slc := { h.slc with insts := tmap h.slc.insts (fun s x => if s = 0 ∨ x.state = 0 ∨ new.any (fun c => c.slice == s) then x else removedSlice x) } }
  new.foldl (fun h c =>
    let x := sliceAt c.slice h
    if x.state = 0 then putSlice c.slice (definedSlice c x h.time.mono) h
    else
      let g := if liveChange (some c) x then nextGeneration x.generation else x.generation
      putSlice c.slice { x with cfg := c, tuned := false, resetSince := false, next := none, generation := g } h) h

/-! ### Commands (R314 to R316) -/

/-- The entry and counters of SLICE.STATUS (R300, R315). -/
def sliceStatusBytes (s : Nat) (h : Hw) : List Byte :=
  let x := sliceAt s h
  let c := x.cfg
  le 2 s ++ le 1 x.state ++ le 1 (flag x.tuned 0 + flag x.resetSince 1 + flag x.zeroing 2) ++ le 2 c.asid ++ le 2 x.generation ++ le 8 (sliceRange s h).1
  ++ le 8 (sliceRange s h).2 ++ le 4 c.keyRoot ++ le 1 c.weight ++ le 1 c.engines ++ le 2 c.burst ++ le 4 c.itemRate ++ le 4 c.recRate ++ le 4 c.netRate
  ++ zeros 4 ++ le 8 c.ring ++ zeros 8 ++ le 4 x.itemsLimited ++ le 4 x.bytesLimited ++ le 4 x.quiesceDrop ++ le 4 x.cancelled ++ le 4 x.stale
  ++ le 4 x.resets ++ le 4 x.quiesces ++ zeros 4

/-- A slice without its counters; resets stay (R313, R315). -/
def clearSlice (x : SliceInst) : SliceInst :=
  { x with itemsLimited := 0, bytesLimited := 0, quiesceDrop := 0, cancelled := 0, stale := 0, quiesces := 0 }

/-- SLICE.STATUS: a session that names slice n reads slice n only (R314). -/
def sliceStatus (c : Call) (p : List Byte) (h : Hw) : CmdResult :=
  let s := u16 p 0
  if c.hdr.slice ≠ 0 ∧ c.hdr.slice ≠ 0xFFFF ∧ c.hdr.slice ≠ s then no stDenied rcSliceNotManager
  else if 511 < s ∨ (s ≠ 0 ∧ sliceDefined s h = false) then no stBadParam rcSliceNoSlice
  else .ok (if bit (u8 p 2) 0 then putSlice s (clearSlice (sliceAt s h)) h else h) (sliceStatusBytes s h)

def cmdSliceStatus : Cmd :=
  { row := rowSliceStatus, inScope := fun n _ p _ => u16 p 0 == n, reserved := [(3, 1)], reservedBits := [(2, 1, 0xFE)], body := fun c p h => sliceStatus c p h }

/-- The manager's commands: from a session that names slice 0 or 0xFFFF, on a defined slice (R298, R314). -/
def managed (c : Call) (s : Nat) (f : SliceInst → CmdResult) (h : Hw) : CmdResult :=
  if c.hdr.slice ≠ 0 ∧ c.hdr.slice ≠ 0xFFFF then no stDenied rcSliceNotManager
  else if s = 0 then no stDenied rcSliceModule
  else if 511 < s ∨ sliceDefined s h = false then no stBadParam rcSliceNoSlice
  else f (sliceAt s h)

/-- SLICE.QUIESCE (R310, R312). -/
def sliceQuiesce (c : Call) (p : List Byte) (h : Hw) : CmdResult :=
  let s := u16 p 0
  managed c s (fun x => if x.state = 1 then .accepted (quiesceSlice s h) (.quiesce s) else done h) h

def cmdSliceQuiesce : Cmd := { row := rowSliceQuiesce, reserved := [(2, 2)], body := fun c p h => sliceQuiesce c p h }

/-- SLICE.RESUME (R312, R313). -/
def sliceResume (c : Call) (p : List Byte) (h : Hw) : CmdResult :=
  let s := u16 p 0
  managed c s (fun x =>
    if x.state = 1 then done h
    else if x.state = 2 ∨ x.zeroing then no stBusy rcSliceQuiescing
    else done (putSlice s { x with resuming := true } h)) h

def cmdSliceResume : Cmd := { row := rowSliceResume, reserved := [(2, 2)], body := fun c p h => sliceResume c p h }

/-- SLICE.RESET (R308, R312, R313): the new generation at acceptance; the memory is zero when zeroing completes. -/
def sliceReset (c : Call) (p : List Byte) (h : Hw) : CmdResult :=
  let s := u16 p 0
  managed c s (fun x =>
    if x.state = 1 then no stNotQuiesced rcSliceNotQuiesced
    else if x.state = 2 ∨ x.zeroing then no stBusy rcSliceQuiescing
    else
      let y := { clearSlice x with
        generation := nextGeneration x.generation, zeroing := true, resetSince := true, resuming := false, resets := inc32 x.resets, completion := 0
        items := 0, recBytes := 0, netBytes := 0, filledAt := h.time.mono }
      .accepted (putSlice s y h) (.sliceReset s)) h

def cmdSliceReset : Cmd := { row := rowSliceReset, reserved := [(2, 2)], body := fun c p h => sliceReset c p h }

/-- New limits from the next tick (R316). -/
def setLimits (s : Nat) (f : SliceConfig → SliceConfig) (x : SliceInst) (h : Hw) : CmdResult :=
  done (putSlice s { x with next := some (f (x.next.getD x.cfg)), tuned := true } h)

def sliceProfile (c : Call) (p : List Byte) (h : Hw) : CmdResult :=
  let s := u16 p 0
  managed c s (fun x =>
    match u8 p 2 with
    | 1 => setLimits s (fun k => { k with weight := 4, itemRate := 20000, recRate := 100, netRate := 10 }) x h
    | 2 => setLimits s (fun k => { k with weight := 16, itemRate := 100000, recRate := 1000, netRate := 100 }) x h
    | 3 => setLimits s (fun k => { k with weight := 64, itemRate := 500000, recRate := 4000, netRate := 1000 }) x h
    | _ => no stBadParam rcSliceParamRange) h

def cmdSliceProfile : Cmd := { row := rowSliceProfile, reserved := [(3, 1)], body := fun c p h => sliceProfile c p h }

def sliceLimits (c : Call) (p : List Byte) (h : Hw) : CmdResult :=
  let s := u16 p 0
  managed c s (fun x =>
    if 10000000 < u32 p 4 ∨ 16000 < u32 p 8 ∨ 2500 < u32 p 12 then no stBadParam rcSliceParamRange
    else setLimits s (fun k => { k with
      weight := keepOr (u8 p 2) 0 k.weight, engines := keepOr (u8 p 3) 0 k.engines, itemRate := keepOr (u32 p 4) 0 k.itemRate
      recRate := keepOr (u32 p 8) 0 k.recRate, netRate := keepOr (u32 p 12) 0 k.netRate, burst := keepOr (u16 p 16) 0 k.burst }) x h) h

def cmdSliceLimits : Cmd := { row := rowSliceLimits, reserved := [(18, 6)], reservedBits := [(3, 1, 0xFC)], body := fun c p h => sliceLimits c p h }

/-- SLICE.STATUS. -/
def execSliceStatus (c : Call) (p : List Byte) : State → Host.Outcome State Fault Refusal := lift (runCmd cmdSliceStatus c p)
/-- SLICE.QUIESCE. -/
def execSliceQuiesce (c : Call) (p : List Byte) : State → Host.Outcome State Fault Refusal := lift (runCmd cmdSliceQuiesce c p)
/-- SLICE.RESUME. -/
def execSliceResume (c : Call) (p : List Byte) : State → Host.Outcome State Fault Refusal := lift (runCmd cmdSliceResume c p)
/-- SLICE.RESET. -/
def execSliceReset (c : Call) (p : List Byte) : State → Host.Outcome State Fault Refusal := lift (runCmd cmdSliceReset c p)
/-- SLICE.PROFILE. -/
def execSliceProfile (c : Call) (p : List Byte) : State → Host.Outcome State Fault Refusal := lift (runCmd cmdSliceProfile c p)
/-- SLICE.LIMITS. -/
def execSliceLimits (c : Call) (p : List Byte) : State → Host.Outcome State Fault Refusal := lift (runCmd cmdSliceLimits c p)

end Sys2Proof.Machine
end

