-- ==== Sys2Proof/Machine/Key.lean ====
section
/-! DEFINITION. The key store: derivation, import, replacement, invalidation, the sealed table, attestation, and the KEY commands (R418 to R443). -/
namespace Sys2Proof.Machine

/-- Change a slot. -/
def putKey (n : Nat) (k : KeySlot) (h : Hw) : Hw := { h with keys := { h.keys with slots := tset h.keys.slots n k } }

/-! ### Values (R419, R423) -/

/-- The public key of a SIGN or AGREE key; the IDK's is kept, so that a zeroised store can still give it (R436); of the CVK, the imported one. -/
def publicOf (n : Nat) (h : Hw) : List Byte :=
  let k := keySlot n h
  if n = 1 then h.keys.idkPublic
  else if k.use = 4 then slice k.value 0 133 else slice (Config.publicKey (keyValue 8 n h)) 0 133

/-- A slot that is STAGED or VERIFIED. -/
def inReplacement (k : KeySlot) : Bool := k.state == 2 || k.state == 3

/-- The value that a derived key takes at the commit of its replacement: with its own next version, and under its parent's
next value where that is replaced too (R423, R428); `fuel` is the greatest depth and one more. -/
def nextValue : Nat → Nat → Hw → List Byte
  | 0, _, _ => []
  | fuel + 1, n, h =>
    let k := keySlot n h
    match k.succ with
    | some u => if inReplacement k && k.origin == 0 then derived (nextValue fuel k.parent h) k u.version h.keys.epoch else keyValue (fuel + 1) n h
    | none => keyValue (fuel + 1) n h

/-- The public key of the staged successor of a derived key. -/
def successorPublic (n : Nat) (h : Hw) : List Byte := slice (Config.publicKey (nextValue 8 n h)) 0 133

/-! ### Who may name what (R303, R421, R424) -/

/-- Slot of a slice's key root. -/
def rootOf (s : Nat) (h : Hw) : Nat := hdlSlot (sliceAt s h).cfg.keyRoot

/-- The slice to which keys created under a parent belong: the parent's own owner, or else the slice whose key root the parent is or lies below (R424). -/
def ownerUnder (parent : Nat) (h : Hw) : Nat :=
  let own := (keySlot parent h).owner
  if own ≠ 0xFFFF then own
  else match h.slc.insts.find? (fun e => e.2.state != 0 && validHandle e.2.cfg.keyRoot h && (hdlSlot e.2.cfg.keyRoot == parent || isBelow 7 (hdlSlot e.2.cfg.keyRoot) parent h)) with
    | some e => e.1
    | none => own

/-- The caller may name the key (R303, R424): a module session the module's own; a slice's session its key root and the keys
that record the slice as their owner, an orphan below a freed slot among them (log 122). -/
def mayName (c : Call) (n : Nat) (h : Hw) : Bool :=
  if c.hdr.slice = 0 ∨ c.hdr.slice = 0xFFFF then (keySlot n h).owner == 0xFFFF
  else sliceDefined c.hdr.slice h && ((validHandle (sliceAt c.hdr.slice h).cfg.keyRoot h && rootOf c.hdr.slice h == n) || (keySlot n h).owner == c.hdr.slice)

/-! ### Bindings (R433) -/

/-- Users of keys in an image: kind, index, handle. -/
def bindingsOf (b : Image) : List (Nat × Nat × Nat) :=
  (b.streams.zipIdx.filterMap (fun e => if e.1.auth = 0 then none else e.1.key.map (fun k => (1, e.2, k))))
  ++ (b.outStages.filterMap (fun s => s.key.map (fun k => (2, s.stage, k))))
  ++ ((b.cycles.flatMap (fun i => i.stations)).filterMap (fun s => s.key.map (fun k => (3, s.station, k))))
  ++ (match b.pair with | some p => (p.key.map (fun k => (4, 0, k))).toList | none => [])
  ++ (match b.constellation with | some x => (x.key.map (fun k => (5, 0, k))).toList | none => [])
  ++ (b.acq.groups.filterMap (fun g => g.2.key.map (fun k => (6, g.1, k))))
  ++ (b.lines.filterMap (fun l => l.key.map (fun k => (7, l.line, k))))
  ++ (b.slices.map (fun s => (8, s.slice, s.keyRoot)))

/-- Users of a slot under the Bloom in force. -/
def usersOf (n : Nat) (h : Hw) : List (Nat × Nat) :=
  ((h.cfg.bloom.map bindingsOf).getD []).filterMap (fun e => if validHandle e.2.2 h && hdlSlot e.2.2 == n then some (e.1, e.2.1) else none)

/-- A slot and all below it, by slot number. -/
def withSubtree (n : Nat) (h : Hw) : List Nat := ((n :: subtree n h).mergeSort (fun a b => a ≤ b))

/-- Bound keys of a slot and below: their number, and kind and index of the lowest-numbered one's first user. -/
def boundUnder (n : Nat) (h : Hw) : Nat × Nat × Nat :=
  let l := (withSubtree n h).filter (fun m => usersOf m h != [])
  match l with
  | [] => (0, 0, 0)
  | m :: _ => match usersOf m h with | (k, i) :: _ => (l.length, k, i) | [] => (0, 0, 0)

/-! ### Records (R442) -/

/-- A record of the store. -/
def keyRecord (code source handle old new kind index keyId : Nat) (h : Hw) : Hw :=
  evr code source (le 4 handle ++ le 1 old ++ le 1 new ++ le 1 kind ++ zeros 1 ++ le 4 index ++ le 4 keyId ++ le 1 h.keys.epoch ++ zeros 7 ++ nowBytes h) h

/-! ### Freeing and orphaning (R421, R434, R435) -/

/-- Free a slot: GEN goes on by one, and wraps to 1. Its key identifier stays for the users it leaves (R435). -/
def freeKey (n : Nat) (h : Hw) : Hw :=
  let k := keySlot n h
  putKey n { state := 0, gen := nextGen k.gen, use := k.use, keyId := k.keyId } h

/-- Orphan a slot: its successor is discarded. -/
def orphanKey (n : Nat) (h : Hw) : Hw := let k := keySlot n h; putKey n { k with state := 4, succ := none } h

/-- The outgoing users of a slot fall silent, each with CODE 0x1113 (R435). -/
def silence (n : Nat) (h : Hw) : Hw :=
  let hdl := handleOf n (keySlot n h)
  ((usersOf n h).filter (fun u => 2 ≤ u.1 && u.1 ≤ 7)).foldl (fun h u =>
    keyRecord 0x1113 0x0C00 hdl (keySlot n h).state (keySlot n h).state u.1 u.2 (keySlot n h).keyId h) h

/-- A forced invalidation: every effect but the table write and the reply. -/
def forceInvalidate (n : Nat) (h : Hw) : Hw :=
  let below := subtree n h
  let h := (withSubtree n h).foldl (fun h m => silence m h) h
  let h := below.foldl (fun h m => orphanKey m h) h
  freeKey n h

/-- Write the older of the two sealed areas (R429); successors are in it (the model's choice, log 125). -/
def writeArea (h : Hw) : Hw :=
  { h with keys := { h.keys with areas := ({ epoch := h.keys.epoch, slots := h.keys.slots, counter := h.keys.counter } :: h.keys.areas).take 2 } }

/-! ### The operations -/

/-- What a key command comes to. -/
inductive KeyResult where
  /-- Refused. -/
  | refuse (status reason : Nat) (payload : List Byte)
  /-- Replies at once. -/
  | now (h : Hw) (payload : List Byte)
  /-- Takes effect and replies when the sealed table has been written (R429). -/
  | write (h : Hw) (payload : List Byte)
  /-- A forced invalidation: in force now, the reply waits for the write (R435). -/
  | forced (h : Hw) (payload : List Byte) (old keyId : Nat)

/-- Refuse without a payload. -/
def kno (st rc : Nat) : KeyResult := .refuse st rc []

/-- A handle that the caller may name and that is not ORPHANED. -/
def onKey (c : Call) (x : Nat) (h : Hw) (f : Nat → KeySlot → KeyResult) : KeyResult :=
  let n := hdlSlot x
  if validHandle x h = false ∨ mayName c n h = false then kno stBadParam rcKeyUnknown
  else if (keySlot n h).state = 4 then kno stKeyOrphaned rcKeyOrphaned
  else f n (keySlot n h)

/-- "wrap" (R425). -/
def wrapLabel : List Byte := [0x77#8, 0x72#8, 0x61#8, 0x70#8]

/-- The handle and the key identifier to which a wrapped block is tied (R425). -/
def wrapContext (hdl keyId : Nat) : List Byte := le 4 hdl ++ le 4 keyId

/-- The wrapping key of a block at an offset: of the IMK's agreement with the block's ephemeral key (R425). -/
def wrappingKey (o hdl keyId : Nat) (p : List Byte) (h : Hw) : List Byte :=
  slice (Config.hkdf [] (slice (Config.ecdh (keyValue 8 2 h) (slice p o 133)) 0 66) (wrapLabel ++ wrapContext hdl keyId) 32) 0 32

/-- The key value of the wrapped block at an offset, of its use's length: none when its tag fails, or without the IMK (R422,
R425, log 123). -/
def unwrapBlock (c : Call) (o use hdl keyId : Nat) (p : List Byte) (h : Hw) : Option (List Byte) :=
  let imk := keySlot 2 h
  if c.crypto.tagPasses = false ∨ imk.state = 0 ∨ imk.state = 4 then none
  else some (slice (Config.gcmOpen (wrappingKey o hdl keyId p h) (slice p (o + 136) 12) (wrapContext hdl keyId) (slice p (o + 148) 32) (slice p (o + 180) 16)) 0 (macLength use))

/-- Lowest free slot from 16 on. -/
def freeSlot (h : Hw) : Option Nat := ((List.range 1008).find? (fun i => (keySlot (16 + i) h).state == 0)).map (fun i => 16 + i)

/-- The label of a command. -/
def labelAt (o n : Nat) (p : List Byte) : List Byte := slice p o n

/-- KEY.DERIVE (R423, R440). -/
def keyDerive (c : Call) (p : List Byte) (h : Hw) : KeyResult :=
  let use := u8 p 4
  let n := u16 p 6
  let label := labelAt 8 n p
  if h.keys.selftestFailed then kno stInternal rcKeySelftest
  else onKey c (u32 p 0) h (fun par k =>
    if k.use ≠ 1 ∨ (use ≠ 1 ∧ use ≠ 2 ∧ use ≠ 3 ∧ use ≠ 8) ∨ n = 0 ∨ 64 < n then kno stBadParam rcKeyUse
    else match h.keys.slots.find? (fun e => e.2.state != 0 && e.2.state != 4 && e.2.parent == par && e.2.parentGen == k.gen && e.2.use == use && e.2.label == label && e.2.origin == 0 && 0 < e.2.depth) with
    | some e => .now h (le 4 (handleOf e.1 e.2))
    | none =>
      if 6 < k.depth + 1 then kno stBadParam rcKeyDepth
      else match freeSlot h with
      | none => kno stBusy rcKeyNoSlot
      | some s =>
        let new : KeySlot := { state := 1, gen := (keySlot s h).gen, use := use, parent := par, parentGen := k.gen, owner := ownerUnder par h, depth := k.depth + 1, origin := 0, label := label }
        .write (putKey s new h) (le 4 (handleOf s new)))

/-- The label of the CVK. -/
def configLabel : List Byte := [0x63#8, 0x6F#8, 0x6E#8, 0x66#8, 0x69#8, 0x67#8]

/-- KEY.IMPORT (R425, R426, R431, R471). -/
def keyImport (c : Call) (p : List Byte) (h : Hw) : KeyResult :=
  let use := u8 p 4
  let n := u16 p 6
  let label := labelAt 212 n p
  if h.keys.selftestFailed then kno stInternal rcKeySelftest
  else if use = 4 ∧ (keySlot 4 h).state ≠ 0 then kno stStateRefused rcKeySequence
  else onKey c (u32 p 0) h (fun par k =>
    if k.use ≠ 1 ∨ use < 4 ∨ 7 < use ∨ n = 0 ∨ 64 < n then kno stBadParam rcKeyUse
    else if use = 4 then
      if h.mode ≠ .idle then kno stStateRefused rcKeySequence
      else if par ≠ 3 ∨ label ≠ configLabel then kno stBadParam rcKeyUse
      else
        let new : KeySlot := { state := 1, gen := (keySlot 4 h).gen, use := 4, parent := 3, parentGen := k.gen, owner := 0xFFFF, depth := 2, origin := 1, label := label, value := slice p 16 133 }
        .write (putKey 4 new h) (le 4 (handleOf 4 new))
    else if 6 < k.depth + 1 then kno stBadParam rcKeyDepth
    else match unwrapBlock c 16 use (u32 p 0) (u32 p 8) p h with
    | none => kno stAuthFailed rcKeyUnwrap
    | some v => match freeSlot h with
      | none => kno stBusy rcKeyNoSlot
      | some s =>
        let new : KeySlot := { state := 1, gen := (keySlot s h).gen, use := use, parent := par, parentGen := k.gen, owner := ownerUnder par h, depth := k.depth + 1, origin := 1, label := label, keyId := u32 p 8, kcv := kcvOf v, value := v }
        .write (putKey s new h) (le 4 (handleOf s new)))

/-- Keys that stand or fall with a key's replacement: the key and, of a DERIVE key, every derived key below it (R428). -/
def replaceSet (n : Nat) (h : Hw) : List Nat :=
  if (keySlot n h).use = 1 then n :: (subtree n h).filter (fun m => (keySlot m h).origin == 0 && (keySlot m h).state != 4) else [n]

/-- An ancestor of a slot is in replacement; `fuel` is the greatest depth. -/
def ancestorBusy : Nat → Nat → Hw → Bool
  | 0, _, _ => false
  | fuel + 1, n, h => let par := (keySlot n h).parent; n != 0 && (inReplacement (keySlot par h) || ancestorBusy fuel par h)

/-- The DUK and the IDK cannot be replaced. -/
def fixedKey (n : Nat) : Bool := n ≤ 1

/-- KEY.STAGE (R428, R430). -/
def keyStage (c : Call) (p : List Byte) (h : Hw) : KeyResult :=
  if h.keys.selftestFailed then kno stInternal rcKeySelftest
  else onKey c (u32 p 0) h (fun n k =>
    let mac := isMac k.use
    if fixedKey n then kno stDenied rcKeyFixed
    else if (mac = false ∧ u32 p 4 ≠ 0) ∨ (k.use ≠ 4 ∧ zeroAt p 212 132 = false) ∨ (mac = false ∧ k.use ≠ 4 ∧ zeroAt p 16 196 = false) then kno stBadParam rcModReserved
    else if inReplacement k ∨ ancestorBusy 8 n h ∨ (subtree n h).any (fun m => inReplacement (keySlot m h)) then kno stStateRefused rcKeySequence
    else if mac then match unwrapBlock c 16 k.use (u32 p 0) (u32 p 4) p h with
      | none => kno stAuthFailed rcKeyUnwrap
      | some v => .write (putKey n { k with state := 2, succ := some { value := v, keyId := u32 p 4, kcv := kcvOf v, version := k.version + 1 } } h) []
    else if k.use = 4 then .write (putKey n { k with state := 2, succ := some { value := slice p 16 133, version := k.version + 1, signed := c.crypto.signed } } h) []
    else
      .write ((replaceSet n h).foldl (fun h m => let k := keySlot m h; putKey m { k with state := 2, succ := some { version := k.version + 1, signed := c.crypto.signed } } h) h) [])

/-- Discard the successors of a replacement. -/
def dropSuccessors (n : Nat) (h : Hw) : Hw :=
  (replaceSet n h).foldl (fun h m => let k := keySlot m h; if inReplacement k then putKey m { k with state := 1, succ := none } h else h) h

/-- KEY.VERIFY (R427, R428). -/
def keyVerify (c : Call) (p : List Byte) (h : Hw) : KeyResult :=
  onKey c (u32 p 0) h (fun n k =>
    if fixedKey n then kno stDenied rcKeyFixed
    else if isMac k.use = false ∧ u64 p 8 ≠ 0 then kno stBadParam rcModReserved
    else if k.state ≠ 2 ∨ ancestorBusy 8 n h then kno stStateRefused rcKeySequence
    else
      let pass := match k.succ with
        | some u => if isMac k.use then u.kcv == u64 p 8 else if k.use = 4 then u.signed else c.crypto.signed
        | none => false
      if pass then .now (writeArea ((replaceSet n h).foldl (fun h m => let k := keySlot m h; if k.state = 2 then putKey m { k with state := 3 } h else h) h)) []
      else .refuse stAuthFailed rcKeyKcv [])

/-- Make a successor current. -/
def commitKey (n : Nat) (h : Hw) : Hw :=
  let k := keySlot n h
  match k.succ with
  | some u => if k.state = 3 then putKey n { k with state := 1, succ := none, value := u.value, keyId := u.keyId, kcv := u.kcv, version := u.version, committed := h.time.now } h else h
  | none => h

/-- KEY.COMMIT (R428 rule 5). -/
def keyCommit (c : Call) (p : List Byte) (h : Hw) : KeyResult :=
  onKey c (u32 p 0) h (fun n k =>
    if fixedKey n then kno stDenied rcKeyFixed
    else if k.state ≠ 3 ∨ ancestorBusy 8 n h then kno stStateRefused rcKeySequence
    else
      let h := (replaceSet n h).foldl (fun h m => commitKey m h) h
      .write (keyRecord 0x1111 0x0C00 (u32 p 0) 3 1 0 0 (keySlot n h).keyId h) [])

/-- KEY.ABANDON (R427). -/
def keyAbandon (c : Call) (p : List Byte) (h : Hw) : KeyResult :=
  onKey c (u32 p 0) h (fun n k =>
    if fixedKey n then kno stDenied rcKeyFixed
    else if inReplacement k = false ∨ ancestorBusy 8 n h then kno stStateRefused rcKeySequence
    else .now (writeArea (dropSuccessors n h)) [])

/-- The reply payload of KEY.INVALIDATE. -/
def boundPayload (b : Nat × Nat × Nat) : List Byte := le 2 b.1 ++ le 1 b.2.1 ++ zeros 1 ++ le 4 b.2.2

/-- KEY.INVALIDATE (R434, R435; FORCE without a bound key is the model's choice, log 125). -/
def keyInvalidate (c : Call) (p : List Byte) (h : Hw) : KeyResult :=
  let x := u32 p 0
  let n := hdlSlot x
  let k := keySlot n h
  if validHandle x h = false ∨ mayName c n h = false then kno stBadParam rcKeyUnknown
  else if n = 0 ∨ n = 1 ∨ n = 4 then kno stDenied rcKeyFixed
  else
    let note (h : Hw) : Hw := keyRecord 0x1112 0x0C00 x k.state 0 0 0 k.keyId h
    let b := boundUnder n h
    if k.state = 4 then .write (note (freeKey n h)) (boundPayload (0, 0, 0))
    else if b.1 = 0 then .write (note ((withSubtree n h).reverse.foldl (fun h m => freeKey m h) h)) (boundPayload b)
    else if forced c then .forced (forceInvalidate n h) (boundPayload b) k.state k.keyId
    else .refuse stKeyInUse rcKeyInUse (boundPayload b)

/-- KEY.AEDGEN_UPDATE (R432): the checks in order. -/
def keyAedgen (c : Call) (p : List Byte) (h : Hw) : KeyResult :=
  let n := u16 p 2
  let use := u8 p 80
  let k := keySlot n h
  if c.crypto.signed = false then kno stAuthFailed rcKeyUnwrap
  else if zeroAt p 81 7 = false ∨ zeroAt p 221 3 = false then kno stBadParam rcModReserved
  else if u8 p 0 ≠ 1 ∨ u8 p 1 ≠ 1 ∨ n < 16 ∨ 1023 < n ∨ isMac use = false then kno stBadParam rcKeyUse
  else if slice p 16 64 ≠ h.keys.idkDigest then kno stDenied rcKeyNotThisDevice
  else if u64 p 8 ≤ h.keys.counter then kno stReplay rcKeyCounter
  else if k.state ≠ 1 ∨ k.use ≠ use then kno stStateRefused rcKeySequence
  else match unwrapBlock c 88 use (handleOf n k) (u32 p 4) p h with
  | none => kno stAuthFailed rcKeyUnwrap
  | some v =>
    let hdl := handleOf n k
    let h := putKey n { k with value := v, keyId := u32 p 4, kcv := kcvOf v, version := k.version + 1, committed := h.time.now } h
    let h := { h with keys := { h.keys with counter := u64 p 8 } }
    .write (keyRecord 0x1111 0x0C00 hdl 1 1 0 0 (u32 p 4) h) (le 4 hdl)

/-! ### Reading (R438, R441) -/

/-- Slots in a state. -/
def slotsIn (st : Nat) (h : Hw) : Nat := (h.keys.slots.filter (fun e => e.2.state == st)).length

/-- Slots in use. -/
def slotsUsed (h : Hw) : Nat := (h.keys.slots.filter (fun e => e.2.state != 0)).length

def keyStatus (h : Hw) : KeyResult :=
  .now h (le 2 (slotsUsed h) ++ le 2 (1013 - slotsUsed h) ++ le 1 (if h.keys.zeroised then 1 else if h.keys.selftestFailed then 2 else 0) ++ le 1 h.keys.epoch
    ++ le 2 (slotsIn 4 h) ++ le 2 (slotsIn 2 h) ++ le 2 (slotsIn 3 h) ++ le 8 h.keys.counter ++ le 4 h.keys.passed ++ le 4 h.keys.failed ++ zeros 4)

def keyInfoRead (c : Call) (p : List Byte) (h : Hw) : KeyResult :=
  let x := u32 p 0
  let n := hdlSlot x
  let k := keySlot n h
  let mac := isMac k.use
  if validHandle x h = false ∨ mayName c n h = false then kno stBadParam rcKeyUnknown
  else
    .now h (le 4 x ++ le 1 k.state ++ le 1 k.use ++ le 1 k.depth ++ le 1 k.origin ++ le 4 (if n = 0 then 0 else k.parent + k.parentGen * 1024 + flag (k.parent != 0) 22) ++ le 2 k.owner
      ++ le 2 (h.keys.slots.filter (fun e => e.2.state != 0 && e.1 != 0 && e.2.parent == n && e.2.parentGen == k.gen)).length ++ le 4 k.version ++ le 4 k.keyId ++ le 4 ((k.succ.map (fun u => u.keyId)).getD 0)
      ++ le 2 (usersOf n h).length ++ zeros 2 ++ le 8 (if mac then k.kcv else 0) ++ le 8 (if mac then (k.succ.map (fun u => u.kcv)).getD 0 else 0) ++ timeBytes k.committed ++ zeros 4)

/-- KEY.PUBLIC_READ: the successor's public key can be read once it has verified (R428 rule 3). -/
def keyPublicRead (c : Call) (p : List Byte) (h : Hw) : KeyResult :=
  onKey c (u32 p 0) h (fun n k =>
    if (k.use ≠ 2 ∧ k.use ≠ 3) ∨ 1 < u8 p 4 then kno stBadParam rcKeyUse
    else if u8 p 4 = 1 then
      match k.succ with
      | some u => if k.state = 3 then .now h (le 4 (u32 p 0) ++ le 4 u.version ++ successorPublic n h ++ zeros 3) else kno stStateRefused rcKeySequence
      | none => kno stStateRefused rcKeySequence
    else .now h (le 4 (u32 p 0) ++ le 4 k.version ++ publicOf n h ++ zeros 3))

/-- The info strings or labels from depth 1 to a key (R438). -/
def keyPath : Nat → Nat → Hw → List Byte
  | 0, _, _ => []
  | fuel + 1, n, h =>
    let k := keySlot n h
    if n = 0 then [] else keyPath fuel k.parent h ++ (if k.origin = 1 then k.label else keyInfo k k.version (if n = 1 then 0 else h.keys.epoch))

/-- The attestation statement of R438. -/
def keyAttest (c : Call) (p : List Byte) (h : Hw) : KeyResult :=
  if h.keys.selftestFailed then kno stInternal rcKeySelftest
  else onKey c (u32 p 0) h (fun n k =>
    let image := if h.boot.running = 0 then h.boot.imageA else h.boot.imageB
    let pub := if k.use = 2 ∨ k.use = 3 then publicOf n h else if isMac k.use then le 8 k.kcv ++ zeros 125 else zeros 133
    let body := le 1 1 ++ le 1 k.use ++ le 1 k.origin ++ le 1 k.depth ++ le 4 (u32 p 0) ++ le 4 k.version ++ le 2 k.owner ++ le 1 h.keys.epoch ++ le 1 (flag k.succ.isSome 1)
      ++ le 8 h.serial ++ slice p 8 32 ++ slice (Config.sha512 (keyPath 8 n h)) 0 64 ++ pub ++ le 1 0xB1 ++ le 1 h.variant ++ zeros 1 ++ nowBytes h ++ le 2 image.compat ++ zeros 2 ++ slice image.hash 0 16
    .now h (body ++ slice (Config.sign (keyValue 8 1 h) body) 0 132))

/-- A run of the known-answer tests, by the mask of those that fail (log 4): its counts, its verdict, and CODE 0x1114 on failure (R438, R441, R442). -/
def runKat (failing : Nat) (h : Hw) : Hw :=
  let f := failing % 32
  let bad := ((List.range 5).filter (fun i => bit f i)).length
  let h := { h with keys := { h.keys with passed := sat32 (h.keys.passed + 5 - bad), failed := sat32 (h.keys.failed + bad), selftestFailed := f != 0 } }
  if f = 0 then h else keyRecord 0x1114 0x0C00 0 0 0 0 0 0 h

def keyKatRun (c : Call) (h : Hw) : KeyResult := .now (runKat c.crypto.selftest.kat h) (le 1 (c.crypto.selftest.kat % 32) ++ zeros 3)

/-! ### One at a time (R429, R430, R436) -/

/-- A key command by its opcode: a ZEROISED store answers KEY.STATUS and KEY.PUBLIC_READ of slot 1 only (R436). -/
def keyOp (op : Nat) (c : Call) (p : List Byte) (h : Hw) : KeyResult :=
  if h.keys.zeroised ∧ op ≠ 0x1101 ∧ ¬ (op = 0x1103 ∧ hdlSlot (u32 p 0) = 1) then kno stStateRefused rcKeyZeroised
  else match op with
  | 0x1101 => keyStatus h
  | 0x1102 => keyInfoRead c p h
  | 0x1103 => keyPublicRead c p h
  | 0x1104 => keyDerive c p h
  | 0x1105 => keyImport c p h
  | 0x1106 => keyStage c p h
  | 0x1107 => keyVerify c p h
  | 0x1108 => keyCommit c p h
  | 0x1109 => keyAbandon c p h
  | 0x110A => keyInvalidate c p h
  | 0x110B => keyAttest c p h
  | 0x1110 => keyAedgen c p h
  | _ => keyKatRun c h

/-- Add a command to those that wait. -/
def waitKey (x : KeyPending) (h : Hw) : Hw := { h with keys := { h.keys with waiting := h.keys.waiting ++ [x] } }

/-- A failing KEY.VERIFY discards the successor (R427). -/
def keyRefused (op st rc : Nat) (p : List Byte) (h : Hw) : Hw :=
  if op = 0x1107 ∧ st = stAuthFailed ∧ rc = rcKeyKcv then writeArea (dropSuccessors (hdlSlot (u32 p 0)) h) else h

/-- A key command after steps 4 to 8 of R469. -/
def keyBody (op : Nat) (c : Call) (p : List Byte) (h : Hw) : CmdResult :=
  if h.keys.waiting ≠ [] then .later (waitKey { opcode := op, call := c, params := p } h)
  else match keyOp op c p h with
  | .refuse st rc pay => .refuseIn (keyRefused op st rc p h) st rc pay
  | .now h' pay => .ok h' pay
  | .write _ _ => .later (waitKey { opcode := op, call := c, params := p } h)
  | .forced h' pay st id => .later (waitKey { opcode := op, call := c, params := p, ready := some (pay, st, id) } h')

/-- Legal-state mask of a key command's reply. -/
def keyMask (op : Nat) : Nat := if op = 0x1101 ∨ op = 0x1103 ∨ op = 0x110B then 0x00F8 else 0x00F0

/-- Run the commands behind the head until one waits for the table again; `fuel` is their number. -/
def runKeyQueue : Nat → Hw → Hw
  | 0, h => h
  | fuel + 1, h =>
    match h.keys.waiting with
    | [] => h
    | x :: rest =>
      let out (st rc : Nat) (pay : List Byte) (h : Hw) : Hw := runKeyQueue fuel (answer x.call (keyMask x.opcode) st rc pay { h with keys := { h.keys with waiting := rest } })
      match keyOp x.opcode x.call x.params h with
      | .refuse st rc pay => out st rc pay (keyRefused x.opcode st rc x.params h)
      | .now h' pay => out stOk 0 pay h'
      | .write _ _ => h
      | .forced h' pay st id => { h' with keys := { h'.keys with waiting := { x with ready := some (pay, st, id) } :: rest } }

/-- KEY_TABLE_WRITTEN's effect: the head takes effect and replies; then the next ones run (R429, R430, R435). -/
def tableWritten (h : Hw) : Hw :=
  match h.keys.waiting with
  | [] => h
  | x :: rest =>
    let go (st rc : Nat) (pay : List Byte) (h : Hw) : Hw :=
      let h := answer x.call (keyMask x.opcode) st rc pay { h with keys := { h.keys with waiting := rest } }
      runKeyQueue rest.length h
    match x.ready with
    | some (pay, st, id) =>
      if h.keys.zeroised then go stStateRefused rcKeyZeroised [] h
      else go stOk 0 pay (keyRecord 0x1112 0x0C00 (u32 x.params 0) st 0 0 0 id (writeArea h))
    | none => match keyOp x.opcode x.call x.params h with
      | .refuse st rc pay => go st rc pay h
      | .now h' pay => go stOk 0 pay h'
      | .write h' pay => go stOk 0 pay (writeArea h')
      | .forced h' pay _ _ => go stOk 0 pay (writeArea h')

/-- KEY_TABLE_WRITTEN. -/
def execKeyTableWritten : State → Host.Outcome State Fault Refusal := lift tableWritten

/-! ### Boot and tamper (R429, R436, R437) -/

/-- Slots 0 to 3 alone. -/
def bareSlots : Tbl KeySlot := ({} : KeyState).slots

/-- Blow the next tamper epoch fuse. -/
def blowFuse (h : Hw) : Hw := { h with keys := { h.keys with epoch := min 64 (h.keys.epoch + 1), fuseDue := false } }

/-- TAMPER_FUSE_BLOW's effect: the fuse of a tamper still to be blown. -/
def fuseBlow (h : Hw) : Hw := if h.keys.fuseDue then blowFuse h else h

/-- TAMPER_FUSE_BLOW. -/
def execTamperFuseBlow : State → Host.Outcome State Fault Refusal := lift fuseBlow

/-- Zeroise the store: every value, successor and session key (R436, R473). -/
def zeroise (h : Hw) : Hw :=
  let clear (k : KeySlot) : KeySlot := { k with value := [], succ := none, state := if inReplacement k then 1 else k.state }
  let bare (c : Call) : Call := { c with key := [] }
  { h with
    keys := { h.keys with
      zeroised := true, duk := [], slots := tmap h.keys.slots (fun _ k => clear k)
      waiting := h.keys.waiting.map (fun x => { x with call := bare x.call }) }
    cmd := { h.cmd with sessions := [], owed := h.cmd.owed.map (fun o => { o with call := bare o.call }) } }

/-- The DUK of the PUF, conditioned with SHA-512, and the public key of the IDK that follows from it (R419, R423). -/
def reconstruct (h : Hw) : Hw :=
  let h := { h with keys := { h.keys with duk := slice (Config.sha512 Config.puf) 0 64 } }
  let pub := slice (Config.publicKey (keyValue 8 1 h)) 0 133
  { h with keys := { h.keys with idkPublic := pub, idkDigest := slice (Config.sha512 pub) 0 64 } }

/-- The store at boot: the DUK, known-answer tests, the fuse when TAMPER_N is low and the newest table carries the present epoch,
then the newer area whose tag verifies under the epoch (R429, R437, R438). -/
def bootKeys (kat : Nat) (h : Hw) : Hw :=
  let k := h.keys
  let h := reconstruct { h with keys := { k with waiting := [], passed := 0, failed := 0, zeroised := false } }
  let h := runKat kat h
  let h := if h.keys.tamperLow && (match k.areas with | a :: _ => a.epoch == k.epoch | [] => false) && decide (k.epoch < 64) then blowFuse h else h
  let h := match h.keys.areas.find? (fun a => a.valid && a.epoch == h.keys.epoch) with
    | some a => { h with keys := { h.keys with slots := a.slots, counter := a.counter } }
    | none => keyRecord 0x1115 0x0C00 0 0 0 0 0 0 { h with keys := { h.keys with slots := bareSlots, counter := 0 } }
  if h.keys.tamperLow ∨ 64 ≤ h.keys.epoch then zeroise h else h

/-! ### Commands (R439, R440) -/

/-- Reserved bits of a handle field (R421). -/
def handleBits (o : Nat) : List (Nat × Nat × Nat) := [(o, 4, 0xFC000000)]

def cmdKeyStatus : Cmd := { row := rowKeyStatus, body := keyBody 0x1101 }
def cmdKeyInfo : Cmd := { row := rowKeyInfo, reservedBits := handleBits 0, body := keyBody 0x1102 }
def cmdKeyPublicRead : Cmd := { row := rowKeyPublicRead, reserved := [(5, 3)], reservedBits := handleBits 0, body := keyBody 0x1103 }
def cmdKeyDerive : Cmd := { row := rowKeyDerive, reserved := [(5, 1)], reservedBits := handleBits 0, body := keyBody 0x1104 }
def cmdKeyImport : Cmd := { row := rowKeyImport, reserved := [(5, 1), (12, 4), (149, 3)], reservedBits := handleBits 0, body := keyBody 0x1105 }
def cmdKeyStage : Cmd := { row := rowKeyStage, reserved := [(8, 8), (149, 3)], reservedBits := handleBits 0, body := keyBody 0x1106 }
def cmdKeyVerify : Cmd := { row := rowKeyVerify, reserved := [(4, 4)], reservedBits := handleBits 0, body := keyBody 0x1107 }
def cmdKeyCommit : Cmd := { row := rowKeyCommit, reservedBits := handleBits 0, body := keyBody 0x1108 }
def cmdKeyAbandon : Cmd := { row := rowKeyAbandon, reservedBits := handleBits 0, body := keyBody 0x1109 }
def cmdKeyInvalidate : Cmd := { row := rowKeyInvalidate, reservedBits := handleBits 0, body := keyBody 0x110A }
def cmdKeyAttest : Cmd := { row := rowKeyAttest, reserved := [(4, 4)], reservedBits := handleBits 0, body := keyBody 0x110B }
/-- The message's reserved bytes, and those of its key block, are checked once its signature has verified: no field of it is
acted on before (R9, R425, R432). -/
def cmdKeyAedgenUpdate : Cmd := { row := rowKeyAedgenUpdate, body := keyBody 0x1110 }
def cmdKeyKatRun : Cmd := { row := rowKeyKatRun, body := keyBody 0x1181 }

/-- KEY.STATUS. -/
def execKeyStatus (c : Call) (p : List Byte) : State → Host.Outcome State Fault Refusal := lift (runCmd cmdKeyStatus c p)
/-- KEY.INFO. -/
def execKeyInfo (c : Call) (p : List Byte) : State → Host.Outcome State Fault Refusal := lift (runCmd cmdKeyInfo c p)
/-- KEY.PUBLIC_READ. -/
def execKeyPublicRead (c : Call) (p : List Byte) : State → Host.Outcome State Fault Refusal := lift (runCmd cmdKeyPublicRead c p)
/-- KEY.DERIVE. -/
def execKeyDerive (c : Call) (p : List Byte) : State → Host.Outcome State Fault Refusal := lift (runCmd cmdKeyDerive c p)
/-- KEY.IMPORT. -/
def execKeyImport (c : Call) (p : List Byte) : State → Host.Outcome State Fault Refusal := lift (runCmd cmdKeyImport c p)
/-- KEY.STAGE. -/
def execKeyStage (c : Call) (p : List Byte) : State → Host.Outcome State Fault Refusal := lift (runCmd cmdKeyStage c p)
/-- KEY.VERIFY. -/
def execKeyVerify (c : Call) (p : List Byte) : State → Host.Outcome State Fault Refusal := lift (runCmd cmdKeyVerify c p)
/-- KEY.COMMIT. -/
def execKeyCommit (c : Call) (p : List Byte) : State → Host.Outcome State Fault Refusal := lift (runCmd cmdKeyCommit c p)
/-- KEY.ABANDON. -/
def execKeyAbandon (c : Call) (p : List Byte) : State → Host.Outcome State Fault Refusal := lift (runCmd cmdKeyAbandon c p)
/-- KEY.INVALIDATE. -/
def execKeyInvalidate (c : Call) (p : List Byte) : State → Host.Outcome State Fault Refusal := lift (runCmd cmdKeyInvalidate c p)
/-- KEY.ATTEST. -/
def execKeyAttest (c : Call) (p : List Byte) : State → Host.Outcome State Fault Refusal := lift (runCmd cmdKeyAttest c p)
/-- KEY.AEDGEN_UPDATE. -/
def execKeyAedgenUpdate (c : Call) (p : List Byte) : State → Host.Outcome State Fault Refusal := lift (runCmd cmdKeyAedgenUpdate c p)

end Sys2Proof.Machine
end

