-- ==== Sys2Proof/Machine/Links.lean ====
section
/-! DEFINITION. The die-to-die links: the credits of each virtual channel, the arbitration between the channels and within one (R23, R534, R537). A link is named by the region code at its far end. -/
namespace Sys2Proof.Machine

/-- What travels between dies (R537): work of a class with its data, REC engine data, NET frames, ring and record reads, and
fault, fence, clock and budget control. -/
inductive Traffic where
  | work (cls : Nat)
  | recEngine
  | net
  | reads
  | control
  deriving DecidableEq, Repr

/-- The virtual channel of a kind of traffic; rows, descriptors, ledger traffic and decisions are work of class C0. -/
def channelOf : Traffic → Nat
  | .work c => c
  | .recEngine => 3
  | .net => 5
  | .reads => 6
  | .control => 7

/-- Strict order between the channels: VC7 first, then VC0 to VC6. -/
def channelOrder : List Nat := [7, 0, 1, 2, 3, 4, 5, 6]

/-- A link. -/
def linkTo (region : Nat) (h : Hw) : DieLink := tget h.fault.links region {}
def putDieLink (region : Nat) (x : DieLink) (h : Hw) : Hw := { h with fault := { h.fault with links := tset h.fault.links region x } }

/-- Credits of a channel on a link. -/
def creditsOf (x : DieLink) (vc : Nat) : Nat := x.credits.getD vc 0

/-- A flit may go: its own channel has a credit; another channel's are never lent. -/
def maySend (x : DieLink) (vc : Nat) : Bool := decide (0 < creditsOf x vc)

/-- A flit takes a credit of its channel. -/
def takeCredit (vc : Nat) (x : DieLink) : DieLink := { x with credits := x.credits.set vc (creditsOf x vc - 1) }

/-- A credit comes back, up to the channel's number; a link whose credits are withdrawn takes none. -/
def returnCredit (vc : Nat) (x : DieLink) : DieLink :=
  if x.withdrawn then x else { x with credits := x.credits.set vc (min (channelCredits.getD vc 0) (creditsOf x vc + 1)) }

/-- The source served next within a channel: the first after the one served last, in number order. -/
def nextSource (last : Nat) (waiting : List Nat) : Option Nat :=
  match waiting.filter (fun s => last < s) with
  | a :: r => some (r.foldl min a)
  | [] => match waiting with | a :: r => some (r.foldl min a) | [] => none

/-- The arbiter's choice among waiting flits, as (channel, source): the first channel in order that has a flit and a credit,
and within it the next source in turn. -/
def arbitrate (x : DieLink) (waiting : List (Nat × Nat)) : Option (Nat × Nat) :=
  channelOrder.findSome? (fun vc =>
    if maySend x vc then (nextSource (x.turn.getD vc 0) ((waiting.filter (fun w => w.1 == vc)).map (fun w => w.2))).map (fun s => (vc, s)) else none)

/-- The chosen flit goes. -/
def sendFlit (w : Nat × Nat) (x : DieLink) : DieLink := { takeCredit w.1 x with turn := x.turn.set w.1 w.2 }

/-- The hub withdraws a link's credits (R534). -/
def withdrawCredits (region : Nat) (h : Hw) : Hw :=
  putDieLink region { linkTo region h with credits := List.replicate 8 0, withdrawn := true } h

end Sys2Proof.Machine
end

