-- ==== Sys2Proof/Machine/Lupin.lean ====
section
/-! DEFINITION. Hollyhock: the tap, the metering points, snapshots, the metrological log, updates and the LUPIN commands (R444 to R465). -/
namespace Sys2Proof.Machine

/-- Hollyhock is populated (R3, R5). -/
def hollyhock (h : Hw) : Bool := h.variant != 0x20

/-- Change Hollyhock's state. -/
def modLupin (f : LupinState → LupinState) (h : Hw) : Hw := { h with lupin := f h.lupin }

/-- Change its registers and log. -/
def modStore (f : MeterStore → MeterStore) (h : Hw) : Hw := modLupin (fun s => { s with live := f s.live }) h

/-- The state the hub reports (R462). -/
def lupinReport (s : LupinState) : Nat :=
  if s.linkDown then 6 else if s.updating then 4 else if s.void ∧ s.base ≠ 1 then 5 else s.base

/-- Apply an effect; a change of the reported state writes CODE 0x1210, whose payload is open (R462, log 3). -/
def reporting (f : Hw → Hw) (h : Hw) : Hw :=
  if hollyhock h then
    let h' := f h
    if lupinReport h'.lupin = lupinReport h.lupin then h' else evr 0x1210 0x1FFF (freeBytes 48 h') (drawn h')
  else h

/-! ### The log (R456 to R458) -/

/-- Record of the log: bytes 0 to 55, then the chain over the previous record of the area, an empty one before the first (R456, log 124). -/
def meterRecord (seq area code point k : Nat) (pay : List Byte) (prev : List Byte) (h : Hw) : List Byte :=
  let b := le 4 seq ++ le 1 area ++ le 1 code ++ zeros 2 ++ le 4 h.lupin.sealCount ++ le 1 point ++ zeros 3 ++ le 8 k ++ le 8 h.lupin.own ++ (pay ++ zeros 24).take 24
  b ++ slice (Config.sha512 (prev ++ b)) 0 8

/-- Write a record in the ring area. -/
def logRing (code point : Nat) (pay : List Byte) (h : Hw) : Hw :=
  let m := h.lupin.live
  let r := meterRecord m.ringCount 0 code point (m.lastK.getD 0) pay (m.ring.headD []) h
  modStore (fun m => { m with ring := (r :: m.ring).take 8192, ringCount := m.ringCount + 1 }) h

/-- Write a record in the protected area, in its general part or its tamper reserve; in the ring where that part is full (R458). -/
def logProtected (tamper : Bool) (code : Nat) (pay : List Byte) (h : Hw) : Hw :=
  let m := h.lupin.live
  if (if tamper then 16 ≤ m.reserve else 240 ≤ m.general) then logRing code 0xFF pay h
  else
    let r := meterRecord m.protected_.length 1 code 0xFF (m.lastK.getD 0) pay (m.protected_.headD []) h
    modStore (fun m => { m with
      protected_ := r :: m.protected_
      general := if tamper then m.general else m.general + 1
      reserve := if tamper then m.reserve + 1 else m.reserve }) h

/-! ### The tap (R446, R447) -/

/-- The identity tag of a stream. -/
def identityTag (c : StreamConfig) : List Byte :=
  slice (Config.sha512 (be 2 c.appid ++ be 6 c.mac ++ c.svId ++ be 4 c.confRev)) 0 8

/-- The refusal of a tap list, as reason and stream; on a variant without Hollyhock it is refused under R6. -/
def checkLupin (b : Image) (h : Hw) : Option (Nat × Nat) :=
  if b.tap = [] then none
  else if hollyhock h = false then some (rcCfgVariantMismatch, 0xFFFFFFFF)
  else if 16 < b.tap.length ∨ hasRepeat b.tap then some (rcLupinTap, 0xFFFFFFFF)
  else (b.tap.find? (fun s => match b.streams[s]? with | some c => c.rate != gridHz b.grid | none => true)).map (fun s => (rcLupinTap, s))

/-- A channel of a tap entry. -/
def tapChannel (x : Slot) : TapChannel := { count := if x.origin = 0 then x.count else 0, q := x.q, origin := x.origin, flags := x.flags }

/-- The hub sends the tap block of a settled row; a full input queue drops it (R447). -/
def tapRow (k : Nat) (h : Hw) : Hw :=
  if hollyhock h = false ∨ h.lupin.linkDown then h
  else match h.cfg.bloom, settledRow k h with
    | some b, some r =>
      if 64 ≤ h.lupin.inbox.length then modLupin (fun s => { s with dropped := inc32 s.dropped }) h
      else
        let entry (s : Nat) : List Byte × List TapChannel :=
          ((b.streams[s]?.map identityTag).getD (zeros 8), (List.range 8).map (fun c => tapChannel (rowSlot r (8 * s + c))))
        let t : TapBlock := { k := k, grid := b.grid, cls := timeClass h, utc := (utcOf h).1, entries := b.tap.map entry }
        modLupin (fun s => { s with inbox := s.inbox ++ [t], sent := inc32 s.sent }) h
    | _, _ => h

/-! ### Time (R451) -/

/-- The calendar months begun by day number `d` since 1970, where a month begins on its billing day. -/
def billingMonth (d : Int) (billing : Nat) : Int :=
  let z := d + 719468
  let era := z / 146097
  let doe := z - era * 146097
  let yoe := (doe - doe / 1460 + doe / 36524 - doe / 146096) / 365
  let doy := doe - (365 * yoe + yoe / 4 - yoe / 100)
  let mp := (5 * doy + 2) / 153
  let day := doy - (153 * mp + 2) / 5 + 1
  12 * (yoe + era * 400) + mp - (if day < billing then 1 else 0)

/-- The billing month of an instant, by the UTC offset of the tap. -/
def billingOf (k f utc billing : Nat) : Int := billingMonth ((((k / f : Nat) : Int) - utc) / 86400) billing

/-- Instants in a demand period of a point. -/
def periodLength (f : Nat) (p : MeterPoint) : Nat := p.periodMin * 60 * f

/-! ### Registers and snapshots (R450, R451, R454) -/

/-- The registers of a point. -/
def regsOf (n : Nat) (h : Hw) : MeterRegs := tget h.lupin.live.regs n {}

/-- Change the registers of a point. -/
def modRegs (n : Nat) (f : MeterRegs → MeterRegs) (h : Hw) : Hw :=
  modStore (fun m => { m with regs := tset m.regs n (f (tget m.regs n {})) }) h

/-- Energy in W s over the time measured, in W: to a whole number next to it, which is free; over no time at all, free (log 3). -/
def demandOf (e : Rat) (integrated f : Nat) (h : Hw) : Int × Hw :=
  if integrated = 0 then (signed 64 (Config.freeNat h.free % 2 ^ 64), drawn h)
  else (roundOpen (e * mkRat f integrated) h, drawn h)

/-- Bytes 0 to 143 of a snapshot, without the VOID flag (R454, log 124). -/
def snapshotBody (kind n seq stop grid : Nat) (s : MeterSum) (forced : Bool) (p q : Int) (pt : MeterPoint) (h : Hw) : List Byte :=
  let r := regsOf n h
  let missing := stop - s.start - s.integrated
  le 1 1 ++ le 1 kind ++ le 1 (flag s.uncertain 1 + flag (forced || decide (0 < missing)) 2 + flag s.mismatch 3) ++ le 1 n
  ++ le 4 h.lupin.sealCount ++ le 8 h.serial ++ le 8 s.start ++ le 8 stop ++ le 4 seq ++ le 1 grid ++ zeros 1 ++ le 2 pt.periodMin
  ++ (r.energies.map (fun e => le 8 (e / 3600).floor.toNat)).flatten ++ leInt 8 p ++ leInt 8 q ++ le 8 r.maxDemand ++ le 8 r.maxK
  ++ le 4 s.integrated ++ le 4 missing ++ h.lupin.firmware

/-- A snapshot signed: VOID and a zero signature after a tamper (R454, R460). -/
def signSnapshot (body : List Byte) (h : Hw) : List Byte :=
  let b := body.take 2 ++ le 1 (u8 body 2 + flag h.lupin.void 0) ++ body.drop 3
  b ++ (match h.lupin.key with | some t => if h.lupin.void then zeros 132 else slice (Config.sign (Config.hsk t) b) 0 132 | none => zeros 132)

/-- Close the running second of a point: its SECOND snapshot is signed and held (R454). -/
def closeSecond (n stop f grid : Nat) (pt : MeterPoint) (s : MeterSum) (h : Hw) : Hw :=
  let (p, h) := demandOf s.net s.integrated f h
  let (q, h) := demandOf s.reactive s.integrated f h
  let seq := (tget h.lupin.sequences n (0, 0)).2
  let snap : MeterSnapshot := { sequence := seq, bytes := signSnapshot (snapshotBody 2 n seq stop grid s false p q pt h) h }
  modLupin (fun l => { l with
    sequences := tmod l.sequences n (0, 0) (fun e => (e.1, (e.2 + 1) % 2 ^ 32))
    secondSnaps := tmod l.secondSnaps n [] (fun x => (snap :: x).take 64)
    seconds := tset l.seconds n { start := stop } }) h

/-- At the start of a period: the maximum demand resets when a billing day has begun (R451). -/
def beginPeriod (n k f utc : Nat) (pt : MeterPoint) (h : Hw) : Hw :=
  let r := regsOf n h
  let m := billingOf k f utc pt.billingDay
  let h := if r.billing.elim false (fun old => decide (old < m)) then
      modRegs n (fun r => { r with maxDemand := 0, maxK := 0 }) (logRing 0x0A n (le 8 r.maxDemand) h)
    else h
  modRegs n (fun r => { r with billing := some m, period := some { start := k } }) h

/-- Close the running period of a point at an instant: demand, maximum demand, PERIOD_INCOMPLETE and the snapshot (R451, R454). -/
def closePeriod (n stop f grid : Nat) (forced : Bool) (pt : MeterPoint) (s : MeterSum) (h : Hw) : Hw :=
  let (a, h) := demandOf s.imported s.integrated f h
  let (p, h) := demandOf s.net s.integrated f h
  let (q, h) := demandOf s.reactive s.integrated f h
  let r := regsOf n h
  let h := if r.maxDemand < a.toNat then modRegs n (fun r => { r with maxDemand := a.toNat, maxK := s.start }) h else h
  let missing := stop - s.start - s.integrated
  let h := if forced || decide (0 < missing) then logRing 0x07 n (le 4 missing) h else h
  let seq := (tget h.lupin.sequences n (0, 0)).1
  let body := snapshotBody 1 n seq stop grid s forced p q pt h
  let h := modRegs n (fun r => { r with period := none }) h
  modLupin (fun l => { l with
    sequences := tmod l.sequences n (0, 0) (fun e => ((e.1 + 1) % 2 ^ 32, e.2))
    unsent := l.unsent ++ [(n, seq, body)] }) h

/-- Close every period and second of a point that ends at or before instant `k` (R451, R453, R454). -/
def closeUpTo (n k f grid utc : Nat) (pt : MeterPoint) (h : Hw) : Hw :=
  let len := periodLength f pt
  let sec := tget h.lupin.seconds n { start := k }
  let h := (List.range ((k - (sec.start - sec.start % f)) / f)).foldl (fun h _ =>
    let s := tget h.lupin.seconds n sec
    closeSecond n (s.start - s.start % f + f) f grid pt s h) h
  match (regsOf n h).period with
  | none => beginPeriod n k f utc pt h
  | some s => (List.range ((k - (s.start - s.start % len)) / len)).foldl (fun h _ =>
      match (regsOf n h).period with
      | none => h
      | some s =>
        let stop := s.start - s.start % len + len
        beginPeriod n stop f utc pt (closePeriod n stop f grid false pt s h)) h

/-! ### Metering (R449, R450) -/

/-- The six scaled values of a usable instant of a point: voltages a, b, c, then currents. -/
def usableValues (b : TapBlock) (pt : MeterPoint) : Option (List F64) :=
  match b.entries.find? (fun e => e.1 == pt.tag) with
  | none => none
  | some e =>
    let ch := pt.channels.map (fun c => e.2.getD c {})
    if ch.length = 6 ∧ ch.all (fun x => x.origin == 0 && x.q % 4 == 0 && !bit x.flags 0 && !bit x.flags 5) then
      some (List.zipWith (fun (x : TapChannel) s => dMul (dOfFrac x.count 1) s) ch pt.scales)
    else none

/-- The sum over the phases of v * i, in order (log 8). -/
def phaseSum (v i : List F64) : F64 :=
  let at_ (l : List F64) (n : Nat) : F64 := l.getD n 0#64
  dAdd (dAdd (dMul (at_ v 0) (at_ i 3)) (dMul (at_ v 1) (at_ i 4))) (dMul (at_ v 2) (at_ i 5))

/-- p_w and q_w of a window from its instants and the quarter before them, oldest first. -/
def windowPowers (w : Nat) (l : List (List F64)) : F64 × F64 :=
  let quarter := w / 4
  let cur := l.drop quarter
  let sum (x : List F64) : F64 := match x with | [] => 0#64 | a :: r => r.foldl dAdd a
  let wd := dOfFrac w 1
  (dDiv (sum (cur.map (fun v => phaseSum v v))) wd, dDiv (sum (List.zipWith phaseSum l cur)) wd)

/-- Add the energies of a contributing window to a point's registers, running period and running second. -/
def addWindow (n w f : Nat) (pq : F64 × F64) (h : Hw) : Hw :=
  let dur : Rat := mkRat w f
  let p := dRat pq.1
  let q := dRat pq.2
  let pe := (if p < 0 then -p else p) * dur
  let qe := (if q < 0 then -q else q) * dur
  let pi := if p < 0 then 1 else 0
  let qi := if q < 0 then (if p < 0 then 4 else 5) else (if p < 0 then 3 else 2)
  let add (s : MeterSum) : MeterSum := { s with
    integrated := s.integrated + w, imported := if p < 0 then s.imported else s.imported + pe, net := s.net + p * dur, reactive := s.reactive + q * dur }
  let h := modRegs n (fun r => { r with
    energies := r.energies.zipIdx.map (fun e => if e.2 = pi then e.1 + pe else if e.2 = qi then e.1 + qe else e.1), period := r.period.map add }) h
  modLupin (fun l => { l with seconds := tmod l.seconds n {} add }) h

/-- One point at one instant: flags of the running period (log 124), the instant's values, and the window that ends with it. -/
def meterInstant (b : TapBlock) (f : Nat) (stranger : Bool) (n : Nat) (pt : MeterPoint) (h : Hw) : Hw :=
  let w := (2 * f + pt.f0) / (2 * pt.f0)
  let mark (s : MeterSum) : MeterSum := { s with uncertain := s.uncertain || decide (3 ≤ b.cls), mismatch := s.mismatch || stranger }
  let h := modRegs n (fun r => { r with period := r.period.map mark }) h
  let held := (tget h.lupin.instants n []).filter (fun e => decide (b.k < e.1 + w + w / 4))
  let held := match usableValues b pt with | some v => (b.k, v) :: held | none => held
  let h := modLupin (fun l => { l with instants := tset l.instants n held, seconds := tmod l.seconds n { start := b.k } mark }) h
  if (b.k + 1) % w = 0 ∧ held.length = w + w / 4 then addWindow n w f (windowPowers w (held.reverse.map (fun e => e.2))) h
  else h

/-- Every metering point with its number. -/
def eachPoint (f : Nat → MeterPoint → Hw → Hw) (h : Hw) : Hw := h.lupin.points.zipIdx.foldl (fun h e => f e.2 e.1 h) h

/-- A change of grid rate before the block of instant k: every running period closes, incomplete (log 124); the tap starts anew (R451). -/
def gridChange (old k new : Nat) (h : Hw) : Hw :=
  let f := gridHz old
  let stop := (h.lupin.live.lastK.map (fun k => k + 1)).getD 0
  let h := eachPoint (fun n pt h => match (regsOf n h).period with
    | some s => closePeriod n stop f old true pt s h
    | none => h) h
  modStore (fun m => { m with lastK := none }) (modLupin (fun l => { l with instants := [], seconds := [], rate := none, rateSlip := some (k + 10 * gridHz new) }) h)

/-- KL-08 of stepping B1: within the first 10 s of instants on a new grid rate one record of RATE_DISAGREE may come, at an
instant that is free, while the tap goes on without a gap (R12, R587). -/
def spuriousRate (k : Nat) (h : Hw) : Hw :=
  if h.lupin.rateSlip.any (fun e => k < e) = false then h
  else if Config.freeBit h.free then logRing 0x08 0xFF (freeBytes 4 h) (modLupin (fun l => { l with rateSlip := none }) (drawn h))
  else drawn h

/-- The rate check of R453 for a block that follows without a gap. -/
def rateCheck (k f : Nat) (h : Hw) : Hw :=
  match h.lupin.rate with
  | none => spuriousRate k (modLupin (fun l => { l with rate := some (k, l.own) }) h)
  | some (k0, own0) =>
    if k < k0 + 10 * f then spuriousRate k h
    else
      let ppb : Int := (((h.lupin.own : Int) - own0) - 10000000000) / 10
      let bad : Bool := decide (200000 < ppb.natAbs)
      let h := modLupin (fun l => { l with rate := some (k, l.own), rateBad := bad }) h
      if bad then logRing 0x08 0xFF (leInt 4 ppb) h else h

/-- A tap block after its continuity checks: unknown tags, the periods it closes, every point, the rate (R449 to R454). -/
def tapAccepted (b : TapBlock) (gap : Bool) (h : Hw) : Hw :=
  let f := gridHz b.grid
  let h := modStore (fun m => { m with lastK := some b.k }) (modLupin (fun l => { l with base := 2, lastTapAt := h.time.mono, grid := some b.grid }) h)
  let new := (b.entries.map (fun e => e.1)).filter (fun t => !h.lupin.points.any (fun p => p.tag == t))
  let h := new.foldl (fun h t => if h.lupin.strangers.contains t then h
    else logRing 0x06 0xFF t (modLupin (fun l => { l with strangers := l.strangers ++ [t] }) h)) h
  let h := if gap then modLupin (fun l => { l with rate := none }) h else h
  let h := eachPoint (fun n pt h =>
    closeUpTo n (b.k + 1) f b.grid b.utc pt (meterInstant b f (new != []) n pt (closeUpTo n b.k f b.grid b.utc pt h))) h
  rateCheck b.k f h

/-- HOLLYHOCK_TAP_RX's effect: the oldest tap block of the input queue, at an own time of Hollyhock (R449 to R454). -/
def tapRx (own : Nat) (h : Hw) : Hw :=
  match h.lupin.inbox with
  | [] => h
  | b :: rest =>
    let h := modLupin (fun l => { l with inbox := rest, own := own }) h
    let h := match h.lupin.grid with | some g => if g = b.grid then h else gridChange g b.k b.grid h | none => h
    match h.lupin.live.lastK with
    | none => tapAccepted b true h
    | some last =>
      if b.k ≤ last then
        if h.lupin.repeatedAt.elim true (fun t => decide (t + 1000000000 ≤ own)) then
          logRing 0x09 0xFF (le 8 last) (modLupin (fun l => { l with repeatedAt := some own }) h)
        else h
      else
        let skipped := b.k - last - 1
        let h := eachPoint (fun n pt h => if periodLength (gridHz b.grid) pt < skipped then logRing 0x09 n (le 8 last) h else h) h
        tapAccepted b (decide (0 < skipped)) (if skipped = 0 then h else modLupin (fun l => { l with rateSlip := none }) h)

/-- HOLLYHOCK_TAP_RX. -/
def execHollyhockTapRx (own : Nat) : State → Host.Outcome State Fault Refusal := lift (reporting (tapRx own))

/-- HOLLYHOCK_NO_TAP's effect: 1 s without a tap block (R462). -/
def noTap (h : Hw) : Hw :=
  if h.lupin.base = 2 ∧ h.lupin.lastTapAt + nsUnits 1000000000 ≤ h.time.mono then modLupin (fun l => { l with base := 3 }) h else h

/-- HOLLYHOCK_NO_TAP. -/
def execHollyhockNoTap : State → Host.Outcome State Fault Refusal := lift (reporting noTap)

/-! ### Publishing, committing and power (R455, R461, R570) -/

/-- Hollyhock's frame to a destination, through port 18 and under PRP on pair 4, with base + 7 as its source (R455, R347). -/
def sendSnapshot (pt : MeterPoint) (snap : List Byte) (h : Hw) : Hw :=
  let tag := if pt.vlan = 0 then [] else be 2 0x8100 ++ be 2 (pt.pcp * 8192 + pt.vlan)
  let bs := be 6 pt.mac ++ be 6 (h.net.base + 7) ++ tag ++ be 2 0x88B5 ++ snap
  let q := frameOf 18 bs h
  let h := enterSwitch 18 q h
  if h.net.base ≤ pt.mac ∧ pt.mac ≤ h.net.base + 6 then noRoute 18 q h else sendFrame [8, 9] q h

/-- HOLLYHOCK_PERIOD_SNAPSHOT's effect: the oldest waiting snapshot is signed, kept and sent (R454, R455). -/
def periodSnapshot (h : Hw) : Hw :=
  match h.lupin.unsent with
  | [] => h
  | (n, seq, body) :: rest =>
    let bytes := signSnapshot body h
    let h := modLupin (fun l => { l with unsent := rest, periodSnaps := tmod l.periodSnaps n [] (fun x => ({ sequence := seq, bytes := bytes } :: x).take 4096) }) h
    match h.lupin.points[n]? with
    | some pt => if h.lupin.linkDown then h else sendSnapshot pt bytes h
    | none => h

/-- HOLLYHOCK_PERIOD_SNAPSHOT. -/
def execHollyhockPeriodSnapshot : State → Host.Outcome State Fault Refusal := lift (reporting periodSnapshot)

/-- Commit registers and log to non-volatile memory (R461). -/
def meterCommit (h : Hw) : Hw := modLupin (fun l => { l with saved := some l.live }) h

/-- HOLLYHOCK_COMMIT. -/
def execHollyhockCommit : State → Host.Outcome State Fault Refusal := lift (reporting meterCommit)

/-- VDD_L_WARNING's effect: POWER_SAVE is written at the last commit (R461, R570). -/
def vddLWarning (own : Nat) (h : Hw) : Hw := meterCommit (logRing 0x02 0xFF [] (modLupin (fun l => { l with own := own }) h))

/-- VDD_L_WARNING. -/
def execVddLWarning (own : Nat) : State → Host.Outcome State Fault Refusal := lift (reporting (vddLWarning own))

/-- Start or restart: STARTING, nothing in the input queue, checks begin anew (R459, R462). -/
def meterStart (l : LupinState) : LupinState :=
  { l with base := 1, updating := false, inbox := [], instants := [], seconds := [], strangers := [], rate := none, rateBad := false, repeatedAt := none, offer := none }

/-- HOLLYHOCK_POWER_UP's effect: the saved image is restored and POWER_UP written (R457, R461, R462). -/
def meterPowerUp (h : Hw) : Hw :=
  let l := h.lupin
  let h := modLupin (fun l => { meterStart l with live := l.saved.getD {}, own := 0, grid := none, rateSlip := none }) h
  logRing 0x01 0xFF (le 1 (flag l.saved.isSome 0)) h

/-- HOLLYHOCK_POWER_UP. -/
def execHollyhockPowerUp : State → Host.Outcome State Fault Refusal := lift (reporting meterPowerUp)

/-- A tamper reaches Hollyhock: HSK zeroised, TAMPER written, VOID (R436, R460). Its own time is free (log 3). -/
def meterTamper (h : Hw) : Hw :=
  let h := modLupin (fun l => { l with tampers := (l.tampers + 1) % 256, key := none, void := true, own := Config.freeNat h.free % 2 ^ 64 }) (drawn h)
  logProtected true 0x05 (le 1 h.lupin.tampers) h

/-! ### Updates (R459, R460, R463) -/

/-- The sealed parameter set is within R448. -/
def pointsOk (l : List MeterPoint) : Bool :=
  decide (l.length ≤ 16) && l.all (fun p =>
    p.tag.length == 8 && p.channels.length == 6 && p.channels.all (fun c => decide (c < 8)) && p.scales.length == 6 && p.scales.all dFinite
    && (p.f0 == 50 || p.f0 == 60) && [5, 10, 15, 30, 60].contains p.periodMin && decide (1 ≤ p.billingDay ∧ p.billingDay ≤ 28)
    && decide (p.mac < 2 ^ 48 ∧ p.vlan < 4096 ∧ p.pcp < 8))

/-- Result of verifying an offer: 0 adopted, else its cause (R458, R459, R463; their order is the model's reading, log 124). -/
def updateResult (u : UpdateImage) (l : LupinState) : Nat :=
  if 240 ≤ l.live.general then 3
  else if u.signed = false then 1
  else if u.counter ≠ l.sealCount + 1 then 2
  else if (u.wellFormed && pointsOk u.points) = false then 4
  else if 240 < l.live.general + 2 then 3
  else 0

/-- Adopt an image: the record, the counter, the new set, a key from the tamper count, and a restart (R459, R460). -/
def adoptUpdate (u : UpdateImage) (h : Hw) : Hw :=
  let h := logProtected false 0x03 (h.lupin.firmware ++ le 4 (h.lupin.sealCount + 1)) h
  let same (n : Nat) : Bool := (h.lupin.points[n]?).elim false (fun a => (u.points[n]?).elim false (fun b => a.periodMin == b.periodMin))
  let h := modStore (fun m => { m with regs := tmap m.regs (fun n r => if same n then r else { r with period := none }) }) h
  modLupin (fun l => { meterStart l with
    sealCount := l.sealCount + 1, points := u.points, firmware := slice u.firmware 0 16, parameters := slice u.parameters 0 16, void := false, key := some l.tampers }) h

/-- HOLLYHOCK_UPDATE_VERIFY's effect: adoption or rejection, CODE 0x1211 and the offer's completion (R459, R463, R512). -/
def updateVerify (own : Nat) (u : UpdateImage) (h : Hw) : Hw :=
  if h.lupin.updating = false then h
  else
    let h := modLupin (fun l => { l with own := own }) h
    let r := updateResult u h.lupin
    let h := if r = 0 then adoptUpdate u h
      else modLupin (fun l => { l with updating := false }) (logProtected false 0x04 (le 1 r) h)
    let h := modLupin (fun l => { l with offer := none }) h
    complete .lupinOffer stOk 0 [] (evr 0x1211 0x1FFF (le 1 r ++ le 4 h.lupin.sealCount) h)

/-- HOLLYHOCK_UPDATE_VERIFY. -/
def execHollyhockUpdateVerify (own : Nat) (u : UpdateImage) : State → Host.Outcome State Fault Refusal := lift (reporting (updateVerify own u))

/-! ### LUPIN commands (R463 to R465) -/

/-- Every LUPIN command is refused where Hollyhock is absent (R5). -/
def lupinAbsent (_ : Call) (_ : List Byte) (h : Hw) : Bool := !hollyhock h

/-- In LINK_DOWN every command but LUPIN.STATUS is refused (R462). -/
def linked (f : Hw → CmdResult) (h : Hw) : CmdResult := if h.lupin.linkDown then no stInternal rcLupinLinkDown else f h

def lupinStatusBytes (h : Hw) : List Byte :=
  let l := h.lupin
  let m := l.live
  le 1 (lupinReport l) ++ le 1 (flag (decide (240 ≤ m.general)) 0 + flag (l.strangers != []) 1 + flag l.rateBad 2 + flag (decide (16 ≤ m.reserve)) 3)
  ++ le 1 l.points.length ++ zeros 1 ++ le 4 l.sealCount ++ le 8 (m.lastK.getD 0) ++ le 4 l.sent ++ le 4 l.dropped ++ le 4 m.ringCount
  ++ le 2 m.protected_.length ++ zeros 2 ++ l.firmware ++ l.parameters

def cmdLupinStatus : Cmd := { row := rowLupinStatus, absent := lupinAbsent, body := fun _ _ h => .ok h (lupinStatusBytes h) }

def lupinSnapshotRead (p : List Byte) (h : Hw) : CmdResult :=
  let n := u8 p 0
  let kind := u8 p 1
  let seq := u32 p 4
  if 15 < n ∨ kind = 0 ∨ 2 < kind then no stBadParam rcLupinParamRange
  else if h.lupin.points.length ≤ n then no stBadParam rcLupinNoSnapshot
  else
    let held := tget (if kind = 1 then h.lupin.periodSnaps else h.lupin.secondSnaps) n []
    match (if seq = 0xFFFFFFFF then held.head? else held.find? (fun s => s.sequence == seq)) with
    | some s => .ok h s.bytes
    | none => no stBadParam rcLupinNoSnapshot

def cmdLupinSnapshotRead : Cmd :=
  { row := rowLupinSnapshotRead, absent := lupinAbsent, reserved := [(2, 2)], body := fun _ p h => linked (lupinSnapshotRead p) h }

def lupinLogRead (p : List Byte) (h : Hw) : CmdResult :=
  let area := u8 p 0
  let n := u8 p 1
  let first := u32 p 4
  if 1 < area ∨ n = 0 ∨ 64 < n then no stBadParam rcLupinParamRange
  else
    let held := if area = 0 then h.lupin.live.ring else h.lupin.live.protected_
    let find (s : Nat) : Option (List Byte) := held.find? (fun r => u32 r 0 == s)
    let got := (List.range n).filterMap (fun i => find (first + i))
    match held.getLast?, held.head? with
    | some a, some b => if got.length = n then .ok h (le 4 (u32 a 0) ++ le 4 (u32 b 0) ++ got.flatten) else no stBadParam rcLupinNoRecord
    | _, _ => no stBadParam rcLupinNoRecord

def cmdLupinLogRead : Cmd :=
  { row := rowLupinLogRead, absent := lupinAbsent, reserved := [(2, 2)], body := fun _ p h => linked (lupinLogRead p) h }

def lupinIdentityBytes (h : Hw) : List Byte :=
  let l := h.lupin
  let head := match l.live.protected_ with | r :: _ => slice r 56 8 | [] => zeros 8
  let key := match l.key with | some t => if l.void then none else some (Config.hsk t) | none => none
  let b := le 1 1 ++ zeros 3 ++ le 4 l.sealCount ++ le 8 h.serial ++ l.firmware ++ l.parameters
    ++ (match key with | some x => slice (Config.publicKey x) 0 133 | none => zeros 133) ++ zeros 3 ++ head
  b ++ (match key with | some x => slice (Config.sign x b) 0 132 | none => zeros 132)

def cmdLupinIdentity : Cmd :=
  { row := rowLupinIdentity, absent := lupinAbsent, body := fun _ _ h => linked (fun h => .ok h (lupinIdentityBytes h)) h }

def lupinUpdateOffer (p : List Byte) (h : Hw) : CmdResult :=
  let total := u32 p 0
  let frag := u16 p 4
  let n := u16 p 6
  let len := u32 p 8
  let bad : Bool := match h.lupin.offer with | some o => o.total != total || o.fragments != n || (tfind o.received frag).isSome | none => false
  if total = 0 ∨ 2097152 < total ∨ n = 0 ∨ 512 < n ∨ len = 0 ∨ 4096 < len ∨ n ≤ frag then no stBadParam rcLupinParamRange
  else if h.lupin.updating then no stBusy rcLupinUpdateBusy
  else if bad ∨ n ≠ (total + 4095) / 4096 ∨ len ≠ min 4096 (total - 4096 * frag) then no stBadParam rcLupinFragment
  else
    let got := tset ((h.lupin.offer.map (fun o => o.received)).getD []) frag (slice p 16 len)
    let h := modLupin (fun l => { l with offer := some { total := total, fragments := n, received := got } }) h
    if got.length < n then done h
    else .accepted (reporting (modLupin (fun l => { l with updating := true })) h) .lupinOffer

def cmdLupinUpdateOffer : Cmd :=
  { row := rowLupinUpdateOffer, absent := lupinAbsent, reserved := [(12, 4)], body := fun _ p h => linked (lupinUpdateOffer p) h }

/-- LUPIN.STATUS. -/
def execLupinStatus (c : Call) (p : List Byte) : State → Host.Outcome State Fault Refusal := lift (runCmd cmdLupinStatus c p)
/-- LUPIN.SNAPSHOT_READ. -/
def execLupinSnapshotRead (c : Call) (p : List Byte) : State → Host.Outcome State Fault Refusal := lift (runCmd cmdLupinSnapshotRead c p)
/-- LUPIN.LOG_READ. -/
def execLupinLogRead (c : Call) (p : List Byte) : State → Host.Outcome State Fault Refusal := lift (runCmd cmdLupinLogRead c p)
/-- LUPIN.IDENTITY. -/
def execLupinIdentity (c : Call) (p : List Byte) : State → Host.Outcome State Fault Refusal := lift (runCmd cmdLupinIdentity c p)
/-- LUPIN.UPDATE_OFFER. -/
def execLupinUpdateOffer (c : Call) (p : List Byte) : State → Host.Outcome State Fault Refusal := lift (runCmd cmdLupinUpdateOffer c p)

end Sys2Proof.Machine
end

