-- ==== Sys2Proof/Machine/Diag.lean ====
section
/-! DEFINITION. Errors, quarantine, placement, fencing, HALTED, self-tests and the DIAG commands but DIAG.FW_LOAD (R390, R528 to R545). -/
namespace Sys2Proof.Machine

/-! ### Counting (R528, R544) -/

/-- Change the fault manager's state. -/
def modFault (f : FaultState → FaultState) (h : Hw) : Hw := { h with fault := f h.fault }

/-- Region code of a block's die (R24). -/
def regionOf (n : Nat) : Nat := n / 4 + 2

/-- SOURCE of a compute region itself (R25). -/
def regionSource (region : Nat) : Nat := region * 4096 + 0xFFF

/-- SOURCE of a memory controller (R26). -/
def memorySource (controller : Nat) : Nat := 0x0E00 + controller

/-- Count a corrected error towards CODE 0x1411 of its region; `source` is the region's, in region H the memory controller's. -/
def noteCorrected (source kind : Nat) (h : Hw) : Hw :=
  modFault (fun f => { f with corrected := tmod f.corrected (source / 4096) (0, none, 0, 0) (fun e => (inc32 e.1, e.2.1, kind, source)) }) h

/-- CORRECTED_ERROR_REPORT's effect: at most once per 60 s per region while corrected errors occur (R544). -/
def correctedReport (region : Nat) (h : Hw) : Hw :=
  let (n, at_, kind, src) := tget h.fault.corrected region (0, none, 0, 0)
  if n = 0 ∨ at_.elim false (fun t => decide (h.time.mono < t + 60 * secUnit)) then h
  else
    let seq := (h.fault.next + 2 ^ 32 - 1) % 2 ^ 32
    let h := modFault (fun f => { f with corrected := tset f.corrected region (0, some h.time.mono, kind, src) }) h
    evr 0x1411 src (faultPayload src kind 0 seq 0xFFFF 0xFFFF n h) h

/-- CORRECTED_ERROR_REPORT. -/
def execCorrectedErrorReport (region : Nat) : State → Host.Outcome State Fault Refusal := lift (correctedReport region)

/-! ### Placement (R533, R535) -/

/-- A block takes work: populated, not fenced, not quarantined. -/
def blockOpen (n : Nat) (h : Hw) : Bool := blockPresent n h && !(blockAt n h).quarantined

/-- Free load of a block in per mille of a cell: 800 for each cell in service, less the loads placed on it. -/
def freeLoad (n : Nat) (h : Hw) : Int :=
  let used := (fnsOf h).foldl (fun a f => if homeOf f h = n ∧ h.fault.unplaced.contains f.slice = false then a + f.load else a) 0
  ((800 * (cellsInService n h).length : Nat) : Int) - (used : Nat)

/-- The block that takes a function: of those listed, the one with the most free load, the lowest-numbered among equals. -/
def choose (f : FnConfig) (blocks : List Nat) (h : Hw) : Option Nat :=
  let ok := blocks.filter (fun n => blockOpen n h && (f.cls ≤ 1 || !protectBlock n h) && decide ((f.load : Int) ≤ freeLoad n h))
  ok.foldl (fun best n => match best with
    | none => some n
    | some b => if freeLoad b h < freeLoad n h then some n else best) none

/-- Give a function its new home. -/
def setHome (f : FnConfig) (n : Nat) (h : Hw) : Hw := modFault (fun x => { x with home := tset x.home (f.slice * 65536 + f.index) n }) h

/-- The order of placement: by class, C0 first, then by slice and function index (R533). -/
def placeOrder (l : List FnConfig) : List FnConfig :=
  l.mergeSort (fun a b => decide (a.cls < b.cls ∨ (a.cls = b.cls ∧ a.slice * 65536 + a.index ≤ b.slice * 65536 + b.index)))

/-- A region places the functions of a block it has quarantined on its other blocks; one that finds none waits for the module level. -/
def regionPlace (n : Nat) (h : Hw) : Hw :=
  let blocks := [4 * (n / 4), 4 * (n / 4) + 1, 4 * (n / 4) + 2, 4 * (n / 4) + 3]
  (placeOrder ((fnsOf h).filter (fun f => homeOf f h == n))).foldl (fun h f =>
    match choose f blocks h with
    | some b => setHome f b h
    | none => h) h

/-- Place functions on any block, all or none. -/
def placeAll : List FnConfig → Hw → Option Hw
  | [], h => some h
  | f :: r, h => match choose f (List.range (blockCount h)) h with
    | some b => placeAll r (setHome f b h)
    | none => none

/-! ### Moving work (R532) -/

/-- The block an item of a block out of service goes to: its function's new home; without a function, the lowest-numbered
block in service of its region, else of the module. -/
def newHome (n : Nat) (i : Item) (h : Hw) : Option Nat :=
  match i.fn with
  | some fn => ((fnsOf h).find? (fun f => f.slice == i.slice && f.index == fn && !homeless f h && !h.fault.unplaced.contains f.slice)).map (fun f => homeOf f h)
  | none =>
    match (List.range (blockCount h)).find? (fun b => b / 4 == n / 4 && blockOpen b h) with
    | some b => some b
    | none => (List.range (blockCount h)).find? (fun b => blockOpen b h)

/-- Move one item from a block out of service, with its ledger entry. -/
def moveItem (n : Nat) (delayed : Bool) (i : Item) (h : Hw) : Hw :=
  match newHome n i h with
  | none => h
  | some t =>
    let a := blockAt n h
    let h := putBlock n { a with ready := a.ready.erase i, delay := a.delay.erase i } h
    let b := blockAt t h
    let h := putBlock t (if delayed then { b with delay := b.delay ++ [i] } else { b with ready := b.ready ++ [i] }) h
    if i.ledger = 0xFFFF then h else putEntry i.ledger { entryAt i.ledger h with block := t } h

/-- Move what a block out of service holds: its items in list order, and the decided entries that wait for their rerun. -/
def relocate (n : Nat) (h : Hw) : Hw :=
  let b := blockAt n h
  let h := b.ready.foldl (fun h i => moveItem n false i h) h
  let h := b.delay.foldl (fun h i => moveItem n true i h) h
  (h.spec.entries.filter (fun e => e.2.block == n && e.2.state == 2)).foldl (fun h e =>
    match newHome n e.2.item h with
    | some t => putEntry e.1 { e.2 with block := t } h
    | none => h) h

/-- Stop a block: running items end without a decision, reruns wait to run once more on fresh lines, speculative items and core
self-tests are dropped, slots go back to their lists (R532 steps 1 and 2). -/
def stopBlock (n : Nat) (h : Hw) : Hw :=
  let b := blockAt n h
  let rerun (i : Item) : Bool := i.ledger != 0xFFFF && bit i.desc.flags 1
  let spec (i : Item) : Bool := i.ledger != 0xFFFF && bit i.desc.flags 0
  let kept := (b.running.map (fun e => e.2.item)).filter rerun
  let h := b.running.foldl (fun h e => retire n e.1 h) h
  let b := blockAt n h
  let again (i : Item) : Item := if rerun i then { i with retry := true, front := true } else i
  let slots := b.slots.map (fun e => { e.2 with front := true })
  let h := putBlock n { b with slots := [], emptySince := [], ready := ((kept ++ slots ++ b.ready).filter (fun i => !spec i && i.probe.isNone)).map again } h
  (h.spec.entries.filter (fun e => e.2.block == n && (e.2.state == 2 || e.2.state == 3))).foldl (fun h e =>
    putEntry e.1 { e.2 with lines := [], faultOnFail := e.2.state == 3 } h) h

/-- Fence a die: a swap not yet committed is aborted, its blocks stop, and its functions wait for the module level (R490, R534, R535). -/
def fenceDie (d source kind : Nat) (h : Hw) : Hw :=
  if computeDies h ≤ d ∨ h.fault.fenced.contains d then h
  else
    let h := logFault source kind 5 0xFFFF 0xFFFF h
    let h := withdrawCredits (d + 2) (modFault (fun f => { f with fenced := f.fenced ++ [d], cause := (source, kind) }) h)
    let h := match h.cfg.swap with
      | some w => if w.committed then h else abortSwap rcCfgSwapLaggard (d + 2) 0xFF 0 h
      | none => h
    let blocks := [4 * d, 4 * d + 1, 4 * d + 2, 4 * d + 3]
    let h := blocks.foldl (fun h n => if (blockAt n h).quarantined then h else stopBlock n h) h
    blocks.foldl (fun h n => putBlock n { blockAt n h with quarantined := true } h) h

/-- Quarantine a block (R532): it stops, its region places its functions anew, its work moves; a die without a block is fenced. -/
def quarantineBlock (n source kind : Nat) (h : Hw) : Hw :=
  if blockOpen n h = false then h
  else
    let h := logFault source kind 4 0xFFFF 0xFFFF h
    let h := stopBlock n h
    let h := putBlock n { blockAt n h with quarantined := true } h
    let h := modFault (fun f => { f with cause := (source, kind) }) h
    let h := relocate n (regionPlace n h)
    if [0, 1, 2, 3].all (fun b => (blockAt (n / 4 * 4 + b) h).quarantined) then fenceDie (n / 4) (regionSource (regionOf n)) kind h else h

/-- Quarantine a cell (R530): its running item fails, its slot's item returns to its list; below 4 cells the block follows, which its region decides (R25, R532). -/
def quarantineCell (n c kind : Nat) (h : Hw) : Hw :=
  if (cellsInService n h).contains c = false then h
  else
    let src := cellSource n c
    let h := logFault src kind 3 0xFFFF 0xFFFF h
    let b := blockAt n h
    let run := tfind b.running c
    let back := match tfind b.slots c with | some i => [{ i with front := true }] | none => []
    let h := retire n c (putBlock n { b with badCells := b.badCells ++ [c], slots := tdel b.slots c, ready := (back ++ b.ready).filter (fun i => i.probe.elim true (fun p => p.1 != c)) } h)
    let h := match run with | some r => failItem n c kind r h | none => h
    if (cellsInService n h).length < 4 then quarantineBlock n (regionSource (regionOf n)) kind h else h

/-- An unplaced slice gives back what it held: its functions have no home until they are placed again. -/
def withdrawSlice (s : Nat) (h : Hw) : Hw :=
  ((fnsOf h).filter (fun f => f.slice == s)).foldl (fun h f => setHome f (blockCount h) h) (modFault (fun x => { x with unplaced := x.unplaced.filter (· != s) }) h)

/-- UNPLACED_SLICE_PLACE's effect: the module level places whole slices whose functions wait, C0 slices first, then C1, then
the rest, by number; a slice that cannot be placed is unplaced until capacity allows (R535). -/
def placeSlices (h : Hw) : Hw :=
  let waiting := (fnsOf h).filter (fun f => homeless f h || h.fault.unplaced.contains f.slice)
  let slices := (waiting.map (fun f => f.slice)).eraseDups
  let rank (s : Nat) : Nat := ((fnsOf h).filter (fun f => f.slice == s)).foldl (fun a f => min a (min f.cls 2)) 2
  let order := slices.mergeSort (fun a b => decide (rank a < rank b ∨ (rank a = rank b ∧ a ≤ b)))
  let (src, kind) := h.fault.cause
  let h := order.foldl (fun h s =>
    let fs := placeOrder ((fnsOf h).filter (fun f => f.slice == s && homeless f h))
    let was := h.fault.unplaced.contains s
    let fits : Option Hw := if was then placeAll (placeOrder ((fnsOf h).filter (fun f => f.slice == s))) (withdrawSlice s h) else placeAll fs h
    match fits with
    | some h' => logFault src kind 6 s 0xFFFF h'
    | none => if was then h else logFault src kind 7 s 0xFFFF (modFault (fun f => { f with unplaced := f.unplaced ++ [s] }) h)) h
  ((List.range (blockCount h)).filter (fun n => !blockOpen n h)).foldl (fun h n => relocate n h) h

/-! ### Errors (R528 to R536) -/

/-- An uncorrected error attributed to a cell: three within 3,600 s quarantine it (R530). -/
def attribute_ (n c kind : Nat) (h : Hw) : Hw :=
  let key := n * 8 + c
  let l := h.time.mono :: (tget h.fault.cellErrors key []).filter (fun t => decide (h.time.mono < t + 3600 * secUnit))
  let h := modFault (fun f => { f with cellErrors := tset f.cellErrors key l }) h
  if 3 ≤ l.length then quarantineCell n c kind h else h

/-- The item running on a cell fails; without one the error is only logged. -/
def failRunning (n c kind : Nat) (h : Hw) : Hw :=
  match tfind (blockAt n h).running c with
  | some r => failItem n c kind r (retire n c h)
  | none => logFault (cellSource n c) kind 0 0xFFFF 0xFFFF h

/-- Set or clear a latched finding. -/
def latch (i : Nat) (b : Bool) (h : Hw) : Hw :=
  let l := h.pair.latched
  { h with pair := { h.pair with latched := if b then (if bit l i then l else l + 2 ^ i) else if bit l i then l - 2 ^ i else l } }

/-- ECC_ERROR's effect (R528 kinds 1 to 4, 12 and 13). An uncorrected error sets finding 0 until a scrub pass finds none; it is one in
region H where the record names a memory controller of H (R387, the model's reading, log 117). -/
def eccError (e : EccError) (h : Hw) : Hw :=
  match e with
  | .l1 n c true => if n < blockCount h ∧ c < 8 then noteCorrected (regionSource (regionOf n)) 1 (modFault (fun f => { f with l1Corr := inc32 f.l1Corr }) h) else h
  | .l1 n c false =>
    if (cellsInService n h).contains c then attribute_ n c 2 (failRunning n c 2 (latch 0 true <| modFault (fun f => { f with l1Unc := inc32 f.l1Unc }) h)) else h
  | .l2 n c true => if n < blockCount h ∧ c < 8 then noteCorrected (regionSource (regionOf n)) 3 (modFault (fun f => { f with l2Corr := inc32 f.l2Corr }) h) else h
  | .l2 n c false =>
    if (cellsInService n h).contains c then attribute_ n c 4 (failRunning n c 4 (latch 0 true <| modFault (fun f => { f with l2Unc := inc32 f.l2Unc }) h)) else h
  | .dram m _ true => if 3 < m then h else noteCorrected (memorySource m) 12 (modFault (fun f => { f with dramCorr := inc32 f.dramCorr }) h)
  | .dram m cell false =>
    if 3 < m then h
    else
      let h := latch 0 true (modFault (fun f => { f with dramUnc := inc32 f.dramUnc }) h)
      match cell.bind (fun e => (tfind (blockAt e.1 h).running e.2).map (fun r => (e, r))) with
      | some ((n, c), r) => failItem n c 13 r (retire n c h)
      | none => latch 8 true (logFault (memorySource m) 13 0 0xFFFF 0xFFFF h)

/-- BLOCK_ERROR's effect: kind 7, or kind 8 for a clock out of lock (R528, R532). -/
def blockError (n : Nat) (pll : Bool) (h : Hw) : Hw := quarantineBlock n (cellSource n 0xFF) (if pll then 8 else 7) h

/-- DISPATCHER_STALL's effect: a slot empty for 50 µs while its block holds an item it may run (R528, R532). -/
def dispatcherStall (n c : Nat) (h : Hw) : Hw :=
  let b := blockAt n h
  let long : Bool := match tfind b.emptySince c with | some t => decide (t + nsUnits 50000 ≤ h.time.mono) | none => false
  if (cellsInService n h).contains c ∧ (tfind b.slots c).isNone ∧ long ∧ (pickClass n c h).isSome then quarantineBlock n (cellSource n 0xFF) 7 h else h

/-- The hub loses the die link to L (R462). -/
def lupinDown (h : Hw) : Hw := reporting (modLupin (fun l => { l with linkDown := true })) h

/-- DIE_LINK_ERROR's effect: a network-on-chip error (kind 9), or a link's replay threshold or loss (kind 10), by region code;
`replays` are those since the last event (R528, R534, R541). -/
def dieLinkError (region : Nat) (noc : Bool) (replays : Nat) (h : Hw) : Hw :=
  let h := modFault (fun f => { f with replays := sat32 (f.replays + replays) }) h
  if region = 1 then
    if hollyhock h ∧ noc = false ∧ h.lupin.linkDown = false then lupinDown (logFault 0x0F11 10 0 0xFFFF 0xFFFF h) else h
  else if region < 2 ∨ 7 < region then h
  else fenceDie (region - 2) (if noc then region * 4096 + 0xFFF else 0x0F10 + region) (if noc then 9 else 10) h

/-! ### Self-tests (R387, R390, R543) -/

/-- A test has run: with all four since the last one, a self-test cycle is complete. -/
def cycleStep (i : Nat) (h : Hw) : Hw :=
  let d := h.pair.cycleDone
  let d := if bit d i then d else d + 2 ^ i
  if d % 16 = 15 then { h with pair := { h.pair with cycleDone := 0, cycleAt := h.time.mono } } else { h with pair := { h.pair with cycleDone := d } }

/-- Cells in service of the blocks named. -/
def cellsOn (blocks : List Nat) (h : Hw) : List (Nat × Nat) := (blocks.map (fun n => (cellsInService n h).map (fun c => (n, c)))).flatten

/-- A cell's core self-test as an item: class C2, of slice 0, for that cell alone (R390). -/
def probeItem (c : Nat) (bad : Bool) (h : Hw) : Item × Hw :=
  let seq := tget h.fab.sequences 0 0
  ({ desc := { cls := 2, flags := 0, k := 0xFFFFFFFFFFFFFFFF }, generation := (sliceAt 0 h).generation, sequence := seq, probe := some (c, bad) },
   { h with fab := { h.fab with sequences := tset h.fab.sequences 0 ((seq + 1) % 2 ^ 32) } })

/-- Cells of a block for which a test waits or runs. -/
def probed (n : Nat) (h : Hw) : List Nat :=
  let b := blockAt n h
  (b.ready ++ b.slots.map (fun e => e.2) ++ b.running.map (fun e => e.2.item)).filterMap (fun i => i.probe.map (fun p => p.1))

/-- A core test of the blocks named: an item for each of their cells in service that has none (R390). -/
def coreTest (blocks : List Nat) (found : SelfTest) (h : Hw) : Hw :=
  (cellsOn blocks h).foldl (fun h e =>
    if (probed e.1 h).contains e.2 then h
    else
      let (i, h) := probeItem e.2 (found.cells.contains (e.1 * 8 + e.2)) h
      placeItem e.1 i h) { h with pair := { h.pair with coreAt := h.time.mono, coreBad := false } }

/-- The self-test that a cell runs. -/
def probeOf (n c : Nat) (h : Hw) : Option Bool := (tfind (blockAt n h).running c).bind (fun r => r.item.probe.map (fun p => p.2))

/-- A cell's self-test has ended: it counts; a cell that fails sets finding 1 and is quarantined; with the last of the tests the
core test is done (R387, R390, R528 kind 6). -/
def probeEnd (n c : Nat) (found : Option Bool) (h : Hw) : Hw :=
  match found with
  | none => h
  | some bad =>
    let h := if bad then
        quarantineCell n c 6 (latch 1 true { h with pair := { h.pair with coreFailed := inc32 h.pair.coreFailed, coreBad := true } })
      else { h with pair := { h.pair with corePassed := inc32 h.pair.corePassed } }
    if (List.range (blockCount h)).all (fun m => (probed m h).isEmpty) then cycleStep 0 (latch 1 h.pair.coreBad h) else h

/-- The link loopback. -/
def loopbackTest (found : SelfTest) (h : Hw) : Hw := cycleStep 1 (latch 2 found.loopback { h with pair := { h.pair with loopAt := h.time.mono } })

/-- The key store's known-answer tests. -/
def katTest (found : SelfTest) (h : Hw) : Hw := cycleStep 2 (runKat found.kat { h with pair := { h.pair with katAt := h.time.mono } })

/-- A scrub pass ends. -/
def scrubPass (found : SelfTest) (h : Hw) : Hw :=
  let h := { h with pair := { h.pair with scrubAt := h.time.mono, scrubPasses := min 0xFFFF (h.pair.scrubPasses + 1) } }
  cycleStep 3 (latch 8 (found.scrub && found.scrubHub) (latch 0 found.scrub h))

/-- The module tests itself: STANDBY, or ACTIVE with a silent partner (R390). -/
def selfTesting (h : Hw) : Bool := h.pair.role == 2 || (h.pair.role == 1 && !(pathAt 0 h).live && !(pathAt 1 h).live)

/-- SELFTEST_DUE's effect: test 1 core, 2 loopback, 3 known-answer, 4 scrub, at its interval (R390). -/
def selftestDue (test : Nat) (found : SelfTest) (h : Hw) : Hw :=
  let past (from_ units : Nat) : Bool := decide (from_ + units ≤ h.time.mono)
  if selfTesting h = false ∨ modeCode h.mode < 4 ∨ 7 < modeCode h.mode then h
  else match test with
    | 1 => if past h.pair.coreAt (nsUnits (1000000 * h.pair.coreInterval)) then coreTest (List.range (blockCount h)) found h else h
    | 2 => if past h.pair.loopAt secUnit then loopbackTest found h else h
    | 3 => if past h.pair.katAt (h.pair.katInterval * secUnit) then katTest found h else h
    | 4 => if past h.pair.scrubAt (h.pair.scrubPeriod * secUnit) then scrubPass found h else h
    | _ => h

/-! ### Commands (R541 to R545) -/

/-- Every fault counter at zero. -/
def clearFaults (f : FaultState) : FaultState :=
  { f with l1Corr := 0, l1Unc := 0, l2Corr := 0, l2Unc := 0, exceptions := 0, retries := 0, failures := 0, dramCorr := 0, dramUnc := 0, replays := 0, fenceDrop := 0 }

def diagStatusBytes (h : Hw) : List Byte :=
  let f := h.fault
  let all := List.range (blockCount h)
  let anyQ := all.any (fun n => (blockAt n h).quarantined || (blockAt n h).badCells != [])
  le 1 (flag anyQ 0 + flag (f.fenced != []) 1 + flag (f.unplaced != []) 2 + flag f.injected 3)
  ++ le 1 (f.fenced.foldl (fun a d => a + 2 ^ (d + 2)) 0) ++ le 2 (all.foldl (fun a n => a + (cellsInService n h).length) 0)
  ++ le 4 (all.foldl (fun a n => a + flag (blockAt n h).quarantined n) 0) ++ le 2 f.unplaced.length ++ zeros 2
  ++ le 4 f.l1Corr ++ le 4 f.l1Unc ++ le 4 f.l2Corr ++ le 4 f.l2Unc ++ le 4 f.exceptions ++ le 4 f.retries ++ le 4 f.failures ++ le 4 f.dramCorr
  ++ le 4 f.dramUnc ++ le 4 f.replays ++ le 4 f.fenceDrop ++ le 4 ((f.log.head?.map (fun e => e.sequence)).getD 0xFFFFFFFF) ++ zeros 4

def diagStatus (p : List Byte) (h : Hw) : CmdResult :=
  .ok (if bit (u8 p 0) 0 then modFault clearFaults h else h) (diagStatusBytes h)

def cmdDiagStatus : Cmd := { row := rowDiagStatus, reserved := [(1, 3)], reservedBits := [(0, 1, 0xFE)], body := fun _ p h => diagStatus p h }

def faultEntryBytes (e : FaultEntry) : List Byte := le 4 e.sequence ++ le 2 e.source ++ le 1 e.kind ++ le 1 e.action ++ le 4 e.sec ++ le 4 e.frac

/-- DIAG.FAULT_READ (R542). -/
def diagFaultRead (p : List Byte) (h : Hw) : CmdResult :=
  let first := u32 p 0
  let n := u16 p 4
  if n = 0 ∨ 64 < n then no stBadParam rcDiagParamRange
  else
    let all := h.fault.log.reverse
    let got := ((all.dropWhile (fun e => e.sequence != first)).take n)
    match all.head?, h.fault.log.head?, got with
    | some a, some b, _ :: _ => .ok h (le 4 a.sequence ++ le 4 b.sequence ++ zeros 8 ++ (got.map faultEntryBytes).flatten)
    | _, _, _ => no stBadParam rcDiagNoEntry

def cmdDiagFaultRead : Cmd := { row := rowDiagFaultRead, reserved := [(6, 2)], body := fun _ p h => diagFaultRead p h }

/-- DIAG.SELFTEST: the tests begin at once, the core test as items; what they find is the environment's (R543, log 4). -/
def diagSelftest (c : Call) (p : List Byte) (h : Hw) : CmdResult :=
  let test := u8 p 0
  let die := u8 p 1
  let block := u8 p 2
  let found := c.crypto.selftest
  if 4 < test then no stBadParam rcDiagParamRange
  else if 5 < die ∧ die ≠ 0xFF then no stBadParam rcDiagNoTarget
  else if 3 < block ∧ block ≠ 0xFF then no stBadParam rcDiagParamRange
  else if h.fault.fenced.contains die then no stStateRefused rcDiagFenced
  else
    let picked := (List.range (blockCount h)).filter (fun n => (die == 0xFF || n / 4 == die) && (block == 0xFF || n % 4 == block))
    let run (i : Nat) (f : Hw → Hw) (h : Hw) : Hw := if test = 0 ∨ test = i then f h else h
    let h := run 1 (coreTest picked found) h
    let h := run 2 (loopbackTest found) h
    let h := run 3 (katTest found) h
    done (run 4 (fun h => { h with pair := { h.pair with scrubAt := h.time.mono } }) h)

def cmdDiagSelftest : Cmd :=
  { row := rowDiagSelftest, absent := fun _ p h => dieAbsent (u8 p 1) h, reserved := [(3, 1)], body := fun c p h => diagSelftest c p h }

/-- Region code of a SOURCE, and the block and cell it names: cell 0xFF the block itself (R25). -/
def targetOf (src : Nat) : Option (Nat × Nat) :=
  let r := src / 4096
  let b := src / 256 % 16
  let c := src % 256
  if r < 2 ∨ 7 < r ∨ 3 < b ∨ (7 < c ∧ c ≠ 0xFF) then none else some ((r - 2) * 4 + b, c)

/-- A SOURCE names an unpopulated region (R5). -/
def sourceAbsent (src : Nat) (h : Hw) : Bool := src / 4096 ≤ 7 && !(populated h).contains (src / 4096)

/-- DIAG.QUARANTINE (R530, R532, R543): a quarantine without an error is logged as kind 0. -/
def diagQuarantine (cl : Call) (p : List Byte) (h : Hw) : CmdResult :=
  match targetOf (u16 p 0) with
  | none => no stBadParam rcDiagNoTarget
  | some (n, c) =>
    let cells := if c = 0xFF then List.range 8 else [c]
    let left := ((cellsInService n h).filter (fun x => !cells.contains x)).length
    let others := ((List.range (blockCount h)).filter (fun b => b != n)).foldl (fun a b => a + (cellsInService b h).length) 0
    let after := others + (if left < 4 then 0 else left)
    let bad := cells.filter (fun x => cl.crypto.selftest.cells.contains (n * 8 + x))
    if 1 < u8 p 2 then no stBadParam rcDiagParamRange
    else if h.fault.fenced.contains (n / 4) then no stStateRefused rcDiagFenced
    else if u8 p 2 = 1 then
      if after = 0 then no stDenied rcDiagLastCell
      else done (if c = 0xFF then quarantineBlock n (regionSource (regionOf n)) 0 h else quarantineCell n c 0 h)
    else if bad ≠ [] then no stDenied rcDiagSelftestFailed
    else
      let b := blockAt n h
      let h := putBlock n { b with
        badCells := b.badCells.filter (fun x => !cells.contains x), quarantined := if c = 0xFF then false else b.quarantined
        emptySince := cells.foldl (fun t x => tset t x h.time.mono) b.emptySince } h
      let h := modFault (fun f => { f with cellErrors := f.cellErrors.filter (fun e => !(cells.map (fun x => n * 8 + x)).contains e.1) }) h
      done { h with pair := { h.pair with corePassed := sat32 (h.pair.corePassed + cells.length) } }

def cmdDiagQuarantine : Cmd :=
  { row := rowDiagQuarantine, absent := fun _ p h => sourceAbsent (u16 p 0) h, reserved := [(3, 1), (4, 4)], body := fun c p h => diagQuarantine c p h }

/-- One injected error (R543). -/
def injectOne (kind src : Nat) (h : Hw) : Hw :=
  match targetOf src, kind with
  | some (n, c), 1 => eccError (.l1 n c true) h
  | some (n, c), 2 => eccError (.l1 n c false) h
  | some (n, c), 4 => eccError (.l2 n c false) h
  | some (n, c), 5 => coreException n c h
  | _, _ => dieLinkError (src % 256 - 0x10) false 0 h

/-- DIAG.INJECT (R543). -/
def diagInject (p : List Byte) (h : Hw) : CmdResult :=
  let kind := u8 p 0
  let src := u16 p 2
  let n := u32 p 4
  let link : Bool := 0x0F11 ≤ src && src ≤ 0x0F17
  let cell := (targetOf src).bind (fun t => if t.2 < 8 then some t.1 else none)
  let die := if kind = 10 then (if src = 0x0F11 then none else some (src - 0x0F12)) else cell.map (fun b => b / 4)
  if [1, 2, 4, 5, 10].contains kind = false ∨ n = 0 ∨ 1000 < n then no stBadParam rcDiagParamRange
  else if (if kind = 10 then !link else cell.isNone) then no stBadParam rcDiagNoTarget
  else if die.elim false (fun d => h.fault.fenced.contains d) then no stStateRefused rcDiagFenced
  else
    let h := { modFault (fun f => { f with injected := true }) h with evr := { h.evr with injecting := true } }
    let h := (List.range n).foldl (fun h _ => injectOne kind src h) h
    done { h with evr := { h.evr with injecting := false } }

def cmdDiagInject : Cmd :=
  { row := rowDiagInject, stateReason := rcDiagNotTest
    absent := fun _ p h => if u8 p 0 = 10 then 0x0F11 ≤ u16 p 2 && u16 p 2 ≤ 0x0F17 && !(populated h).contains (u16 p 2 - 0x0F10) else sourceAbsent (u16 p 2) h
    reserved := [(1, 1), (8, 8)], body := fun _ p h => diagInject p h }

/-- DIAG.STATUS. -/
def execDiagStatus (c : Call) (p : List Byte) : State → Host.Outcome State Fault Refusal := lift (runCmd cmdDiagStatus c p)
/-- DIAG.FAULT_READ. -/
def execDiagFaultRead (c : Call) (p : List Byte) : State → Host.Outcome State Fault Refusal := lift (runCmd cmdDiagFaultRead c p)

end Sys2Proof.Machine
end

