-- ==== Sys2Proof/Machine/Phasor.lean ====
section
/-! DEFINITION. Internal phasors and synchrophasor streams (R244 to R255, R266 to R269). Sums run in rising order of time (log 8). -/
namespace Sys2Proof.Machine

/-! ### Complex numbers in double precision -/

/-- Sum and product of complex numbers. -/
def cAdd (a b : F64 × F64) : F64 × F64 := (dAdd a.1 b.1, dAdd a.2 b.2)
def cMul (a b : F64 × F64) : F64 × F64 := (dSub (dMul a.1 b.1) (dMul a.2 b.2), dAdd (dMul a.1 b.2) (dMul a.2 b.1))
def cScale (s : F64) (a : F64 × F64) : F64 × F64 := (dMul s a.1, dMul s a.2)

/-- A natural number and a quotient as doubles. -/
def dNat (n : Nat) : F64 := dOfFrac n 1
/-- pi and the square root of 2. -/
def dPi : F64 := 0x400921FB54442D18#64
def dSqrt2 : F64 := dSqrt (dNat 2)

/-- exp(-i 2 pi n / d). -/
def turnBack (n d : Nat) : F64 × F64 := (cos64Frac (n % d) d, dNeg (sin64Frac (n % d) d))

/-! ### Internal phasors (R245 to R247) -/

/-- Instants of one cycle. -/
def cycleOf (f f0 : Nat) : Nat := (2 * f + f0) / (2 * f0)

/-- A settled row. -/
def rowAt (k : Nat) (h : Hw) : Option Row := h.ing.ring.find? (fun r => r.k == k)

/-- The slots of a window of some rows, oldest first; a row that does not exist gives none. -/
def windowOf (from_ : List Row) (slot first n : Nat) : List (Nat × Option Slot) :=
  let rows := from_.filter (fun r => first ≤ r.k && r.k < first + n)
  (List.range n).map (fun i => (first + i, (rows.find? (fun r => r.k == first + i)).map (fun r => tget r.slots slot { origin := 6 })))

/-- Flags and substituted count of a window (R247). -/
def windowFlags (w : List Slot) (full : Bool) : Nat × Nat :=
  let sub (s : Slot) : Bool := s.origin == 2 || s.origin == 4
  (flag (full && w.all (fun s => s.origin ≤ 1 && s.q % 4 == 0)) 0 + flag (w.any sub) 1 + flag (w.any (fun s => s.origin == 5 || s.q % 4 == 1)) 2
    + flag (w.any (fun s => bit s.flags 1)) 3 + flag (w.any (fun s => bit s.flags 0)) 4,
   (w.filter (fun s => sub s || s.origin == 5)).length)

/-- One term of the sum of R245. -/
def phasorTerm (f f0 : Nat) (e : Nat × Option Slot) : F64 × F64 :=
  cScale (fToD ((e.2.map (fun x => x.value)).getD 0#32)) (turnBack (f0 * e.1) f)

/-- The sum of R245 at instant k: from the sum at k - 1, less the term that leaves the window and with the one that enters it; directly at
the first instant of every second and where there is no sum at k - 1 (log 86). -/
def phasorSum (slot k f f0 w : Nat) (h : Hw) : F64 × F64 :=
  let fresh := (windowOf h.ing.ring slot (k + 1 - w) w).foldl (fun a e => cAdd a (phasorTerm f f0 e)) (0#64, 0#64)
  match tfind h.phasor.sums slot with
  | none => fresh
  | some (j, v, s) =>
    if j + 1 ≠ k ∨ v ≠ w ∨ k % f = 0 then fresh
    else match windowOf h.ing.ring slot (k - w) (w + 1) with
      | [] => fresh
      | old :: rest => match old.2 with
        | none => fresh
        | some _ =>
          let out := phasorTerm f f0 old
          cAdd (cAdd s (phasorTerm f f0 (rest.getLastD old))) (dNeg out.1, dNeg out.2)

/-- The phasor of a slot at an instant with its sum (R245); free where the window holds a row that does not exist (log 3). -/
def phasorOf (slot k i : Nat) (h : Hw) : Phasor × Option (F64 × F64) :=
  let f := fGrid h
  let f0 := slotNominal slot h
  let w := cycleOf f f0
  let have_ := (windowOf h.ing.ring slot (k + 1 - w) w).filterMap (fun e => e.2)
  let full := have_.length == w && w ≤ k + 1
  let (fl, n) := windowFlags have_ full
  if full then
    let s := phasorSum slot k f f0 w h
    let x := cScale (dDiv dSqrt2 (dNat w)) s
    ({ re := dToF x.1, im := dToF x.2, flags := fl, substituted := n }, some s)
  else
    ({ re := BitVec.ofNat 32 (Config.freeNat (h.free * 4096 + 2 * i)), im := BitVec.ofNat 32 (Config.freeNat (h.free * 4096 + 2 * i + 1)), flags := fl, substituted := n }, none)

/-- Commit the phasors of a settled row (R246); the streamer keeps the row (R249). -/
def commitPhasors (k : Nat) (h : Hw) : Hw :=
  match rowAt k h with
  | none => h
  | some r =>
    let got := (slotChannels (streamsOf h)).zipIdx.map (fun e => (e.1.1, phasorOf e.1.1 k e.2 h))
    let row : PhasorRow := { k := k, width := r.width, entries := got.map (fun e => (e.1, e.2.1)) }
    let top := max k (h.phasor.ring.foldl (fun m x => max m x.k) 0)
    drawn { h with phasor := { h.phasor with
      ring := (row :: h.phasor.ring).filter (fun x => top < x.k + 4096)
      rows := (r :: h.phasor.rows).filter (fun x => top < x.k + 16384)
      sums := got.filterMap (fun e => e.2.2.map (fun s => (e.1, k, cycleOf (fGrid h) (slotNominal e.1 h), s))) } }

/-- At a change of grid the instants are counted anew: what is held by the old ones goes (R246). -/
def regridPhasors (old new : Nat) (h : Hw) : Hw :=
  if old = new then h
  else { h with phasor := { h.phasor with ring := [], sums := [], rows := [], streams := tmap h.phasor.streams (fun _ s => { s with last := none, fresh := true }) } }

/-! ### Synchrophasors (R248 to R254) -/

/-! The streamer computes in single precision with sums in double (R249). -/

/-- Sum and product of complex numbers in single precision. -/
def eAdd (a b : F32 × F32) : F32 × F32 := (fAdd a.1 b.1, fAdd a.2 b.2)
def eMul (a b : F32 × F32) : F32 × F32 := (fSub (fMul a.1 b.1) (fMul a.2 b.2), fAdd (fMul a.1 b.2) (fMul a.2 b.1))

/-- pi and the square root of 2 as singles. -/
def fPi : F32 := 0x40490FDB#32
def fSqrt2 : F32 := fSqrt (fNat 2)

/-- The half-width N_h of a stream's window. -/
def halfWidth (c : SynchroConfig) (f f0 : Nat) : Nat := if c.cls = 0 then cycleOf f f0 - 1 else (8 * f + c.rate) / (2 * c.rate)

/-- The window weight at |m| (R249). -/
def weight (c : SynchroConfig) (f f0 m : Nat) : F32 :=
  if c.cls = 0 then fSub (fNat 1) (fOfFrac m (cycleOf f f0))
  else
    let nh := halfWidth c f f0
    let hamming := fAdd (fOfFrac 54 100) (fMul (fOfFrac 46 100) (cosFrac m (2 * nh)))
    let sinc := if m = 0 then fNat 1 else fDiv (sinFrac (c.rate * m % (4 * f)) (4 * f)) (fMul fPi (fOfFrac (c.rate * m) (2 * f)))
    fMul hamming sinc

/-- |m| at position i of a window of half-width n. -/
def away (i n : Nat) : Nat := if i < n then n - i else i - n

/-- A sum of singles in double precision. -/
def sumOf (l : List F32) : F64 := l.foldl (fun a x => dAdd a (fToD x)) 0#64

/-- G of R249: the sum of the weights; W for class P. -/
def weightSum (c : SynchroConfig) (f f0 : Nat) : F32 :=
  if c.cls = 0 then fNat (cycleOf f f0)
  else let n := halfWidth c f f0; dToF (sumOf ((List.range (2 * n + 1)).map (fun i => weight c f f0 (away i n))))

/-- The estimate of one slot at an instant, with the slot's own nominal frequency (R244); none where a row of the window does not exist. -/
def estimateSlot (c : SynchroConfig) (slot k : Nat) (h : Hw) : Option (F32 × F32) :=
  let f := fGrid h
  let f0 := slotNominal slot h
  let n := halfWidth c f f0
  let win := windowOf h.phasor.rows slot (k - n) (2 * n + 1)
  if k < n ∨ win.any (fun e => e.2.isNone) then none
  else
    let terms := win.zipIdx.map (fun e =>
      let y := fMul ((e.1.2.map (fun x => x.value)).getD 0#32) (weight c f f0 (away e.2 n))
      (fMul y (cosFrac (f0 * e.1.1 % f) f), fMul y (fNeg (sinFrac (f0 * e.1.1 % f) f))))
    let s := fDiv fSqrt2 (weightSum c f f0)
    some (fMul s (dToF (sumOf (terms.map (fun t => t.1)))), fMul s (dToF (sumOf (terms.map (fun t => t.2)))))

/-- The slot whose nominal frequency a phasor has. -/
def phasorSlot (p : PmuPhasor) : Nat := match p with | .slot s => s | .positive x _ _ => x

/-- The estimate of a phasor of a block (R249). -/
def estimate (c : SynchroConfig) (p : PmuPhasor) (k : Nat) (h : Hw) : Option (F32 × F32) :=
  match p with
  | .slot s => estimateSlot c s k h
  | .positive x y z => do
    let a ← estimateSlot c x k h
    let b ← estimateSlot c y k h
    let d ← estimateSlot c z k h
    let t : F32 × F32 := (cosFrac 1 3, sinFrac 1 3)
    let s := eAdd a (eAdd (eMul t b) (eMul (eMul t t) d))
    pure (fDiv s.1 (fNat 3), fDiv s.2 (fNat 3))

/-- An angle difference in turns, unwrapped to (-1/2, 1/2]. -/
def unwrap (x : F32) : F32 :=
  if fLt 0x3F000000#32 x then fSub x (fNat 1) else if fLe x 0xBF000000#32 then fAdd x (fNat 1) else x

/-- Frequency and ROCOF of a block (R250), at instants a quarter cycle of the frequency set apart. -/
def frequency (c : SynchroConfig) (b : PmuBlock) (k : Nat) (h : Hw) : Option (F32 × F32) := do
  let f0 := slotNominal b.freq.1 h
  let d := cycleOf (fGrid h) f0 / 4
  let p := PmuPhasor.positive b.freq.1 b.freq.2.1 b.freq.2.2
  let x ← estimate c p (k - d) h
  let y ← estimate c p k h
  let z ← estimate c p (k + d) h
  let a := angleTurn x.1 x.2
  let m := angleTurn y.1 y.2
  let e := angleTurn z.1 z.2
  let step := fOfFrac d (fGrid h)
  pure (fAdd (fNat f0) (fDiv (unwrap (fSub e a)) (fMul (fNat 2) step)), fDiv (fSub (unwrap (fSub e m)) (unwrap (fSub m a))) (fMul step step))

/-- The window's normalised gain at f - f0. -/
def gainAt (c : SynchroConfig) (f0 : Nat) (fm : F32) (h : Hw) : F32 :=
  let f := fGrid h
  let n := halfWidth c f f0
  let off := fSub fm (fNat f0)
  fDiv (dToF (sumOf ((List.range (2 * n + 1)).map (fun i => fMul (weight c f f0 (away i n)) (cosTurn (fMul off (fOfFrac (away i n) f))))))) (weightSum c f f0)

/-- The slots of a phasor. -/
def phasorSlots (p : PmuPhasor) : List Nat := match p with | .slot s => [s] | .positive x y z => [x, y, z]

/-- Instants after t_r that a block's frame needs: N_h + D of its slots (R251). -/
def blockTail (c : SynchroConfig) (b : PmuBlock) (h : Hw) : Nat :=
  let f := fGrid h
  let nh (s : Nat) : Nat := halfWidth c f (slotNominal s h)
  let d := cycleOf f (slotNominal b.freq.1 h) / 4
  ((b.phasors.flatMap phasorSlots).map nh ++ [b.freq.1, b.freq.2.1, b.freq.2.2].map (fun s => nh s + d)).foldl max 0

/-- The window values of a block at an instant: of each phasor, and of the frequency set over the quarter cycles too. -/
def blockValues (c : SynchroConfig) (b : PmuBlock) (k : Nat) (h : Hw) : List Slot :=
  let f := fGrid h
  let d := cycleOf f (slotNominal b.freq.1 h) / 4
  let vals (s more : Nat) : List Slot :=
    let n := halfWidth c f (slotNominal s h) + more
    (windowOf h.phasor.rows s (k - n) (2 * n + 1)).filterMap (fun e => e.2)
  (b.phasors.flatMap phasorSlots).flatMap (fun s => vals s 0) ++ [b.freq.1, b.freq.2.1, b.freq.2.2].flatMap (fun s => vals s d)

/-- Time quality bits 8:6 of STAT by class (R254). -/
def statQuality (cls : Nat) : Nat := match cls with | 0 => 1 | 1 => 1 | 2 => 2 | 3 => 3 | 4 => 4 | 5 => 5 | _ => 7

/-- Message time quality code of R45. -/
def messageQuality (cls : Nat) : Nat := match cls with | 0 => 3 | 1 => 3 | 2 => 4 | 3 => 5 | 4 => 6 | 5 => 7 | _ => 15

/-- Unlocked time bits 5:4 of STAT (R254). -/
def statUnlocked (h : Hw) : Nat :=
  if h.time.servo ≠ .holdover ∧ h.time.servo ≠ .fallback then 0
  else
    let s := secOf (h.time.mono - h.time.unlockedSince)
    if s < 10 then 0 else if s < 100 then 1 else if s < 1000 then 2 else 3

/-- A pending swap changes the stream as it runs, tuned values among it (R254). -/
def changePending (c : SynchroConfig) (h : Hw) : Bool :=
  h.cfg.swap.isSome && h.cfg.bud.elim false (fun b => b.synchros.find? (fun x => x.stream == c.stream) != some c)

/-- STAT of a block (R254). -/
def statOf (c : SynchroConfig) (b : PmuBlock) (k : Nat) (h : Hw) : Nat :=
  let vals := blockValues c b k h
  let cls := timeClass h
  (if vals.any (fun s => s.origin == 5 || s.q % 4 == 1) then 3 * 2 ^ 14 else if h.mode = .test then 2 ^ 15 else if h.const.dissenting then 2 ^ 14 else 0)
  + flag (cls == 6 || cls == 7) 13 + flag (changePending c h) 10 + flag (vals.any (fun s => s.origin == 2 || s.origin == 4)) 9
  + statQuality cls * 64 + statUnlocked h * 16

/-- A free single (log 3). -/
def freeF (i : Nat) (h : Hw) : F32 := BitVec.ofNat 32 (Config.freeNat (h.free * 4096 + i))

/-- The data of one block at an instant, angles in (-pi, pi]; values whose window holds a row that does not exist are free (log 3). -/
def pmuData (c : SynchroConfig) (b : PmuBlock) (j k : Nat) (h : Hw) : PmuData :=
  let fr := frequency c b k h
  let ph := b.phasors.zipIdx.map (fun e => match fr, estimate c e.1 k h with
    | some (fm, _), some x =>
      (fDiv (fSqrt (fAdd (fMul x.1 x.1) (fMul x.2 x.2))) (gainAt c (slotNominal (phasorSlot e.1) h) fm h), fMul (fMul (fNat 2) fPi) (unwrap (angleTurn x.1 x.2)))
    | _, _ => (freeF (64 * j + 2 * e.2) h, freeF (64 * j + 2 * e.2 + 1) h))
  let operated (x : Nat × Nat) : Bool := ((tfind h.spec.stages x.1).bind (fun s => tfind s.chans x.2)).elim false (fun ch => ch.state == 2)
  { stat := statOf c b k h, phasors := ph
    freq := (fr.map (fun x => x.1)).getD (freeF (64 * j + 40) h), rocof := (fr.map (fun x => x.2)).getD (freeF (64 * j + 41) h)
    analogues := b.analogues.map (fun i => (ph.getD i (0#32, 0#32)).1)
    digital := b.digital.zipIdx.foldl (fun a e => a + flag (operated e.1) e.2) 0 }

/-- The state a stream reports (R267). -/
def synchroState (s : Synchro) : Nat := if s.enabled = false then 0 else if s.data = false ∨ (s.cfg.transport ≠ 1 ∧ s.client = false) then 1 else 2

/-- Replace a stream. -/
def putSynchro (n : Nat) (s : Synchro) (h : Hw) : Hw := { h with phasor := { h.phasor with streams := tset h.phasor.streams n s } }

/-- UTC second and fraction in 1/9,600,000 s of a time of 2^-64 s, truncated, with the leap bits (R28, R252). -/
def socOf (t : Nat) (h : Hw) : Int × Nat × Nat :=
  let (off, l61, l59) := utcAt (secOf t) h
  ((secOf t : Int) - off, t % 2 ^ 64 * 9600000 / 2 ^ 64, flag l61 0 + flag l59 1)

/-- The reporting time to be sent next: after the last one sent, or the newest one where the stream starts anew or its rows are gone. -/
def nextReport (s : Synchro) (per tail : Nat) (h : Hw) : Nat :=
  let newest := (h.ing.nextSettle - 1 - tail) / per
  match s.last with
  | none => newest
  | some l => if s.fresh ∨ h.phasor.rows.any (fun r => r.k == (l + 1) * per + tail) = false then max newest (l + 1) else l + 1

/-- SYNCHROPHASOR_FRAME_SEND's effect: the frame after the last one sent, once its rows have settled (R251, R252). -/
def synchroSend (n : Nat) (h : Hw) : Hw :=
  match tfind h.phasor.streams n with
  | none => h
  | some s =>
    let c := s.cfg
    let f := fGrid h
    let per := f / c.rate
    let tail := (c.blocks.map (fun b => blockTail c b h)).foldl max 0
    let j := nextReport s per tail h
    let k := j * per
    if (h.mode ≠ .serving ∧ h.mode ≠ .test) ∨ synchroState s ≠ 2 ∨ h.ing.nextSettle ≤ k + tail ∨ h.phasor.rows.any (fun r => r.k == k + tail) = false then h
    else
      let blocks := c.blocks.zipIdx.map (fun e => pmuData c e.1 e.2 k h)
      let (off, l61, l59) := utcAt (k / f) h
      let ns := (h.time.now - instantTime f k) * 1000000000 / 2 ^ 64
      let s := { s with
        last := some j, fresh := false, sent := inc32 s.sent, latencyMax := max s.latencyMax (sat32 ns)
        modified := if blocks.any (fun b => bit b.stat 9) then inc32 s.modified else s.modified
        errors := if blocks.any (fun b => 2 ^ 14 ≤ b.stat) then inc32 s.errors else s.errors }
      emit (.synchro n (k / f - off) (k % f * (9600000 / f)) (flag l61 0 + flag l59 1) (messageQuality (timeClass h)) blocks) (drawn (putSynchro n s h))

/-- SYNCHROPHASOR_FRAME_SEND. -/
def execSynchrophasorFrameSend (n : Nat) : State → Host.Outcome State Fault Refusal := lift (synchroSend n)

/-- FORMAT of a block: polar phasors, all values in floating point, and the vendor flag of extended mode in CFG-2 and CFG-3 (R252, R253; the
places of the low bits PRESUMED from IEEE C37.118.2, log 55). -/
def pmuFormat (c : SynchroConfig) (kind : Nat) : Nat := 15 + flag (c.extended && 5 ≤ kind) 15

/-- A header or configuration frame; a header frame carries no blocks (R252, R253). -/
def synchroFrame (n kind : Nat) (c : SynchroConfig) (h : Hw) : SynchroFrame :=
  let (soc, fraction, leap) := socOf h.time.now h
  { stream := n, kind := kind, idcode := c.idcode, soc := soc, fraction := fraction, leap := leap, quality := messageQuality (timeClass h), dataRate := c.rate
    blocks := if kind = 3 then [] else c.blocks.map (fun b => {
      station := b.station, format := pmuFormat c kind, phasors := b.phasors, analogues := b.analogues, digital := b.digital, nominal := slotNominal b.freq.1 h }) }

/-- Streams that leave SERVING or TEST go on, when they send again, from the newest reporting time (R252). -/
def pauseStreams (h : Hw) : Hw := { h with phasor := { h.phasor with streams := tmap h.phasor.streams (fun _ s => { s with fresh := true }) } }

/-- C37118_COMMAND_RX's effect (R252). -/
def synchroCommand (n cmd : Nat) (h : Hw) : Hw :=
  match tfind h.phasor.streams n with
  | none => h
  | some s =>
    let s := { s with commands := inc32 s.commands }
    if s.enabled = false ∨ (s.cfg.transport ≠ 1 ∧ s.client = false) then h
    else if cmd = 0 ∨ 6 < cmd then putSynchro n { s with ignored := inc32 s.ignored } h
    else if cmd ≤ 2 then putSynchro n { s with data := cmd == 2, fresh := true } h
    else
      let h := putSynchro n s h
      if h.mode = .serving ∨ h.mode = .test then emit (.synchroConfig (synchroFrame n cmd s.cfg h)) h else h

/-- C37118_COMMAND_RX. -/
def execC37118CommandRx (n cmd : Nat) : State → Host.Outcome State Fault Refusal := lift (synchroCommand n cmd)

/-- C37118_TCP_CONNECTION's effect: one client at a time; further ones are refused (R252). -/
def synchroConnection (n : Nat) (open_ : Bool) (h : Hw) : Hw :=
  match tfind h.phasor.streams n with
  | none => h
  | some s =>
    if s.cfg.transport = 1 ∨ (open_ ∧ (s.client ∨ s.enabled = false)) then h
    else putSynchro n (if open_ then { s with client := true } else { s with client := false, data := false, fresh := true }) h

/-- C37118_TCP_CONNECTION. -/
def execC37118TcpConnection (n : Nat) (open_ : Bool) : State → Host.Outcome State Fault Refusal := lift (synchroConnection n open_)

/-! ### The image (R248, R255) -/

/-- A rate and class are within R248 for a nominal frequency. -/
def rateOk (f0 rate cls : Nat) (ext : Bool) : Bool :=
  let std := if f0 = 50 then [10, 25, 50, 100, 200] else [10, 12, 15, 20, 30, 60, 120, 240]
  let extended := if f0 = 50 then [400, 800] else [480, 960]
  cls ≤ 1 && (if ext then extended.contains rate && cls == 0 else std.contains rate)

/-- Phasors per second of a stream. -/
def synchroLoad (c : SynchroConfig) : Nat := c.rate * c.blocks.foldl (fun a b => a + b.phasors.length) 0

/-- The refusal of an image's streams (R248, R255), as reason and stream; `nominal` gives a slot's nominal frequency in it. -/
def checkSynchros (l : List SynchroConfig) (nominal : Nat → Nat) : Option (Nat × Nat) :=
  let ok (c : SynchroConfig) : Bool := c.stream ≤ 63 && 1 ≤ c.blocks.length && c.blocks.length ≤ 8 && c.transport ≤ 2
    && c.blocks.all (fun b => b.phasors.length ≤ 16 && b.analogues.length ≤ 4 && b.digital.length ≤ 16 && rateOk (nominal b.freq.1) c.rate c.cls c.extended)
  match l.zipIdx.find? (fun e => !ok e.1 || (l.take e.2).any (fun c => c.stream == e.1.stream)) with
  | some e => some (rcPhasorRate, e.1.stream)
  | none => if 491520 < l.foldl (fun a c => a + synchroLoad c) 0 then some (rcPhasorCapacity, 0xFFFFFFFF) else none

/-- The changeover of the streams: a changed stream restarts, its TCP client keeps its connection (R254, R268). -/
def installSynchros (new : List SynchroConfig) (h : Hw) : Hw :=
  { h with phasor := { h.phasor with streams := new.foldl (fun t c =>
      tset t c.stream (match tfind h.phasor.streams c.stream with
        | none => { cfg := c }
        | some s => if s.cfg = c then s else { s with cfg := c, client := s.client && c.transport != 1, enabled := true, last := none, fresh := true })) [] } }

/-! ### Commands (R266 to R268) -/

/-- A command on a defined stream. -/
def onSynchro (n : Nat) (f : Synchro → CmdResult) (h : Hw) : CmdResult :=
  match tfind h.phasor.streams n with
  | none => no stBadParam rcPhasorNoStream
  | some s => f s

def phasorStatus (p : List Byte) (h : Hw) : CmdResult :=
  let n := u8 p 0
  onSynchro n (fun s =>
    let z := { s with sent := 0, modified := 0, errors := 0, commands := 0, ignored := 0, latencyMax := 0 }
    .ok (if bit (u8 p 1) 0 then putSynchro n z h else h)
      (le 1 n ++ le 1 (synchroState s) ++ le 1 s.cfg.cls ++ le 1 (flag s.cfg.extended 0 + flag (changePending s.cfg h) 1 + flag s.client 2) ++ le 2 s.cfg.rate ++ le 2 s.cfg.idcode
        ++ le 4 s.sent ++ le 4 s.modified ++ le 4 s.errors ++ le 4 s.commands ++ le 4 s.ignored ++ le 4 s.latencyMax)) h

def cmdPhasorStatus : Cmd := { row := rowPhasorStatus, reserved := [(2, 2)], reservedBits := [(1, 1, 0xFE)], body := fun _ p h => phasorStatus p h }

def phasorStreamSet (p : List Byte) (h : Hw) : CmdResult :=
  let n := u8 p 0
  onSynchro n (fun s =>
    if 1 < u8 p 1 then no stBadParam rcPhasorRate
    else done (putSynchro n { s with enabled := u8 p 1 == 1, fresh := true } h)) h

def cmdPhasorStreamSet : Cmd := { row := rowPhasorStreamSet, reserved := [(2, 2)], body := fun _ p h => phasorStreamSet p h }



def phasorRead (p : List Byte) (h : Hw) : CmdResult :=
  let k := u64 p 0
  let first := u16 p 8
  let count := u16 p 10
  match h.phasor.ring.find? (fun r => r.k == k) with
  | none => no stBadParam rcPhasorRowUnavailable
  | some r =>
    if count = 0 ∨ 1024 < count ∨ r.width < first + count then no stBadParam rcPhasorRowUnavailable
    else .ok h (le 8 k ++ le 2 r.width ++ le 2 count ++ zeros 4 ++ (List.range count).flatMap (fun i => phasorBytes (tget r.entries (first + i) {})))

def cmdPhasorRead : Cmd := { row := rowPhasorRead, reserved := [(12, 4)], body := fun _ p h => phasorRead p h }

/-- PHASOR.TUNE (R268). -/
def phasorTune (p : List Byte) (h : Hw) : CmdResult :=
  let n := u8 p 0
  onSynchro n (fun s =>
    let c : SynchroConfig := { s.cfg with cls := u8 p 1, rate := u16 p 2, extended := bit (u8 p 4) 0 }
    let others := (h.phasor.streams.filter (fun e => e.1 != n)).foldl (fun a e => a + synchroLoad e.2.cfg) (synchroLoad c)
    if s.enabled then no stBusy rcPhasorNotStopped
    else if c.blocks.any (fun b => !rateOk (slotNominal b.freq.1 h) c.rate c.cls c.extended) then no stBadParam rcPhasorRate
    else if 491520 < others then no stBadParam rcPhasorCapacity
    else done (putSynchro n { s with cfg := c, last := none } h)) h

def cmdPhasorTune : Cmd := { row := rowPhasorTune, reserved := [(5, 11)], reservedBits := [(4, 1, 0xFE)], body := fun _ p h => phasorTune p h }

/-- PHASOR.STATUS. -/
def execPhasorStatus (c : Call) (p : List Byte) : State → Host.Outcome State Fault Refusal := lift (runCmd cmdPhasorStatus c p)
/-- PHASOR.STREAM_SET. -/
def execPhasorStreamSet (c : Call) (p : List Byte) : State → Host.Outcome State Fault Refusal := lift (runCmd cmdPhasorStreamSet c p)
/-- PHASOR.READ. -/
def execPhasorRead (c : Call) (p : List Byte) : State → Host.Outcome State Fault Refusal := lift (runCmd cmdPhasorRead c p)
/-- PHASOR.TUNE. -/
def execPhasorTune (c : Call) (p : List Byte) : State → Host.Outcome State Fault Refusal := lift (runCmd cmdPhasorTune c p)

end Sys2Proof.Machine
end

