-- ==== Sys2Proof/Machine/Locator.lean ====
section
/-! DEFINITION. The fault locators (R256 to R269). The locators' arithmetic is exact and each reported value is rounded once (log 33). -/
namespace Sys2Proof.Machine

/-- A line. -/
def putLocator (n : Nat) (x : Line) (h : Hw) : Hw := { h with phasor := { h.phasor with lines := tset h.phasor.lines n x } }

/-- The partner a line uses. -/
def linePartner (x : Line) : Option (Nat × Nat) := if x.usePartner then x.cfg.partner else none

/-! ### The local arrival (R257, R258) -/

/-- Codes of a record's data. -/
def codesOf : List Byte → List Int
  | a :: b :: r => signed 16 (a.toNat + 256 * b.toNat) :: codesOf r
  | _ => []

/-- Rows of n codes. -/
def rowsOf : Nat → Nat → List Int → List (List Int)
  | 0, _, _ => []
  | fuel + 1, n, l => if l = [] then [] else l.take n :: rowsOf fuel n (l.drop n)

/-- The aerial mode of each sample of a record, with whether a sample of the three channels is invalid (R257). -/
def aerial (r : CapRecord) (chans : List Nat) (scales : Tbl F32) : List (Rat × Bool) :=
  let here := (List.range 32).filter (fun i => bit r.channels i)
  let cols := chans.map (fun c => (here.idxOf c, tget scales c 0x3F800000#32))
  (rowsOf r.samples here.length (codesOf r.data)).map (fun row =>
    let v := cols.map (fun e => row.getD e.1 (-32768))
    let x := (cols.zip v).map (fun e => fRat (fMul (fOfInt e.2) e.1.2))
    ((2 * x.getD 0 0 - x.getD 1 0 - x.getD 2 0) / 3, v.any (· == -32768)))

/-- The derivative at each inner sample in A/µs. -/
def derivative (fs : Nat) : List (Rat × Bool) → List (Rat × Bool)
  | a :: b :: c :: r => ((c.1 - a.1) * (fs : Rat) / 2000000, a.2 || b.2 || c.2) :: derivative fs (b :: c :: r)
  | _ => []

/-- |x|. -/
def rAbs (x : Rat) : Rat := if x < 0 then -x else x

/-- Offset of a peak by the parabola through its neighbours; free where they lie on a line (log 3). -/
def peakOffset (a b c : Rat) (h : Hw) : Rat :=
  if a - 2 * b + c = 0 then mkRat (Config.freeNat h.free % 1000001) 1000000 - mkRat 1 2 else (a - c) / (a - 2 * b + c) / 2

/-- Position of the largest value of a list. -/
def largest (l : List Rat) : Nat := (l.zipIdx.foldl (fun (m : Rat × Nat) e => if m.1 < e.1 then (e.1, e.2) else m) ((-1 : Rat), 0)).2

/-- The arrival in a record: time in s from second 0, |d| at the peak, polarity, and the later peaks' times. -/
def findArrival (x : LineConfig) (r : CapRecord) (h : Hw) : Option (Rat × Rat × Bool × List Rat) :=
  let d := derivative r.fs (aerial r x.channels (acqSection h).scales)
  let m := d.map (fun e => rAbs e.1)
  let thr := fRat x.threshold
  match m.findIdx? (fun v => thr < v) with
  | none => none
  | some i0 =>
    let w := r.fs * 2 / 1000000
    let np := i0 + largest ((m.drop i0).take (w + 1))
    if (d.drop i0).take (w + 1) |>.any (fun e => e.2) then none
    else
      let fe : Rat := ((x.delays.foldl (fun (a : Int) p => a + p) 0 : Int) : Rat) / 3
      let shift : Rat := ((r.deltaPs : Rat) - fe) / 1000000000000
      let at_ (i : Nat) : Rat := ((r.first + 1 + i : Nat) : Rat) + peakOffset (m.getD (i - 1) 0) (m.getD i 0) (m.getD (i + 1) 0) h
      let t (i : Nat) : Rat := at_ i / (r.fs : Rat) + shift
      let t1 := t np
      let far := t1 + 2 * fRat x.length / fRat x.velocity / 1000000
      let peaks := (List.range m.length).filter (fun i => np < i && decide (thr < m.getD i 0) && decide (m.getD (i - 1) 0 < m.getD i 0) && decide (m.getD (i + 1) 0 ≤ m.getD i 0))
      some (t1, m.getD np 0, decide ((d.getD np (0, false)).1 < 0), (peaks.map t).filter (fun u => decide (t1 < u) && decide (u ≤ far)))

/-! ### Impedance (R262) -/

/-- Complex numbers as pairs of rationals. -/
def qAdd (a b : Rat × Rat) : Rat × Rat := (a.1 + b.1, a.2 + b.2)
def qSub (a b : Rat × Rat) : Rat × Rat := (a.1 - b.1, a.2 - b.2)
def qMul (a b : Rat × Rat) : Rat × Rat := (a.1 * b.1 - a.2 * b.2, a.1 * b.2 + a.2 * b.1)
def qConj (a : Rat × Rat) : Rat × Rat := (a.1, -a.2)
def qNorm (a : Rat × Rat) : Rat := a.1 * a.1 + a.2 * a.2

/-- Phasors of some slots at an instant; none where the instant is not in the ring or a phasor has flag bit 2. -/
def phasorsAt (slots : List Nat) (k : Nat) (h : Hw) : Option (List (Rat × Rat)) :=
  match h.phasor.ring.find? (fun r => r.k == k) with
  | none => none
  | some r =>
    let l := slots.map (fun s => tget r.entries s {})
    if l.any (fun p => bit p.flags 2) then none else some (l.map (fun p => (fRat p.re, fRat p.im)))

/-- The six loops: voltage, and current with the earth factor, of three voltages, three currents. -/
def sixLoops (k0 : Rat × Rat) (v i : List (Rat × Rat)) : List ((Rat × Rat) × (Rat × Rat)) :=
  let g (l : List (Rat × Rat)) (n : Nat) := l.getD n (0, 0)
  let sum := qAdd (g i 0) (qAdd (g i 1) (g i 2))
  [0, 1, 2].map (fun n => (g v n, qAdd (g i n) (qMul k0 sum)))
  ++ [(0, 1), (1, 2), (2, 0)].map (fun e => (qSub (g v e.1) (g v e.2), qSub (g i e.1) (g i e.2)))

/-- The impedance-based distance in m (R262). -/
def impedanceOf (x : LineConfig) (t : Nat) (h : Hw) : Option F32 :=
  let f := fGrid h
  let w := cycleOf f (slotNominal (x.voltages.headD 0) h)
  let k := t * f / 2 ^ 40
  let slots := x.voltages ++ x.currents
  if x.voltages.length ≠ 3 ∨ x.currents.length ≠ 3 ∨ k < 2 * w then none
  else match phasorsAt slots (k - 2 * w) h, phasorsAt slots (k + 3 * w / 2) h with
    | some pre, some fault =>
      let k0 : Rat × Rat := (fRat x.k0.1, fRat x.k0.2)
      let z1 : Rat × Rat := (fRat x.z1.1, fRat x.z1.2)
      let lf := sixLoops k0 (fault.take 3) (fault.drop 3)
      let lp := sixLoops k0 (pre.take 3) (pre.drop 3)
      let key (e : (Rat × Rat) × (Rat × Rat)) : Option Rat := if qNorm e.2 = 0 then none else some (qNorm e.1 / qNorm e.2)
      let best := lf.zipIdx.foldl (fun (m : Option (Rat × Nat)) e => match key e.1 with
        | none => m
        | some q => match m with | none => some (q, e.2) | some (b, _) => if q < b then some (q, e.2) else m) none
      match best with
      | none => none
      | some (_, n) =>
        let (v, i) := lf.getD n ((0, 0), (0, 0))
        let di := qConj (qSub i (lp.getD n ((0, 0), (0, 0))).2)
        let den := (qMul z1 (qMul i di)).2
        if den = 0 then none else some (fOfRat ((qMul v di).2 / den * fRat x.length))
    | _, _ => none

/-- The first instant after inception that the impedance-based locator reads: 1.5 W on (R262). -/
def faultInstant (x : LineConfig) (t : Nat) (h : Hw) : Nat := t * fGrid h / 2 ^ 40 + 3 * cycleOf (fGrid h) (slotNominal (x.voltages.headD 0) h) / 2

/-- An arrival with what the impedance-based locator finds, once the phasors of both its instants are committed (R262). -/
def judgeImpedance (h : Hw) (a : Arrival) : Arrival :=
  if a.impedance.isSome ∨ h.phasor.ring.any (fun r => faultInstant a.cfg a.time h ≤ r.k) = false then a
  else { a with impedance := some (impedanceOf a.cfg a.time h) }

/-- The impedance-based locators look at the phasors that have just been committed. -/
def judgeArrivals (h : Hw) : Hw :=
  { h with phasor := { h.phasor with lines := tmap h.phasor.lines (fun _ x => { x with arrivals := x.arrivals.map (judgeImpedance h) }) } }

/-- The single-ended choice beside an impedance result: distance, AMBIGUOUS and the alternate (R258). -/
def singleEnded (x : LineConfig) (cands : List F32) (imp : Option F32) : Option F32 × Bool × Option F32 :=
  match imp with
  | none => (cands.head?, true, cands[1]?)
  | some z =>
    let dist (y : F32) : Rat := rAbs (fRat y - fRat z)
    let sorted := cands.mergeSort (fun a b => dist a ≤ dist b)
    let near := sorted.filter (fun y => dist y ≤ fRat x.length / 50)
    let amb := 2 ≤ near.length
    (sorted.head?, amb, if amb then sorted[1]? else none)

/-! ### Results (R259, R263, R267) -/

/-- NaN where a value is absent. -/
def orNan (x : Option F32) : F32 := x.getD 0x7FC00000#32

/-- The result layout of R267. -/
def resultBytes (n : Nat) (r : LocResult) : List Byte :=
  le 4 r.number ++ le 1 n ++ le 1 r.method ++ le 1 r.flags ++ le 1 r.revision ++ time40Bytes r.time ++ leF r.distance ++ leF r.uncertainty ++ leF (orNan r.double)
  ++ leF (orNan r.single) ++ leF (orNan r.alternate) ++ leF (orNan r.impedance) ++ le 2 r.partner ++ le 1 r.partnerClass ++ le 1 r.reject ++ le 4 r.record ++ zeros 8

/-- Fields of an arrival record (R260). -/
def recTime (b : List Byte) : Nat := u64 b 16 * 2 ^ 40 + u64 b 24 % 2 ^ 40

/-- Double-ended distance and uncertainty (R259). -/
def doubleEnded (x : LineConfig) (a : Arrival) (b : List Byte) : F32 × F32 :=
  let l := fRat x.length
  let v := fRat x.velocity
  let dt : Rat := ((a.time : Int) - recTime b : Int) * 1000000 / (2 ^ 40 : Nat)
  let d := (l + v * dt) / 2
  let u := v / 2000 * ((a.errorNs + u32 b 36 + 14 : Nat) : Rat) + fRat x.dVelocity * rAbs (d - l / 2) + fRat x.dLength / 2
  (fOfRat d, fOfRat u)

/-- The result of an arrival with what is at hand (R263), under the line's parameters of the time it was found (R268); the uncertainty
of a single-ended result is free (log 3). A result published before the impedance-based locator's instants have settled has no
impedance, and not IMP_UNAVAILABLE, which R262 gives to two other cases (the model's reading, log 111). -/
def makeResult (n : Nat) (x : Line) (a : Arrival) (partner : Option (List Byte)) (number revision flags : Nat) (h : Hw) : LocResult :=
  let imp := a.impedance.getD none
  let (single, amb, alt) := singleEnded a.cfg a.candidates imp
  let dbl := partner.map (doubleEnded a.cfg a)
  let method := if dbl.isSome then 1 else if single.isSome ∧ amb = false then 2 else if imp.isSome then 3 else 0
  let (dist, unc) := match method with
    | 1 => dbl.getD (0#32, 0#32)
    | 2 => (orNan single, freeF n h)
    | 3 => (orNan imp, fMul 0x3CA3D70A#32 a.cfg.length)
    | _ => (0x7FC00000#32, 0x7FC00000#32)
  { number := number, method := method, revision := revision
    flags := flag amb 0 + flag (x.reject != 0) 1 + flags + flag (a.impedance == some none) 3 + flag (revision != 0) 4 + flag (h.mode == .test) 5
    time := a.time, distance := dist, uncertainty := unc, double := dbl.map (fun d => d.1), single := single, alternate := if amb then alt else none, impedance := imp
    partner := (partner.map (fun b => u16 b 2)).getD 0xFFFF, partnerClass := (partner.map (fun b => u8 b 32)).getD 0, reject := x.reject, record := a.record }

/-- Publish the result of an arrival: CODE 0x0A20 (R263). -/
def publishResult (n : Nat) (a : Arrival) (partner : Option (List Byte)) (flags : Nat) (h : Hw) : Hw :=
  let x : Line := tget h.phasor.lines n {}
  let r := makeResult n x a partner x.nextResult 0 flags h
  let arr := x.arrivals.map (fun y => if y.record = a.record then { y with result := some r.number } else y)
  let x := { x with arrivals := arr, results := r :: x.results, nextResult := x.nextResult + 1, published := inc32 x.published, reject := 0 }
  evr 0x0A20 a.source ((resultBytes n r).take 48) (drawn (putLocator n x h))

/-- Revise a published result to double-ended (R263). -/
def reviseResult (n : Nat) (a : Arrival) (b : List Byte) (number : Nat) (h : Hw) : Hw :=
  let x : Line := tget h.phasor.lines n {}
  match x.results.find? (fun r => r.number == number) with
  | none => h
  | some old =>
    let r := makeResult n x a (some b) number (old.revision + 1) (old.flags % 8 / 4 * 4) h
    let x := { x with results := x.results.map (fun y => if y.number = number then r else y), revisions := inc32 x.revisions, reject := 0 }
    evr 0x0A20 a.source ((resultBytes n r).take 48) (drawn (putLocator n x h))

/-- A local arrival and a partner record match (R259). -/
def pairMatches (a : Arrival) (b : List Byte) : Bool :=
  let dt : Rat := rAbs ((((a.time : Int) - recTime b : Int) : Rat) * 1000000 / (2 ^ 40 : Nat))
  a.found && decide (dt ≤ fRat a.cfg.length / fRat a.cfg.velocity + 10)

/-- A partner record has passed check 9. -/
def acceptRecord (n : Nat) (a : Arrival) (b : List Byte) (h : Hw) : Hw :=
  let x : Line := tget h.phasor.lines n {}
  let h := putLocator n { x with accepted := inc32 x.accepted, lastRejected := false } h
  match a.result with
  | none => publishResult n a (some b) 0 h
  | some r => reviseResult n a b r h

/-! ### Events (R257, R260, R263) -/

/-- The first 96 bytes of an arrival record (R260). Its class and E are those that the capture took at its trigger (the model's
choice, log 110). -/
def arrivalRecord (n : Nat) (x : Line) (a : Arrival) (partner : Nat × Nat) (h : Hw) : List Byte :=
  let (single, amb, _) := singleEnded a.cfg a.candidates (a.impedance.getD none)
  let s := if amb then none else single
  le 1 1 ++ le 1 (flag (h.mode == .test) 0 + flag h.const.dissenting 1 + flag h.const.suspect 2 + flag a.negative 3 + flag s.isSome 4) ++ le 2 h.moduleId ++ le 2 partner.1
  ++ le 1 n ++ le 1 partner.2 ++ le 4 x.sequence ++ le 4 a.record ++ time40Bytes a.time ++ le 1 a.cls ++ zeros 3 ++ le 4 a.errorNs ++ ownPrint h
  ++ leF a.cfg.length ++ leF a.cfg.velocity ++ leF a.amplitude ++ leF (orNan s) ++ zeros 24

/-- The frame of a line's control block: GOOSE on both station-bus ports, with the fields of R223 (R260). -/
def lineGoose (n : Nat) (c : LineConfig) (s : GooseSend) : Goose :=
  { block := .line n, ports := [8, 9], priority := 5, gocbRef := c.gocbRef, datSet := c.datSet, goId := c.goId
    timeAllowedMs := 2000, t := s.changedAt, stNum := s.sequence, sqNum := s.sqNum, payload := s.payload }

/-- Put a line's record on the wire, and keep it for its repetitions. -/
def sendArrival (n : Nat) (s : GooseSend) (h : Hw) : Hw :=
  match tfind h.phasor.lines n with
  | some x => sendGoose x.cfg.key (lineGoose n x.cfg s) (putLocator n { x with send := some s } h)
  | none => h

/-- The repetition timer of a line expires (R260). -/
def arrivalRepetition (n : Nat) (h : Hw) : Hw :=
  match (tfind h.phasor.lines n).bind (fun x => x.send) with
  | some s => if chainsRun h ∧ repeatDue s h then sendArrival n (repeated s) h else h
  | none => h

/-- GOOSE_REPETITION's effect: of an output stage's, a trigger group's or a line's control block; the others are not repeated. -/
def gooseRepeat (sender : GooseSender) (n : Nat) (h : Hw) : Hw :=
  match sender with
  | .stage => gooseRepetition n h
  | .group => crossRepetition n h
  | .line => arrivalRepetition n h
  | .heartbeat | .beacon | .station => h

/-- GOOSE_REPETITION. -/
def execGooseRepetition (sender : GooseSender) (n : Nat) : State → Host.Outcome State Fault Refusal := lift (gooseRepeat sender n)

/-- The cell of a SOURCE code runs the locator's item for a line and a record (R257). -/
def locatorRuns (n rec source : Nat) (h : Hw) : Bool :=
  h.fab.blocks.any (fun b => b.2.running.any (fun e => cellSource b.1 e.1 == source && e.2.item.locator == some (n, rec)))

/-- LOCATOR_ARRIVAL_FOUND's effect: the locator's item on the cell of a SOURCE code looks at a committed record (R257, R260, R263); a module that is
DISSENTING or TIME-SUSPECT takes no held record (R264). -/
def arrivalFound (n rec source : Nat) (h : Hw) : Hw :=
  match tfind h.phasor.lines n, h.acq.records.find? (fun r => r.number == rec) with
  | some x, some r =>
    if locatorRuns n rec source h = false ∨ x.done.contains rec then h
    else
      let got := findArrival x.cfg r h
      let v := fRat x.cfg.velocity
      let a : Arrival := match got with
        | some (t, amp, neg, later) => {
            time := (t * (2 ^ 40 : Nat)).floor.toNat, at_ := h.time.mono, record := rec, source := source, cfg := x.cfg, cls := r.cls, errorNs := r.errorNs
            candidates := later.map (fun u => fOfRat (v * (u - t) * 1000000 / 2)), negative := neg, amplitude := fOfRat amp }
        | none => { time := r.time, found := false, at_ := h.time.mono, record := rec, source := source, cfg := x.cfg, cls := r.cls, errorNs := r.errorNs }
      let a := judgeImpedance h a
      let x := { x with arrivals := a :: x.arrivals, done := rec :: x.done, found := if got.isSome then inc32 x.found else x.found }
      match linePartner x with
      | some p =>
        if got.isNone then publishResult n a none 0 (putLocator n x (drawn h))
        else
          let body := arrivalRecord n x a p h
          let full := body ++ slice (Config.hmac (macValue (x.cfg.key.getD 0) h) body) 0 32
          let next := (x.sequence + 1) % 2 ^ 32
          let send : GooseSend := { sequence := next, at_ := h.time.mono, changedAt := h.time.now, payload := full }
          let x := { x with sequence := next, sentRecords := tset x.sentRecords x.sequence full, send := some send }
          let h := sendArrival n send (putLocator n x (drawn h))
          match if h.const.dissenting || h.const.suspect then none else x.held.find? (fun e => pairMatches a e.1) with
          | some (b, _) => acceptRecord n a b (putLocator n { x with held := x.held.filter (fun e => e.1 != b) } h)
          | none => h
      | none => publishResult n a none 0 (putLocator n x (drawn h))
  | _, _ => h

/-- LOCATOR_ARRIVAL_FOUND. -/
def execLocatorArrivalFound (n rec source : Nat) : State → Host.Outcome State Fault Refusal := lift (arrivalFound n rec source)

/-- PARTNER_WAIT_EXPIRY's effect: the oldest unpublished arrival whose wait has ended is published (R263). -/
def partnerWait (n : Nat) (h : Hw) : Hw :=
  match tfind h.phasor.lines n with
  | none => h
  | some x =>
    match (x.arrivals.filter (fun a => a.result.isNone && a.at_ + nsUnits (a.cfg.waitMs * 1000000) ≤ h.time.mono)).getLast? with
    | none => h
    | some a => publishResult n a none 4 h

/-- PARTNER_WAIT_EXPIRY. -/
def execPartnerWaitExpiry (n : Nat) : State → Host.Outcome State Fault Refusal := lift (partnerWait n)

/-- A record is rejected at a check: counted, and set in the next result (R261). -/
def rejectRecord (n check : Nat) (h : Hw) : Hw :=
  match tfind h.phasor.lines n with
  | none => h
  | some x => putLocator n { x with rejected := inc32 x.rejected, reject := check, lastRejected := true } h

/-- HELD_RECORD_EXPIRY's effect: 60 s without a local match (R261). -/
def heldExpiry (n : Nat) (h : Hw) : Hw :=
  match tfind h.phasor.lines n with
  | none => h
  | some x =>
    match (x.held.filter (fun e => e.2 + 60 * secUnit ≤ h.time.mono)).head? with
    | none => h
    | some e => rejectRecord n 9 (putLocator n { x with held := x.held.filter (fun y => y != e) } h)

/-- HELD_RECORD_EXPIRY. -/
def execHeldRecordExpiry (n : Nat) : State → Host.Outcome State Fault Refusal := lift (heldExpiry n)

/-- Checks 1 to 8 of R261: the line a record is for, and the first check that fails. -/
def recordCheck (b : List Byte) (authentic : Bool) (h : Hw) : Nat × Nat :=
  let n := u8 b 7
  let sender := u16 b 2
  if b.length ≠ 128 ∨ u8 b 0 ≠ 1 then (n, 1)
  else match tfind h.phasor.lines n with
    | none => (n, 2)
    | some x =>
      let gate := boundPeer (fun c => c.lines) n h
      let flags := u8 b 1
      let print := ((h.const.manifest.bind (fun m => m.entries.find? (fun e => e.moduleId == sender))).map (fun e => printMatches e (slice b 40 16))).getD false
      if authentic = false ∨ x.cfg.key.elim true (fun k => !keyUsable k h) then (n, 2)
      else if u16 b 4 ≠ h.moduleId ∨ linePartner x ≠ some (sender, u8 b 6) then (n, 3)
      else if bit flags 0 ≠ (h.mode == .test) then (n, 4)
      else if print = false ∨ bit flags 1 ∨ h.const.dissenting ∨ gate.elim true (fun p => gateClosed p h) then (n, 5)
      else if 2 < u8 b 32 ∨ bit flags 2 ∨ h.const.suspect ∨ gate.elim false (fun p => suspectEither p h) then (n, 6)
      else if fRat x.cfg.dLength < rAbs (fRat (f32 b 56) - fRat x.cfg.length)
          ∨ fRat x.cfg.dVelocity * fRat x.cfg.velocity < rAbs (fRat (f32 b 60) - fRat x.cfg.velocity) then (n, 7)
      else if x.lastSeq.contains (sender, u32 b 8) then (n, 8)
      else (n, 0)

/-- A record that has passed checks 1 to 8: matched now, or held for 60 s. -/
def takeRecord (n : Nat) (b : List Byte) (h : Hw) : Hw :=
  let x : Line := tget h.phasor.lines n {}
  let x := { x with lastSeq := (u16 b 2, u32 b 8) :: x.lastSeq }
  match x.arrivals.find? (fun a => pairMatches a b && h.time.mono ≤ a.at_ + 60 * secUnit) with
  | some a => acceptRecord n a b (putLocator n x h)
  | none => putLocator n { x with held := x.held ++ [(b, h.time.mono)] } h

/-- ARRIVAL_RECORD_RX's effect (R261). -/
def arrivalRx (b : List Byte) (authentic : Bool) (h : Hw) : Hw :=
  match recordCheck b authentic h with
  | (n, 0) => takeRecord n b h
  | (n, c) => rejectRecord n c h

/-- ARRIVAL_RECORD_RX. -/
def execArrivalRecordRx (b : List Byte) (authentic : Bool) : State → Host.Outcome State Fault Refusal := lift (arrivalRx b authentic)

/-! ### The image and the commands (R256, R266 to R269) -/

/-- A line's parameters are within R256. -/
def lineOk (x : LineConfig) (h : Hw) : Bool :=
  x.line ≤ 31 && x.capture ≤ 15 && x.channels.length == 3 && x.channels.all (· ≤ 31) && x.delays.length == 3
  && x.delays.all (fun d => -1000000 ≤ d && d ≤ 1000000) && fLt 0#32 x.threshold
  && fLe 0x447A0000#32 x.length && fLe x.length 0x49742400#32 && fLe 0#32 x.dLength && fLe x.dLength 0x447A0000#32
  && fLe 0x437A0000#32 x.velocity && fLe x.velocity 0x43960000#32 && fLe 0#32 x.dVelocity && fLe x.dVelocity 0x3C23D70A#32
  && 100 ≤ x.waitMs && x.waitMs ≤ 30000 && x.voltages.length == 3 && x.currents.length == 3
  && x.partner.elim true (fun p => p.1 ≤ 4095 && p.2 ≤ 31 && x.key.elim false (fun k => macHandle k h))

/-- The refusal of an image's lines, as reason and line. -/
def checkLines (l : List LineConfig) (h : Hw) : Option (Nat × Nat) :=
  (l.zipIdx.find? (fun e => !lineOk e.1 h || (l.take e.2).any (fun x => x.line == e.1.line))).map (fun e => (rcLocParamRange, e.1.line))

/-- The changeover of the lines: values set by command end (R268). -/
def installLines (new : List LineConfig) (h : Hw) : Hw :=
  { h with phasor := { h.phasor with lines := new.foldl (fun t x => tset t x.line { (tfind h.phasor.lines x.line).getD ({} : Line) with cfg := x, usePartner := true }) [] } }

/-- A command on a defined line. -/
def onLine (n : Nat) (f : Line → CmdResult) (h : Hw) : CmdResult :=
  match tfind h.phasor.lines n with
  | none => no stBadParam rcLocNoLine
  | some x => f x

def locStatus (p : List Byte) (h : Hw) : CmdResult :=
  let n := u8 p 0
  onLine n (fun x =>
    let z := { x with found := 0, accepted := 0, rejected := 0, published := 0, revisions := 0 }
    .ok (if bit (u8 p 1) 0 then putLocator n z h else h)
      (le 1 n ++ le 1 (flag (linePartner x).isSome 0 + flag x.lastRejected 1 + flag (h.const.dissenting || h.const.suspect) 2) ++ le 2 (((linePartner x).map (fun q => q.1)).getD 0xFFFF)
        ++ le 4 x.found ++ le 4 x.accepted ++ le 4 x.rejected ++ le 4 x.published ++ le 4 x.revisions ++ le 4 (if x.nextResult = 0 then 0xFFFFFFFF else x.nextResult - 1) ++ zeros 4)) h

def cmdLocStatus : Cmd := { row := rowLocStatus, reserved := [(2, 2)], reservedBits := [(1, 1, 0xFE)], body := fun _ p h => locStatus p h }

def locResultRead (p : List Byte) (h : Hw) : CmdResult :=
  let n := u8 p 0
  onLine n (fun x =>
    match (if u32 p 4 = 0xFFFFFFFF then x.results.head? else x.results.find? (fun r => r.number == u32 p 4)) with
    | none => no stBadParam rcLocNoLine
    | some r => .ok h (resultBytes n r)) h

def cmdLocResultRead : Cmd := { row := rowLocResultRead, reserved := [(1, 3)], body := fun _ p h => locResultRead p h }

def locArrivalRead (p : List Byte) (h : Hw) : CmdResult :=
  onLine (u8 p 0) (fun x =>
    match (if u32 p 4 = 0xFFFFFFFF then x.sentRecords.getLast?.map (fun e => e.2) else tfind x.sentRecords (u32 p 4)) with
    | none => no stBadParam rcLocNoLine
    | some b => .ok h b) h

def cmdLocArrivalRead : Cmd := { row := rowLocArrivalRead, reserved := [(1, 3)], body := fun _ p h => locArrivalRead p h }

/-- LOC.ARRIVAL_SUBMIT: the checks of R261, whose failures are counted (R266, R269). -/
def locArrivalSubmit (c : Call) (p : List Byte) (h : Hw) : CmdResult :=
  match recordCheck p c.crypto.signed h with
  | (n, 0) => done (takeRecord n p h)
  | (n, k) =>
    let h' := rejectRecord n k h
    if k = 1 ∨ k = 3 then .refuseIn h' stBadParam rcLocMalformed []
    else if k = 2 then .refuseIn h' stAuthFailed rcLocAuth []
    else if k = 8 then .refuseIn h' stReplay rcLocDuplicate []
    else .refuseIn h' stDenied rcLocPartnerRefused []

def cmdLocArrivalSubmit : Cmd := { row := rowLocArrivalSubmit, reserved := [(33, 3), (72, 24)], body := fun c p h => locArrivalSubmit c p h }

/-- LOC.LINE_SET (R268). -/
def locLineSet (p : List Byte) (h : Hw) : CmdResult :=
  let n := u8 p 0
  onLine n (fun x =>
    let keep (o : Nat) (d : Int) : Int := if u32 p o = 0x80000000 then d else s32 p o
    let c : LineConfig := { x.cfg with
      waitMs := if u16 p 2 = 0 then x.cfg.waitMs else u16 p 2
      velocity := if u32 p 4 = 0 then x.cfg.velocity else f32 p 4
      length := if u32 p 8 = 0 then x.cfg.length else f32 p 8
      delays := [keep 12 (x.cfg.delays.getD 0 0), keep 16 (x.cfg.delays.getD 1 0), keep 20 (x.cfg.delays.getD 2 0)] }
    if lineOk c h = false then no stBadParam rcLocParamRange
    else done (putLocator n { x with cfg := c, usePartner := bit (u8 p 1) 0 } h)) h

def cmdLocLineSet : Cmd := { row := rowLocLineSet, reserved := [(24, 8)], reservedBits := [(1, 1, 0xFE)], body := fun _ p h => locLineSet p h }

/-- LOC.STATUS. -/
def execLocStatus (c : Call) (p : List Byte) : State → Host.Outcome State Fault Refusal := lift (runCmd cmdLocStatus c p)
/-- LOC.RESULT_READ. -/
def execLocResultRead (c : Call) (p : List Byte) : State → Host.Outcome State Fault Refusal := lift (runCmd cmdLocResultRead c p)
/-- LOC.ARRIVAL_READ. -/
def execLocArrivalRead (c : Call) (p : List Byte) : State → Host.Outcome State Fault Refusal := lift (runCmd cmdLocArrivalRead c p)
/-- LOC.ARRIVAL_SUBMIT. -/
def execLocArrivalSubmit (c : Call) (p : List Byte) : State → Host.Outcome State Fault Refusal := lift (runCmd cmdLocArrivalSubmit c p)
/-- LOC.LINE_SET. -/
def execLocLineSet (c : Call) (p : List Byte) : State → Host.Outcome State Fault Refusal := lift (runCmd cmdLocLineSet c p)

end Sys2Proof.Machine
end

