-- ==== Sys2Proof/Machine/Rows.lean ====
section
/-! DEFINITION. The rows of an event that other units take at once: opened and settled rows, decisions, edges of time event units, bound events and role changes; and the events that give rise to them. -/
namespace Sys2Proof.Machine

/-- One settled row goes to the phasor stage, the tap, the filter chains and the functions bound to rows (R21, R98, R106). -/
def handRow (k : Nat) (h : Hw) : Hw :=
  let h := tapRow k (judgeArrivals (commitPhasors k h))
  let h := match settledRow k h with
    | some r => feedRow r h
    | none => h
  settleItems k h

/-- A decision goes to the trigger engine (R21, R223). -/
def launchDecision (d : Nat × Nat × Nat × Nat × Bool × Nat) (h : Hw) : Hw :=
  let (sl, fn, k, code, trip, point) := d
  launch { source := .decision sl fn k code trip, time := to40 point } h

/-- A change of role reaches the control cores: programs stop with the exit (1); they autostart on a role that publishes, after a
switch-over (2) from the partner's images, at a start (3) from their own (R333, R381, log 116). -/
def takeHook (n : Nat) (h : Hw) : Hw :=
  if n = 1 then stopPrograms h else autostart (if n = 2 then takePartnerRetain h else h)

/-- The control cores take every change of role. -/
def runHooks (h : Hw) : Hw :=
  h.pair.hooks.foldl (fun h n => takeHook n h) { h with pair := { h.pair with hooks := [] } }

/-- Arm the units of a Bloom's time section; the holder is CFG.SWAP (R63, R492). A unit whose pulse is in progress waits, and
one that is armed for another holder stays. -/
def armBloomTeus (new : List TeuConfig) (h : Hw) : Hw :=
  let h := new.foldl (fun h t => if (tget h.time.teus t.unit {}).armed then h else armTeu t 0xFFFF 0x0203 t.unit h) h
  { h with time := { h.time with teusDue := new.filter (fun t => (tget h.time.teus t.unit {}).stopping) } }

/-- Units that waited for the servo to leave UNSET, or for a pulse to end, are armed (R50, R64). -/
def armWaiting (h : Hw) : Hw :=
  if h.time.teusDue = [] ∨ h.time.servo = .unset then h else armBloomTeus h.time.teusDue h

/-- The last row of a replaced Bloom has been passed on: what waited for it takes the Bloom in force (R121, R166, R196, R246, R489). -/
def closeOld (h : Hw) : Hw :=
  match h.cfg.old with
  | none => h
  | some o =>
    let h := takeCarried h
    let h := if sameGrid o h then h else regridPhasors (gridHz o.image.grid) (fGrid h) (endLoopGrid h.ing.firstK h)
    let new := (h.cfg.bloom.map (fun b => b.chains)).getD []
    dropOldStages (installChains (takesRows o.image.chains new) o.image.chains new { h with cfg := { h.cfg with old := none } })

/-- The rows that the aligner has passed on reach their consumers in order, each under the Bloom of its instant. -/
def handAll (h : Hw) : Hw :=
  h.ing.handoff.foldl (fun h e => atBloom e.1 (handRow e.2) (if e.1 = h.cfg.bloomSeq then closeOld h else h))
    { h with ing := { h.ing with handoff := [] } }

/-- As `handAll`; with the last row of a replaced Bloom, the rows that waited for it follow. -/
def handRows (h : Hw) : Hw :=
  let g := handAll h
  let g := if oldDone g then closeOld g else g
  if h.cfg.old.isSome ∧ g.cfg.old.isNone then handAll (handOn (settleRows false (advanceStreams g))) else g

/-- The speculative items of the rows that have opened. -/
def openAll (h : Hw) : Hw :=
  h.ing.opened.foldl (fun h e => atBloom e.1 (openItems e.2) h) { h with ing := { h.ing with opened := [] } }

/-- Every unit takes what the step has left for it. -/
def consume (h : Hw) : Hw :=
  let h := handRows (openAll (armWaiting h))
  let ds := h.fab.decisions
  let h := ds.foldl (fun h d => launchDecision d h) { h with fab := { h.fab with decisions := [] } }
  let loops := h.time.loopEdges
  let h := loops.foldl (fun h n => loopEdge n h) { h with time := { h.time with loopEdges := [] } }
  let cores := h.time.coreEdges
  let edges := h.time.edges
  let h := cores.foldl (fun h e => coreEdge e.1 e.2 h) { h with time := { h.time with coreEdges := [], edges := [] } }
  let h := edges.foldl (fun h n => eventItems (.unit n) h) h
  let evs := h.fab.events
  let h := evs.foldl (fun h b => eventItems b h) { h with fab := { h.fab with events := [] } }
  let h := runHooks h
  if modeCode h.mode < 4 ∨ 7 < modeCode h.mode then h else runHooks (evalHealth h)

/-- As `lift`, with what the effect leaves for other units taken by them. -/
def liftAll (f : Hw → Hw) : State → Host.Outcome State Fault Refusal := lift (fun h => consume (f h))

/-! ### Ingest -/

/-- SV_FRAME_RX (R93). -/
def execSvFrameRx (port : Nat) (f : SvFrame) : State → Host.Outcome State Fault Refusal := liftAll (svFrame port f)
/-- ROW_OPEN (R98). -/
def execRowOpen (k : Nat) : State → Host.Outcome State Fault Refusal := liftAll (rowOpen k)
/-- HORIZON_EXPIRY (R104). -/
def execHorizonExpiry (s k : Nat) : State → Host.Outcome State Fault Refusal := liftAll (horizonExpiry s k)

/-! ### The fabric -/

/-- ITEM_DISPATCH (R279). -/
def execItemDispatch (block cell : Nat) : State → Host.Outcome State Fault Refusal := liftAll (itemDispatch block cell)
/-- ITEM_START (R280). -/
def execItemStart (block cell : Nat) : State → Host.Outcome State Fault Refusal := liftAll (itemStart block cell)
/-- ITEM_COMPLETE (R160). -/
def execItemComplete (block cell : Nat) : State → Host.Outcome State Fault Refusal :=
  liftAll (fun h => probeEnd block cell (probeOf block cell h) (itemComplete block cell h))
/-- SPEC_LINES_DRAINED (R156). -/
def execSpecLinesDrained (entry : Nat) : State → Host.Outcome State Fault Refusal := liftAll (drainEntry entry)
/-- ECALL_DECIDE (R274). -/
def execEcallDecide (block cell code : Nat) : State → Host.Outcome State Fault Refusal := liftAll (ecallDecide block cell code)
/-- ECALL_SUBMIT (R276). -/
def execEcallSubmit (block cell a0 : Nat) : State → Host.Outcome State Fault Refusal := liftAll (ecallSubmit block cell a0)
/-- ECALL_DMA (R306). -/
def execEcallDma (block cell a0 : Nat) : State → Host.Outcome State Fault Refusal := liftAll (ecallDma block cell a0)
/-- ECALL_EVR (R547). -/
def execEcallEvr (block cell code a1 : Nat) : State → Host.Outcome State Fault Refusal := liftAll (ecallEvr block cell code a1)
/-- ECALL_TIME (R274). -/
def execEcallTime (block cell : Nat) : State → Host.Outcome State Fault Refusal := liftAll (ecallTime block cell)
/-- SPEC_STORE (R152). -/
def execSpecStore (block cell addr mask : Nat) (data : List Byte) : State → Host.Outcome State Fault Refusal :=
  liftAll (itemStore block cell addr mask data)
/-- CORE_EXCEPTION (R271). -/
def execCoreException (block cell : Nat) : State → Host.Outcome State Fault Refusal := liftAll (coreException block cell)
/-- RUN_TIME_OVERRUN (R282). -/
def execRunTimeOverrun (block cell : Nat) : State → Host.Outcome State Fault Refusal := liftAll (runTimeOverrun block cell)
/-- DISPATCHER_TICK (R281). -/
def execDispatcherTick : State → Host.Outcome State Fault Refusal := liftAll dispatcherTick
/-- BUDGET_SAMPLE (R285). -/
def execBudgetSample (temps : List (Nat × Option Int)) (rails : List (Nat × Nat × Nat)) : State → Host.Outcome State Fault Refusal :=
  liftAll (budgetSample temps rails)

/-! ### Time -/

/-- SERVO_MEASUREMENT (R31). -/
def execServoMeasurement (m : Measurement) : State → Host.Outcome State Fault Refusal := liftAll (servoMeasure m)
/-- FAULT_RE_STEP (R35). -/
def execFaultReStep : State → Host.Outcome State Fault Refusal := liftAll faultReStep
/-- SOURCE_LOSS (R33). -/
def execSourceLoss : State → Host.Outcome State Fault Refusal := liftAll (fun h => onlyIf (sourceSilent h) sourceLost h)
/-- TIME.SET. -/
def execTimeSet (c : Call) (p : List Byte) : State → Host.Outcome State Fault Refusal := liftAll (runCmd cmdTimeSet c p)
/-- TEU_EDGE (R50). -/
def execTeuEdge (k : Nat) : State → Host.Outcome State Fault Refusal :=
  liftAll (fun h => onlyIf (decide (k < 16) && teuDue h (tget h.time.teus k {})) (fireTeu k) h)

/-! ### Filter chains and captures -/

/-- FILTER_OUTPUT_SAMPLE (R199). -/
def execFilterOutputSample (chain : Nat) : State → Host.Outcome State Fault Refusal := liftAll (filterOutput chain)
/-- CAPTURE_COMMIT_DONE (R227). -/
def execCaptureCommitDone (capture : Nat) : State → Host.Outcome State Fault Refusal := liftAll (commitDone capture)

/-! ### The pair -/

/-- HEARTBEAT_SEND (R372). -/
def execHeartbeatSend (path : Nat) : State → Host.Outcome State Fault Refusal := liftAll (heartbeatSend path)

/-- STAGE_STATUS_RX (R386). -/
def execStageStatusRx (s : StageStatus) : State → Host.Outcome State Fault Refusal := liftAll (stageStatusRx s)
/-- HEARTBEAT_RX (R374). -/
def execHeartbeatRx (b : Heartbeat) : State → Host.Outcome State Fault Refusal := liftAll (heartbeatRx b)
/-- PATH_SILENT (R375). -/
def execPathSilent (path : Nat) : State → Host.Outcome State Fault Refusal := liftAll (pathSilent path)
/-- STARTUP_CLAIM_TIMEOUT (R379). -/
def execStartupClaimTimeout : State → Host.Outcome State Fault Refusal := liftAll startupTimeout
/-- CONTEST_TIMEOUT (R382). -/
def execContestTimeout : State → Host.Outcome State Fault Refusal := liftAll contestTimeout
/-- YIELD_HOLD_CLEAR (R384). -/
def execYieldHoldClear : State → Host.Outcome State Fault Refusal := liftAll yieldHoldClear
/-- PAIR.SWITCH. -/
def execPairSwitch (c : Call) (p : List Byte) : State → Host.Outcome State Fault Refusal := liftAll (runCmd cmdPairSwitch c p)

/-! ### Errors and self-tests -/

/-- ECC_ERROR (R528). -/
def execEccError (e : EccError) : State → Host.Outcome State Fault Refusal := liftAll (eccError e)
/-- BLOCK_ERROR (R532). -/
def execBlockError (block : Nat) (pll : Bool) : State → Host.Outcome State Fault Refusal := liftAll (blockError block pll)
/-- DISPATCHER_STALL (R528). -/
def execDispatcherStall (block cell : Nat) : State → Host.Outcome State Fault Refusal := liftAll (dispatcherStall block cell)
/-- DIE_LINK_ERROR (R534). -/
def execDieLinkError (region : Nat) (noc : Bool) (replays : Nat) : State → Host.Outcome State Fault Refusal := liftAll (dieLinkError region noc replays)
/-- UNPLACED_SLICE_PLACE (R535). -/
def execUnplacedSlicePlace : State → Host.Outcome State Fault Refusal := liftAll placeSlices
/-- SELFTEST_DUE (R390). -/
def execSelftestDue (test : Nat) (found : SelfTest) : State → Host.Outcome State Fault Refusal := liftAll (selftestDue test found)
/-- KEY.KAT_RUN. -/
def execKeyKatRun (c : Call) (p : List Byte) : State → Host.Outcome State Fault Refusal := liftAll (runCmd cmdKeyKatRun c p)
/-- DIAG.SELFTEST. -/
def execDiagSelftest (c : Call) (p : List Byte) : State → Host.Outcome State Fault Refusal := liftAll (runCmd cmdDiagSelftest c p)
/-- DIAG.QUARANTINE. -/
def execDiagQuarantine (c : Call) (p : List Byte) : State → Host.Outcome State Fault Refusal := liftAll (runCmd cmdDiagQuarantine c p)
/-- DIAG.INJECT. -/
def execDiagInject (c : Call) (p : List Byte) : State → Host.Outcome State Fault Refusal := liftAll (runCmd cmdDiagInject c p)

end Sys2Proof.Machine
end

