-- ==== Sys2Proof/Machine/Sets.lean ====
section
/-! DEFINITION. The change of module state, the consistency check, the change-over to a Bloom, and the CFG commands and events (R36, R479, R482 to R492, R498, R517). -/
namespace Sys2Proof.Machine

/-! ### The change of state (R81, R175, R193, R232, R287, R320, R479) -/

/-- READY, SERVING or TEST. -/
def running (m : ModState) : Bool := m == .ready || m == .serving || m == .test

/-- SERVING or TEST. -/
def inService (m : ModState) : Bool := m == .serving || m == .test

/-- What the exit from the present state does before the new one is entered. To HALTED the publisher stops without final
frames (R175, R536); the role is the fatal error's matter (R377). -/
def leaveState (m : ModState) (h : Hw) : Hw :=
  let old := h.mode
  let h := if old = .serving then releaseTrigOut3 h else h
  let h := if inService old && !inService m then
      stopPrograms (pauseStreams <| if m = .halted then cancelEntries false (stopPublisher h) else pairExit (cancelEntries true h))
    else h
  let h := if old = .test then { h with ing := { h.ing with simAccept := false, simReq := none } } else h
  if running old && !running m then clearFloor (stopCaptures (fun _ => true) (stopChains (fun _ => true) h)) else h

/-- Move between IDLE, READY, SERVING and TEST, with everything that the exit and the entry bring. -/
def changeState (m : ModState) (cause : Nat) (h : Hw) : Hw :=
  let old := h.mode
  if old = m then h
  else
    let h := setMode m cause (leaveState m h)
    let h := if inService m && !inService old then pairEnter h else h
    if inService m then autostart h else h

/-- HUB_FATAL_ERROR's effect: HALTED, without final frames; RELINQUISH and the save where their units still run; a pending
swap ends without a completion (R377, R479, R490, R536, R556). -/
def hubFatal (source : Nat) (evrRuns pairRuns : Bool) (h : Hw) : Hw :=
  if h.mode = .idle ∨ h.mode = .ready ∨ h.mode = .serving ∨ h.mode = .test then
    let h := if evrRuns then h else { h with evr := { h.evr with stopped := true } }
    let h := leaveState .halted h
    let h := if pairRuns then relinquish 5 h
      else { (if (pairOf h).isSome then setRole 2 5 0 h.pair.partnerClaim 0xFFFF h else h) with pair := { h.pair with stopped := true } }
    let h := { h with pair := { h.pair with entered := none } }
    let h := forget .swap { h with cfg := { h.cfg with swap := none } }
    saveEvents 2 (setMode .halted 0 (logFault source 14 8 0xFFFF 0xFFFF h))
  else h

/-- A hub unit that the variant has: a link of the module level leads to a populated region (R7, R26). -/
def hubUnit (source : Nat) (h : Hw) : Bool :=
  hubSource source && (source < 0x0F11 || (populated h).contains (source - 0x0F10))

/-- HUB_FATAL_ERROR; SOURCE is a hub unit's (R24, R26). -/
def execHubFatalError (source : Nat) (evrRuns pairRuns : Bool) : State → Host.Outcome State Fault Refusal :=
  liftAll (fun h => onlyIf (hubUnit source h) (hubFatal source evrRuns pairRuns) h)

/-- Service is permitted: LOCKED, or FALLBACK while the Bloom permits it (R36). -/
def mayServe (h : Hw) : Bool :=
  h.time.servo == .locked || (h.time.servo == .fallback && (h.cfg.bloom.map (fun b => b.time.fallbackService)).getD false)

/-- The reason payload of R36. -/
def servePayload (h : Hw) : List Byte := le 1 (servoCode h.time.servo) ++ le 1 (timeClass h) ++ zeros 2

/-! ### The consistency check (R6, R13, R484, R485, R491, R492) -/

/-- A refusal by the check: the reason, and the region, index and detail of R485. -/
structure Failure where
  reason : Nat := 0
  region : Nat := 0xFF
  index : Nat := 0xFFFFFFFF
  detail : List Byte := List.replicate 8 0#8
  deriving DecidableEq, Repr

/-- The reason payload of R485; moment 1 load, 2 enable, 3 swap. -/
def failureBytes (moment : Nat) (f : Failure) : List Byte := le 1 moment ++ le 1 f.region ++ zeros 2 ++ le 4 f.index ++ f.detail

/-- Most streams of the variant at a grid (R3). -/
def maxStreams (grid : Nat) (h : Hw) : Nat :=
  let n := if h.variant = 0x20 then 256 else if h.variant = 0x40 then 768 else 2048
  if grid = 1 then n / 4 else n

/-- The image's layout (R470, R482). -/
def checkLayout (b : Image) : Bool :=
  b.wellFormed && b.version == 1 && b.grid ≤ 1 && 1 ≤ b.stages && b.stages ≤ 255 && 1 ≤ b.stage && b.stage ≤ b.stages
  && b.access.length ≤ 64 && b.access.all (fun p => p.number ≤ 63 && p.privilege ≤ 3) && !hasRepeat (b.access.map (fun p => p.number))

/-- Regions an image names: listed ones, home blocks, and blocks with settings of their own. -/
def namedRegions (b : Image) : List Nat :=
  b.regions ++ (b.fns.map (fun f => f.region)).filter (fun r => 2 ≤ r && r ≤ 7)
  ++ (b.fabric.protectCells.map (fun e => e.1 / 4 + 2)) ++ (b.fabric.clocks.map (fun e => e.1 / 4 + 2))

/-- The refusals of R6 and R13. -/
def checkVariant (b : Image) (h : Hw) : Option Failure :=
  let v := if h.variant = 0x20 then 0 else if h.variant = 0x40 then 1 else 2
  if bit b.variants v = false ∨ bit b.steppings 0 = false ∨ maxStreams b.grid h < b.streams.length then some { reason := rcCfgVariantMismatch }
  else ((namedRegions b).find? (fun r => !(populated h).contains r)).map (fun r => { reason := rcCfgVariantMismatch, region := r })

/-- The refusals of a time section: the ranges of R62, R37, R44, R47, R48, R63 and R69, and one driver for each unit and ball (R49). -/
def checkTime (b : Image) : Option Failure :=
  let t := b.time
  if t.profile = 0 ∨ 2 < t.profile ∨ 255 < t.domain ∨ 1 < t.clockType ∨ 1 < t.l1sync ∨ 1 < t.stepMode ∨ 2 < t.preference
    ∨ t.driftPs = 0 ∨ 65535 < t.driftPs ∨ 4 < t.logSync ∨ t.eec = 0 ∨ 2 < t.eec ∨ 65535 < t.utcOffset ∨ 2 ^ 24 ≤ t.epochHint then some { reason := rcTimeParamRange }
  else match t.teus.findSome? (fun u => (teuRange u 0).map (fun rc => (rc, u.unit))) with
  | some (rc, u) => some { reason := rc, index := u }
  | none =>
    if hasRepeat (t.teus.map (fun u => u.unit)) then some { reason := rcTimeTeuHeld }
    else if hasRepeat ((t.teus.filter (fun u => u.target == 1 || 4 ≤ u.target)).map (fun u => u.target)) then some { reason := rcTimePinHeld }
    else none

/-- The rate of a fast channel that an image enables. -/
def imageRate (b : Image) (c : Nat) : Option Nat :=
  let t : Tbl LinkInst := (b.acq.links.filter (fun e => e.2.lanes != 0)).map (fun e => (e.1, { cfg := e.2 }))
  match chanOf t c with
  | some (_, x, m) => if bit x.cfg.enable m then some x.cfg.fs else none
  | none => none

/-- Nominal frequency of a slot in an image: its loop instance's, else the station's (R244). -/
def imageNominal (b : Image) (slot : Nat) : Nat :=
  match (((slotChannels b.streams).find? (fun e => e.1 == slot)).bind (fun e => e.2.loop)).bind (fun n => b.loops.find? (fun c => c.inst == n)) with
  | some c => c.params.f0
  | none => b.nominal

/-- Every rule internal to an image. DESIGN CHOICE (log 61): in the order of the chapters that state them. -/
def checkImage (b : Image) (h : Hw) : Option Failure :=
  let at_ (o : Option (Nat × Nat)) : Option Failure := o.map (fun e => { reason := e.1, index := e.2 })
  let alone (o : Option Nat) : Option Failure := o.map (fun rc => { reason := rc })
  if checkLayout b = false then some { reason := rcCfgFormat }
  else (checkVariant b h)
    <|> (if ownCompat h < b.compatMin ∨ b.compatMax < ownCompat h then some { reason := rcCfgCompat } else none)
    <|> checkTime b <|> at_ (checkIngest b h) <|> at_ (checkLoops b) <|> at_ (checkSpec b h)
    <|> at_ (checkFilter b (imageRate b) (gridHz b.grid) (8 * b.streams.length) h) <|> alone (checkAcq b (fun i => (imageRate b i).isSome) h)
    <|> at_ (checkSynchros b.synchros (imageNominal b)) <|> at_ (checkLines b.lines h)
    <|> at_ (checkFabric b) <|> at_ (checkSlices b h) <|> at_ (checkCycle b h) <|> at_ (checkNet b) <|> at_ (checkPair b h)
    <|> alone (b.constellation.bind (fun c => checkConst c (fun l => ((b.lines.find? (fun x => x.line == l)).bind (fun x => x.partner)).map (fun e => e.1)) h))
    <|> at_ (checkLupin b h)

/-- A resource that the new Bloom claims and a surviving holder keeps (R492): a unit, a ball but SQW_TRIGOUT3, capture segments. -/
def checkHeld (b : Image) (h : Hw) : Option Failure :=
  let foreign := h.time.teus.filter (fun e => e.2.armed && e.2.holderOpcode != 0x0203)
  let claims (u : TeuConfig) (e : Nat × Teu) : Bool := e.1 == u.unit || (u.target == e.2.cfg.target && (u.target == 1 || (4 ≤ u.target && u.target ≤ 7)))
  match b.time.teus.findSome? (fun u => foreign.find? (claims u)) with
  | some (_, v) => some { reason := rcCfgResource, detail := holderBytes v.holderSlice v.holderOpcode v.holderObject }
  | none =>
    if h.acq.mirrorSegments ≠ 0 ∧ 8 < b.acq.segments + h.acq.mirrorSegments ∧ b.acq.captures.any (fun c => c.2.autoarm)
    then some { reason := rcCfgResource, detail := le 2 h.acq.mirrorHolder.1 ++ le 2 0x0E04 ++ le 4 h.acq.mirrorHolder.2 } else none

/-- The module as it stands: units, slices, resources and the predecessor (R136, R301, R491, R492). -/
def checkStanding (b : Image) (h : Hw) : Option Failure :=
  let at_ (o : Option (Nat × Nat)) : Option Failure := o.map (fun e => { reason := e.1, index := e.2 })
  at_ (checkLoopTeus b h) <|> at_ (checkLive b h) <|> checkHeld b h
  <|> (if b.predecessor ≠ zeros 16 ∧ b.predecessor ≠ ownPrint h then some { reason := rcCfgStageOrder } else none)

/-- The swap check (R484). -/
def checkSwap (b : Image) (h : Hw) : Option Failure := checkImage b h <|> checkStanding b h

/-! ### The change-over (R166, R378, R473, R489) -/

/-- The Bloom's units: those that go on stay, the others of the old Bloom stop; new ones are armed, at the latest when the
servo leaves UNSET (R50, R492). -/
def swapTeus (old new : List TeuConfig) (h : Hw) : Hw :=
  let h := old.foldl (fun h t =>
    let u := tget h.time.teus t.unit {}
    if new.contains t ∨ u.holderOpcode ≠ 0x0203 then h else stopTeu t.unit h) h
  let fresh := new.filter (fun t => !old.contains t || h.time.teusDue.contains t)
  if h.time.servo = .unset then { h with time := { h.time with teusDue := fresh } } else armBloomTeus fresh h

/-- The live time configuration becomes the section's, and a swap ends the offset of the last TIME.SET (R28, R58). -/
def installTime (old : List TeuConfig) (s : TimeSection) (h : Hw) : Hw :=
  let h := { h with time := { h.time with
    profile := s.profile, domain := s.domain, clockType := s.clockType, l1sync := s.l1sync, stepMode := s.stepMode
    preference := s.preference, utcSet := none, driftPs := s.driftPs, logSync := s.logSync, eec := s.eec } }
  swapTeus old s.teus (noteLeap h)

/-- Output stages: those that stay keep their channels, and a changed one its old identity; dropped ones last while an entry of an older instant does; new ones
send their first frame while the module publishes (R166, R171). -/
def installStages (new : List StageConfig) (k0 : Nat) (h : Hw) : Hw :=
  let kept := tmap h.spec.stages (fun _ s => if new.any (fun c => c.stage == s.cfg.stage) then s else { s with dropped := true })
  let h := { h with spec := { h.spec with stages := kept, since := k0 } }
  let h := new.foldl (fun h c =>
    match tfind h.spec.stages c.stage with
    | some s =>
      let s' := { s with cfg := c, dropped := false, old := if s.cfg = c then s.old else some (s.old.getD s.cfg) }
      if s.cfg ≠ c ∧ publishes h then newState s' h else putStage s' h
    | none =>
      let s : StageOut := { cfg := c, chans := (List.range c.channels).map (fun i => (i, ({} : Chan))) }
      if publishes h then newState s h else putStage s h) h
  dropOldStages h

/-- Blocks take the image's protect cells, clocks and limits; functions go to their home blocks (R277, R279, R282, R284, R533).
A clock changes at the next tick (R281). -/
def installFabric (s : FabricSection) (h : Hw) : Hw :=
  let all := List.range (blockCount h)
  let h := all.foldl (fun h n => putBlock n { blockAt n h with
    protect := tget s.protectCells n 2, clock := tget s.clocks n 2200, limits := s.limits, tuned := false, next := none } h) h
  let h := modFault (fun f => { f with home := [], unplaced := [] }) h
  all.foldl (fun h n => if blockOpen n h then h else regionPlace n h) h

/-- Sessions whose principal the access section removes or changes end (R473). -/
def keepSessions (old new : List PrincipalConfig) (h : Hw) : Hw :=
  let same (n : Nat) : Bool := n == 0xFFFF || (new.find? (fun p => p.number == n) == old.find? (fun p => p.number == n) && new.any (fun p => p.number == n))
  { h with cmd := { h.cmd with sessions := h.cmd.sessions.filter (fun s => same s.principal) } }

/-- Everything a Bloom configures takes the image's values from instant k0. The Bloom in force is set already. Where one is
replaced, `tail` is its sequence number and the instant of the change-over on its grid: its rows run on under it (R489). -/
def installImage (tail : Option (Nat × Nat)) (old : Image) (new : Image) (k0 : Nat) (h : Hw) : Hw :=
  let later (n : Nat) : Bool := tail.isSome && takesRows old.chains new.chains n
  let h := installTime old.time.teus new.time h
  let h := installStreams (tail.map (fun _ => old)) ((tail.map (fun t => t.1)).getD 0) new k0 ((tail.map (fun t => t.2)).getD 0) h
  let h := installLoops old.streams (gridHz old.grid) new k0 h
  let h := if tail.isSome then h else endLoopGrid k0 h
  let h := installSlices new.slices h
  let h := installStages new.outStages k0 h
  let h := installFabric new.fabric h
  let h := installChains (fun n => !later n) old.chains new.chains h
  let h := installAcq old.acq new.acq h
  let h := installSynchros new.synchros (if tail.isSome then h else regridPhasors (gridHz old.grid) (gridHz new.grid) h)
  let h := installLines new.lines h
  let h := applyL1 (new.time.l1sync == 1) (installNet new.net h)
  let h := installCycles new.cycles h
  let h := { h with pair := { h.pair with scrubPeriod := 86400, coreInterval := 10000, katInterval := 60 } }
  let h := constSwap (pairSwap h)
  keepSessions old.access new.access h

/-- The functions of the Bloom that ends are kept for its rows, and those of earlier ones while an entry of theirs is left (R166). -/
def keepFns (h : Hw) : Hw :=
  { h with spec := { h.spec with
    oldFns := tset (h.spec.oldFns.filter (fun f => h.spec.entries.any (fun e => e.2.snapshot.bloomSeq == f.1))) h.cfg.bloomSeq (fnsOf h) } }

/-- The change-over at an instant of the new grid: the old Bloom becomes the Bud, CODE 0x0210 and the completion (R489, R499). -/
def changeOver (k0 ks : Nat) (h : Hw) : Hw :=
  match h.cfg.bud with
  | none => h
  | some new =>
    let old := h.cfg.bloom
    let h := if h.cfg.old.isSome then consume (finishOld h) else h
    let before := h.cfg.bloomSeq
    let seq := (before + 1) % 2 ^ 32
    let h := keepFns h
    let h := { h with cfg := { h.cfg with
      bloom := some new, bud := old, bloomSeq := seq, swap := none, lastReason := 0, swaps := inc32 h.cfg.swaps, storeDue := true } }
    let h := installImage (old.map (fun _ => (before, ks))) (old.getD {}) new k0 h
    let pay := swapPayload 0xFF 0xFF 0 ks
    let h := evr 0x0210 0x0000 (pay ++ le 4 seq ++ new.fingerprint) h
    complete .swap stOk 0 pay h

/-- What a Bloom starts by itself, once the module stands in a state in which it runs: the chains with autostart 1, the captures
with autoarm 1 (R184, R191, R224). -/
def startUnits (h : Hw) : Hw :=
  match h.cfg.bloom with
  | none => h
  | some b => autoarm b.acq (b.chains.foldl (fun h c => autostartChain c h) h)

/-- The hub commits. In IDLE the change-over is the same moment, and the grid starts at the first instant at least 1 ms
later (R489). -/
def commitSwap (w : Swap) (h : Hw) : Hw :=
  if h.mode = .idle then
    let f := gridHz ((h.cfg.bud.map (fun b => b.grid)).getD 0)
    let t := h.time.now + 2 ^ 64 / 1000 + 1
    startUnits (changeState .ready 0 (changeOver ((t * f + 2 ^ 64 - 1) / 2 ^ 64) w.ks h))
  else { h with cfg := { h.cfg with swap := some { w with committed := true } } }

/-- A rerun whose entry is still to resolve: what it has dispatched completes (R161). -/
def liveRerun (i : Item) (h : Hw) : Bool := i.ledger != 0xFFFF && bit i.desc.flags 1 && (entryAt i.ledger h).state == 3

/-- Without a valid Bloom nothing that a Bloom configures is left (R436, R479), but for the reruns dispatched. -/
def dropBloom (h : Hw) : Hw :=
  match h.cfg.bloom with
  | none => h
  | some old =>
    let h := cancelEntries false h
    let h := h.spec.entries.foldl (fun h e => drainEntry e.1 h) h
    let h := { h with
      cfg := { h.cfg with bloom := none, old := none, enables := [], storeDue := false }
      ing := { h.ing with open_ := [], opened := [], handoff := [] }
      spec := { h.spec with spent := [], oldFns := [] }
      fab := { h.fab with blocks := tmap h.fab.blocks (fun _ b => { b with
        ready := b.ready.filter (fun i => liveRerun i h), delay := [], slots := b.slots.filter (fun e => liveRerun e.2 h)
        running := b.running.filter (fun e => liveRerun e.2.item h) }) } }
    let set := h.time.utcSet
    let h := installImage none old {} 0 h
    { h with time := { h.time with utcSet := set } }

/-! ### Events of the swap (R483, R488, R489, R517) -/

/-- The bytes that the fragments of a load make (R483). -/
def loadBytes (l : BudLoad) : List Byte := (l.received.map (fun e => e.2)).flatten

/-- An image whose sections are given, with the header that its bytes hold and the fingerprint of those bytes (R482). -/
def withHeader (bs : List Byte) (b : Image) : Image :=
  { b with
    version := u8 bs 0, grid := u8 bs 1, variants := u8 bs 2, steppings := u8 bs 3, compatMin := u16 bs 4, compatMax := u16 bs 6
    length := u32 bs 8, stage := u16 bs 12, stages := u16 bs 14, predecessor := slice bs 16 16, build := slice bs 32 16, sections := u32 bs 48
    fingerprint := slice (Config.sha512 bs) 0 16
    wellFormed := b.wellFormed && decide (64 + 132 ≤ bs.length) && u32 bs 8 == bs.length && zeroAt bs 52 12 }

/-- CFG_LOAD_CHECK_DONE's effect: the image that the fragments make, with the sections that its bytes hold (log 4), and whether
its signature verifies (R482, R483). -/
def loadChecked (sections : Image) (signed : Bool) (h : Hw) : Hw :=
  match h.cfg.load with
  | none => h
  | some l =>
    if l.checking = false then h
    else
      let image := withHeader (loadBytes l) sections
      let h := { h with cfg := { h.cfg with load := none } }
      let finish (st rc : Nat) (print pay : List Byte) (h : Hw) : Hw :=
        complete .load st rc pay (evr 0x0212 0x0000 (le 2 st ++ le 2 rc ++ print) h)
      if signed = false then finish stAuthFailed rcCfgSignature (zeros 16) [] h
      else match checkImage image h with
        | some f => finish stConsistencyRefused f.reason (zeros 16) (failureBytes 1 f) h
        | none => finish stOk 0 image.fingerprint (zeros 16) { h with cfg := { h.cfg with bud := some image } }

/-- CFG_LOAD_CHECK_DONE (R483). -/
def execCfgLoadCheckDone (image : Image) (signed : Bool) : State → Host.Outcome State Fault Refusal := liftAll (loadChecked image signed)

/-- SWAP_VOTE_DEADLINE's effect: at instant ks - 2 with a vote missing (R488, R489). -/
def voteDeadline (h : Hw) : Hw :=
  match h.cfg.swap with
  | none => h
  | some w =>
    if w.committed ∨ h.mode = .idle ∨ h.time.now < instantTime (fGrid h) (w.ks - 2) then h
    else abortSwap rcCfgSwapLaggard (((populated h).find? (fun r => !w.votes.contains r)).getD 0xFF) 0xFF 0 h

/-- SWAP_VOTE's effect: a region votes before the deadline; the hub's vote runs the swap check again (R488, R489). -/
def swapVote (region block reason : Nat) (ready : Bool) (h : Hw) : Hw :=
  match h.cfg.swap with
  | none => h
  | some w =>
    if w.committed ∨ (populated h).contains region = false ∨ w.votes.contains region then h
    else if h.mode ≠ .idle ∧ instantTime (fGrid h) (w.ks - 2) ≤ h.time.now then voteDeadline h
    else
      let bad := if region = 0 ∧ ready then h.cfg.bud.bind (fun b => checkSwap b h) else none
      match bad with
      | some f => abortSwap rcCfgSwapLaggard 0 0xFF f.reason h
      | none =>
        if ready = false then abortSwap rcCfgSwapLaggard region block reason h
        else
          let w := { w with votes := w.votes ++ [region] }
          let h := { h with cfg := { h.cfg with swap := some w } }
          if (populated h).all (fun r => w.votes.contains r) then commitSwap w h else h

/-- SWAP_VOTE (R488). -/
def execSwapVote (region block reason : Nat) (ready : Bool) : State → Host.Outcome State Fault Refusal := liftAll (swapVote region block reason ready)

/-- SWAP_VOTE_DEADLINE (R489). -/
def execSwapVoteDeadline : State → Host.Outcome State Fault Refusal := liftAll voteDeadline

/-- SWAP_CHANGEOVER's effect: instant ks of a committed swap; the first row under the new Bloom is the same moment on the
Bud's grid (R487, R489). -/
def swapChange (h : Hw) : Hw :=
  match h.cfg.swap, h.cfg.bud with
  | some w, some b =>
    if w.committed = false ∨ h.time.now < instantTime (fGrid h) w.ks then h
    else changeOver (w.ks * gridHz b.grid / fGrid h) w.ks h
  | _, _ => h

/-- SWAP_CHANGEOVER (R489). -/
def execSwapChangeover : State → Host.Outcome State Fault Refusal := liftAll swapChange

/-- CONST.MANIFEST_LOAD: a swap whose instant has come comes before a commit (R409); it comes in this step also where the command is
refused (the model's reading, log 120). -/
def execConstManifestLoad (c : Call) (p : List Byte) : State → Host.Outcome State Fault Refusal :=
  liftAll (fun h => runCmd cmdConstManifestLoad c p (swapChange h))

/-- BLOOM_FLASH_WRITE_DONE's effect: the new copy is complete; the previous one was kept until now (R517). -/
def flashWritten (h : Hw) : Hw :=
  match h.cfg.bloom with
  | some b => if h.cfg.storeDue then { h with cfg := { h.cfg with stored := b :: h.cfg.stored.take 1, storeDue := false } } else h
  | none => h

/-- BLOOM_FLASH_WRITE_DONE (R517). -/
def execBloomFlashWriteDone : State → Host.Outcome State Fault Refusal := lift flashWritten

/-- SERVE_EXIT_TIME_FAULT's effect: the exit to READY that FAULT has requested (R35, R499). -/
def timeFaultExit (h : Hw) : Hw :=
  if h.time.exitRequest = false then h
  else
    let h := { h with time := { h.time with exitRequest := false } }
    if inService h.mode then changeState .ready rcTimeServeNotLocked h else h

/-- SERVE_EXIT_TIME_FAULT (R35). -/
def execServeExitTimeFault : State → Host.Outcome State Fault Refusal := liftAll timeFaultExit

/-! ### Commands (R483, R486, R487, R490, R498) -/

def cfgStatusBytes (h : Hw) : List Byte :=
  let c := h.cfg
  let print (o : Option Image) : List Byte := (o.map (fun b => b.fingerprint)).getD (zeros 16)
  le 4 c.bloomSeq
  ++ le 1 (flag c.bloom.isSome 0 + flag c.bud.isSome 1 + flag c.swap.isSome 2 + flag ((c.swap.map (fun w => w.committed)).getD false) 3 + flag c.load.isSome 4)
  ++ le 1 ((c.bloom.map (fun b => b.stage)).getD 0) ++ le 1 ((c.bloom.map (fun b => b.stages)).getD 0) ++ zeros 1 ++ print c.bloom ++ print c.bud
  ++ le 8 ((c.swap.map (fun w => w.ks)).getD 0) ++ le 1 (((c.swap.map (fun w => w.votes)).getD []).foldl (fun a r => a + 2 ^ r) 0)
  ++ le 1 ((populated h).foldl (fun a r => a + 2 ^ r) 0) ++ le 2 c.lastReason ++ le 4 c.swaps ++ le 4 c.aborts ++ zeros 4

def cmdCfgStatus : Cmd := { row := rowCfgStatus, body := fun _ _ h => .ok h (cfgStatusBytes h) }

/-- A fragment's fields are those of a load of its total (R483). -/
def fragmentOk (max total fragment fragments length : Nat) : Bool :=
  1 ≤ total && total ≤ max && fragments == (total + 65535) / 65536 && fragment < fragments
  && length == (if fragment + 1 < fragments then 65536 else total - fragment * 65536)

/-- CFG.LOAD (R483, R490): a fragment sent again replaces its earlier copy. DESIGN CHOICE (log 94): a load lasts until its check
ends; one that is abandoned meanwhile owes no completion. -/
def cfgLoad (p : List Byte) (h : Hw) : CmdResult :=
  let total := u32 p 0
  let i := u16 p 4
  let n := u16 p 6
  if h.cfg.swap.isSome then no stBusy rcCfgSwapPending
  else if fragmentOk 268435456 total i n (u32 p 8) = false then no stBadParam rcCfgFragment
  else
    let fits := h.cfg.load.elim true (fun l => l.total == total && l.fragments == n)
    if fits = false ∧ i ≠ 0 then no stBadParam rcCfgFragment
    else
      let start : BudLoad := { total := total, fragments := n }
      let l := if fits then h.cfg.load.getD start else start
      let h := if fits then h else forget .load h
      let h := if h.cfg.load = some l then h else { h with cfg := { h.cfg with bud := none } }
      let l := if l.checking then l else { l with received := tset l.received i (slice p 16 (u32 p 8)) }
      if l.received.length < n ∨ l.checking then .ok { h with cfg := { h.cfg with load := some l } } (zeros 16)
      else .accepted { h with cfg := { h.cfg with load := some { l with checking := true } } } .load

def cmdCfgLoad : Cmd := { row := rowCfgLoad, reserved := [(12, 4)], body := fun _ p h => cfgLoad p h }

/-- CFG.SWAP (R487). -/
def cfgSwap (p : List Byte) (h : Hw) : CmdResult :=
  let ks := u64 p 0
  match h.cfg.bud with
  | none => no stStateRefused rcCfgNoBud
  | some b =>
    let f := fGrid h
    if h.cfg.swap.isSome then no stBusy rcCfgSwapPending
    else if (if h.mode = .idle then ks ≠ 0 else ks * 100 * 2 ^ 64 < (100 * h.time.now + 2 ^ 64) * f ∨ (h.time.now + 86400 * 2 ^ 64) * f < ks * 2 ^ 64)
    then no stBadParam rcCfgSwapTooSoon
    else if ks * gridHz b.grid % f ≠ 0 then no stBadParam rcCfgParamRange
    else match checkSwap b h with
      | some x => .refuse stConsistencyRefused x.reason (failureBytes 3 x)
      | none => .accepted { h with cfg := { h.cfg with swap := some { ks := ks } } } .swap

def cmdCfgSwap : Cmd := { row := rowCfgSwap, reserved := [(8, 8)], body := fun _ p h => cfgSwap p h }

/-- CFG.SWAP_CANCEL (R490). -/
def cfgSwapCancel (h : Hw) : CmdResult :=
  match h.cfg.swap with
  | none => no stStateRefused rcCfgNoSwap
  | some w => if w.committed then no stStateRefused rcCfgSwapCommitted else done (abortSwap rcCfgSwapCancelled 0xFF 0xFF 0 h)

def cmdCfgSwapCancel : Cmd := { row := rowCfgSwapCancel, body := fun _ _ h => cfgSwapCancel h }

/-- CFG.FN_ENABLE (R486): the change holds from the first instant whose row is still to open. -/
def cfgFnEnable (p : List Byte) (h : Hw) : CmdResult :=
  let s := u16 p 0
  let i := u16 p 2
  let on := u8 p 4 == 1
  match h.cfg.bloom.bind (fun b => (b.fns.find? (fun f => f.slice == s && f.index == i)).map (fun f => (b, f))) with
  | none => no stBadParam rcCfgNoFunction
  | some (b, f) =>
    if 1 < u8 p 4 then no stBadParam rcCfgParamRange
    else match (if on then checkImage { b with fns := b.fns.map (fun x => if x = f then { x with enabled := true } else x) } h else none) with
      | some x => .refuse stConsistencyRefused x.reason (failureBytes 2 x)
      | none =>
        let key := s * 65536 + i
        let l := (h.ing.nextOpen, h.cfg.bloomSeq, on) :: tget h.cfg.enables key []
        .ok { h with cfg := { h.cfg with enables := tset h.cfg.enables key l } } (zeros 16)

def cmdCfgFnEnable : Cmd :=
  { row := rowCfgFnEnable, inScope := fun n _ p _ => u16 p 0 == n, reserved := [(5, 3)], body := fun _ p h => cfgFnEnable p h }

/-- CFG.CHECK (R498). -/
def cfgCheck (h : Hw) : CmdResult :=
  match h.cfg.bud with
  | none => no stStateRefused rcCfgNoBud
  | some b => match checkSwap b h with
    | some x => .refuse stConsistencyRefused x.reason (failureBytes 3 x)
    | none => .ok h (zeros 16)

def cmdCfgCheck : Cmd := { row := rowCfgCheck, body := fun _ _ h => cfgCheck h }

/-- CFG.STATUS. -/
def execCfgStatus (c : Call) (p : List Byte) : State → Host.Outcome State Fault Refusal := lift (runCmd cmdCfgStatus c p)
/-- CFG.LOAD. -/
def execCfgLoad (c : Call) (p : List Byte) : State → Host.Outcome State Fault Refusal := lift (runCmd cmdCfgLoad c p)
/-- CFG.SWAP. -/
def execCfgSwap (c : Call) (p : List Byte) : State → Host.Outcome State Fault Refusal := lift (runCmd cmdCfgSwap c p)
/-- CFG.SWAP_CANCEL. -/
def execCfgSwapCancel (c : Call) (p : List Byte) : State → Host.Outcome State Fault Refusal := lift (runCmd cmdCfgSwapCancel c p)
/-- CFG.FN_ENABLE. -/
def execCfgFnEnable (c : Call) (p : List Byte) : State → Host.Outcome State Fault Refusal := lift (runCmd cmdCfgFnEnable c p)
/-- CFG.CHECK. -/
def execCfgCheck (c : Call) (p : List Byte) : State → Host.Outcome State Fault Refusal := lift (runCmd cmdCfgCheck c p)

end Sys2Proof.Machine
end

