-- ==== Sys2Proof/Machine/Boot.lean ====
section
/-! DEFINITION. Start-up and power: BOOT, failed starts, Snowdrop, loss of supply, power-fail, tamper, THERM_N, MOD.RESET and DIAG.FW_LOAD (R75, R76, R436, R437, R479, R498, R515 to R527, R567 to R576). -/
namespace Sys2Proof.Machine

/-! ### What a restart leaves (R70, R429, R479, R517, R548, R556) -/

/-- Everything volatile at its reset value; fuses, flash, the always-on island, Hollyhock and TAMPER_N stay. The discipline
interval, its enable and the time of the last pass are the island's here (the model's choice, log 65). -/
def coldHw (h : Hw) : Hw :=
  { variant := h.variant
    serial := h.serial
    mode := h.mode
    rtc := { h.rtc with edgeAt := 0 }
    evr := { next := h.evr.next, floor := h.evr.floor, saved := h.evr.saved, floorOk := h.evr.floorOk,
             bootQueue := h.evr.bootQueue, bootOverflow := h.evr.bootOverflow, dropped := h.evr.dropped }
    boot := { h.boot with load := none, watchdog := false, watchedAt := 0, servingSince := none, snowReason := 0, resetDue := false }
    power := { resetLow := h.power.resetLow, therm := h.power.therm, refclkSel := h.power.refclkSel }
    time := { mono := h.time.mono, osfSinceBoot := osf h }
    keys := { areas := h.keys.areas, epoch := h.keys.epoch, fuseDue := h.keys.fuseDue, tamperLow := h.keys.tamperLow }
    cycle := { flash := h.cycle.flash }
    cfg := { stored := h.cfg.stored }
    lupin := { h.lupin with linkDown := true, sent := 0, dropped := 0 }
    net := { base := h.net.base, carried := h.net.carried }
    free := h.free
    out := h.out }

/-- BOOT is entered: WAKE_N is released, and the record of the transition waits in the boot queue (R77, R479, R550). -/
def enterBoot (h : Hw) : Hw :=
  let h := coldHw { h with evr := { h.evr with bootQueue := [], bootOverflow := false, dropped := 0 } }
  let h := if h.rtc.wakeLow then emit (.wake false) { h with rtc := { h.rtc with wakeLow := false } } else h
  setMode .boot 0 h

/-- Loss of VAON, or what is treated as such: RETAIN while the island has a supply, else OFF (R479, R568). -/
def loseSupply (h : Hw) : Hw :=
  let h := coldHw { h with evr := { h.evr with bootQueue := [], bootOverflow := false, dropped := 0 } }
  setMode (if h.rtc.vaon || h.rtc.vbat then .retain else .off) 0 { h with power := { resetLow := true } }

/-- OFF or RETAIN. -/
def offline (h : Hw) : Bool := h.mode == .off || h.mode == .retain

/-! ### Failed starts (R520, R521) -/

/-- A failed start: the counter and the cause in one write; the hub restarts through reset. -/
def failedStart (cause : Nat) (h : Hw) : Hw :=
  let c := min 3 (bootCount h.rtc.status + 1)
  coldHw { h with
    rtc := { h.rtc with status := withBootCount h.rtc.status c }
    boot := { h.boot with causes := cause :: h.boot.causes.take 2 } }

/-- The counter and its causes are cleared (R522). -/
def clearCounter (h : Hw) : Hw :=
  { h with rtc := { h.rtc with status := withBootCount h.rtc.status 0 }, boot := { h.boot with causes := [0, 0, 0] } }

/-! ### The boot sequence (R515 to R519, R523, R524) -/

/-- The image the boot ROM selects (R518). -/
def selectImage (h : Hw) : Nat :=
  match h.boot.oneShot with
  | some i => i
  | none => if bootCount h.rtc.status = 1 then 1 - h.boot.preferred else h.boot.preferred

/-- An image in flash. -/
def flashImage (i : Nat) (h : Hw) : FlashImage := if i = 0 then h.boot.imageA else h.boot.imageB
def putImage (i : Nat) (f : FlashImage) (h : Hw) : Hw :=
  { h with boot := if i = 0 then { h.boot with imageA := f } else { h.boot with imageB := f } }

/-- The RTC boot report of R76: the first record of a boot. -/
def rtcReport (h : Hw) : Hw :=
  let st := h.rtc.status
  let causes := flag (st.getLsbD aonCauseFirst) 0 + flag (st.getLsbD aonCauseDip) 1 + flag (st.getLsbD aonCauseOsc) 2
  let pay := le 1 (flag (osf h) 0) ++ le 1 causes ++ le 1 (bootCount st) ++ le 1 h.rtc.firedRetain ++ le 8 (rtcSec h.rtc.count % 2 ^ 40) ++ le 2 (rtcFrac h.rtc.count)
  let h := evrDirect 0x0040 0x0400 pay h
  { h with evr := { h.evr with reported := true } }

/-- The payload of the boot outcome record (R523). -/
def outcomeBytes (new : ModState) (image count flags ms : Nat) (print : List Byte) (h : Hw) : List Byte :=
  let b := h.boot
  le 1 (modeCode new) ++ le 1 image ++ le 1 count ++ le 1 (if new = .snowdrop then b.snowReason else 0) ++ ((b.causes ++ [0, 0, 0]).take 3).flatMap (le 1)
  ++ le 1 flags ++ le 2 (if b.causes.contains 4 then b.failedLink else 0xFFFF) ++ le 2 (if b.causes.contains 5 then b.bloomReason else 0)
  ++ le 4 ms ++ slice print 0 16

/-- The end of BOOT: the boot outcome record, the boot queue's events, then the transition (R479, R523, R550). -/
def endBoot (new : ModState) (image count flags ms : Nat) (print : List Byte) (h : Hw) : Hw :=
  let flags := flags + flag h.boot.clearedByReset 2
  let h := evrDirect 0x0120 0x0000 (outcomeBytes new image count flags ms print h) h
  noteAnchor (setMode new 0 (flushBoot { h with
    boot := { h.boot with watchdog := false, clearedByReset := false }
    rtc := { h.rtc with firedRetain := 0 } }))

/-- Station time is seeded from the RTC when OSF is clear (R69, R75). -/
def seedTime (hint : Nat) (h : Hw) : Hw :=
  if osf h then h
  else
    let now := ofSecFrac (hint * 2 ^ 40 + rtcSec h.rtc.count) (rtcFrac h.rtc.count * 2 ^ 17)
    setServo .seeded { h with time := { h.time with now := now }, rtc := { h.rtc with edgeAt := now } }

/-- The restored Bloom comes into force at the first instant at or after the present (R517). -/
def restoreBloom (b : Image) (h : Hw) : Hw :=
  let h := { h with cfg := { h.cfg with bloom := some b } }
  let f := gridHz b.grid
  let h := installImage none {} b ((h.time.now * f + 2 ^ 64 - 1) / 2 ^ 64) h
  (List.range (computeDies h)).foldl (fun h d => setVolts d h) h

/-- The last step of BOOT: the stored Bloom (R517). -/
def bootBloom (o : BootOutcome) (image count flags : Nat) (h : Hw) : Hw :=
  let print := (flashImage image h).hash
  match h.cfg.stored with
  | [] => endBoot .idle image count flags o.bootMs print (seedTime 0 h)
  | b :: _ =>
    if h.keys.zeroised || (keySlot 4 h).state == 0 then
      endBoot .idle image count (flags + 2) o.bootMs print (seedTime 0 { h with cfg := { h.cfg with stored := [] } })
    else
      let bad := if o.bloomSigned then (checkImage b h).map (fun f => f.reason) else some rcCfgSignature
      match bad with
      | some rc => failedStart 5 { h with boot := { h.boot with bloomReason := rc } }
      | none => endBoot .ready image count flags o.bootMs print (restoreBloom b (seedTime b.time.epochHint h))

/-- Die links, then the Bloom; the link to L is trained with the others (R515). -/
def bootLinks (o : BootOutcome) (image count flags : Nat) (h : Hw) : Hw :=
  match o.link.filter (fun r => r != 0 && (populated h).contains r) with
  | some r => failedStart 4 { h with boot := { h.boot with failedLink := 0x0F10 + r } }
  | none =>
    let h := reporting (modLupin (fun l => { l with linkDown := false, sent := 0, dropped := 0 })) h
    if o.hang = some 5 then h else bootBloom o image count flags h

/-- An attempt with an image: the steps of R515 in order. A step that hangs leaves BOOT to its watchdog. -/
def bootAttempt (o : BootOutcome) (h : Hw) : Hw :=
  let count := bootCount h.rtc.status
  let image := selectImage h
  let flags := flag h.boot.oneShot.isSome 0
  let f := flashImage image h
  let h := { h with boot := { h.boot with oneShot := none, watchdog := true } }
  if o.hang = some 0 then h
  else if f.firstStageOk = false then failedStart 2 h
  else if o.hang = some 1 then h
  else if f.firmwareOk = false then failedStart 3 h
  else
    let h := { h with boot := { h.boot with running := image } }
    if o.hang = some 2 ∨ o.hang = some 3 then h
    else
      let h := rtcReport (startRecorder (bootRetain (bootKeys o.kat h)))
      if o.hang = some 4 then h else bootLinks o image count flags h

/-- Snowdrop: no image is read. What the outcome record names as the image is free (R523, R524, R555). -/
def bootSnowdrop (o : BootOutcome) (h : Hw) : Hw :=
  let h := { h with mode := .snowdrop, evr := { h.evr with floorOk := o.floorOk }, boot := { h.boot with snowReason := h.boot.causes.headD 0 } }
  let h := startRecorder h
  let h := rtcReport (bootKeys o.kat { h with mode := .boot })
  endBoot .snowdrop (Config.freeNat h.free % 256) (bootCount h.rtc.status) 0 o.bootMs h.boot.snowHash (drawn h)

/-- What the boot finds of the sealed tables and the saved event copies: one that does not verify never does again (R429, R556). -/
def checkAreas (o : BootOutcome) (h : Hw) : Hw :=
  { h with
    keys := { h.keys with areas := h.keys.areas.zipIdx.map (fun e => { e.1 with valid := e.1.valid && !o.sealedBad.contains e.2 }) }
    evr := { h.evr with saved := h.evr.saved.zipIdx.map (fun e => { e.1 with crcOk := e.1.crcOk && !o.savedBad.contains e.2 }) } }

/-- RESET_RELEASE's effect (R479, R515, R562). -/
def resetRelease (o : BootOutcome) (h : Hw) : Hw :=
  let h := if offline h && h.rtc.vaon then enterBoot h else h
  if h.mode ≠ .boot ∨ h.boot.watchdog ∨ h.power.powerFail then h
  else
    let h := { h with power := { h.power with resetLow := false, refclkSel := o.refclk % 2 }, boot := { h.boot with watchedAt := h.time.mono } }
    let h := checkAreas o h
    if 3 ≤ bootCount h.rtc.status then bootSnowdrop o h else bootAttempt o h

/-- The boot watchdog, which runs from the release of reset until BOOT ends, has run 10 s (R516). -/
def watchdogDue (h : Hw) : Bool := h.mode == .boot && h.boot.watchdog && decide (10 * secUnit ≤ h.time.mono - h.boot.watchedAt)

/-- BOOT_WATCHDOG_EXPIRY (R516). -/
def execBootWatchdogExpiry : State → Host.Outcome State Fault Refusal :=
  lift (fun h => onlyIf (watchdogDue h && !h.power.powerFail) (failedStart 1) h)

/-- A restart of Snowdrop firmware loses what that firmware held and nothing else (R524). -/
def snowRestart (h : Hw) : Hw :=
  { h with cmd := { h.cmd with sessions := [], waiting := [], tls := [], owed := [] }, boot := { h.boot with load := none } }

/-- SNOWDROP_WATCHDOG_EXPIRY (R524). -/
def execSnowdropWatchdogExpiry : State → Host.Outcome State Fault Refusal := lift (fun h => onlyIf (h.mode == .snowdrop) snowRestart h)

/-- 600 s of uninterrupted SERVING have passed (R519, R522). -/
def servedLong (h : Hw) : Bool :=
  match h.boot.servingSince with
  | some t => h.mode == .serving && decide (600 * secUnit ≤ h.time.mono - t)
  | none => false

/-- SERVING_COUNTER_CLEAR (R519, R522). -/
def execServingCounterClear : State → Host.Outcome State Fault Refusal :=
  lift (fun h => onlyIf (servedLong h) (fun h => clearCounter { h with boot := { h.boot with preferred := h.boot.running } }) h)

/-! ### Supply, reset and power-fail (R479, R568, R569) -/

/-- VAON_RISE's effect. -/
def vaonRise (h : Hw) : Hw :=
  let h := noteSupply true h.rtc.vbat (setAon aonSource false h)
  if offline h then enterBoot h else h

/-- VAON_RISE (R479). -/
def execVaonRise : State → Host.Outcome State Fault Refusal := lift vaonRise

/-- VAON_LOSS's effect. -/
def vaonLoss (h : Hw) : Hw :=
  let h := noteSupply false h.rtc.vbat (setAon aonSource true h)
  if offline h = false then loseSupply h
  else if h.mode = .retain ∧ h.rtc.vbat = false then setMode .off 0 h else h

/-- VAON_LOSS (R479). -/
def execVaonLoss : State → Host.Outcome State Fault Refusal := lift vaonLoss

/-- VBAT_CHANGE's effect. -/
def vbatChange (present : Bool) (h : Hw) : Hw :=
  let h := noteSupply h.rtc.vaon present h
  if h.rtc.vaon then h
  else if h.mode = .off ∧ present then setMode .retain 0 h
  else if h.mode = .retain ∧ present = false then setMode .off 0 h else h

/-- VBAT_CHANGE (R479). -/
def execVbatChange (present : Bool) : State → Host.Outcome State Fault Refusal := lift (vbatChange present)

/-- BOARD_RESET's effect: RESET_N falls and stays low for 10 µs or longer (R568). -/
def boardReset (h : Hw) : Hw :=
  if h.power.resetLow then h
  else
    let h := { h with power := { h.power with resetLow := true } }
    if h.mode = .snowdrop ∨ h.mode = .halted then enterBoot h
    else if offline h then h else loseSupply h

/-- BOARD_RESET (R568). -/
def execBoardReset : State → Host.Outcome State Fault Refusal := lift boardReset

/-- A main rail counts: BOOT, IDLE, READY, SERVING or TEST, and a rail of indices 0 to 13 whose position is populated (R561, R568). -/
def railCounts (rail : Nat) (h : Hw) : Bool :=
  !(offline h || h.mode == .snowdrop || h.mode == .halted) && rail ≤ 13 && (rail < 2 || 7 < rail || rail < 2 + computeDies h)

/-- RAIL_OUT_OF_TOLERANCE (R568). -/
def execRailOutOfTolerance (rail : Nat) : State → Host.Outcome State Fault Refusal :=
  lift (fun h => onlyIf (railCounts rail h) loseSupply h)

/-- POWER_FAIL's effect: RELINQUISH, programs stopped, retain images and event records saved; in BOOT only the event copy,
once the RTC boot report stands (R334, R377, R550, R556, R569). -/
def powerFailed (h : Hw) : Hw :=
  if offline h ∨ h.power.powerFail then h
  else
    let h := { h with power := { h.power with powerFail := true } }
    if h.mode = .boot then (if h.evr.reported then saveEvents 0 (flushBoot h) else h)
    else if h.mode = .snowdrop ∨ h.mode = .halted then saveEvents 0 h
    else saveEvents 0 (saveRetain (stopPrograms (relinquish 5 h)))

/-- POWER_FAIL (R569). -/
def execPowerFail : State → Host.Outcome State Fault Refusal := liftAll powerFailed

/-! ### Tamper and temperature (R436, R437, R576) -/

/-- TAMPER's effect. In OFF and RETAIN it is seen at the next boot. -/
def tamper (h : Hw) : Hw :=
  if h.keys.tamperLow then h
  else
    let h := { h with keys := { h.keys with tamperLow := true } }
    if offline h then h
    else
      let h := zeroise { h with keys := { h.keys with fuseDue := decide (h.keys.epoch < 64) } }
      let h := reporting meterTamper (keyRecord 0x1110 0x0C00 0 0 0 0 0 0 h)
      if h.mode = .idle ∨ running h.mode then
        dropBloom (changeState .idle rcKeyZeroised (abortSwap rcCfgSwapState 0xFF 0xFF 0 h))
      else h

/-- TAMPER (R436). -/
def execTamper : State → Host.Outcome State Fault Refusal := liftAll tamper

/-- TAMPER_RELEASE (R436): the keys are gone; the store is read again at the next boot. -/
def execTamperRelease : State → Host.Outcome State Fault Refusal :=
  lift (fun h => { h with keys := { h.keys with tamperLow := false } })

/-- THERM_N from the hottest junction, in 0.1 °C (R576). -/
def junction (tenths : Int) (h : Hw) : Hw :=
  if offline h then h
  else if 1150 ≤ tenths then { h with power := { h.power with therm := true } }
  else if tenths < 1050 then { h with power := { h.power with therm := false } }
  else h

/-- JUNCTION_OVER_TEMP (R576). -/
def execJunctionOverTemp (tenths : Int) : State → Host.Outcome State Fault Refusal := lift (junction tenths)

/-! ### MOD.RESET (R498, R518, R522, R525) -/

/-- MOD.RESET: its reply goes before the restart. -/
def modReset (p : List Byte) (h : Hw) : CmdResult :=
  if 1 < u8 p 0 then no stBadParam rcModTarget
  else
    let snow : Bool := h.mode == .snowdrop
    let base := if snow then h.boot.preferred else h.boot.running
    let h := if snow then clearCounter { h with boot := { h.boot with clearedByReset := true } } else h
    done { h with boot := { h.boot with resetDue := true, oneShot := if u8 p 0 = 1 then some (1 - base) else h.boot.oneShot } }

def cmdModReset : Cmd := { row := rowModReset, reserved := [(1, 3)], body := fun _ p h => modReset p h }

/-- BOOT after a MOD.RESET: READY is left, with the chains and captures that stop there, a pending swap ends, the event records
are saved, and BOOT is entered (R191, R232, R479, R490, R498, R556). -/
def bootIfDue (h : Hw) : Hw :=
  if h.boot.resetDue then enterBoot (saveEvents 1 (abortSwap rcCfgSwapState 0xFF 0xFF 0 (leaveState .boot h))) else h

/-- MOD.RESET. -/
def execModReset (c : Call) (p : List Byte) : State → Host.Outcome State Fault Refusal := liftAll (fun h => bootIfDue (runCmd cmdModReset c p h))

/-! ### DIAG.FW_LOAD (R526, R527) -/

/-- An image that nothing verifies. -/
def invalidImage : FlashImage := { firstStageOk := false, firmwareOk := false, compat := 0, version := 0, hash := zeros 16 }

/-- The reply payload of R526. -/
def fwBytes (received image result compat : Nat) (print : List Byte) : List Byte :=
  le 4 received ++ le 1 image ++ le 1 result ++ le 2 compat ++ slice print 0 8

/-- Bytes of the fragments received. -/
def fwReceived (l : FwLoad) : Nat :=
  l.received.foldl (fun a e => a + (if e.1 + 1 < l.fragments then 65536 else l.total - e.1 * 65536)) 0

/-- DIAG.FW_LOAD. -/
def diagFwLoad (c : Call) (p : List Byte) (h : Hw) : CmdResult :=
  let total := u32 p 0
  let i := u16 p 4
  let n := u16 p 6
  let image := u8 p 12
  if fragmentOk 33554432 total i n (u32 p 8) = false ∨ 1 < image then no stBadParam rcDiagFwFragment
  else if h.mode ≠ .snowdrop ∧ image = h.boot.running then no stDenied rcDiagFwRunning
  else
    let start : FwLoad := { session := c.hdr.session, total := total, fragments := n, image := image }
    let l := h.boot.load.getD start
    if l.session ≠ c.hdr.session ∨ l.verifying then no stBusy rcDiagFwBusy
    else if l.total ≠ total ∨ l.fragments ≠ n ∨ l.image ≠ image then no stBadParam rcDiagFwFragment
    else
      let h := if h.boot.load.isSome then h else putImage image invalidImage h
      let l := { l with received := tset l.received i (slice p 16 (u32 p 8)), prefer := bit (u8 p 13) 0 }
      if l.received.length < n then .ok { h with boot := { h.boot with load := some l } } (fwBytes (fwReceived l) image 0 0 (zeros 8))
      else .accepted { h with boot := { h.boot with load := some { l with verifying := true } } } .fwLoad

def cmdDiagFwLoad : Cmd := { row := rowDiagFwLoad, reserved := [(14, 2)], reservedBits := [(13, 1, 0xFE)], body := fun c p h => diagFwLoad c p h }

/-- DIAG.FW_LOAD. -/
def execDiagFwLoad (c : Call) (p : List Byte) : State → Host.Outcome State Fault Refusal := lift (runCmd cmdDiagFwLoad c p)

/-- FW_LOAD_VERIFY_DONE's effect: what the image that the fragments make is found to hold, and whether flash took it (R519, R526,
R527, log 4). -/
def fwVerified (image : FlashImage) (flashOk : Bool) (h : Hw) : Hw :=
  match h.boot.load with
  | none => h
  | some l =>
    if l.verifying = false then h
    else
      let h := { h with boot := { h.boot with load := none } }
      if flashOk = false then complete .fwLoad stInternal rcDiagFwFlash [] h
      else if (image.firstStageOk && image.firmwareOk) = false then complete .fwLoad stAuthFailed rcDiagFwSignature [] h
      else
        let h := putImage l.image { image with bytes := (l.received.map (fun e => e.2)).flatten } h
        let h := if l.prefer then { h with boot := { h.boot with preferred := l.image } } else h
        complete .fwLoad stOk 0 (fwBytes l.total l.image 1 image.compat image.hash) h

/-- FW_LOAD_VERIFY_DONE (R526). -/
def execFwLoadVerifyDone (image : FlashImage) (flashOk : Bool) : State → Host.Outcome State Fault Refusal := lift (fwVerified image flashOk)

end Sys2Proof.Machine
end

