-- ==== Sys2Proof/Machine/Module.lean ====
section
/-! DEFINITION. Packets, principals, sessions and transports: steps 1 to 3 of R469, the MOD commands, BAR0 and the rings (R466 to R478, R493 to R498). -/
namespace Sys2Proof.Machine

/-! ### MOD commands (R36, R473, R498) -/

/-- The stepping, B1 (R12). -/
def stepping : Nat := 0xB1

/-- MOD.IDENTIFY's payload. In SNOWDROP no image runs: the level and the image are free (log 3). -/
def identifyBytes (h : Hw) : List Byte :=
  let snow : Bool := h.mode == .snowdrop
  let image := flashImage h.boot.running h
  le 1 h.variant ++ le 1 stepping ++ le 2 (if snow then Config.freeNat h.free % 65536 else image.compat) ++ le 2 h.moduleId
  ++ le 1 (if snow then Config.freeNat (h.free + 1) % 2 else h.boot.running) ++ zeros 1 ++ le 8 h.serial ++ slice (if snow then h.boot.snowHash else image.hash) 0 16

/-- MOD.IDENTIFY. -/
def modIdentify (h : Hw) : CmdResult := .ok (if h.mode = .snowdrop then drawn (drawn h) else h) (identifyBytes h)

def cmdModIdentify : Cmd := { row := rowModIdentify, body := fun _ _ h => modIdentify h }

/-- The state of a target code of MOD.SET_STATE. -/
def targetMode : Nat → Option ModState
  | 5 => some .ready
  | 6 => some .serving
  | 7 => some .test
  | _ => none

/-- MOD.SET_STATE (R36, R498). -/
def modSetState (p : List Byte) (h : Hw) : CmdResult :=
  match targetMode (u8 p 0) with
  | none => no stBadParam rcModTarget
  | some m =>
    if m = h.mode then done h
    else if inService m && !mayServe h then .refuse stStateRefused rcTimeServeNotLocked (servePayload h)
    else done (changeState m 0 h)

def cmdModSetState : Cmd := { row := rowModSetState, reserved := [(1, 3)], body := fun _ p h => modSetState p h }

/-- The principals: the holder of the CVK once slot 4 is in use, and the access section while a Bloom is valid (R470). -/
def principal (n : Nat) (h : Hw) : Option PrincipalConfig :=
  if n = 0xFFFF then (if (keySlot 4 h).state = 0 then none else some { number := 0xFFFF, privilege := 3, scope := none })
  else h.cfg.bloom.bind (fun b => b.access.find? (fun p => p.number == n))

/-- A session whose idle timeout has passed (R473). -/
def idleOut (s : Session) (h : Hw) : Bool := decide (s.timeout * secUnit ≤ h.time.mono - s.usedAt)

/-- Sessions that have not ended. -/
def liveSessions (h : Hw) : List Session := h.cmd.sessions.filter (fun s => !idleOut s h)

/-- The first number from a free one on that no session has; never 0 nor the pairing link's. -/
def freshSession (h : Hw) : Nat :=
  let at_ (i : Nat) : Nat := (Config.freeNat h.free + i) % (2 ^ 32 - 2) + 1
  at_ (((List.range 33).find? (fun i => !h.cmd.sessions.any (fun s => s.number == at_ i))).getD 0)

/-- "session" (R473). -/
def sessionLabel : List Byte := [0x73#8, 0x65#8, 0x73#8, 0x73#8, 0x69#8, 0x6F#8, 0x6E#8]

/-- MOD.SESSION_OPEN: the module's nonce, its ephemeral key, and the session key of both sides (R473). -/
def modSessionOpen (c : Call) (p : List Byte) (h : Hw) : CmdResult :=
  let timeout := if u32 p 4 = 0 then 600 else u32 p 4
  match principal (u16 p 0) h with
  | none => no stDenied rcModPrincipal
  | some who =>
    if who.privilege < u8 p 2 then no stDenied rcModPrivilege
    else if timeout < 10 ∨ 3600 < timeout then no stBadParam rcModTarget
    else
      let h := { h with cmd := { h.cmd with sessions := liveSessions h } }
      if 32 ≤ h.cmd.sessions.length then no stBusy rcModSessionLimit
      else
        let n := freshSession h
        let h := drawn h
        let nonce := randomBytes 32 h
        let secret := randomBytes 66 (drawn h)
        let eph := slice (Config.publicKey secret) 0 133
        let shared := slice (Config.ecdh secret (slice p 40 133)) 0 66
        let s : Session :=
          { number := n, principal := u16 p 0, privilege := u8 p 2, scope := who.scope, via := c.via, timeout := timeout, usedAt := h.time.mono
            key := slice (Config.hkdf (slice p 8 32 ++ nonce) shared (sessionLabel ++ le 4 n) 64) 0 64 }
        .ok (drawn <| drawn { h with cmd := { h.cmd with sessions := h.cmd.sessions ++ [s] } }) (le 4 n ++ zeros 4 ++ nonce ++ eph ++ zeros 3)

def cmdModSessionOpen : Cmd := { row := rowModSessionOpen, reserved := [(3, 1), (173, 3)], body := fun c p h => modSessionOpen c p h }

/-- MOD.SESSION_CLOSE (R498). -/
def modSessionClose (c : Call) (p : List Byte) (h : Hw) : CmdResult :=
  let n := if u32 p 0 = 0 then c.hdr.session else u32 p 0
  if (liveSessions h).any (fun s => s.number == n) then done { h with cmd := { h.cmd with sessions := h.cmd.sessions.filter (fun s => s.number != n) } }
  else no stAuthFailed rcModSession

def cmdModSessionClose : Cmd := { row := rowModSessionClose, body := fun c p h => modSessionClose c p h }

/-! ### The catalogue (R506, R508 to R511) -/

/-- Every command of the catalogue. -/
def allCmds : List Cmd :=
  [cmdModIdentify, cmdModSetState, cmdModSessionOpen, cmdModSessionClose, cmdModReset]
  ++ [cmdCfgStatus, cmdCfgLoad, cmdCfgSwap, cmdCfgSwapCancel, cmdCfgFnEnable, cmdCfgCheck]
  ++ [cmdTimeStatus, cmdTimeRead, cmdTimeSet, cmdTimeProfile, cmdTimeTeuConfig, cmdTimeTeuStop, cmdTimeCaptureRead,
    cmdTimeServoSet, cmdTimeSetIncrement, cmdTimePortSet, cmdTimeIoDelaySet]
  ++ [cmdRtcStatus, cmdRtcSet, cmdRtcClearOsf, cmdRtcCapture, cmdRtcShift, cmdRtcAlarmSet, cmdRtcWakeSet, cmdRtcSqwSet,
    cmdRtcDisciplineSet]
  ++ [cmdIngestStatus, cmdIngestStreamStatus, cmdIngestPortCounters, cmdIngestRowRead, cmdIngestBlock, cmdIngestSimSet,
    cmdIngestStreamTune]
  ++ [cmdSpecStatus, cmdSpecSet, cmdSpecTune]
  ++ [cmdLoopStatus, cmdLoopProfile, cmdLoopReset, cmdLoopMemoryRead, cmdLoopTune]
  ++ [cmdFiltStatus, cmdFiltStart, cmdFiltStop, cmdFiltProfile, cmdFiltThresholdSet, cmdFiltRead, cmdFiltStageSet,
    cmdFiltCoefLoad]
  ++ [cmdAcqStatus, cmdAcqLinkStatus, cmdAcqArm, cmdAcqStop, cmdAcqTrigger, cmdAcqRecordRead, cmdAcqRecordLock, cmdAcqProfile,
    cmdAcqCaptureSet, cmdAcqMaskSet, cmdAcqLinkSet]
  ++ [cmdPhasorStatus, cmdPhasorStreamSet, cmdPhasorRead, cmdPhasorTune]
  ++ [cmdLocStatus, cmdLocResultRead, cmdLocArrivalRead, cmdLocArrivalSubmit, cmdLocLineSet]
  ++ [cmdFabricStatus, cmdFabricProfile, cmdFabricTune]
  ++ [cmdBudgetStatus, cmdBudgetSet, cmdBudgetThresholds, cmdBudgetForce]
  ++ [cmdSliceStatus, cmdSliceQuiesce, cmdSliceResume, cmdSliceReset, cmdSliceProfile, cmdSliceLimits]
  ++ [cmdCycleStatus, cmdCycleStart, cmdCycleStop, cmdCycleStationStatus, cmdCycleRead, cmdCycleProfile, cmdCycleWrite,
    cmdCycleTune, cmdCycleForce]
  ++ [cmdNetStatus, cmdNetPortStatus, cmdNetNodeRead, cmdNetMirrorSet, cmdNetMirrorRead, cmdNetPortEnable, cmdNetTune,
    cmdNetAgeingSet]
  ++ [cmdPairStatus, cmdPairSwitch, cmdPairStageRead, cmdPairTune]
  ++ [cmdConstStatus, cmdConstPeerRead, cmdConstManifestLoad, cmdConstManifestRead, cmdConstTune]
  ++ [cmdKeyStatus, cmdKeyInfo, cmdKeyPublicRead, cmdKeyDerive, cmdKeyImport, cmdKeyStage, cmdKeyVerify, cmdKeyCommit,
    cmdKeyAbandon, cmdKeyInvalidate, cmdKeyAttest, cmdKeyAedgenUpdate, cmdKeyKatRun]
  ++ [cmdLupinStatus, cmdLupinSnapshotRead, cmdLupinLogRead, cmdLupinIdentity, cmdLupinUpdateOffer]
  ++ [cmdEvrStatus, cmdEvrRead, cmdEvrSavedRead, cmdEvrMark]
  ++ [cmdDiagStatus, cmdDiagFaultRead, cmdDiagSelftest, cmdDiagQuarantine, cmdDiagInject, cmdDiagFwLoad]

/-- The command of an opcode. -/
def cmdOf (opcode : Nat) : Option Cmd := allCmds.find? (fun m => m.row.opcode == opcode)

/-! ### Steps 1 to 3 of R469 -/

/-- A transport delivers packets: SNOWDROP to TEST, without a power-fail (R501, R569). -/
def transportsLive (h : Hw) : Bool := legal 0x00F8 h && !h.power.powerFail

/-- The trailer a header calls for (R467). -/
def trailerLength (x : Header) : Nat := if !bit x.flags 1 then 0 else if x.session = 0 then 132 else 32

/-- Step 1: version, flags, reserved fields and lengths (R466, R469, R477). -/
def step1 (via : Transport) (x : Packet) (h : Hw) : Option (Nat × Nat) :=
  let size := 32 + x.params.length + x.trailer
  if (x.hdr.version ≠ 1 ∧ x.hdr.version ≠ 2) ∨ bit x.hdr.flags 0 ∨ 16 ≤ x.hdr.flags ∨ x.hdr.reserved ≠ 0 then some (stBadParam, rcModVersion)
  else if 65552 < x.hdr.length ∨ x.hdr.length ≠ x.params.length ∨ x.trailer ≠ trailerLength x.hdr ∨ (via = .pairing ∧ 4096 < size) then some (stBadLength, rcModLength)
  else if via = .pcie ∧ 2 ^ (12 + h.cmd.cmdRing.slotShift) < size then some (stBadLength, rcModSlot)
  else none

/-- Whose sequence a packet advances (R474). -/
inductive SeqOf where
  | none
  | session (n : Nat)
  | signed (principal : Nat)
  | partner
  deriving DecidableEq, Repr

/-- What step 2 finds: the authority a packet carries. -/
structure Authority where
  principal : Nat := 0xFFFF
  privilege : Nat := 0
  scope : Option Nat := none
  /-- Key of the reply's HMAC, for a packet with a session number. -/
  key : List Byte := []
  seq : SeqOf := .none
  deriving DecidableEq, Repr

/-- A MOD.SESSION_OPEN whose parameters name no principal: refused before the trailer is looked at (R469, R473). -/
def strangerOpens (x : Packet) (h : Hw) : Bool := x.hdr.opcode == 0x0103 && (principal (u16 x.params 0) h).isNone

/-- A packet on the pairing link: HMAC under the pair key, privilege READ (R477). -/
def authPairing (x : Packet) (h : Hw) : Except (Nat × Nat) Authority :=
  if x.hdr.session ≠ 0xFFFFFFFF then .error (stAuthFailed, rcModSession)
  else if strangerOpens x h then .error (stDenied, rcModPrincipal)
  else if x.hdr.opcode = 0x0103 ∨ x.verifies = false ∨ ((pairOf h).bind (fun s => s.key)).elim true (fun k => !keyUsable k h) then .error (stAuthFailed, rcModAuth)
  else .ok { seq := .partner, key := ((pairOf h).bind (fun s => s.key)).elim [] (fun k => macValue k h) }

/-- A signed packet: its signer is a principal; for MOD.SESSION_OPEN the one its parameters name (R467, R469, R470). -/
def authSigned (x : Packet) (h : Hw) : Except (Nat × Nat) Authority :=
  let isOpen : Bool := x.hdr.opcode == 0x0103
  let n := if isOpen then u16 x.params 0 else x.signer
  match principal n h with
  | none => if isOpen then .error (stDenied, rcModPrincipal) else .error (stAuthFailed, rcModAuth)
  | some who =>
    if x.verifies = false ∨ x.signer ≠ n then .error (stAuthFailed, rcModAuth)
    else .ok { principal := n, privilege := who.privilege, scope := who.scope, seq := .signed n }

/-- A session packet: the session is known on this transport (R467, R473). -/
def authSession (via : Transport) (x : Packet) (h : Hw) : Except (Nat × Nat) Authority :=
  match (liveSessions h).find? (fun s => s.number == x.hdr.session) with
  | none => .error (stAuthFailed, rcModSession)
  | some s =>
    if s.via ≠ via then .error (stAuthFailed, rcModSession)
    else if strangerOpens x h then .error (stDenied, rcModPrincipal)
    else if x.verifies = false ∨ x.hdr.opcode = 0x0103 then .error (stAuthFailed, rcModAuth)
    else .ok { principal := s.principal, privilege := s.privilege, scope := s.scope, key := s.key, seq := .session s.number }

/-- Step 2 (R469). MOD.IDENTIFY alone needs no authentication. -/
def step2 (via : Transport) (x : Packet) (h : Hw) : Except (Nat × Nat) Authority :=
  if bit x.hdr.flags 1 = false then (if x.hdr.opcode = 0x0101 then .ok {} else .error (stAuthFailed, rcModAuthRequired))
  else if via = .pairing then authPairing x h
  else if x.hdr.session = 0 then authSigned x h
  else authSession via x h

/-- The signed-packet rule of R474: later than the last one, and within 30 s of station time unless the class is 7. The
SEC field holds 32 bits, so the distance is taken modulo 2^32 s. -/
def signedRule (last : Option Nat) (seq : Nat) (h : Hw) : Bool :=
  let span := 2 ^ 96
  let d := (seq * 2 ^ 32 + span - h.time.now % span) % span
  last.elim true (fun l => decide (l < seq)) && (timeClass h == 7 || decide (d ≤ 30 * secUnit) || decide (span - d ≤ 30 * secUnit))

/-- Step 3: the sequence passes (R474). -/
def seqOk (k : SeqOf) (seq : Nat) (h : Hw) : Bool :=
  match k with
  | .none => true
  | .session n => h.cmd.sessions.all (fun s => s.number != n || s.last.elim true (fun l => decide (l < seq)))
  | .signed p => signedRule (tfind h.cmd.lastSigned p) seq h
  | .partner => signedRule h.cmd.lastPartner seq h

/-- A packet that passes step 3 advances the sequence, and the session's idle time starts anew (R473, R474). -/
def seqTake (k : SeqOf) (seq : Nat) (h : Hw) : Hw :=
  match k with
  | .none => h
  | .session n => { h with cmd := { h.cmd with sessions := h.cmd.sessions.map (fun s => if s.number = n then { s with last := some seq, usedAt := h.time.mono } else s) } }
  | .signed p => { h with cmd := { h.cmd with lastSigned := tset h.cmd.lastSigned p seq } }
  | .partner => { h with cmd := { h.cmd with lastPartner := some seq } }

/-- A refusal at step 1 or 2: no trailer, no payload and no mask (R468). -/
def rejectPacket (via : Transport) (x : Packet) (st rc : Nat) (h : Hw) : Hw :=
  let h := publish h
  sendReply via { replyOf { hdr := x.hdr, via := via } st rc 0 [] h with trailer := .none } h

/-- Steps 4 to 9, the effect and the reply; a MOD.RESET then enters BOOT. -/
def execute (via : Transport) (x : Packet) (a : Authority) (h : Hw) : Hw :=
  let c : Call := { hdr := x.hdr, via := via, principal := a.principal, privilege := a.privilege, scope := a.scope, key := a.key, crypto := x.crypto }
  match cmdOf x.hdr.opcode with
  | none => answer c 0 stUnknownOpcode rcModOpcode [] h
  | some m => bootIfDue (runCmd m c x.params h)

/-- The transport is PCIe, or TLS on port 11 (R471). -/
def onBoard (via : Transport) (h : Hw) : Bool :=
  match via with
  | .pcie => true
  | .tls n => h.cmd.tls.any (fun t => t.number == n && t.onPort11)
  | .pairing => false

/-- The import of the first CVK that R471 admits. -/
def firstCvk (via : Transport) (x : Packet) (h : Hw) : Bool :=
  h.mode == .idle && onBoard via h && x.hdr.opcode == 0x1105 && bit x.hdr.flags 1 && x.hdr.session == 0 && x.selfVerifies
  && seqOk (.signed 0xFFFF) x.hdr.sequence h
  && u32 x.params 0 == handleOf 3 (keySlot 3 h) && u8 x.params 4 == 4 && slice x.params 212 (u16 x.params 6) == configLabel

/-- A packet while slot 4 is FREE (R470, R471). -/
def unowned (via : Transport) (x : Packet) (h : Hw) : Hw :=
  if x.hdr.opcode = 0x0101 then execute via x {} h
  else if firstCvk via x h then execute via x { privilege := 3 } (seqTake (.signed 0xFFFF) x.hdr.sequence h)
  else rejectPacket via x stStateRefused rcModNoCvk h

/-- A packet taken from a transport (R469). -/
def packetRx (via : Transport) (x : Packet) (h : Hw) : Hw :=
  match step1 via x h with
  | some (st, rc) => rejectPacket via x st rc h
  | none =>
    if (keySlot 4 h).state = 0 then unowned via x h
    else match step2 via x h with
    | .error (st, rc) => rejectPacket via x st rc h
    | .ok a =>
      if seqOk a.seq x.hdr.sequence h then execute via x a (seqTake a.seq x.hdr.sequence h)
      else answer { hdr := x.hdr, via := via, key := a.key } 0 stReplay rcModReplay [] h

/-- The transport can deliver a packet: a TLS connection is open (R476, R501). -/
def delivers (via : Transport) (h : Hw) : Bool :=
  transportsLive h && (match via with | .tls n => h.cmd.tls.any (fun t => t.number == n) | _ => true)

/-- COMMAND_PACKET_RX (R469). -/
def execCommandPacketRx (via : Transport) (x : Packet) : State → Host.Outcome State Fault Refusal :=
  liftAll (fun h => onlyIf (delivers via h) (packetRx via x) h)

/-- PAIRING_PACKET_RX (R477). -/
def execPairingPacketRx (x : Packet) : State → Host.Outcome State Fault Refusal :=
  liftAll (fun h => onlyIf (delivers .pairing h) (packetRx .pairing x) h)

/-! ### The rings (R475, R495) -/

/-- A DMA fault on the command ring. -/
def cmdRingFault (h : Hw) : Hw := setIrq irqRingError { h with cmd := { h.cmd with cmdRing := { h.cmd.cmdRing with enable := false } } }

/-- A DMA fault on the response ring. -/
def rspRingFault (h : Hw) : Hw := setIrq irqRingError { h with cmd := { h.cmd with rspRing := { h.cmd.rspRing with enable := false } } }

/-- The command ring holds a packet that the module may take (R475). -/
def mayTake (h : Hw) : Bool :=
  transportsLive h && h.cmd.cmdRing.enable && h.cmd.cmdRing.cons != h.cmd.cmdRing.prod && rspRoom h && h.cmd.waiting.isEmpty

/-- BAR0 takes writes: not without supply, nor in HALTED (R479). -/
def bar0Live (h : Hw) : Bool := !(offline h || h.mode == .halted)

/-- Take the next command slot. A slot that the host's memory does not give is a DMA fault (log 4). -/
def takeOne (h : Hw) : Hw :=
  match tfind h.cmd.slots (h.cmd.cmdRing.cons % ringSlots h.cmd.cmdRing) with
  | none => cmdRingFault h
  | some x =>
    packetRx .pcie x (setIrq irqCmdSpace { h with cmd := { h.cmd with cmdRing := { h.cmd.cmdRing with cons := (h.cmd.cmdRing.cons + 1) % 2 ^ 32 } } })

/-- Take commands in index order while the response ring has room; `fuel` is their number. -/
def takeAll : Nat → Hw → Hw
  | 0, h => h
  | fuel + 1, h => if mayTake h then takeAll fuel (takeOne h) else h

/-- Commands between CMD_CONS and CMD_PROD. -/
def commandsDue (h : Hw) : Nat := (h.cmd.cmdRing.prod + 2 ^ 32 - h.cmd.cmdRing.cons) % 2 ^ 32

def takeCommands (h : Hw) : Hw := takeAll (commandsDue h) h

/-- Replies held back are written while there is room; `fuel` is their number. -/
def postWaiting : Nat → Hw → Hw
  | 0, h => h
  | fuel + 1, h =>
    match h.cmd.waiting with
    | [] => h
    | r :: rest => if rspRoom h then postWaiting fuel (postRsp r { h with cmd := { h.cmd with waiting := rest } }) else h

/-- The module goes on with the rings: replies first, then commands. -/
def runRings (h : Hw) : Hw := takeCommands (postWaiting h.cmd.waiting.length h)

/-- The packets the host has written, from slot `at_` on. -/
def fillSlots : Nat → List (Option Packet) → Hw → Hw
  | _, [], h => h
  | at_, x :: rest, h =>
    let i := at_ % ringSlots h.cmd.cmdRing
    fillSlots (at_ + 1) rest { h with cmd := { h.cmd with slots := match x with | some y => tset h.cmd.slots i y | none => tdel h.cmd.slots i } }

/-- A write of CMD_DOORBELL: the host has filled the slots up to CMD_PROD. With `rspFault` the write of the first reply
meets a DMA fault, and that reply waits. -/
def cmdDoorbell (prod : Nat) (packets : List (Option Packet)) (rspFault : Bool) (h : Hw) : Hw :=
  if bar0Live h = false then h
  else
    let h := fillSlots h.cmd.cmdRing.prod packets h
    let h := { h with cmd := { h.cmd with cmdRing := { h.cmd.cmdRing with prod := prod % 2 ^ 32 } } }
    if rspFault && mayTake h then takeOne (rspRingFault h) else takeCommands h

/-- CMD_DOORBELL_WRITE (R475). -/
def execCmdDoorbellWrite (prod : Nat) (packets : List (Option Packet)) (rspFault : Bool) : State → Host.Outcome State Fault Refusal :=
  liftAll (cmdDoorbell prod packets rspFault)

/-- A write of RSP_DOORBELL: slots are free again. -/
def rspDoorbell (cons : Nat) (h : Hw) : Hw :=
  if bar0Live h = false then h
  else runRings { h with cmd := { h.cmd with rspRing := { h.cmd.rspRing with cons := cons % 2 ^ 32 } } }

/-- RSP_DOORBELL_WRITE (R475). -/
def execRspDoorbellWrite (cons : Nat) : State → Host.Outcome State Fault Refusal := liftAll (rspDoorbell cons)

/-- A ring after a write of its CFG register; a rising ENABLE zeroes the indices (R495). -/
def ringAfter (v : Word64) (r : Ring) : Ring :=
  let r := { r with log2Slots := v.toNat % 16, slotShift := v.toNat / 256 % 16 }
  if v.getLsbD 63 then { r with enable := true, prod := 0, cons := 0 } else r

/-- A configuration within the ranges of R495. -/
def ringOk (r : Ring) : Bool := 2 ≤ r.log2Slots && r.log2Slots ≤ 10 && r.slotShift ≤ 6

/-- A write of CMD_RING_CFG or RSP_RING_CFG (R495). -/
def ringCfg (rsp : Bool) (v : Word64) (h : Hw) : Hw :=
  let r := if rsp then h.cmd.rspRing else h.cmd.cmdRing
  if bar0Live h = false ∨ r.enable then h
  else
    let r := ringAfter v r
    let bad := r.enable && !ringOk r
    let r := if bad then { r with enable := false } else r
    let h := if rsp then { h with cmd := { h.cmd with rspRing := r } } else { h with cmd := { h.cmd with cmdRing := r, slots := [] } }
    if bad then setIrq irqRingError h else runRings h

/-- RING_CFG_WRITE (R495). -/
def execRingCfgWrite (rsp : Bool) (v : Word64) : State → Host.Outcome State Fault Refusal := liftAll (ringCfg rsp v)

/-! ### Interrupts and the other registers (R493, R495, R496) -/

/-- The defined bits of INT_STATUS and INT_ENABLE. -/
def irqBits : Word64 := 0x1F#64

/-- A write of INT_STATUS: ones clear. -/
def intStatusWrite (v : Word64) (h : Hw) : Hw :=
  if bar0Live h then { h with cmd := { h.cmd with intStatus := h.cmd.intStatus &&& ~~~(v &&& irqBits) } } else h

/-- INT_STATUS_WRITE (R496). -/
def execIntStatusWrite (v : Word64) : State → Host.Outcome State Fault Refusal := lift (intStatusWrite v)

/-- A write of INT_ENABLE, which may raise MSI-X vector 0. -/
def intEnableWrite (v : Word64) (h : Hw) : Hw :=
  if bar0Live h = false then h
  else
    let old := h.cmd.intStatus &&& h.cmd.intEnable
    let h := { h with cmd := { h.cmd with intEnable := v &&& irqBits } }
    if old = 0#64 ∧ h.cmd.intStatus &&& h.cmd.intEnable ≠ 0#64 then emit .msix h else h

/-- INT_ENABLE_WRITE (R496). -/
def execIntEnableWrite (v : Word64) : State → Host.Outcome State Fault Refusal := lift (intEnableWrite v)

/-- A write of CMD_RING_BASE or RSP_RING_BASE: bits 11:0 are read-only, and nothing changes while ENABLE is 1 (R495). -/
def ringBase (rsp : Bool) (v : Word64) (h : Hw) : Hw :=
  let r := if rsp then h.cmd.rspRing else h.cmd.cmdRing
  if r.enable then h
  else
    let r := { r with base := v.toNat / 4096 }
    if rsp then { h with cmd := { h.cmd with rspRing := r } } else { h with cmd := { h.cmd with cmdRing := r } }

/-- A write of a BAR0 register by its offset. Read-only and reserved offsets ignore it (R493). -/
def registerWrite (offset : Nat) (v : Word64) (h : Hw) : Hw :=
  if bar0Live h = false then h
  else match offset with
  | 0x0010 => cmdDoorbell (v.toNat % 2 ^ 32) [] false h
  | 0x0018 => rspDoorbell (v.toNat % 2 ^ 32) h
  | 0x0020 => ringBase false v h
  | 0x0028 => ringCfg false v h
  | 0x0030 => ringBase true v h
  | 0x0038 => ringCfg true v h
  | 0x0100 => intStatusWrite v h
  | 0x0108 => intEnableWrite v h
  | 0x0200 => { h with evr := { h.evr with cursor := v } }
  | _ => h

/-- What a read of a BAR0 register returns: the last value written or set by the module; reserved offsets and bits read as
zero (R10, R493 to R496, R554). In HALTED IDENT and STATE alone stay readable (R479), and without supply nothing answers. -/
def registerRead (offset : Nat) (h : Hw) : Option Nat :=
  let c := h.cmd
  let base (r : Ring) : Nat := r.base * 4096
  let cfg (r : Ring) : Nat := r.log2Slots + r.slotShift * 2 ^ 8 + flag r.enable 63
  if offline h ∨ offset % 8 ≠ 0 ∨ 0xFFFF < offset ∨ (h.mode = .halted ∧ 8 < offset) then none
  else some (match offset with
    | 0x0000 => h.variant + stepping * 2 ^ 8 + (if h.mode = .snowdrop then Config.freeNat h.free % 65536 else (flashImage h.boot.running h).compat) * 2 ^ 16 + h.moduleId * 2 ^ 32 + 2 * 2 ^ 48
    | 0x0008 => c.word + c.wordSeq * 2 ^ 32
    | 0x0010 => c.cmdRing.prod + c.cmdRing.cons * 2 ^ 32
    | 0x0018 => c.rspRing.cons + c.rspRing.prod * 2 ^ 32
    | 0x0020 => base c.cmdRing
    | 0x0028 => cfg c.cmdRing
    | 0x0030 => base c.rspRing
    | 0x0038 => cfg c.rspRing
    | 0x0100 => c.intStatus.toNat
    | 0x0108 => c.intEnable.toNat
    | 0x0200 => h.evr.cursor.toNat
    | _ => if 0x1000 ≤ offset ∧ offset < 0x2000 then fld (windowSlot ((offset - 0x1000) / 64) h) (offset % 64) 8 else 0)

/-- EVR_CURSOR_WRITE (R554). -/
def execEvrCursorWrite (v : Word64) : State → Host.Outcome State Fault Refusal := lift (registerWrite 0x0200 v)

/-- RESET_RELEASE (R515): when BOOT ends, commands that the host has placed meanwhile are taken. -/
def execResetRelease (o : BootOutcome) : State → Host.Outcome State Fault Refusal := liftAll (fun h => runRings (resetRelease o h))

/-- REGISTER_WRITE (R493). -/
def execRegisterWrite (offset : Nat) (v : Word64) : State → Host.Outcome State Fault Refusal := liftAll (registerWrite offset v)

/-! ### TLS connections and idle sessions (R361, R473, R476) -/

/-- A TLS connection is accepted: on port 11, or on pair 4 when the Bloom enables it; up to 8. -/
def tlsOpen (n : Nat) (onPort11 : Bool) (h : Hw) : Hw :=
  let allowed := onPort11 || (h.cfg.bloom.map (fun b => b.net.tlsPair4)).getD false
  if transportsLive h && allowed && decide (h.cmd.tls.length < 8) && !h.cmd.tls.any (fun t => t.number == n) then
    { h with cmd := { h.cmd with tls := h.cmd.tls ++ [{ number := n, onPort11 := onPort11 }] } }
  else h

/-- TLS_CONNECTION_OPEN (R476). -/
def execTlsConnectionOpen (n : Nat) (onPort11 : Bool) : State → Host.Outcome State Fault Refusal := lift (tlsOpen n onPort11)

/-- A TLS connection closes, and its sessions end. -/
def tlsClose (n : Nat) (h : Hw) : Hw :=
  { h with cmd := { h.cmd with tls := h.cmd.tls.filter (fun t => t.number != n), sessions := h.cmd.sessions.filter (fun s => decide (s.via ≠ .tls n)) } }

/-- TLS_CONNECTION_CLOSE (R473). -/
def execTlsConnectionClose (n : Nat) : State → Host.Outcome State Fault Refusal := lift (tlsClose n)

/-- SESSION_IDLE_TIMEOUT's effect on session `n`. -/
def sessionIdle (n : Nat) (h : Hw) : Hw :=
  { h with cmd := { h.cmd with sessions := h.cmd.sessions.filter (fun s => s.number != n || !idleOut s h) } }

/-- SESSION_IDLE_TIMEOUT (R473). -/
def execSessionIdleTimeout (n : Nat) : State → Host.Outcome State Fault Refusal := lift (sessionIdle n)

/-- MOD.IDENTIFY. -/
def execModIdentify (c : Call) (p : List Byte) : State → Host.Outcome State Fault Refusal := lift (runCmd cmdModIdentify c p)
/-- MOD.SET_STATE. -/
def execModSetState (c : Call) (p : List Byte) : State → Host.Outcome State Fault Refusal := liftAll (runCmd cmdModSetState c p)
/-- MOD.SESSION_OPEN. -/
def execModSessionOpen (c : Call) (p : List Byte) : State → Host.Outcome State Fault Refusal := lift (runCmd cmdModSessionOpen c p)
/-- MOD.SESSION_CLOSE. -/
def execModSessionClose (c : Call) (p : List Byte) : State → Host.Outcome State Fault Refusal := lift (runCmd cmdModSessionClose c p)

end Sys2Proof.Machine
end

