-- ==== Sys2Proof/Machine/Dispatch.lean ====
section
/-! DEFINITION. From every constructor to its meaning. -/
namespace Sys2Proof.Machine

/-- What a command does to everything but the queue. -/
def exec (i : Instr) (s : State) : Host.Outcome State Fault Refusal :=
  match i with
  | .modIdentify c p => Sys2Proof.Machine.execModIdentify c p s
  | .modSetState c p => Sys2Proof.Machine.execModSetState c p s
  | .modSessionOpen c p => Sys2Proof.Machine.execModSessionOpen c p s
  | .modSessionClose c p => Sys2Proof.Machine.execModSessionClose c p s
  | .modReset c p => Sys2Proof.Machine.execModReset c p s
  | .cfgStatus c p => Sys2Proof.Machine.execCfgStatus c p s
  | .cfgLoad c p => Sys2Proof.Machine.execCfgLoad c p s
  | .cfgSwap c p => Sys2Proof.Machine.execCfgSwap c p s
  | .cfgSwapCancel c p => Sys2Proof.Machine.execCfgSwapCancel c p s
  | .cfgFnEnable c p => Sys2Proof.Machine.execCfgFnEnable c p s
  | .cfgCheck c p => Sys2Proof.Machine.execCfgCheck c p s
  | .timeStatus c p => Sys2Proof.Machine.execTimeStatus c p s
  | .timeRead c p => Sys2Proof.Machine.execTimeRead c p s
  | .timeSet c p => Sys2Proof.Machine.execTimeSet c p s
  | .timeProfile c p => Sys2Proof.Machine.execTimeProfile c p s
  | .timeTeuConfig c p => Sys2Proof.Machine.execTimeTeuConfig c p s
  | .timeTeuStop c p => Sys2Proof.Machine.execTimeTeuStop c p s
  | .timeCaptureRead c p => Sys2Proof.Machine.execTimeCaptureRead c p s
  | .timeServoSet c p => Sys2Proof.Machine.execTimeServoSet c p s
  | .timeSetIncrement c p => Sys2Proof.Machine.execTimeSetIncrement c p s
  | .timePortSet c p => Sys2Proof.Machine.execTimePortSet c p s
  | .timeIoDelaySet c p => Sys2Proof.Machine.execTimeIoDelaySet c p s
  | .rtcStatus c p => Sys2Proof.Machine.execRtcStatus c p s
  | .rtcSet c p => Sys2Proof.Machine.execRtcSet c p s
  | .rtcClearOsf c p => Sys2Proof.Machine.execRtcClearOsf c p s
  | .rtcCapture c p => Sys2Proof.Machine.execRtcCapture c p s
  | .rtcShift c p => Sys2Proof.Machine.execRtcShift c p s
  | .rtcAlarmSet c p => Sys2Proof.Machine.execRtcAlarmSet c p s
  | .rtcWakeSet c p => Sys2Proof.Machine.execRtcWakeSet c p s
  | .rtcSqwSet c p => Sys2Proof.Machine.execRtcSqwSet c p s
  | .rtcDisciplineSet c p => Sys2Proof.Machine.execRtcDisciplineSet c p s
  | .ingestStatus c p => Sys2Proof.Machine.execIngestStatus c p s
  | .ingestStreamStatus c p => Sys2Proof.Machine.execIngestStreamStatus c p s
  | .ingestPortCounters c p => Sys2Proof.Machine.execIngestPortCounters c p s
  | .ingestRowRead c p => Sys2Proof.Machine.execIngestRowRead c p s
  | .ingestBlock c p => Sys2Proof.Machine.execIngestBlock c p s
  | .ingestSimSet c p => Sys2Proof.Machine.execIngestSimSet c p s
  | .ingestStreamTune c p => Sys2Proof.Machine.execIngestStreamTune c p s
  | .specStatus c p => Sys2Proof.Machine.execSpecStatus c p s
  | .specSet c p => Sys2Proof.Machine.execSpecSet c p s
  | .specTune c p => Sys2Proof.Machine.execSpecTune c p s
  | .loopStatus c p => Sys2Proof.Machine.execLoopStatus c p s
  | .loopProfile c p => Sys2Proof.Machine.execLoopProfile c p s
  | .loopReset c p => Sys2Proof.Machine.execLoopReset c p s
  | .loopMemoryRead c p => Sys2Proof.Machine.execLoopMemoryRead c p s
  | .loopTune c p => Sys2Proof.Machine.execLoopTune c p s
  | .filtStatus c p => Sys2Proof.Machine.execFiltStatus c p s
  | .filtStart c p => Sys2Proof.Machine.execFiltStart c p s
  | .filtStop c p => Sys2Proof.Machine.execFiltStop c p s
  | .filtProfile c p => Sys2Proof.Machine.execFiltProfile c p s
  | .filtThresholdSet c p => Sys2Proof.Machine.execFiltThresholdSet c p s
  | .filtRead c p => Sys2Proof.Machine.execFiltRead c p s
  | .filtStageSet c p => Sys2Proof.Machine.execFiltStageSet c p s
  | .filtCoefLoad c p => Sys2Proof.Machine.execFiltCoefLoad c p s
  | .acqStatus c p => Sys2Proof.Machine.execAcqStatus c p s
  | .acqLinkStatus c p => Sys2Proof.Machine.execAcqLinkStatus c p s
  | .acqArm c p => Sys2Proof.Machine.execAcqArm c p s
  | .acqStop c p => Sys2Proof.Machine.execAcqStop c p s
  | .acqTrigger c p => Sys2Proof.Machine.execAcqTrigger c p s
  | .acqRecordRead c p => Sys2Proof.Machine.execAcqRecordRead c p s
  | .acqRecordLock c p => Sys2Proof.Machine.execAcqRecordLock c p s
  | .acqProfile c p => Sys2Proof.Machine.execAcqProfile c p s
  | .acqCaptureSet c p => Sys2Proof.Machine.execAcqCaptureSet c p s
  | .acqMaskSet c p => Sys2Proof.Machine.execAcqMaskSet c p s
  | .acqLinkSet c p => Sys2Proof.Machine.execAcqLinkSet c p s
  | .phasorStatus c p => Sys2Proof.Machine.execPhasorStatus c p s
  | .phasorStreamSet c p => Sys2Proof.Machine.execPhasorStreamSet c p s
  | .phasorRead c p => Sys2Proof.Machine.execPhasorRead c p s
  | .locStatus c p => Sys2Proof.Machine.execLocStatus c p s
  | .locResultRead c p => Sys2Proof.Machine.execLocResultRead c p s
  | .locArrivalRead c p => Sys2Proof.Machine.execLocArrivalRead c p s
  | .locArrivalSubmit c p => Sys2Proof.Machine.execLocArrivalSubmit c p s
  | .phasorTune c p => Sys2Proof.Machine.execPhasorTune c p s
  | .locLineSet c p => Sys2Proof.Machine.execLocLineSet c p s
  | .fabricStatus c p => Sys2Proof.Machine.execFabricStatus c p s
  | .fabricProfile c p => Sys2Proof.Machine.execFabricProfile c p s
  | .budgetStatus c p => Sys2Proof.Machine.execBudgetStatus c p s
  | .budgetSet c p => Sys2Proof.Machine.execBudgetSet c p s
  | .fabricTune c p => Sys2Proof.Machine.execFabricTune c p s
  | .budgetThresholds c p => Sys2Proof.Machine.execBudgetThresholds c p s
  | .budgetForce c p => Sys2Proof.Machine.execBudgetForce c p s
  | .sliceStatus c p => Sys2Proof.Machine.execSliceStatus c p s
  | .sliceQuiesce c p => Sys2Proof.Machine.execSliceQuiesce c p s
  | .sliceResume c p => Sys2Proof.Machine.execSliceResume c p s
  | .sliceReset c p => Sys2Proof.Machine.execSliceReset c p s
  | .sliceProfile c p => Sys2Proof.Machine.execSliceProfile c p s
  | .sliceLimits c p => Sys2Proof.Machine.execSliceLimits c p s
  | .cycleStatus c p => Sys2Proof.Machine.execCycleStatus c p s
  | .cycleStart c p => Sys2Proof.Machine.execCycleStart c p s
  | .cycleStop c p => Sys2Proof.Machine.execCycleStop c p s
  | .cycleStationStatus c p => Sys2Proof.Machine.execCycleStationStatus c p s
  | .cycleRead c p => Sys2Proof.Machine.execCycleRead c p s
  | .cycleProfile c p => Sys2Proof.Machine.execCycleProfile c p s
  | .cycleWrite c p => Sys2Proof.Machine.execCycleWrite c p s
  | .cycleTune c p => Sys2Proof.Machine.execCycleTune c p s
  | .cycleForce c p => Sys2Proof.Machine.execCycleForce c p s
  | .netStatus c p => Sys2Proof.Machine.execNetStatus c p s
  | .netPortStatus c p => Sys2Proof.Machine.execNetPortStatus c p s
  | .netNodeRead c p => Sys2Proof.Machine.execNetNodeRead c p s
  | .netMirrorSet c p => Sys2Proof.Machine.execNetMirrorSet c p s
  | .netMirrorRead c p => Sys2Proof.Machine.execNetMirrorRead c p s
  | .netPortEnable c p => Sys2Proof.Machine.execNetPortEnable c p s
  | .netTune c p => Sys2Proof.Machine.execNetTune c p s
  | .netAgeingSet c p => Sys2Proof.Machine.execNetAgeingSet c p s
  | .pairStatus c p => Sys2Proof.Machine.execPairStatus c p s
  | .pairSwitch c p => Sys2Proof.Machine.execPairSwitch c p s
  | .pairStageRead c p => Sys2Proof.Machine.execPairStageRead c p s
  | .pairTune c p => Sys2Proof.Machine.execPairTune c p s
  | .constStatus c p => Sys2Proof.Machine.execConstStatus c p s
  | .constPeerRead c p => Sys2Proof.Machine.execConstPeerRead c p s
  | .constManifestLoad c p => Sys2Proof.Machine.execConstManifestLoad c p s
  | .constManifestRead c p => Sys2Proof.Machine.execConstManifestRead c p s
  | .constTune c p => Sys2Proof.Machine.execConstTune c p s
  | .keyStatus c p => Sys2Proof.Machine.execKeyStatus c p s
  | .keyInfo c p => Sys2Proof.Machine.execKeyInfo c p s
  | .keyPublicRead c p => Sys2Proof.Machine.execKeyPublicRead c p s
  | .keyDerive c p => Sys2Proof.Machine.execKeyDerive c p s
  | .keyImport c p => Sys2Proof.Machine.execKeyImport c p s
  | .keyStage c p => Sys2Proof.Machine.execKeyStage c p s
  | .keyVerify c p => Sys2Proof.Machine.execKeyVerify c p s
  | .keyCommit c p => Sys2Proof.Machine.execKeyCommit c p s
  | .keyAbandon c p => Sys2Proof.Machine.execKeyAbandon c p s
  | .keyInvalidate c p => Sys2Proof.Machine.execKeyInvalidate c p s
  | .keyAttest c p => Sys2Proof.Machine.execKeyAttest c p s
  | .keyAedgenUpdate c p => Sys2Proof.Machine.execKeyAedgenUpdate c p s
  | .keyKatRun c p => Sys2Proof.Machine.execKeyKatRun c p s
  | .lupinStatus c p => Sys2Proof.Machine.execLupinStatus c p s
  | .lupinSnapshotRead c p => Sys2Proof.Machine.execLupinSnapshotRead c p s
  | .lupinLogRead c p => Sys2Proof.Machine.execLupinLogRead c p s
  | .lupinIdentity c p => Sys2Proof.Machine.execLupinIdentity c p s
  | .lupinUpdateOffer c p => Sys2Proof.Machine.execLupinUpdateOffer c p s
  | .evrStatus c p => Sys2Proof.Machine.execEvrStatus c p s
  | .evrRead c p => Sys2Proof.Machine.execEvrRead c p s
  | .evrSavedRead c p => Sys2Proof.Machine.execEvrSavedRead c p s
  | .evrMark c p => Sys2Proof.Machine.execEvrMark c p s
  | .diagStatus c p => Sys2Proof.Machine.execDiagStatus c p s
  | .diagFaultRead c p => Sys2Proof.Machine.execDiagFaultRead c p s
  | .diagSelftest c p => Sys2Proof.Machine.execDiagSelftest c p s
  | .diagQuarantine c p => Sys2Proof.Machine.execDiagQuarantine c p s
  | .diagInject c p => Sys2Proof.Machine.execDiagInject c p s
  | .diagFwLoad c p => Sys2Proof.Machine.execDiagFwLoad c p s
  | .commandPacketRx via x => Sys2Proof.Machine.execCommandPacketRx via x s
  | .cmdDoorbellWrite prod packets rspFault => Sys2Proof.Machine.execCmdDoorbellWrite prod packets rspFault s
  | .rspDoorbellWrite cons => Sys2Proof.Machine.execRspDoorbellWrite cons s
  | .ringCfgWrite rsp v => Sys2Proof.Machine.execRingCfgWrite rsp v s
  | .intStatusWrite v => Sys2Proof.Machine.execIntStatusWrite v s
  | .intEnableWrite v => Sys2Proof.Machine.execIntEnableWrite v s
  | .evrCursorWrite v => Sys2Proof.Machine.execEvrCursorWrite v s
  | .registerWrite offset v => Sys2Proof.Machine.execRegisterWrite offset v s
  | .tlsConnectionOpen n onPort11 => Sys2Proof.Machine.execTlsConnectionOpen n onPort11 s
  | .tlsConnectionClose n => Sys2Proof.Machine.execTlsConnectionClose n s
  | .sessionIdleTimeout n => Sys2Proof.Machine.execSessionIdleTimeout n s
  | .pairingPacketRx x => Sys2Proof.Machine.execPairingPacketRx x s
  | .cfgLoadCheckDone image signed => Sys2Proof.Machine.execCfgLoadCheckDone image signed s
  | .swapVote region block reason ready => Sys2Proof.Machine.execSwapVote region block reason ready s
  | .swapVoteDeadline => Sys2Proof.Machine.execSwapVoteDeadline s
  | .swapChangeover => Sys2Proof.Machine.execSwapChangeover s
  | .bloomFlashWriteDone => Sys2Proof.Machine.execBloomFlashWriteDone s
  | .svFrameRx port f => Sys2Proof.Machine.execSvFrameRx port f s
  | .rowOpen k => Sys2Proof.Machine.execRowOpen k s
  | .horizonExpiry stream k => Sys2Proof.Machine.execHorizonExpiry stream k s
  | .loopStep n => Sys2Proof.Machine.execLoopStep n s
  | .loopTeuFallback n => Sys2Proof.Machine.execLoopTeuFallback n s
  | .itemDispatch block cell => Sys2Proof.Machine.execItemDispatch block cell s
  | .itemStart block cell => Sys2Proof.Machine.execItemStart block cell s
  | .itemComplete block cell => Sys2Proof.Machine.execItemComplete block cell s
  | .specLinesDrained entry => Sys2Proof.Machine.execSpecLinesDrained entry s
  | .ecallDecide block cell code => Sys2Proof.Machine.execEcallDecide block cell code s
  | .ecallSubmit block cell d => Sys2Proof.Machine.execEcallSubmit block cell d s
  | .ecallDma block cell d => Sys2Proof.Machine.execEcallDma block cell d s
  | .ecallEvr block cell code payload => Sys2Proof.Machine.execEcallEvr block cell code payload s
  | .ecallTime block cell => Sys2Proof.Machine.execEcallTime block cell s
  | .specStore block cell addr mask data => Sys2Proof.Machine.execSpecStore block cell addr mask data s
  | .coreException block cell => Sys2Proof.Machine.execCoreException block cell s
  | .runTimeOverrun block cell => Sys2Proof.Machine.execRunTimeOverrun block cell s
  | .dispatcherTick => Sys2Proof.Machine.execDispatcherTick s
  | .c4WindowEnd n => Sys2Proof.Machine.execC4WindowEnd n s
  | .primeDeadlineExpiry stage ch => Sys2Proof.Machine.execPrimeDeadlineExpiry stage ch s
  | .gooseRepetition sender n => Sys2Proof.Machine.execGooseRepetition sender n s
  | .stageStatusRx status => Sys2Proof.Machine.execStageStatusRx status s
  | .heartbeatSend path => Sys2Proof.Machine.execHeartbeatSend path s
  | .heartbeatRx b => Sys2Proof.Machine.execHeartbeatRx b s
  | .pathSilent path => Sys2Proof.Machine.execPathSilent path s
  | .startupClaimTimeout => Sys2Proof.Machine.execStartupClaimTimeout s
  | .contestTimeout => Sys2Proof.Machine.execContestTimeout s
  | .yieldHoldClear => Sys2Proof.Machine.execYieldHoldClear s
  | .retainSend => Sys2Proof.Machine.execRetainSend s
  | .retainFrameRx f => Sys2Proof.Machine.execRetainFrameRx f s
  | .selftestDue test found => Sys2Proof.Machine.execSelftestDue test found s
  | .beaconSend => Sys2Proof.Machine.execBeaconSend s
  | .beaconRx b => Sys2Proof.Machine.execBeaconRx b s
  | .peerAbsent id => Sys2Proof.Machine.execPeerAbsent id s
  | .timeSuspectHoldExpiry => Sys2Proof.Machine.execTimeSuspectHoldExpiry s
  | .ptpFrameRx port m egress residence => Sys2Proof.Machine.execPtpFrameRx port m egress residence s
  | .ptpMessageSend port k seq => Sys2Proof.Machine.execPtpMessageSend port k seq s
  | .servoMeasurement m => Sys2Proof.Machine.execServoMeasurement m s
  | .serveExitTimeFault => Sys2Proof.Machine.execServeExitTimeFault s
  | .faultReStep => Sys2Proof.Machine.execFaultReStep s
  | .sourceLoss => Sys2Proof.Machine.execSourceLoss s
  | .tdcEdgeCapture input falling code num den => Sys2Proof.Machine.execTdcEdgeCapture input falling code num den s
  | .irigbFrameRx second parityOk utc => Sys2Proof.Machine.execIrigbFrameRx second parityOk utc s
  | .irigbOutSecond => Sys2Proof.Machine.execIrigbOutSecond s
  | .teuEdge k => Sys2Proof.Machine.execTeuEdge k s
  | .rtcAlarmFire a => Sys2Proof.Machine.execRtcAlarmFire a s
  | .rtcWakeFire => Sys2Proof.Machine.execRtcWakeFire s
  | .rtcDisciplinePass => Sys2Proof.Machine.execRtcDisciplinePass s
  | .oscStop stopped => Sys2Proof.Machine.execOscStop stopped s
  | .islandRailDip ns => Sys2Proof.Machine.execIslandRailDip ns s
  | .islandPowerUp => Sys2Proof.Machine.execIslandPowerUp s
  | .vbatSample mv => Sys2Proof.Machine.execVbatSample mv s
  | .vaonRise => Sys2Proof.Machine.execVaonRise s
  | .vaonLoss => Sys2Proof.Machine.execVaonLoss s
  | .vbatChange present => Sys2Proof.Machine.execVbatChange present s
  | .resetRelease o => Sys2Proof.Machine.execResetRelease o s
  | .bootWatchdogExpiry => Sys2Proof.Machine.execBootWatchdogExpiry s
  | .snowdropWatchdogExpiry => Sys2Proof.Machine.execSnowdropWatchdogExpiry s
  | .servingCounterClear => Sys2Proof.Machine.execServingCounterClear s
  | .boardReset => Sys2Proof.Machine.execBoardReset s
  | .railOutOfTolerance rail => Sys2Proof.Machine.execRailOutOfTolerance rail s
  | .powerFail => Sys2Proof.Machine.execPowerFail s
  | .tamper => Sys2Proof.Machine.execTamper s
  | .tamperFuseBlow => Sys2Proof.Machine.execTamperFuseBlow s
  | .keyTableWritten => Sys2Proof.Machine.execKeyTableWritten s
  | .junctionOverTemp tenths => Sys2Proof.Machine.execJunctionOverTemp tenths s
  | .budgetSample temps rails => Sys2Proof.Machine.execBudgetSample temps rails s
  | .blockClockChangeDone n => Sys2Proof.Machine.execBlockClockChangeDone n s
  | .dmaDescriptorDone engine fault => Sys2Proof.Machine.execDmaDescriptorDone engine fault s
  | .sliceQuiesced n => Sys2Proof.Machine.execSliceQuiesced n s
  | .sliceZeroingDone n => Sys2Proof.Machine.execSliceZeroingDone n s
  | .cycleStartEvent c => Sys2Proof.Machine.execCycleStartEvent c s
  | .stationInputRx b => Sys2Proof.Machine.execStationInputRx b s
  | .inputWindowEnd c => Sys2Proof.Machine.execInputWindowEnd c s
  | .cycleBodyEnd c writes => Sys2Proof.Machine.execCycleBodyEnd c writes s
  | .cycleWatchdogExpiry c => Sys2Proof.Machine.execCycleWatchdogExpiry c s
  | .controlCoreException c => Sys2Proof.Machine.execControlCoreException c s
  | .fastSampleDeframed l vals crc hdr => Sys2Proof.Machine.execFastSampleDeframed l vals crc hdr s
  | .filterOutputSample chain => Sys2Proof.Machine.execFilterOutputSample chain s
  | .jesdLinkStateChange l r => Sys2Proof.Machine.execJesdLinkStateChange l r s
  | .jesdSysrefEdge nominal captured far => Sys2Proof.Machine.execJesdSysrefEdge nominal captured far s
  | .jesdAlignDone l => Sys2Proof.Machine.execJesdAlignDone l s
  | .jesdNoSysref l => Sys2Proof.Machine.execJesdNoSysref l s
  | .triggerArrival n => Sys2Proof.Machine.execTriggerArrival n s
  | .gatherWindowEnd n => Sys2Proof.Machine.execGatherWindowEnd n s
  | .capturePostComplete n => Sys2Proof.Machine.execCapturePostComplete n s
  | .captureCommitDone capture => Sys2Proof.Machine.execCaptureCommitDone capture s
  | .autoTimeout n => Sys2Proof.Machine.execAutoTimeout n s
  | .crossTriggerRx m => Sys2Proof.Machine.execCrossTriggerRx m s
  | .locatorArrivalFound n r source => Sys2Proof.Machine.execLocatorArrivalFound n r source s
  | .arrivalRecordRx b authentic => Sys2Proof.Machine.execArrivalRecordRx b authentic s
  | .partnerWaitExpiry n => Sys2Proof.Machine.execPartnerWaitExpiry n s
  | .heldRecordExpiry n => Sys2Proof.Machine.execHeldRecordExpiry n s
  | .synchrophasorFrameSend n => Sys2Proof.Machine.execSynchrophasorFrameSend n s
  | .c37118CommandRx n cmd => Sys2Proof.Machine.execC37118CommandRx n cmd s
  | .ethFrameRx port bs fcsOk => Sys2Proof.Machine.execEthFrameRx port bs fcsOk s
  | .pauseFrameRx port quanta => Sys2Proof.Machine.execPauseFrameRx port quanta s
  | .pauseSend port => Sys2Proof.Machine.execPauseSend port s
  | .pauseResend port => Sys2Proof.Machine.execPauseResend port s
  | .frameAgeingScan => Sys2Proof.Machine.execFrameAgeingScan s
  | .txUnderrun port => Sys2Proof.Machine.execTxUnderrun port s
  | .startStepDecay port => Sys2Proof.Machine.execStartStepDecay port s
  | .portLinkChange port up => Sys2Proof.Machine.execPortLinkChange port up s
  | .prpSupervisionSend => Sys2Proof.Machine.execPrpSupervisionSend s
  | .nodePathTimeout pair mac => Sys2Proof.Machine.execNodePathTimeout pair mac s
  | .prpWindowExpiry pair => Sys2Proof.Machine.execPrpWindowExpiry pair s
  | .hollyhockTapRx own => Sys2Proof.Machine.execHollyhockTapRx own s
  | .hollyhockPeriodSnapshot => Sys2Proof.Machine.execHollyhockPeriodSnapshot s
  | .hollyhockCommit => Sys2Proof.Machine.execHollyhockCommit s
  | .vddLWarning own => Sys2Proof.Machine.execVddLWarning own s
  | .hollyhockUpdateVerify own u => Sys2Proof.Machine.execHollyhockUpdateVerify own u s
  | .hollyhockNoTap => Sys2Proof.Machine.execHollyhockNoTap s
  | .eccError e => Sys2Proof.Machine.execEccError e s
  | .blockError block pll => Sys2Proof.Machine.execBlockError block pll s
  | .dispatcherStall block cell => Sys2Proof.Machine.execDispatcherStall block cell s
  | .dieLinkError region noc replays => Sys2Proof.Machine.execDieLinkError region noc replays s
  | .unplacedSlicePlace => Sys2Proof.Machine.execUnplacedSlicePlace s
  | .hubFatalError source evrRuns pairRuns => Sys2Proof.Machine.execHubFatalError source evrRuns pairRuns s
  | .correctedErrorReport region => Sys2Proof.Machine.execCorrectedErrorReport region s
  | .timeAnchor => Sys2Proof.Machine.execTimeAnchor s
  | .evrQueueRoom => Sys2Proof.Machine.execEvrQueueRoom s
  | .evrSeqFloorWrite => Sys2Proof.Machine.execEvrSeqFloorWrite s
  | .pauseHoldExpiry port => Sys2Proof.Machine.execPauseHoldExpiry port s
  | .frameTransmitEnd port => Sys2Proof.Machine.execFrameTransmitEnd port s
  | .c37118TcpConnection n isOpen => Sys2Proof.Machine.execC37118TcpConnection n isOpen s
  | .slavePathLoss port => Sys2Proof.Machine.execSlavePathLoss port s
  | .hollyhockPowerUp => Sys2Proof.Machine.execHollyhockPowerUp s
  | .tamperRelease => Sys2Proof.Machine.execTamperRelease s
  | .fwLoadVerifyDone image flashOk => Sys2Proof.Machine.execFwLoadVerifyDone image flashOk s

end Sys2Proof.Machine
end

