-- ==== Sys2Proof/Machine/Idle.lean ====
section
/-! DEFINITION. What one cycle of the TIME clock does while no command waits: 2 ns pass (R27, R30, R69, R549). -/
namespace Sys2Proof.Machine

/-- The station-time counter runs (R33, R479, R524); in HALTED with the pairing engine, whose heartbeats follow it (R372, log 2). -/
def stationRuns (h : Hw) : Bool :=
  h.mode == .boot || h.mode == .idle || h.mode == .ready || h.mode == .serving || h.mode == .test || (h.mode == .halted && !h.pair.stopped)

/-- A TIME cycle: station time advances by INC, the recorder's queue drains by one part of a record, pulses whose width has
passed end, and the oscillator moves on. -/
def timeCycle (h : Hw) : Hw :=
  let now := if stationRuns h then h.time.now + h.time.inc else h.time.now
  let phase := h.rtc.phase + 128
  let h := endPulses { h with
    time := { h.time with now := now, mono := h.time.mono + nsUnits 2 }
    evr := { h.evr with backlog := h.evr.backlog - 1 }
    rtc := { h.rtc with phase := phase % edgeCycles } }
  if edgeCycles ≤ phase then rtcEdge h else h

/-- A step on an empty queue. -/
def idle : State → Host.Outcome State Fault Refusal := lift timeCycle

end Sys2Proof.Machine
end

