-- ==== Sys2Proof/Safety.lean ====
section
/-! DEFINITION. The terms in which claims speak of steps: a command that runs to an effect, a reply, a refusal, and what a settled state is. -/
namespace Sys2Proof.Machine

/-- The command `i` answers a next state: the hardware becomes `g`, settled; the queue is as it was. -/
def Runs (i : Instr) (s : State) (g : Hw) : Prop := exec i s = .next { s with hw := settle g }

/-- As `Runs`, after the other units have taken what the effect `g` left for them. -/
def RunsAll (i : Instr) (s : State) (g : Hw) : Prop := Runs i s (consume g)

/-- ST_OK with a payload, over the effect `g` (R468). -/
def okReply (m : Cmd) (c : Call) (pay : List Byte) (g : Hw) : Hw := answer c m.row.mask stOk 0 pay g

/-- The completion that a command owes is noted (R478, R512). -/
def owing (m : Cmd) (c : Call) (k : CompletionKind) (g : Hw) : Hw :=
  { g with cmd := { g.cmd with owed := g.cmd.owed ++ [{ call := c, mask := m.row.mask, kind := k }] } }

/-- ST_ACCEPTED over the effect `g`, with a completion of kind `k` owed (R512). -/
def acceptReply (m : Cmd) (c : Call) (k : CompletionKind) (g : Hw) : Hw := answer c m.row.mask stAccepted 0 [] (owing m c k g)

/-- A refusal with its status, reason and reason payload, over the hardware as it is (R469). -/
def refusal (m : Cmd) (c : Call) (st rc : Nat) (pay : List Byte) (g : Hw) : Hw := answer c m.row.mask st rc pay g

/-- The command passes steps 4 to 9 of R469 up to its own chapter. -/
abbrev Passes (m : Cmd) (c : Call) (p : List Byte) (s : State) : Prop := gate m c p s.hw = none

/-- STATE shows the state word (R494). -/
def published (h : Hw) : Prop := h.cmd.word = stateWord h

/-- The ball SQW_TRIGOUT3 belongs to the owner that R80 gives it, and has the level of its owner, or low at a change (R81). -/
def ballSettled (h : Hw) : Prop := h.rtc.sqwOwner = sqwOwnerOf h ∧ h.rtc.sqwBall = trigOut3Level h

end Sys2Proof.Machine
end

