-- ==== Sys2Proof/Certificates/Slice0/Obligations.lean ====
section
/-! DEFINITION. The statements for the provers, by chapter of the spec. -/
open Sys2Proof Sys2Proof.Machine

/-- A step takes the command at the front of the queue and runs it with the rest of the queue. -/
def Obligations.StepRunsTheFront : Prop :=
  ∀ (c : Instr) (rest : List Instr) (h : Hw), step { pending := c :: rest, hw := h } = exec c { pending := rest, hw := h }

/-- What an empty queue does is the model's choice (log 2): one cycle of the TIME clock, 2 ns. -/
def Obligations.IdleStepIsOneTimeCycle : Prop :=
  ∀ h : Hw,
    let t : Hw := { h with
      time := { h.time with now := (if stationRuns h then h.time.now + h.time.inc else h.time.now), mono := h.time.mono + 2 * 2 ^ 64 / 1000000000 }
      evr := { h.evr with backlog := h.evr.backlog - 1 }
      rtc := { h.rtc with phase := (h.rtc.phase + 128) % 1953125 } }
    (h.rtc.phase + 128 < 1953125 → step { pending := [], hw := h } = .next { pending := [], hw := settle (endPulses t) })
    ∧ (1953125 ≤ h.rtc.phase + 128 → step { pending := [], hw := h } = .next { pending := [], hw := settle (rtcEdge (endPulses t)) })

/-- No step stops, and a queue of n commands is worked off, first in first out, in n steps. -/
def Obligations.TheQueueIsWorkedOff : Prop :=
  (∀ s : State, ∃ t : State, step s = .next t ∧ t.pending = s.pending.tail)
  ∧ ∀ (n : Nat) (s : State), s.pending.length ≤ n → ∃ t : State, Sys2Proof.core.run n s = .next t ∧ t.pending = []

/-- The invariant of every settled state: the word published in BAR0 is the state word, and the ball is settled. -/
def Obligations.EveryStepPublishesTheStateWord : Prop :=
  ∀ s t : State, step s = .next t → published t.hw ∧ ballSettled t.hw

/-- The reset state, field by field, where the spec gives a value. -/
def Obligations.ResetLeavesTheModuleInBoot : Prop :=
  let h := State.reset.hw
  State.reset.pending = [] ∧ h.mode = .boot ∧ h.cmd.word = 2 ∧ h.cmd.wordSeq = 0
  ∧ h.cmd.intStatus = 0#64 ∧ h.cmd.intEnable = 0#64 ∧ h.evr.cursor = 0#64
  ∧ (h.cmd.cmdRing.base = 0 ∧ h.cmd.cmdRing.log2Slots = 0 ∧ h.cmd.cmdRing.slotShift = 0 ∧ h.cmd.cmdRing.enable = false ∧ h.cmd.cmdRing.prod = 0 ∧ h.cmd.cmdRing.cons = 0)
  ∧ (h.cmd.rspRing.base = 0 ∧ h.cmd.rspRing.log2Slots = 0 ∧ h.cmd.rspRing.slotShift = 0 ∧ h.cmd.rspRing.enable = false ∧ h.cmd.rspRing.prod = 0 ∧ h.cmd.rspRing.cons = 0)
  ∧ h.cmd.sessions = [] ∧ h.cmd.owed = [] ∧ h.cfg.bloom = none ∧ h.cfg.bud = none ∧ h.cfg.swap = none
  ∧ h.time.servo = .unset ∧ (∀ n, (keySlot n h).state = (if n < 4 then 1 else 0))
  ∧ h.fab.dram = [] ∧ Memory.wf h.fab.dram = true

/-- The frame of a reply and of the settling at the end of a step. -/
def Obligations.RepliesAndSettlingFrame : Prop :=
  (∀ (c : Call) (mask st rc : Nat) (pay : List Byte) (h : Hw),
    let g := answer c mask st rc pay h
    g = { h with
      cmd := { h.cmd with word := g.cmd.word, wordSeq := g.cmd.wordSeq, intStatus := g.cmd.intStatus,
                          rspRing := { h.cmd.rspRing with prod := g.cmd.rspRing.prod }, waiting := g.cmd.waiting }
      out := g.out })
  ∧ ∀ h : Hw,
    let g := settle h
    g = { h with
      cmd := { h.cmd with word := g.cmd.word, wordSeq := g.cmd.wordSeq, intStatus := g.cmd.intStatus }
      rtc := { h.rtc with sqwOwner := g.rtc.sqwOwner, sqwLowUntil := g.rtc.sqwLowUntil, sqwBall := g.rtc.sqwBall }
      net := g.net, free := g.free, out := g.out }

/-- A refusal by the gate answers and changes nothing else. -/
def Obligations.GateRefusalsHaveNoEffect : Prop :=
  ∀ (m : Cmd) (c : Call) (p : List Byte) (h : Hw) (st rc : Nat), gate m c p h = some (st, rc) →
    let g := runCmd m c p h
    g = answer c m.row.mask st rc [] h
    ∧ g = { h with
      cmd := { h.cmd with word := g.cmd.word, wordSeq := g.cmd.wordSeq, intStatus := g.cmd.intStatus,
                          rspRing := { h.cmd.rspRing with prod := g.cmd.rspRing.prod }, waiting := g.cmd.waiting }
      out := g.out }

/-- The eight ways to fail the gate, and the reply each gives when it is the only one. -/
def Obligations.NoCommandPassesAFailedCheck : Prop :=
  ∀ (m : Cmd) (c : Call) (p : List Byte) (h : Hw),
    let version := c.hdr.version = 1 ∧ m.row.aedgen = false
    let length := p.length ≠ paramLength m.row.len p
    let privilege := c.privilege < m.row.priv
    let expert := 0x80 ≤ m.row.opcode % 256 ∧ bit c.hdr.flags 3 = false
    let scope := ∃ n, c.scope = some n ∧ (m.row.sliceScoped = false ∨ c.hdr.slice ≠ n ∨ m.inScope n c p h = false)
    let absent := m.absent c p h = true
    let state := bit m.row.mask (modeCode h.mode) = false
    let reserved := reservedOk m p = false
    (gate m c p h = none ↔ ¬version ∧ ¬length ∧ ¬privilege ∧ ¬expert ∧ ¬scope ∧ ¬absent ∧ ¬state ∧ ¬reserved)
    ∧ (version → gate m c p h = some (0x0050, 0x0107))
    ∧ (¬version → length → ∃ rc, gate m c p h = some (stBadLength, rc))
    ∧ (¬version → ¬length → (privilege ∨ expert ∨ scope) → ∃ rc, gate m c p h = some (stDenied, rc))
    ∧ (¬version → ¬length → ¬privilege → ¬expert → ¬scope → absent → gate m c p h = some (stAbsent, rcModAbsent))
    ∧ (¬version → ¬length → ¬privilege → ¬expert → ¬scope → ¬absent → state → gate m c p h = some (stStateRefused, m.stateReason))
    ∧ (¬version → ¬length → ¬privilege → ¬expert → ¬scope → ¬absent → ¬state → reserved → gate m c p h = some (stBadParam, rcModReserved))

/-- Packets that a transport delivers, with slot 4 in use. -/
def Obligations.PacketsRunInTheOrderOfTheirChecks : Prop :=
  (∀ (via : Transport) (x : Packet) (s : State), delivers via s.hw = true → (keySlot 4 s.hw).state ≠ 0 →
    (∀ st rc, step1 via x s.hw = some (st, rc) → RunsAll (.commandPacketRx via x) s (rejectPacket via x st rc s.hw))
    ∧ (∀ st rc, step1 via x s.hw = none → step2 via x s.hw = .error (st, rc) → RunsAll (.commandPacketRx via x) s (rejectPacket via x st rc s.hw))
    ∧ (∀ a, step1 via x s.hw = none → step2 via x s.hw = .ok a → seqOk a.seq x.hdr.sequence s.hw = false →
        RunsAll (.commandPacketRx via x) s (answer { hdr := x.hdr, via := via, key := a.key } 0 stReplay rcModReplay [] s.hw))
    ∧ (∀ a, step1 via x s.hw = none → step2 via x s.hw = .ok a → seqOk a.seq x.hdr.sequence s.hw = true →
        let c : Call := { hdr := x.hdr, via := via, principal := a.principal, privilege := a.privilege, scope := a.scope, key := a.key, crypto := x.crypto }
        let h := seqTake a.seq x.hdr.sequence s.hw
        (∀ m, cmdOf x.hdr.opcode = some m → RunsAll (.commandPacketRx via x) s (bootIfDue (runCmd m c x.params h)))
        ∧ (cmdOf x.hdr.opcode = none → RunsAll (.commandPacketRx via x) s (answer c 0 0x0050 0x0107 [] h))))
  ∧ (∀ (x : Packet) (s : State), delivers .pairing s.hw = true →
      exec (.pairingPacketRx x) s = exec (.commandPacketRx .pairing x) s)
  ∧ (∀ (x : Packet) (s : State) (m : Cmd) (key : List Byte), delivers .pairing s.hw = true → (keySlot 4 s.hw).state ≠ 0 → step1 .pairing x s.hw = none →
      step2 .pairing x s.hw = .ok { key := key, seq := .partner } → seqOk .partner x.hdr.sequence s.hw = true → cmdOf x.hdr.opcode = some m →
      RunsAll (.pairingPacketRx x) s (bootIfDue (runCmd m { hdr := x.hdr, via := .pairing, privilege := 0, key := key, crypto := x.crypto } x.params
        { s.hw with cmd := { s.hw.cmd with lastPartner := some x.hdr.sequence } })))

/-- What step 2 can give, packet by packet. -/
def Obligations.AuthorityComesFromAuthentication : Prop :=
  ∀ (via : Transport) (x : Packet) (h : Hw) (a : Authority), step2 via x h = .ok a →
    (bit x.hdr.flags 1 = false → x.hdr.opcode = 0x0101 ∧ a.privilege = 0 ∧ a.seq = .none)
    ∧ (bit x.hdr.flags 1 = true → x.verifies = true
      ∧ (via = .pairing → a.privilege = 0 ∧ a.scope = none ∧ a.seq = .partner)
      ∧ (via ≠ .pairing → x.hdr.session = 0 →
          ∃ who, principal a.principal h = some who ∧ a.privilege = who.privilege ∧ a.scope = who.scope ∧ a.principal = x.signer ∧ a.seq = .signed x.signer)
      ∧ (via ≠ .pairing → x.hdr.session ≠ 0 →
          ∃ v, v ∈ h.cmd.sessions ∧ v.number = x.hdr.session ∧ v.via = via ∧ idleOut v h = false
            ∧ a.principal = v.principal ∧ a.privilege = v.privilege ∧ a.scope = v.scope ∧ a.seq = .session v.number))

/-- R474. SEC[31:0] and FRAC of the sequence, in units of 2^-32 s, stand for a station time up to multiples of 2^32 s
(the model's reading, log 44). -/
def Obligations.SequencesAreSpentOnce : Prop :=
  (let rule (last : Option Nat) (seq : Nat) (h : Hw) : Prop :=
      (∀ l, last = some l → l < seq)
      ∧ (timeClass h = 7 ∨ ∃ k : Int, ((seq : Int) * 2 ^ 32 + k * 2 ^ 96 - (h.time.now : Int)).natAbs ≤ 30 * 2 ^ 64)
    ∀ (n seq : Nat) (h : Hw),
      (seqOk (.session n) seq h = true ↔ ∀ v, v ∈ h.cmd.sessions → v.number = n → ∀ l, v.last = some l → l < seq)
      ∧ (seqOk (.signed n) seq h = true ↔ rule (tfind h.cmd.lastSigned n) seq h)
      ∧ (seqOk .partner seq h = true ↔ rule h.cmd.lastPartner seq h))
  ∧ State.reset.hw.cmd.sessions = [] ∧ State.reset.hw.cmd.lastPartner = none ∧ (∀ n, tfind State.reset.hw.cmd.lastSigned n = none)
  ∧ (∀ (n seq : Nat) (h : Hw),
      (∀ v, v ∈ (seqTake (.session n) seq h).cmd.sessions →
        ∃ w, w ∈ h.cmd.sessions ∧ v.number = w.number ∧ v.last = if w.number = n then some seq else w.last)
      ∧ (∀ m, tfind (seqTake (.signed n) seq h).cmd.lastSigned m = if m = n then some seq else tfind h.cmd.lastSigned m)
      ∧ (seqTake .partner seq h).cmd.lastPartner = some seq)
  ∧ (∀ (n seq low : Nat) (h : Hw) (now : Nat), low ≤ seq → (h.cmd.sessions.any (fun v => v.number == n)) = true →
    let g := seqTake (.session n) seq h
    seqOk (.session n) low { g with time := { g.time with now := now } } = false)
  ∧ (∀ (n seq low : Nat) (h : Hw) (now : Nat), low ≤ seq →
    let g := seqTake (.signed n) seq h
    seqOk (.signed n) low { g with time := { g.time with now := now } } = false)
  ∧ (∀ (seq low : Nat) (h : Hw) (now : Nat), low ≤ seq →
    let g := seqTake .partner seq h
    seqOk .partner low { g with time := { g.time with now := now } } = false)

/-- Where the MOD commands complete, and with what effect. -/
def Obligations.ModCommandsComplete : Prop :=
  (∀ (c : Call) (p : List Byte) (s : State), Passes cmdModIdentify c p s → s.hw.mode ≠ .snowdrop →
    let f := if s.hw.boot.running = 0 then s.hw.boot.imageA else s.hw.boot.imageB
    Runs (.modIdentify c p) s (okReply cmdModIdentify c
      (le 1 s.hw.variant ++ le 1 0xB1 ++ le 2 f.compat ++ le 2 s.hw.moduleId ++ le 1 s.hw.boot.running ++ zeros 1 ++ le 8 s.hw.serial ++ slice f.hash 0 16) s.hw))
  ∧ (∀ (c : Call) (p : List Byte) (s : State) (m : ModState), Passes cmdModSetState c p s →
      ((u8 p 0 = 5 ∧ m = .ready) ∨ (u8 p 0 = 6 ∧ m = .serving) ∨ (u8 p 0 = 7 ∧ m = .test)) →
      (m = .ready ∨ m = s.hw.mode ∨ s.hw.time.servo = .locked) →
      RunsAll (.modSetState c p) s (okReply cmdModSetState c [] (if m = s.hw.mode then s.hw else changeState m 0 s.hw)))
  ∧ (∀ (c : Call) (p : List Byte) (s : State) (who : PrincipalConfig), Passes cmdModSessionOpen c p s →
      principal (u16 p 0) s.hw = some who → u8 p 2 ≤ who.privilege → (u32 p 4 = 0 ∨ (10 ≤ u32 p 4 ∧ u32 p 4 ≤ 3600)) →
      (liveSessions s.hw).length < 32 →
      ∃ (v : Session) (nonce secret : List Byte),
        v.principal = u16 p 0 ∧ v.privilege = u8 p 2 ∧ v.scope = who.scope ∧ v.via = c.via ∧ v.last = none ∧ v.usedAt = s.hw.time.mono
        ∧ v.timeout = (if u32 p 4 = 0 then 600 else u32 p 4) ∧ nonce.length = 32
        ∧ v.key = slice (Config.hkdf (slice p 8 32 ++ nonce) (slice (Config.ecdh secret (slice p 40 133)) 0 66) (sessionLabel ++ le 4 v.number) 64) 0 64
        ∧ Runs (.modSessionOpen c p) s (okReply cmdModSessionOpen c (le 4 v.number ++ zeros 4 ++ nonce ++ slice (Config.publicKey secret) 0 133 ++ zeros 3)
            { s.hw with cmd := { s.hw.cmd with sessions := liveSessions s.hw ++ [v] }, free := s.hw.free + 3 }))
  ∧ (∀ (c : Call) (p : List Byte) (s : State), Passes cmdModSessionClose c p s →
      let n := if u32 p 0 = 0 then c.hdr.session else u32 p 0
      ((liveSessions s.hw).any (fun v => v.number == n)) = true →
      Runs (.modSessionClose c p) s (okReply cmdModSessionClose c []
        { s.hw with cmd := { s.hw.cmd with sessions := s.hw.cmd.sessions.filter (fun v => v.number != n) } }))
  ∧ (∀ (c : Call) (p : List Byte) (s : State), Passes cmdModReset c p s → u8 p 0 ≤ 1 → s.hw.mode ≠ .snowdrop →
      RunsAll (.modReset c p) s (enterBoot (saveEvents 1 (abortSwap rcCfgSwapState 0xFF 0xFF 0 (leaveState .boot (okReply cmdModReset c []
        { s.hw with boot := { s.hw.boot with resetDue := true,
                                              oneShot := if u8 p 0 = 1 then some (1 - s.hw.boot.running) else s.hw.boot.oneShot } }))))))

/-- Where the CFG commands complete, and with what effect. -/
def Obligations.CfgCommandsComplete : Prop :=
  (∀ (c : Call) (p : List Byte) (s : State), Passes cmdCfgStatus c p s →
    Runs (.cfgStatus c p) s (okReply cmdCfgStatus c (cfgStatusBytes s.hw) s.hw))
  ∧ (∀ (c : Call) (p : List Byte) (s : State), Passes cmdCfgLoad c p s → s.hw.cfg.swap = none → s.hw.cfg.load = none →
      1 ≤ u32 p 0 → u32 p 0 ≤ 268435456 → u16 p 6 = (u32 p 0 + 65535) / 65536 → u16 p 4 < u16 p 6 →
      u32 p 8 = (if u16 p 4 + 1 < u16 p 6 then 65536 else u32 p 0 - u16 p 4 * 65536) →
      let l : BudLoad := { total := u32 p 0, fragments := u16 p 6, received := [(u16 p 4, slice p 16 (u32 p 8))] }
      (1 < u16 p 6 → Runs (.cfgLoad c p) s (okReply cmdCfgLoad c (zeros 16) { s.hw with cfg := { s.hw.cfg with bud := none, load := some l } }))
      ∧ (u16 p 6 = 1 → Runs (.cfgLoad c p) s (acceptReply cmdCfgLoad c .load
          { s.hw with cfg := { s.hw.cfg with bud := none, load := some { l with checking := true } } })))
  ∧ (∀ (c : Call) (p : List Byte) (s : State) (b : Image), Passes cmdCfgSwap c p s → s.hw.cfg.bud = some b → s.hw.cfg.swap = none →
      (s.hw.mode = .idle → u64 p 0 = 0) →
      (s.hw.mode ≠ .idle → (100 * s.hw.time.now + 2 ^ 64) * fGrid s.hw ≤ u64 p 0 * 100 * 2 ^ 64 ∧ u64 p 0 * 2 ^ 64 ≤ (s.hw.time.now + 86400 * 2 ^ 64) * fGrid s.hw) →
      u64 p 0 * gridHz b.grid % fGrid s.hw = 0 → checkSwap b s.hw = none →
      Runs (.cfgSwap c p) s (acceptReply cmdCfgSwap c .swap { s.hw with cfg := { s.hw.cfg with swap := some { ks := u64 p 0 } } }))
  ∧ (∀ (c : Call) (p : List Byte) (s : State) (w : Swap), Passes cmdCfgSwapCancel c p s → s.hw.cfg.swap = some w → w.committed = false →
      Runs (.cfgSwapCancel c p) s (okReply cmdCfgSwapCancel c [] (abortSwap rcCfgSwapCancelled 0xFF 0xFF 0 s.hw)))
  ∧ (∀ (c : Call) (p : List Byte) (s : State) (b : Image) (f : FnConfig), Passes cmdCfgFnEnable c p s → s.hw.cfg.bloom = some b →
      b.fns.find? (fun f => f.slice == u16 p 0 && f.index == u16 p 2) = some f →
      (u8 p 4 = 0 ∨ (u8 p 4 = 1 ∧ checkImage { b with fns := b.fns.map (fun x => if x = f then { x with enabled := true } else x) } s.hw = none)) →
      let key := u16 p 0 * 65536 + u16 p 2
      Runs (.cfgFnEnable c p) s (okReply cmdCfgFnEnable c (zeros 16) { s.hw with cfg := { s.hw.cfg with
        enables := tset s.hw.cfg.enables key ((s.hw.ing.nextOpen, s.hw.cfg.bloomSeq, u8 p 4 == 1) :: tget s.hw.cfg.enables key []) } }))
  ∧ (∀ (c : Call) (p : List Byte) (s : State) (b : Image), Passes cmdCfgCheck c p s → s.hw.cfg.bud = some b → checkSwap b s.hw = none →
      Runs (.cfgCheck c p) s (okReply cmdCfgCheck c (zeros 16) s.hw))

/-- Writes of BAR0's registers. -/
def Obligations.Bar0WritesComplete : Prop :=
  (∀ (prod : Nat) (l : List (Option Packet)) (s : State), bar0Live s.hw = true →
    let h := fillSlots s.hw.cmd.cmdRing.prod l s.hw
    RunsAll (.cmdDoorbellWrite prod l false) s
      (takeCommands { h with cmd := { h.cmd with cmdRing := { h.cmd.cmdRing with prod := prod % 2 ^ 32 } } }))
  ∧ (∀ (cons : Nat) (s : State), bar0Live s.hw = true →
      RunsAll (.rspDoorbellWrite cons) s (runRings { s.hw with cmd := { s.hw.cmd with rspRing := { s.hw.cmd.rspRing with cons := cons % 2 ^ 32 } } }))
  ∧ (∀ (v : Word64) (s : State), bar0Live s.hw = true → s.hw.cmd.rspRing.enable = false → 2 ≤ v.toNat % 16 → v.toNat % 16 ≤ 10 → v.toNat / 256 % 16 ≤ 6 →
      v.getLsbD 63 = true →
      RunsAll (.ringCfgWrite true v) s (runRings { s.hw with cmd := { s.hw.cmd with
        rspRing := { s.hw.cmd.rspRing with log2Slots := v.toNat % 16, slotShift := v.toNat / 256 % 16, enable := true, prod := 0, cons := 0 } } }))
  ∧ (∀ (rsp : Bool) (v : Word64) (s : State), (if rsp then s.hw.cmd.rspRing else s.hw.cmd.cmdRing).enable = true → RunsAll (.ringCfgWrite rsp v) s s.hw)
  ∧ (∀ (v : Word64) (s : State), bar0Live s.hw = true →
      Runs (.intStatusWrite v) s { s.hw with cmd := { s.hw.cmd with intStatus := s.hw.cmd.intStatus &&& ~~~(v &&& 0x1F#64) } })
  ∧ (∀ (v : Word64) (s : State), bar0Live s.hw = true →
      let g : Hw := { s.hw with cmd := { s.hw.cmd with intEnable := v &&& 0x1F#64 } }
      Runs (.intEnableWrite v) s
        (if s.hw.cmd.intStatus &&& s.hw.cmd.intEnable = 0#64 ∧ s.hw.cmd.intStatus &&& (v &&& 0x1F#64) ≠ 0#64 then { g with out := .msix :: g.out } else g))
  ∧ (∀ (v : Word64) (s : State), bar0Live s.hw = true → RunsAll (.registerWrite 0x0200 v) s { s.hw with evr := { s.hw.evr with cursor := v } })
  ∧ (∀ (v : Word64) (s : State), bar0Live s.hw = true → s.hw.cmd.cmdRing.enable = false →
      RunsAll (.registerWrite 0x0020 v) s { s.hw with cmd := { s.hw.cmd with cmdRing := { s.hw.cmd.cmdRing with base := v.toNat / 4096 } } })
  ∧ (∀ (offset : Nat) (v : Word64) (s : State), bar0Live s.hw = true →
      offset ∉ [0x0010, 0x0018, 0x0020, 0x0028, 0x0030, 0x0038, 0x0100, 0x0108, 0x0200] → RunsAll (.registerWrite offset v) s s.hw)
  ∧ (∀ h : Hw, bar0Live h = true → let c := h.cmd
      registerRead 0x0008 h = some (c.word + c.wordSeq * 2 ^ 32) ∧ registerRead 0x0010 h = some (c.cmdRing.prod + c.cmdRing.cons * 2 ^ 32)
      ∧ registerRead 0x0018 h = some (c.rspRing.cons + c.rspRing.prod * 2 ^ 32) ∧ registerRead 0x0020 h = some (c.cmdRing.base * 4096)
      ∧ registerRead 0x0100 h = some c.intStatus.toNat ∧ registerRead 0x0108 h = some c.intEnable.toNat ∧ registerRead 0x0200 h = some h.evr.cursor.toNat
      ∧ ∀ offset, offset % 8 = 0 → 0x0200 < offset → offset < 0x1000 → registerRead offset h = some 0)
  ∧ ∀ (h : Hw) (offset : Nat), h.mode = .halted → ((registerRead offset h).isSome = true ↔ offset = 0 ∨ offset = 8)

/-- TLS_CONNECTION_OPEN, TLS_CONNECTION_CLOSE and SESSION_IDLE_TIMEOUT. -/
def Obligations.ConnectionsAndSessionsEnd : Prop :=
  (∀ (n : Nat) (on11 : Bool) (s : State), transportsLive s.hw = true → (on11 = true ∨ ∃ b, s.hw.cfg.bloom = some b ∧ b.net.tlsPair4 = true) →
    s.hw.cmd.tls.length < 8 → (∀ t ∈ s.hw.cmd.tls, t.number ≠ n) →
    Runs (.tlsConnectionOpen n on11) s { s.hw with cmd := { s.hw.cmd with tls := s.hw.cmd.tls ++ [{ number := n, onPort11 := on11 }] } })
  ∧ (∀ (n : Nat) (s : State), Runs (.tlsConnectionClose n) s { s.hw with cmd := { s.hw.cmd with
      tls := s.hw.cmd.tls.filter (fun t => t.number != n), sessions := s.hw.cmd.sessions.filter (fun v => decide (v.via ≠ .tls n)) } })
  ∧ (∀ (n : Nat) (s : State), Runs (.sessionIdleTimeout n) s { s.hw with cmd := { s.hw.cmd with
      sessions := s.hw.cmd.sessions.filter (fun v => !(v.number == n && decide (v.timeout * 2 ^ 64 ≤ s.hw.time.mono - v.usedAt))) } })

/-- CFG_LOAD_CHECK_DONE, SWAP_VOTE, SWAP_VOTE_DEADLINE, SWAP_CHANGEOVER and BLOOM_FLASH_WRITE_DONE. -/
def Obligations.LoadAndSwapEventsComplete : Prop :=
  (∀ (b : Image) (s : State) (l : BudLoad), s.hw.cfg.load = some l → l.checking = true →
    let image := withHeader (loadBytes l) b
    image.fingerprint = slice (Config.sha512 (loadBytes l)) 0 16
    ∧ (checkImage image { s.hw with cfg := { s.hw.cfg with load := none } } = none →
      RunsAll (.cfgLoadCheckDone b true) s (complete .load stOk 0 (zeros 16) (evr 0x0212 0x0000 (le 2 0 ++ le 2 0 ++ image.fingerprint)
        { s.hw with cfg := { s.hw.cfg with load := none, bud := some image } })))
    ∧ RunsAll (.cfgLoadCheckDone b false) s (complete .load stAuthFailed rcCfgSignature []
        (evr 0x0212 0x0000 (le 2 stAuthFailed ++ le 2 rcCfgSignature ++ zeros 16) { s.hw with cfg := { s.hw.cfg with load := none } })))
  ∧ (∀ (region block reason : Nat) (s : State) (w : Swap), s.hw.cfg.swap = some w → w.committed = false → region ∈ populated s.hw → region ∉ w.votes →
      (s.hw.mode = .idle ∨ s.hw.time.now < instantTime (fGrid s.hw) (w.ks - 2)) → (∀ b, s.hw.cfg.bud = some b → checkSwap b s.hw = none) →
      let v : Swap := { w with votes := w.votes ++ [region] }
      let g : Hw := { s.hw with cfg := { s.hw.cfg with swap := some v } }
      ((∃ r ∈ populated s.hw, r ∉ v.votes) → RunsAll (.swapVote region block reason true) s g)
      ∧ ((∀ r ∈ populated s.hw, r ∈ v.votes) → RunsAll (.swapVote region block reason true) s (commitSwap v g))
      ∧ RunsAll (.swapVote region block reason false) s (abortSwap rcCfgSwapLaggard region block reason s.hw))
  ∧ (∀ (s : State) (w : Swap) (r : Nat), s.hw.cfg.swap = some w → w.committed = false → s.hw.mode ≠ .idle →
      instantTime (fGrid s.hw) (w.ks - 2) ≤ s.hw.time.now → (populated s.hw).find? (fun r => !w.votes.contains r) = some r →
      RunsAll .swapVoteDeadline s (abortSwap rcCfgSwapLaggard r 0xFF 0 s.hw)
      ∧ ∀ (region block reason : Nat) (ready : Bool), region ∈ populated s.hw → region ∉ w.votes →
          RunsAll (.swapVote region block reason ready) s (abortSwap rcCfgSwapLaggard r 0xFF 0 s.hw))
  ∧ (∀ (s : State) (w : Swap) (b : Image), s.hw.cfg.swap = some w → s.hw.cfg.bud = some b → w.committed = true → instantTime (fGrid s.hw) w.ks ≤ s.hw.time.now →
      RunsAll .swapChangeover s (changeOver (w.ks * gridHz b.grid / fGrid s.hw) w.ks s.hw))
  ∧ (∀ (s : State) (b : Image), s.hw.cfg.bloom = some b → s.hw.cfg.storeDue = true →
      Runs .bloomFlashWriteDone s { s.hw with cfg := { s.hw.cfg with stored := b :: s.hw.cfg.stored.take 1, storeDue := false } })

/-- The opcode, privilege, legal-state mask, fixed parameter length and marks s and a of every command, in the tables' order within each group; then R506. -/
def Obligations.CatalogueRows : Prop :=
  allCmds.map (fun m => (m.row.opcode, m.row.priv, m.row.mask, (match m.row.len with | .fixed n => some n | _ => none), m.row.sliceScoped, m.row.aedgen)) =
    [(0x0101, 0, 0x00F8, some 0, true, true), (0x0102, 1, 0x00E0, some 4, false, true), (0x0103, 0, 0x00F8, some 176, true, true),
     (0x0104, 0, 0x00F8, some 4, true, true), (0x0105, 3, 0x0038, some 4, false, false), (0x0201, 0, 0x00F0, some 0, false, false),
     (0x0202, 3, 0x00F0, none, false, false), (0x0203, 3, 0x00F0, some 16, false, false), (0x0204, 3, 0x00F0, some 0, false, false),
     (0x0205, 3, 0x00E0, some 8, true, false), (0x0206, 0, 0x00F0, some 0, false, false), (0x0301, 0, 0x00F0, some 0, false, true),
     (0x0302, 0, 0x00F0, some 0, true, true), (0x0303, 1, 0x0030, some 16, false, false), (0x0304, 3, 0x0010, some 8, false, false),
     (0x0305, 1, 0x00F0, some 40, false, false), (0x0306, 1, 0x00F0, some 4, false, false), (0x0307, 0, 0x00F0, some 4, false, false),
     (0x0381, 2, 0x0030, some 16, false, false), (0x0382, 2, 0x00E0, some 8, false, false), (0x0383, 2, 0x0030, some 16, false, false),
     (0x0384, 2, 0x0030, some 8, false, false), (0x0401, 0, 0x00F8, some 4, false, true), (0x0402, 1, 0x0038, some 8, false, true),
     (0x0403, 1, 0x0038, some 0, false, false), (0x0404, 0, 0x00F8, some 0, false, false), (0x0405, 1, 0x00F8, some 4, false, false),
     (0x0406, 1, 0x00F8, some 16, false, false), (0x0407, 1, 0x00F8, some 4, false, false), (0x0408, 1, 0x00F8, some 4, false, false),
     (0x0481, 2, 0x0030, some 4, false, false), (0x0501, 0, 0x00F0, some 0, false, true), (0x0502, 0, 0x00E0, some 4, false, false),
     (0x0503, 0, 0x00E0, some 4, false, false), (0x0504, 0, 0x00E0, some 16, false, false), (0x0505, 1, 0x00E0, some 4, false, false)]
    ++ [(0x0506, 1, 0x0080, some 4, false, false), (0x0581, 2, 0x00E0, some 24, false, false), (0x0601, 0, 0x00E0, some 4, true, false),
     (0x0602, 1, 0x00E0, some 4, true, false), (0x0681, 2, 0x00E0, some 12, true, false), (0x0701, 0, 0x00E0, some 4, false, false),
     (0x0702, 1, 0x00E0, some 4, false, false), (0x0703, 1, 0x00E0, some 4, false, false), (0x0704, 0, 0x00E0, some 8, false, false),
     (0x0781, 2, 0x00E0, some 64, false, false), (0x0801, 0, 0x00E0, some 4, true, false), (0x0802, 1, 0x00E0, some 4, true, false),
     (0x0803, 1, 0x00E0, some 4, true, false), (0x0804, 1, 0x00E0, some 4, true, false), (0x0805, 1, 0x00E0, some 16, true, false),
     (0x0806, 0, 0x00E0, some 16, true, false), (0x0881, 2, 0x00E0, some 16, true, false), (0x0882, 2, 0x00E0, none, true, false),
     (0x0901, 0, 0x00E0, some 4, true, false), (0x0902, 0, 0x00F0, some 4, false, false), (0x0903, 1, 0x00E0, some 4, true, false),
     (0x0904, 1, 0x00E0, some 4, true, false), (0x0905, 1, 0x00E0, some 24, true, false), (0x0906, 0, 0x00E0, some 12, true, false),
     (0x0907, 1, 0x00E0, some 8, true, false), (0x0908, 1, 0x00E0, some 4, true, false), (0x0981, 2, 0x00E0, some 64, true, false),
     (0x0982, 2, 0x00E0, none, true, false), (0x0983, 2, 0x0030, some 24, false, false), (0x0A01, 0, 0x00E0, some 4, false, false),
     (0x0A02, 1, 0x00E0, some 4, false, false), (0x0A03, 0, 0x00E0, some 16, false, false), (0x0A81, 2, 0x00E0, some 16, false, false),
     (0x0A04, 0, 0x00E0, some 4, false, false), (0x0A05, 0, 0x00E0, some 8, false, false), (0x0A06, 0, 0x00E0, some 8, false, false)]
    ++ [(0x0A07, 1, 0x00C0, some 128, false, false), (0x0A82, 2, 0x00E0, some 32, false, false), (0x0B01, 0, 0x00F0, some 4, false, false),
     (0x0B02, 1, 0x00E0, some 4, false, false), (0x0B81, 2, 0x00E0, some 32, false, false), (0x0B03, 0, 0x00F0, some 4, false, false),
     (0x0B04, 1, 0x00F0, some 4, false, false), (0x0B82, 2, 0x0030, some 16, false, false), (0x0B83, 2, 0x00E0, some 4, false, false),
     (0x0C01, 0, 0x00F0, some 4, true, false), (0x0C02, 3, 0x00E0, some 4, false, false), (0x0C03, 3, 0x00E0, some 4, false, false),
     (0x0C04, 3, 0x00E0, some 4, false, false), (0x0C05, 1, 0x00E0, some 4, false, false), (0x0C81, 2, 0x00E0, some 24, false, false),
     (0x0D01, 0, 0x00E0, some 4, false, false), (0x0D02, 1, 0x00C0, some 4, false, false), (0x0D03, 1, 0x00C0, some 4, false, false),
     (0x0D04, 0, 0x00E0, some 4, false, false), (0x0D05, 0, 0x00C0, none, false, false), (0x0D06, 1, 0x00E0, some 4, false, false),
     (0x0D07, 1, 0x00C0, none, false, false), (0x0D81, 2, 0x00E0, some 24, false, false), (0x0D82, 2, 0x00C0, some 24, false, false),
     (0x0E01, 0, 0x00F8, some 4, false, false), (0x0E02, 0, 0x00F8, some 4, false, false), (0x0E03, 0, 0x00E0, some 8, false, false),
     (0x0E04, 1, 0x00F0, some 16, false, false), (0x0E05, 0, 0x00F0, some 8, false, false), (0x0E06, 1, 0x0030, some 4, false, false),
     (0x0E81, 2, 0x00F0, some 24, false, false), (0x0E82, 2, 0x00F0, some 32, false, false), (0x0F01, 0, 0x00F0, some 4, false, false),
     (0x0F02, 1, 0x00C0, some 0, false, false), (0x0F03, 0, 0x00E0, some 4, false, false), (0x0F81, 2, 0x00E0, some 16, false, false)]
    ++ [(0x1001, 0, 0x00F0, some 4, false, false), (0x1002, 0, 0x00E0, some 8, false, false), (0x1003, 3, 0x00E0, none, false, false),
     (0x1004, 0, 0x00E0, some 8, false, false), (0x1081, 2, 0x00E0, some 16, false, false), (0x1101, 0, 0x00F8, some 0, false, true),
     (0x1102, 0, 0x00F0, some 4, true, false), (0x1103, 0, 0x00F8, some 8, true, false), (0x1104, 3, 0x00F0, none, true, false),
     (0x1105, 3, 0x00F0, none, true, false), (0x1106, 3, 0x00F0, some 344, true, false), (0x1107, 3, 0x00F0, some 16, true, false),
     (0x1108, 3, 0x00F0, some 4, true, false), (0x1109, 3, 0x00F0, some 4, true, false), (0x110A, 3, 0x00F0, some 4, true, false),
     (0x110B, 0, 0x00F8, some 40, true, false), (0x1110, 3, 0x00F0, some 416, false, true), (0x1181, 2, 0x00F0, some 0, false, false),
     (0x1201, 0, 0x00F0, some 0, false, false), (0x1202, 0, 0x00F0, some 8, false, false), (0x1203, 0, 0x00F0, some 8, false, false),
     (0x1204, 0, 0x00F0, some 0, false, false), (0x1281, 3, 0x0030, none, false, false), (0x1301, 0, 0x00F8, some 4, false, true),
     (0x1302, 0, 0x00F8, some 16, false, false), (0x1303, 0, 0x00F8, some 8, false, false), (0x1304, 1, 0x00F0, some 48, true, false),
     (0x1401, 0, 0x00F8, some 4, false, false), (0x1402, 0, 0x00F0, some 8, false, false), (0x1403, 1, 0x00E0, some 4, false, false),
     (0x1481, 3, 0x00E0, some 8, false, false), (0x1482, 3, 0x0080, some 16, false, false), (0x1483, 3, 0x0038, none, false, false)]
  ∧ rcModOpcode = 0x0107
  ∧ (∀ op, cmdOf op = none ↔ op ∉ allCmds.map (fun m => m.row.opcode))
  ∧ (∀ op, op / 256 = 0 ∨ 0x15 ≤ op / 256 → cmdOf op = none)
  ∧ (∀ (via : Transport) (x : Packet) (a : Authority) (h : Hw), cmdOf x.hdr.opcode = none →
      execute via x a h = answer { hdr := x.hdr, via := via, principal := a.principal, privilege := a.privilege, scope := a.scope, key := a.key, crypto := x.crypto }
        0 stUnknownOpcode rcModOpcode [] h)

/-- Where the TIME commands complete, and with what effect. -/
def Obligations.TimeCommandsComplete : Prop :=
  ∀ (c : Call) (p : List Byte) (s : State),
  (Passes cmdTimeStatus c p s → Runs (.timeStatus c p) s (okReply cmdTimeStatus c (timeStatus s.hw) s.hw))
  ∧ (Passes cmdTimeRead c p s → ∃ off l61 l59, utcOf s.hw = (off, l61, l59) ∧ Runs (.timeRead c p) s (okReply cmdTimeRead c
      (le 8 (s.hw.time.now / 2 ^ 64) ++ le 4 (s.hw.time.now / 2 ^ 32 % 2 ^ 32) ++ le 1 (timeClass s.hw) ++ le 1 (servoCode s.hw.time.servo)
        ++ le 2 off ++ le 1 (flag l61 0 + flag l59 1 + flag (s.hw.time.servo = .fallback) 2) ++ zeros 7) s.hw))
  ∧ (Passes cmdTimeSet c p s → s.hw.time.servo ≠ .acquiring → s.hw.time.servo ≠ .locked →
      let h := if s.hw.time.servo = .unset then { s.hw with time := { s.hw.time with servo := .seeded, servoSince := s.hw.time.mono, within := 0 } } else s.hw
      RunsAll (.timeSet c p) s (okReply cmdTimeSet c []
        (stepTime (u64 p 0 * 2 ^ 64 + u32 p 8 * 2 ^ 32) 1 { h with time := { h.time with utcSet := some (u16 p 12) } })))
  ∧ (Passes cmdTimeProfile c p s → u8 p 0 ∈ [1, 2] → u8 p 2 ≤ 1 → u8 p 3 ≤ 1 → u8 p 4 ≤ 1 → u8 p 5 ≤ 2 →
      Runs (.timeProfile c p) s (okReply cmdTimeProfile c [] (applyL1 (u8 p 3 == 1) { s.hw with time := { s.hw.time with
        profile := u8 p 0, domain := u8 p 1, clockType := u8 p 2, l1sync := u8 p 3, stepMode := u8 p 4, preference := u8 p 5 } })))
  ∧ (Passes cmdTimeTeuConfig c p s → s.hw.time.servo ≠ .unset → (tget s.hw.time.teus (u8 p 0) {}).armed = false → teuRange (teuOf p) (u8 p 2) = none →
      ballHolder (u8 p 1) (u8 p 0) s.hw = none → (u8 p 1 = 8 → s.hw.mode = .serving) →
      Runs (.timeTeuConfig c p) s (okReply cmdTimeTeuConfig c (zeros 8) { s.hw with time := { s.hw.time with
        teus := tset s.hw.time.teus (u8 p 0) { tget s.hw.time.teus (u8 p 0) {} with
          armed := true, cfg := teuOf p, next := firstEdge (teuOf p) s.hw, lastN := none, fired := 0, skipped := 0, skipFlag := false, pulse := none, stopping := false
          holderSlice := 0xFFFF, holderOpcode := 0x0305, holderObject := u8 p 0 } } }))
  ∧ (Passes cmdTimeTeuStop c p s → u8 p 0 ≤ 15 →
      let u := tget s.hw.time.teus (u8 p 0) {}
      let now (v : Teu) : Hw := { s.hw with time := { s.hw.time with teus := tset s.hw.time.teus (u8 p 0) v } }
      (u.armed = true → u.pulse = none → ballTarget u.cfg.target = true →
        Runs (.timeTeuStop c p) s (okReply cmdTimeTeuStop c [] { now { u with armed := false } with out := .ballIdle u.cfg.target :: s.hw.out }))
      ∧ (u.armed = true → u.pulse = none → ballTarget u.cfg.target = false → Runs (.timeTeuStop c p) s (okReply cmdTimeTeuStop c [] (now { u with armed := false })))
      ∧ (u.armed = true → u.pulse ≠ none → Runs (.timeTeuStop c p) s (okReply cmdTimeTeuStop c [] (now { u with stopping := true })))
      ∧ (u.armed = false → Runs (.timeTeuStop c p) s (okReply cmdTimeTeuStop c [] s.hw)))
  ∧ (Passes cmdTimeCaptureRead c p s → u8 p 0 ≤ 5 → 1 ≤ u8 p 1 → u8 p 1 ≤ 16 →
      let q := tget s.hw.time.captures (u8 p 0) {}
      let got := q.queue.take (u8 p 1)
      Runs (.timeCaptureRead c p) s (okReply cmdTimeCaptureRead c
        (le 1 got.length ++ le 1 (flag q.dropFlag 0) ++ le 2 (min q.dropped 0xFFFF) ++ zeros 4 ++ (got.map captureBytes).flatten)
        { s.hw with time := { s.hw.time with captures := tset s.hw.time.captures (u8 p 0) { q with queue := q.queue.drop (u8 p 1), dropped := 0, dropFlag := false } } }))
  ∧ (Passes cmdTimeServoSet c p s → 1000 ≤ u32 p 8 → u32 p 8 ≤ 500000 → u16 p 12 ≠ 0 → stable (f32 p 0) (f32 p 4) s.hw.time = true →
      Runs (.timeServoSet c p) s (okReply cmdTimeServoSet c [] { s.hw with time := { s.hw.time with
        kp := some (f32 p 0), ki := some (f32 p 4), slewPpb := u32 p 8, driftPs := u16 p 12 } }))
  ∧ (Passes cmdTimeSetIncrement c p s → incMin ≤ u64 p 0 → u64 p 0 ≤ incMax →
      (s.hw.time.servo = .holdover ∨ (s.hw.time.servo = .seeded ∧ s.hw.time.osfSinceBoot = false) →
        Runs (.timeSetIncrement c p) s (okReply cmdTimeSetIncrement c [] { s.hw with time := { s.hw.time with
          servo := .fallback, servoSince := s.hw.time.mono, within := 0, unlockedSince := if s.hw.time.servo = .holdover then s.hw.time.unlockedSince else s.hw.time.mono
          inc := u64 p 0, source := 0, recent := [], e0 := errorBound s.hw } }))
      ∧ (s.hw.time.servo = .fallback → Runs (.timeSetIncrement c p) s (okReply cmdTimeSetIncrement c [] { s.hw with time := { s.hw.time with
          inc := u64 p 0, source := 0, recent := [] } })))
  ∧ (Passes cmdTimePortSet c p s → u8 p 0 ≤ 10 → (bit (u8 p 1) 1 = true → l1Capable (u8 p 0) s.hw = true) →
      let q := tget s.hw.time.ports (u8 p 0) {}
      let on := bit (u8 p 1) 1
      Runs (.timePortSet c p) s (okReply cmdTimePortSet c [] { s.hw with time := { s.hw.time with
        ports := tset s.hw.time.ports (u8 p 0) { q with
          ptp := bit (u8 p 1) 0, l1sync := on, l1Up := on && q.l1Up, l1Disabled := on && q.l1Disabled
          delayAsymmetry := s32 p 4, ingress := s32 p 8, egress := s32 p 12 } } }))
  ∧ (Passes cmdTimeIoDelaySet c p s → u8 p 0 ≤ 10 → -20000 ≤ s32 p 4 → s32 p 4 ≤ 20000 →
      Runs (.timeIoDelaySet c p) s (okReply cmdTimeIoDelaySet c [] { s.hw with time := { s.hw.time with
        ioDelay := tset s.hw.time.ioDelay (u8 p 0) (s32 p 4) } }))

/-- SERVO_MEASUREMENT, SERVE_EXIT_TIME_FAULT, FAULT_RE_STEP and SOURCE_LOSS. -/
def Obligations.ServoTransitions : Prop :=
  (∀ (m : Measurement) (s : State),
    let t := s.hw.time
    let theta := corrected m s.hw
    let recent := if t.source = m.source then (theta :: t.recent).take 8 else [theta]
    let seen : Hw := { s.hw with time := { t with
      source := m.source, logTm := (if m.source = 1 then m.logSync else 0), recent := recent, theta := theta, candidate := [] } }
    let l1 := (tget t.ports (t.slavePort.getD 0) {}).l1Up && m.source == 1
    let within := if theta.natAbs * 1000000000 ≤ (if l1 then 10 else 100) * 2 ^ 64 then (discipline theta seen).time.within + 1 else 0
    let counted : Hw := { discipline theta seen with time := { (discipline theta seen).time with within := within } }
    (sourceUsable m.source s.hw = true → (t.source = m.source ∨ t.source = 0) →
      (t.servo ∈ [.unset, .seeded] → agreed recent = true → t.firstLock = false →
        RunsAll (.servoMeasurement m) s (stepTime (t.now - theta).toNat 0
          { seen with time := { seen.time with servo := .acquiring, servoSince := t.mono, within := 0, thetaSum := 0, theta := 0, firstLock := true, recent := [] } }))
      ∧ (t.servo ∈ [.unset, .seeded] → agreed recent = false → RunsAll (.servoMeasurement m) s seen)
      ∧ (t.servo ∈ [.acquiring, .locked, .holdover] → 2 ^ 64 < theta.natAbs * 1000 →
          RunsAll (.servoMeasurement m) s { seen with time := { seen.time with
            servo := .fault, servoSince := t.mono, within := 0, exitRequest := true, confirmed := none, recent := [] } })
      ∧ (t.servo = .holdover → theta.natAbs * 1000 ≤ 2 ^ 64 → agreed recent = true → t.firstLock = true →
          RunsAll (.servoMeasurement m) s (discipline theta { seen with time := { seen.time with
            servo := .acquiring, servoSince := t.mono, within := 0, thetaSum := 0 } }))
      ∧ (t.servo = .holdover → theta.natAbs * 1000 ≤ 2 ^ 64 → agreed recent = false → RunsAll (.servoMeasurement m) s seen)
      ∧ (t.servo = .locked → theta.natAbs * 1000 ≤ 2 ^ 64 → RunsAll (.servoMeasurement m) s (discipline theta seen))
      ∧ (t.servo = .acquiring → theta.natAbs * 1000 ≤ 2 ^ 64 → within < 16 → RunsAll (.servoMeasurement m) s counted)
      ∧ (t.servo = .acquiring → theta.natAbs * 1000 ≤ 2 ^ 64 → 16 ≤ within →
          RunsAll (.servoMeasurement m) s { setServo .locked counted with time := { (setServo .locked counted).time with lockedOnce := true } }))
    ∧ (sourceUsable m.source s.hw = false → RunsAll (.servoMeasurement m) s s.hw)
    ∧ (sourceUsable m.source s.hw = true → t.source ≠ m.source → t.source ≠ 0 →
        (preferred m.source s.hw = false → RunsAll (.servoMeasurement m) s s.hw)
        ∧ (preferred m.source s.hw = true → agreed ((theta :: t.candidate).take 8) = false →
            RunsAll (.servoMeasurement m) s { s.hw with time := { t with candidate := (theta :: t.candidate).take 8 } })))
  ∧ (∀ s : State, s.hw.time.exitRequest = true →
      let h : Hw := { s.hw with time := { s.hw.time with exitRequest := false } }
      RunsAll .serveExitTimeFault s (if s.hw.mode = .serving ∨ s.hw.mode = .test then changeState .ready 0x030B h else h))
  ∧ (∀ (s : State) (theta : Int), s.hw.time.servo = .fault → s.hw.time.confirmed = some theta → (s.hw.mode = .ready ∨ s.hw.mode = .idle) →
      RunsAll .faultReStep s (stepTime (s.hw.time.now - theta).toNat 2 { s.hw with time := { s.hw.time with
        servo := .acquiring, servoSince := s.hw.time.mono, within := 0, confirmed := none, exitRequest := false, firstLock := true
        recent := [], theta := 0, thetaSum := 0 } }))
  ∧ (∀ s : State, sourceSilent s.hw = true → s.hw.time.servo = .locked ∨ s.hw.time.servo = .acquiring →
      let h := freezeInc (setServo .holdover (noteLeap (noParent { s.hw with time := { s.hw.time with
        source := 0, recent := [], candidate := [], utcIrig := none, ppsAt := none, irigAt := none } })))
      RunsAll .sourceLoss s { h with time := { h.time with e0 := errorBound s.hw } })
  ∧ (∀ s : State, sourceSilent s.hw = false → RunsAll .sourceLoss s s.hw)
  ∧ (∀ h : Hw, sourceSilent h = true ↔
      (h.time.source = 1 ∧ ∀ p, h.time.slavePort = some p → portSilent p h = true ∧ (prpPort p h = true → portSilent (if p % 2 = 0 then p + 1 else p - 1) h = true))
      ∨ (h.time.source = 2 ∧ ∀ t, (if h.time.ppsAt.isSome then h.time.ppsAt else h.time.irigAt) = some t → 3 * 2 ^ 64 ≤ h.time.mono - t))

/-- TDC_EDGE_CAPTURE, TEU_EDGE, PTP_FRAME_RX, PTP_MESSAGE_SEND, SLAVE_PATH_LOSS, IRIGB_FRAME_RX and IRIGB_OUT_SECOND. -/
def Obligations.TimingEventsComplete : Prop :=
  (∀ (input code num den : Nat) (falling : Bool) (s : State), input < 6 → num ≠ 0 →
    let h : Hw := if input = 4 then { s.hw with time := { s.hw.time with ppsAt := some s.hw.time.mono } } else s.hw
    let q := tget s.hw.time.captures input {}
    let edge : Rat := ((s.hw.time.mono / 36893488147 * 2 : Nat) : Rat) - mkRat (code * den * 2) num
    let close (ns : Rat) : Prop := ∃ l, q.lastEdge = some l ∧ edge - l < ns
    (¬ close 20 → q.queue.length < 16 →
      ∃ late : Rat, 0 ≤ late ∧ late ≤ mkRat (150 * 2 ^ 64) (10 ^ 12) ∧ (¬ close 24 → late = 0) ∧
      let delay := tget s.hw.time.ioDelay (if input ≤ 4 then input else 10) 0
      let t := ((s.hw.time.now : Rat) - mkRat (code * den * 2) num * mkRat (2 ^ 64) 1000000000 - mkRat (delay * 2 ^ 64) (10 ^ 12) + late).floor.toNat
      ∃ drawn : Nat, (¬ close 24 → drawn = 0) ∧
      let g : Hw := { h with free := h.free + drawn, time := { h.time with
        captures := tset s.hw.time.captures input { q with
          queue := q.queue ++ [{ sec := t / 2 ^ 64, frac40 := t / 2 ^ 24 % 2 ^ 40, edge := (if falling then 1 else 0), cls := timeClass s.hw, sequence := q.sequence }]
          sequence := (q.sequence + 1) % 2 ^ 32, lastEdge := some edge } } }
      Runs (.tdcEdgeCapture input falling code num den) s (if input < 4 then launch { source := .input input falling, time := t / 2 ^ 24 } g else g))
    ∧ (close 20 ∨ 16 ≤ q.queue.length →
        Runs (.tdcEdgeCapture input falling code num den) s { h with time := { h.time with
          captures := tset s.hw.time.captures input { q with dropped := q.dropped + 1, dropFlag := true } } }))
  ∧ (∀ (k : Nat) (s : State), k < 16 → teuDue s.hw (tget s.hw.time.teus k {}) = true →
      RunsAll (.teuEdge k) s (fireTeu k s.hw) ∧ teuDue (fireTeu k s.hw) (tget (fireTeu k s.hw).time.teus k {}) = false)
  ∧ (∀ (port egress : Nat) (m : PtpMessage) (residence : Int) (s : State), port ≤ 10 → egress ≤ 10 →
      let q := tget s.hw.time.ports port {}
      let r := hear port m q s.hw
      let h : Hw := { s.hw with time := { s.hw.time with ports := tset s.hw.time.ports port r } }
      let h := if r.l1Disabled = true ∧ q.l1Disabled = false then evrOpen 0x03 0x03FF h else h
      let h := if m.role ≠ 1 ∧ s.hw.time.slavePort = some port then noParent h else h
      let h := if m.role = 1 ∧ m.kind = .announce then takeParent port m h else h
      let h := if m.kind = .pdelayReq then answerPdelay port m residence h else h
      (q.ptp = true → m.domain = s.hw.time.domain →
        Runs (.ptpFrameRx port m egress residence) s
          (if transparent port egress h = true ∧ m.kind ∈ [.announce, .sync, .followUp] then forwardPtp port egress residence m h else h))
      ∧ (q.ptp = false ∨ m.domain ≠ s.hw.time.domain → Runs (.ptpFrameRx port m egress residence) s s.hw)
      ∧ r.role = (if m.role = 3 ∧ s.hw.time.slavePort = none then 4 else m.role)
      ∧ (m.kind = .followUp ∨ (m.kind = .sync ∧ m.twoStep = false) → r.offset = some (m.measured + portFix q)))
  ∧ (∀ (port seq : Nat) (s : State), port ≤ 10 →
      let q := tget s.hw.time.ports port {}
      let out (l : List Out) : Hw := { s.hw with out := l ++ s.hw.out }
      (q.ptp = true →
        (q.role = 3 → s.hw.time.slavePort ≠ none →
          (s.hw.time.stepMode = 0 → Runs (.ptpMessageSend port .sync seq) s
            (out [.ptp port { kind := .sync, sequence := seq, stamp := s.hw.time.now + psUnits q.egress, logInterval := s.hw.time.logSync }]))
          ∧ (s.hw.time.stepMode = 1 → Runs (.ptpMessageSend port .sync seq) s
            (out [.ptp port { kind := .followUp, sequence := seq, stamp := s.hw.time.now + psUnits q.egress, logInterval := s.hw.time.logSync },
                  .ptp port { kind := .sync, sequence := seq, logInterval := s.hw.time.logSync }])))
        ∧ (q.role ≠ 3 ∨ s.hw.time.slavePort = none → Runs (.ptpMessageSend port .sync seq) s s.hw ∧ Runs (.ptpMessageSend port .announce seq) s s.hw)
        ∧ Runs (.ptpMessageSend port .pdelayReq seq) s (out [.ptp port { kind := .pdelayReq, sequence := seq }]))
      ∧ (q.ptp = false → ∀ k, Runs (.ptpMessageSend port k seq) s s.hw))
  ∧ (∀ (port : Nat) (s : State), port ≤ 9 →
      let other := if port % 2 = 0 then port + 1 else port - 1
      (netPair (port / 2) s.hw).mode = 0 → (tget s.hw.time.ports port {}).role = 1 → (tget s.hw.time.ports other {}).role = 2 →
      Runs (.slavePathLoss port) s { s.hw with time := { s.hw.time with
        ports := tset (tset s.hw.time.ports port { tget s.hw.time.ports port {} with role := 2 }) other { tget s.hw.time.ports other {} with role := 1 }
        slavePort := some other } })
  ∧ (∀ (format second : Nat) (ok : Bool) (utc : Option (Nat × Bool × Bool)) (s : State),
      (format ∈ [2, 3, 6, 7] →
        let valid := ok && (match s.hw.time.irig with | some (x, _) => follows (leapNear s.hw) x second | none => true)
        Runs (.irigbFrameRx { format := format, second := second } ok utc) s (noteLeap { s.hw with time := { s.hw.time with
          irig := some (second, valid), irigAt := some s.hw.time.mono
          utcIrig := if s.hw.time.source = 2 then (if valid then utc else none) else s.hw.time.utcIrig } }))
      ∧ (format ∉ [2, 3, 6, 7] → Runs (.irigbFrameRx { format := format, second := second } ok utc) s s.hw))
  ∧ (∀ s : State, ∃ off l61 l59, utcOf s.hw = (off, l61, l59) ∧ Runs .irigbOutSecond s
      { s.hw with out := .irig (((s.hw.time.now / 2 ^ 64 : Nat) : Int) - off) (leapSecond s.hw) l61 l59 (qualityCode (timeClass s.hw)) :: s.hw.out })

/-- Where the RTC commands complete, and with what effect. -/
def Obligations.RtcCommandsComplete : Prop :=
  ∀ (c : Call) (p : List Byte) (s : State),
  let free := ¬(s.hw.rtc.discipline = true ∧ (s.hw.time.servo = .acquiring ∨ s.hw.time.servo = .locked)) ∧ s.hw.rtc.oscStopped = false
  (Passes cmdRtcStatus c p s →
    let h := settleDisciplined s.hw
    Runs (.rtcStatus c p) s (okReply cmdRtcStatus c
      (le 4 h.rtc.status.toNat ++ le 2 (h.rtc.count % 2 ^ 15) ++ zeros 2 ++ le 8 (h.rtc.count / 2 ^ 15 % 2 ^ 40) ++ le 4 h.rtc.wakeSkips ++ le 4 h.rtc.wakeP
        ++ le 2 h.rtc.vbatMv ++ le 1 (flag (tget h.rtc.alarms 0 {}).armed 0 + flag (tget h.rtc.alarms 1 {}).armed 1) ++ zeros 5)
      { h with rtc := { h.rtc with status := h.rtc.status &&& ~~~(BitVec.ofNat 32 (u32 p 0) &&& 0x3F00#32) } }))
  ∧ (Passes cmdRtcSet c p s → free →
      Runs (.rtcSet c p) s (okReply cmdRtcSet c [] { s.hw with rtc := { s.hw.rtc with
        shift := none, writeStation := false, write := some (u64 p 0 % 2 ^ 40 * 2 ^ 15 + u64 p 0 / 2 ^ 40 % 2 ^ 15), lastShift := none
        status := withBit s.hw.rtc.status aonTimeSet true } }))
  ∧ (Passes cmdRtcClearOsf c p s → s.hw.rtc.status.getLsbD aonTimeSet = true →
      Runs (.rtcClearOsf c p) s (okReply cmdRtcClearOsf c [] { s.hw with rtc := { s.hw.rtc with
        status := withBit (withBit (withBit (withBit s.hw.rtc.status aonCauseOsc false) aonCauseDip false) aonCauseFirst false) aonOsf false } }))
  ∧ (Passes cmdRtcCapture c p s → s.hw.rtc.oscStopped = false →
      ∃ n : Nat, (n = s.hw.rtc.count
          ∨ ∃ t d, s.hw.rtc.lastShift = some (t, d) ∧ s.hw.time.mono - t < nsUnits 2000000 ∧ s.hw.rtc.shift = none
              ∧ n = (((s.hw.rtc.count : Int) - d) % ((2 ^ 55 : Nat) : Int)).toNat)
        ∧ Runs (.rtcCapture c p) s (okReply cmdRtcCapture c
            (le 8 (n / 2 ^ 15 % 2 ^ 40 + n % 2 ^ 15 * 2 ^ 40) ++ le 8 (s.hw.rtc.edgeAt / 2 ^ 64) ++ le 4 (s.hw.rtc.edgeAt / 2 ^ 32 % 2 ^ 32)
              ++ le 1 (timeClass s.hw) ++ zeros 3)
            { s.hw with free := s.hw.free + 1 }))
  ∧ (Passes cmdRtcShift c p s → free → -32767 ≤ s16 p 0 →
      Runs (.rtcShift c p) s (okReply cmdRtcShift c [] { s.hw with rtc := { s.hw.rtc with
        shift := some (s.hw.rtc.shift.getD 0 + s16 p 0), lastShift := some (s.hw.time.mono, s.hw.rtc.shift.getD 0 + s16 p 0) } }))
  ∧ (Passes cmdRtcAlarmSet c p s → u8 p 0 ≤ 1 →
      let at_ := u64 p 8 % 2 ^ 40 * 2 ^ 15 + u64 p 8 / 2 ^ 40 % 2 ^ 15
      let g : Hw := { s.hw with rtc := { s.hw.rtc with alarms := tset s.hw.rtc.alarms (u8 p 0) { armed := bit (u8 p 1) 0, at_ := at_ } } }
      Runs (.rtcAlarmSet c p) s (okReply cmdRtcAlarmSet c [] (if alarmDue (u8 p 0) g then fireAlarm (u8 p 0) false g else g)))
  ∧ (Passes cmdRtcWakeSet c p s → u32 p 0 ≤ 16588800 →
      Runs (.rtcWakeSet c p) s (okReply cmdRtcWakeSet c [] { s.hw with rtc := { s.hw.rtc with wakeP := u32 p 0, wakeFrom := (s.hw.rtc.count : Int), wakePassed := 0 } }))
  ∧ (Passes cmdRtcSqwSet c p s → u8 p 0 ≤ 3 →
      Runs (.rtcSqwSet c p) s (okReply cmdRtcSqwSet c [] (settleSqw { s.hw with rtc := { s.hw.rtc with
        status := (s.hw.rtc.status &&& 0xFFFF3FFF#32) ||| (BitVec.ofNat 32 (u8 p 0 % 4) <<< 14) } })))
  ∧ (Passes cmdRtcDisciplineSet c p s → 1 ≤ u16 p 0 → u16 p 0 ≤ 3600 → u8 p 2 ≤ 1 →
      Runs (.rtcDisciplineSet c p) s (okReply cmdRtcDisciplineSet c [] { s.hw with rtc := { s.hw.rtc with interval := u16 p 0, discipline := u8 p 2 == 1 } }))

/-- RTC_ALARM_FIRE, RTC_WAKE_FIRE, RTC_DISCIPLINE_PASS, OSC_STOP, ISLAND_RAIL_DIP, ISLAND_POWER_UP and VBAT_SAMPLE. -/
def Obligations.IslandEventsComplete : Prop :=
  (∀ (a : Nat) (s : State), a < 2 → (tget s.hw.rtc.alarms a {}).armed = true → (tget s.hw.rtc.alarms a {}).at_ ≤ s.hw.rtc.count →
    Runs (.rtcAlarmFire a) s (fireAlarm a false s.hw)
    ∧ (fireAlarm a false s.hw).rtc.status.getLsbD (8 + a) = true ∧ (tget (fireAlarm a false s.hw).rtc.alarms a {}).armed = false)
  ∧ (∀ s : State, wakeDue s.hw = true → Runs .rtcWakeFire s (fireWake s.hw) ∧ (fireWake s.hw).rtc.status.getLsbD 10 = true ∧ (fireWake s.hw).rtc.wakePassed = 0)
  ∧ (∀ s : State, s.hw.time.servo = .locked → s.hw.rtc.discipline = true → s.hw.rtc.oscStopped = false →
      (∀ t, s.hw.rtc.lastPass = some t → s.hw.rtc.interval * 2 ^ 64 ≤ s.hw.time.mono - t) →
      Runs .rtcDisciplinePass s (disciplinePass s.hw)
      ∧ (disciplinePass s.hw).rtc.status.getLsbD aonTimeSet = true ∧ (disciplinePass s.hw).rtc.lastPass = some s.hw.time.mono)
  ∧ (∀ s : State,
      let st := withBootCount (withBit (withBit (withBit s.hw.rtc.status aonOsf true) aonCauseOsc true) aonTimeSet false) 0
      Runs (.oscStop true) s { s.hw with
        rtc := { s.hw.rtc with oscStopped := true, status := st }
        time := { s.hw.time with osfSinceBoot := true }
        boot := { s.hw.boot with causes := [0, 0, 0] } }
      ∧ Runs (.oscStop false) s { s.hw with rtc := { s.hw.rtc with oscStopped := false } })
  ∧ (∀ (ns : Nat) (s : State),
      let carried := s.hw.rtc.railFell = false
        ∧ (s.hw.rtc.vaon = true ∨ s.hw.rtc.vbat = true ∨ ∃ t, s.hw.rtc.holdup = some t ∧ s.hw.time.mono - t < nsUnits 200000)
      (4000 ≤ ns → ¬ carried → Runs (.islandRailDip ns) s (islandReset aonCauseDip s.hw))
      ∧ (ns < 4000 ∨ carried → Runs (.islandRailDip ns) s s.hw)
      ∧ (¬ carried → Runs .islandPowerUp s (islandReset aonCauseFirst s.hw))
      ∧ (carried → Runs .islandPowerUp s s.hw)
      ∧ (∀ vaon vbat : Bool, (noteSupply vaon vbat s.hw).rtc.railFell = true ↔ ¬ carried ∧ (vaon = true ∨ vbat = true)))
  ∧ (∀ (cause : Nat) (h : Hw), cause ∈ [aonCauseFirst, aonCauseDip, aonCauseOsc] →
      let g := islandReset cause h
      g.rtc.count = 0 ∧ osf g = true ∧ (∀ i ∈ [aonCauseFirst, aonCauseDip, aonCauseOsc], g.rtc.status.getLsbD i = decide (i = cause))
      ∧ g.rtc.status.getLsbD aonTimeSet = false ∧ bootCount g.rtc.status = 0 ∧ g.rtc.wakeP = 0 ∧ g.rtc.alarms = [] ∧ g.boot.causes = [0, 0, 0])
  ∧ (∀ h : Hw, h.rtc.oscStopped = false →
      (h.rtc.write = none → h.rtc.writeStation = false → h.rtc.shift = none →
        rtcEdge h = { h with rtc := { h.rtc with
          count := (h.rtc.count + 1) % 2 ^ 55, edgeAt := h.time.now, wakeFrom := if (h.rtc.count + 1) % 2 ^ 55 = 0 then -1 else h.rtc.wakeFrom } })
      ∧ (h.rtc.writeStation = true → h.rtc.shift = none → (rtcEdge h).rtc.count = h.time.now / 2 ^ 49 % 2 ^ 55)
      ∧ (∀ v, h.rtc.writeStation = false → h.rtc.write = some v → h.rtc.shift = none → (rtcEdge h).rtc.count = v % 2 ^ 55)
      ∧ (∀ d, h.rtc.writeStation = false → h.rtc.write = none → h.rtc.shift = some d →
          (rtcEdge h).rtc.count = ((((h.rtc.count + 1) % 2 ^ 55 : Nat) + d) % ((2 ^ 55 : Nat) : Int)).toNat))
  ∧ (∀ (mv : Nat) (s : State), s.hw.rtc.vaon = true →
      Runs (.vbatSample mv) s { s.hw with rtc := { s.hw.rtc with vbatMv := min mv 0xFFFF, status := withBit s.hw.rtc.status aonVbatLow (decide (mv < 2100)) } })

/-- R88; the status with the reason is the catalogue's. -/
def Obligations.DisciplineKeepsTheClock : Prop :=
  rcRtcDisciplined = 0x0402
  ∧ ∀ (c : Call) (p : List Byte) (s : State), s.hw.rtc.discipline = true → (s.hw.time.servo = .acquiring ∨ s.hw.time.servo = .locked) →
    (Passes cmdRtcSet c p s → Runs (.rtcSet c p) s (refusal cmdRtcSet c stStateRefused rcRtcDisciplined [] s.hw))
    ∧ (Passes cmdRtcShift c p s → -32767 ≤ s16 p 0 → Runs (.rtcShift c p) s (refusal cmdRtcShift c stStateRefused rcRtcDisciplined [] s.hw))
    ∧ (∀ g pay, cmdRtcSet.body c p s.hw ≠ .ok g pay ∧ cmdRtcShift.body c p s.hw ≠ .ok g pay)

/-- Where the INGEST commands complete, and with what effect. -/
def Obligations.IngestCommandsComplete : Prop :=
  ∀ (c : Call) (p : List Byte) (s : State),
  let h := s.hw
  let n := u16 p 0
  (Passes cmdIngestStatus c p s → Runs (.ingestStatus c p) s (okReply cmdIngestStatus c (ingestStatus h) h))
  ∧ (Passes cmdIngestStreamStatus c p s → (subscription n h).isSome →
      Runs (.ingestStreamStatus c p) s (okReply cmdIngestStreamStatus c (streamStatusBytes n (streamAt n h))
        (if bit (u8 p 2) 0 then putStream n (clearStream (streamAt n h)) h else h)))
  ∧ (Passes cmdIngestStreamStatus c p s → subscription n h = none →
      Runs (.ingestStreamStatus c p) s (refusal cmdIngestStreamStatus c stBadParam rcIngestNoStream [] h))
  ∧ (Passes cmdIngestPortCounters c p s → u8 p 0 ≤ 7 →
      let q := tget h.ing.ports (u8 p 0) {}
      Runs (.ingestPortCounters c p) s (okReply cmdIngestPortCounters c
        (le 8 q.seen ++ le 4 q.unmatched ++ le 4 q.overrun ++ le 4 q.authFail ++ le 4 q.wrongPort ++ zeros 8)
        (if bit (u8 p 1) 0 then putIngestPort (u8 p 0) { second := q.second, inSecond := q.inSecond } h else h)))
  ∧ (∀ r, Passes cmdIngestRowRead c p s → 1 ≤ u16 p 10 → u16 p 10 ≤ 1024 → settledRow (u64 p 0) h = some r →
      Runs (.ingestRowRead c p) s (okReply cmdIngestRowRead c
        (rowHeader r ++ ((List.range (u16 p 10)).map (fun j =>
          slotBytes (if u16 p 8 + j < r.width then tget r.slots (u16 p 8 + j) {} else {}))).flatten) h))
  ∧ (Passes cmdIngestBlock c p s → (subscription n h).isSome → u8 p 2 ≤ 1 →
      Runs (.ingestBlock c p) s (okReply cmdIngestBlock c [] (putStream n { streamAt n h with blockReq := some (u8 p 2 == 1) } h)))
  ∧ (Passes cmdIngestSimSet c p s → u8 p 0 ≤ 1 →
      Runs (.ingestSimSet c p) s (okReply cmdIngestSimSet c [] { h with ing := { h.ing with simReq := some (u8 p 0 == 1) } }))
  ∧ (Passes cmdIngestStreamTune c p s → (subscription n h).isSome → u8 p 2 ≤ 3 → u8 p 3 ≤ 8 → (u32 p 4 ≤ 2000000 ∨ u32 p 4 = 0xFFFFFFFF) →
      (∀ r ∈ h.ing.open_, r.k < u64 p 8) →
      let st := settleTunes (streamAt n h)
      Runs (.ingestStreamTune c p) s (okReply cmdIngestStreamTune c []
        (putStream n { st with tuned := true, tune := st.tune ++ [(u64 p 8, u8 p 2, u8 p 3, u32 p 4)] } h)))

/-- SV_FRAME_RX over every frame. -/
def Obligations.FramesAreCheckedAndCounted : Prop :=
  ∀ (port : Nat) (f : SvFrame) (s : State),
  let h := s.hw
  let q := tget h.ing.ports port {}
  let sec := secOf h.time.now
  let q' := { q with seen := q.seen + 1, second := sec, inSecond := if q.second = sec then q.inSecond + 1 else 1 }
  (ingestRuns h = false ∨ 8 ≤ port → RunsAll (.svFrameRx port f) s h)
  ∧ (ingestRuns h = true → port < 8 → 2000000 < q'.inSecond → RunsAll (.svFrameRx port f) s (putIngestPort port { q' with overrun := inc32 q.overrun } h))
  ∧ (ingestRuns h = true → port < 8 → q'.inSecond ≤ 2000000 → matching f h = none →
      let end_ (x : Hw) := RunsAll (.svFrameRx port f) s (settleAll false (advanceAll x))
      let old := (oldMatch f h).filter (fun e => oldNeeds f e.1 e.2.1 e.2.2 h)
      (old = none → end_ (putIngestPort port { q' with unmatched := inc32 q.unmatched } h))
      ∧ (∀ o c n, old = some (o, c, n) → end_ (inOld (takeFrame port f c n) (putIngestPort port q' h))))
  ∧ (∀ g : Hw, g.cfg.old = none → feedOld port f g = g ∧ settleAll false g = settleRows false g)
  ∧ (∀ c n, ingestRuns h = true → port < 8 → q'.inSecond ≤ 2000000 → matching f h = some (c, n) →
      let g := putIngestPort port q' h
      let st := streamAt n h
      let runs (x : Hw) := RunsAll (.svFrameRx port f) s (settleAll false (advanceAll (feedOld port f x)))
      (portMatch c port = false →
        runs (putIngestPort port { q' with wrongPort := inc32 q.wrongPort } (putStream n { st with wrongPort := inc32 st.wrongPort } g)))
      ∧ (portMatch c port = true → wellFormedFrame c f = false → runs (putStream n { st with malformed := inc32 st.malformed } g))
      ∧ (portMatch c port = true → wellFormedFrame c f = true → f.confRev ≠ c.confRev → runs (putStream n { st with confRev := inc32 st.confRev } g))
      ∧ (∀ flags succ, portMatch c port = true → wellFormedFrame c f = true → f.confRev = c.confRev → authVerdict c f g = (none, flags, succ) →
          (simDrops st f g = true → runs (putStream n { st with simDrop := inc32 st.simDrop } g))
          ∧ (simDrops st f g = false → (st.blocked = true ∨ streamShut n g = true) → runs (putStream n { st with blockedDrop := inc32 st.blockedDrop } g))
          ∧ (simDrops st f g = false → st.blocked = false → streamShut n g = false →
              let x := noteLatency n c f g
              let sx := streamAt n x
              runs (f.asdus.foldl (fun g a => takeAsdu n c port (flags + flag f.sim 0) a g) (putStream n { sx with
                lastSynch := synchOf (match f.asdus.getLast? with | some a => a.smpSynch | none => 2)
                anyFrame := true
                simUse := sx.simUse || f.sim
                underSuccessor := if flags = 8 then succ else sx.underSuccessor } x)))))

/-- ROW_OPEN, HORIZON_EXPIRY, and the settling both end with. -/
def Obligations.RowsOpenAndSettle : Prop :=
  (∀ (k : Nat) (s : State), ingestRuns s.hw = true →
    let end_ (x : Hw) := RunsAll (.rowOpen k) s (settleAll false (advanceAll x))
    (oldToOpen k s.hw = false → s.hw.ing.nextOpen ≤ k → openDue k s.hw = true → end_ (openTo k none s.hw))
    ∧ (oldToOpen k s.hw = false → k < s.hw.ing.nextOpen ∨ openDue k s.hw = false → end_ s.hw)
    ∧ (∀ o, s.hw.cfg.old = some o → o.nextOpen ≤ k → k < o.endK → openDue k (oldView o s.hw) = true →
        end_ (inOld (fun v => if v.ing.nextOpen ≤ k ∧ openDue k v = true then openTo k none v else v) s.hw)))
  ∧ (∀ (k : Nat) (s : State), ingestRuns s.hw = false → RunsAll (.rowOpen k) s s.hw ∧ ∀ n, RunsAll (.horizonExpiry n k) s s.hw)
  ∧ (∀ (n k : Nat) (s : State), ingestRuns s.hw = true →
      let end_ (x : Hw) := RunsAll (.horizonExpiry n k) s (settleAll true (advanceAll x))
      (oldOpen k s.hw = false → ∀ (c : StreamConfig) (r : Row), subscription n s.hw = some c → openRow k s.hw = some r → r.bloomSeq = s.hw.cfg.bloomSeq →
        (tfind r.parts n = none → horizonAt c (streamAt n s.hw) (fGrid s.hw) k < exact s.hw.time.now → end_ (substitute n c k s.hw))
        ∧ (exact s.hw.time.now ≤ horizonAt c (streamAt n s.hw) (fGrid s.hw) k ∨ (tfind r.parts n).isSome → end_ s.hw))
      ∧ (oldOpen k s.hw = true → end_ (inOld (expireAt n k) s.hw)))
  ∧ (∀ (hz : Bool) (h : Hw), (h.ing.open_.filter (due? h)) ≠ [] →
      let g := settleRows hz h
      g.ing.open_ = h.ing.open_.filter (fun r => !due? h r)
      ∧ g.ing.lastSettled = (h.ing.open_.filter (due? h)).foldl (fun m r => max m r.k) (gridTop h))

/-- Where the LOOP commands complete, and with what effect. -/
def Obligations.LoopCommandsComplete : Prop :=
  ∀ (c : Call) (p : List Byte) (s : State),
  let h := s.hw
  let n := u16 p 0
  (∀ i : LoopInst, definedLoop n h = some i →
    (Passes cmdLoopStatus c p s →
      Runs (.loopStatus c p) s (okReply cmdLoopStatus c (loopStatusBytes n i h)
        (putLoop n (if bit (u8 p 2) 0 then { i with coasts := 0, lockLosses := 0, gated := 0 } else i) h)))
    ∧ (Passes cmdLoopProfile c p s → 1 ≤ u8 p 2 → u8 p 2 ≤ 3 →
        Runs (.loopProfile c p) s (okReply cmdLoopProfile c []
          (putLoop n { i with next := some (applyProfile (u8 p 2) (fGrid h) (i.next.getD i.params)), tuned := true, swapNext := i.swapNext.map (fun e => (e.1, applyProfile (u8 p 2) (fGrid h) e.2)) } h)))
    ∧ (Passes cmdLoopReset c p s → n ≠ 0xFFFF → Runs (.loopReset c p) s (okReply cmdLoopReset c [] (putLoop n { i with resetReq := true } h)))
    ∧ (∀ m : LoopMemory, Passes cmdLoopMemoryRead c p s → memoryOf i (u16 p 2) = some m → 1 ≤ u16 p 6 → u16 p 6 ≤ 1024 → u16 p 4 < i.params.taps →
        Runs (.loopMemoryRead c p) s (okReply cmdLoopMemoryRead c
          (le 2 n ++ le 2 (u16 p 2) ++ le 2 i.params.taps ++ le 1 (if m.init ∧ loopWindow (loopGrid i h) i.params ≤ m.learned then 1 else 0) ++ zeros 1 ++ le 8 i.u
            ++ ((List.range (u16 p 6)).map (fun j => leF (m.taps.getD ((u16 p 4 + j) % i.params.taps) 0#32))).flatten) h))
    ∧ (Passes cmdLoopTune c p s →
        let q := tunedParams p (comingParams i)
        loopRange q = true → loopLimits q = true → loopStable q = true → loopTaps q = true →
        loopWords (streamsOf h) ((n, q.taps) :: (h.loop.insts.filter (fun e => e.2.defined && e.1 != n)).map (fun e => (e.1, (comingParams e.2).taps))) ≤ loopPool →
        Runs (.loopTune c p) s (okReply cmdLoopTune c [] (putLoop n { i with next := some (tunedParams p (i.next.getD i.params)), tuned := true, swapNext := i.swapNext.map (fun e => (e.1, tunedParams p e.2)) } h))))
  ∧ (Passes cmdLoopReset c p s → n = 0xFFFF →
      Runs (.loopReset c p) s (okReply cmdLoopReset c []
        { h with loop := { h.loop with insts := tmap h.loop.insts (fun _ i => if i.defined then { i with resetReq := true } else i) } }))
  ∧ (definedLoop n h = none → n ≠ 0xFFFF →
      (Passes cmdLoopStatus c p s → Runs (.loopStatus c p) s (refusal cmdLoopStatus c stBadParam rcLoopNoInstance [] h))
      ∧ (Passes cmdLoopProfile c p s → Runs (.loopProfile c p) s (refusal cmdLoopProfile c stBadParam rcLoopNoInstance [] h))
      ∧ (Passes cmdLoopReset c p s → Runs (.loopReset c p) s (refusal cmdLoopReset c stBadParam rcLoopNoInstance [] h))
      ∧ (Passes cmdLoopMemoryRead c p s → Runs (.loopMemoryRead c p) s (refusal cmdLoopMemoryRead c stBadParam rcLoopNoInstance [] h))
      ∧ (Passes cmdLoopTune c p s → Runs (.loopTune c p) s (refusal cmdLoopTune c stBadParam rcLoopNoInstance [] h)))

/-- LOOP_STEP and LOOP_TEU_FALLBACK. -/
def Obligations.LoopStepsInRowOrder : Prop :=
  ∀ (n : Nat) (s : State),
  let h := s.hw
  let i := tget h.loop.insts n {}
  (i.defined = false → Runs (.loopStep n) s h ∧ Runs (.loopTeuFallback n) s h)
  ∧ (i.defined = true → i.params.source = none → i.grid ≠ 0 → Runs (.loopStep n) s (inOld (loopNext n) h))
  ∧ (i.defined = true → i.params.source = none → i.grid = 0 → nextLoopRow i h = none → Runs (.loopStep n) s h)
  ∧ (∀ r : Row, i.defined = true → i.params.source = none → i.grid = 0 → nextLoopRow i h = some r →
      Runs (.loopStep n) s (loopStepAt n r.k r h)
      ∧ r ∈ h.ing.ring ∧ r.f = fGrid h ∧ i.from_ ≤ r.k ∧ r.k < h.ing.nextSettle
      ∧ (∀ x ∈ h.ing.ring, x.f = fGrid h → i.from_ ≤ x.k → x.k < h.ing.nextSettle → r.k ≤ x.k)
      ∧ (tget (loopStepAt n r.k r h).loop.insts n {}).u = r.k ∧ (tget (loopStepAt n r.k r h).loop.insts n {}).from_ = r.k + 1)
  ∧ (∀ t : Nat, i.defined = true → i.params.source = some t →
      Runs (.loopStep n) s h
      ∧ (i.grid = 0 → h.ing.ring.length ≤ 4096 → nextLoopRow (tget (loopEdge n h).loop.insts n {}) (loopEdge n h) = none)
      ∧ (∀ r : Row, i.grid = 0 → nextLoopRow i h = some r →
          let at_ := (r.settled.map (fun e => e.1)).getD 0
          (at_ + nsUnits 10000000 ≤ h.time.now →
            let g := loopRunAll 4096 n h
            let j := tget g.loop.insts n {}
            let j' := onGrid j
            j'.params.source = none ∧ j'.fallback = true ∧ (∀ e, j'.swapNext = some e → e.2.source = none) ∧ (∀ q, j'.next = some q → q.source = none) ∧
            Runs (.loopTeuFallback n) s (evr 0x0711 (0x0700 + n) (loopPayload 0 0 j' g) (putLoop n j' g)))
          ∧ (h.time.now < at_ + nsUnits 10000000 → Runs (.loopTeuFallback n) s h)))

/-- Where the FILT commands complete, and with what effect. -/
def Obligations.FiltCommandsComplete : Prop :=
  ∀ (c : Call) (p : List Byte) (s : State) (x : Chain),
  let h := s.hw
  let n := u8 p 0
  tfind h.filt.chains n = some x →
  let used (l : List FiltStage) := (h.filt.chains.filter (fun e => e.1 != n)).foldl (fun a e => a + poolWords e.2.cfg.stages) (poolWords l)
  let withStages (l : List FiltStage) : Hw := putChain n { x with cfg := { x.cfg with stages := l }, tuned := true } h
  (Passes cmdFiltStatus c p s →
    Runs (.filtStatus c p) s (okReply cmdFiltStatus c (filtStatusBytes n x h)
      (if bit (u8 p 1) 0 then putChain n { x with asserts := 0, withheld := 0, questionable := 0, suspensions := 0 } h else h)))
  ∧ (Passes cmdFiltStart c p s →
      (x.state ≠ 0 → Runs (.filtStart c p) s (okReply cmdFiltStart c [] h))
      ∧ (x.state = 0 → x.cfg.stages ≠ [] → (x.cfg.fast = true → ∀ i ∈ x.cfg.inputs, chanEnabled i h = true) → coefsOk x.cfg.stages = true →
          loadsOk ((h.filt.chains.filter (fun e => e.2.state != 0 || e.1 == n)).map (fun e => (e.2.cfg, chainRate e.2.cfg h))) = true →
          Runs (.filtStart c p) s (okReply cmdFiltStart c [] (startChain n h))))
  ∧ (Passes cmdFiltStop c p s → Runs (.filtStop c p) s (okReply cmdFiltStop c [] (moveChain n 0 h)))
  ∧ (Passes cmdFiltProfile c p s → x.state = 0 →
      let cic : FiltStage := if u8 p 1 = 1 then { kind := 1, order := 4, decimation := 5 } else { kind := 1, order := 5, decimation := 125 }
      let l := [cic, { kind := 2, decimation := 2, taps := 23 }]
      let f0 := slotNominal (x.cfg.inputs.headD 0) h
      let taps := (fGrid h + f0 / 2) / f0
      let avg : List FiltStage := [{ kind := 3, taps := taps, coefs := (List.range taps).map (fun i => (i, fOfFrac 1 taps)) }]
      ((u8 p 1 = 1 ∨ u8 p 1 = 2) → x.cfg.fast = true → used l ≤ 32768 → Runs (.filtProfile c p) s (okReply cmdFiltProfile c [] (withStages l)))
      ∧ (u8 p 1 = 3 → x.cfg.fast = false → taps ≤ 256 → used avg ≤ 32768 → Runs (.filtProfile c p) s (okReply cmdFiltProfile c [] (withStages avg))))
  ∧ (Passes cmdFiltStageSet c p s → x.state = 0 → u8 p 1 ≤ 7 →
      let st : FiltStage := { kind := u8 p 2, order := u8 p 3, decimation := if u8 p 2 = 2 then 2 else u16 p 4, taps := u16 p 6, delay := f32 p 8 }
      let l := x.cfg.stages.take (u8 p 1) ++ [st] ++ x.cfg.stages.drop (u8 p 1 + 1)
      let cut := u8 p 2 = 0 ∧ u8 p 3 = 0 ∧ u16 p 4 = 0 ∧ u16 p 6 = 0 ∧ f32 p 8 = 0#32
      let shaped := (u8 p 2 = 1 ∧ u16 p 6 = 0 ∧ f32 p 8 = 0#32) ∨ (u8 p 2 = 2 ∧ u8 p 3 = 0 ∧ u16 p 4 = 0 ∧ f32 p 8 = 0#32) ∨ (u8 p 2 = 3 ∧ u8 p 3 = 0)
      (cut → Runs (.filtStageSet c p) s (okReply cmdFiltStageSet c [] (withStages (x.cfg.stages.take (u8 p 1)))))
      ∧ (shaped → stageRange st = true → u8 p 1 ≤ x.cfg.stages.length → cascadeOk x.cfg.fast l = true →
          inputsOk x.cfg.fast x.cfg.inputs (rateNow h) (8 * (streamsOf h).length) = true → used l ≤ 32768 →
          Runs (.filtStageSet c p) s (okReply cmdFiltStageSet c [] (withStages l))))
  ∧ (∀ st : FiltStage, Passes cmdFiltCoefLoad c p s → x.state = 0 → x.cfg.stages[u8 p 1]? = some st → st.kind = 3 → 1 ≤ u16 p 4 → u16 p 4 ≤ 256 →
      u16 p 2 + u16 p 4 ≤ st.taps →
      let st' : FiltStage := { st with coefs := (List.range (u16 p 4)).foldl (fun t j => tset t (u16 p 2 + j) (f32 p (8 + 4 * j))) st.coefs }
      Runs (.filtCoefLoad c p) s (okReply cmdFiltCoefLoad c [] (withStages (x.cfg.stages.take (u8 p 1) ++ [st'] ++ x.cfg.stages.drop (u8 p 1 + 1)))))
  ∧ (Passes cmdFiltThresholdSet c p s → u8 p 1 < x.cfg.inputs.length → u8 p 2 ≤ 1 → u8 p 3 ≤ 3 → u16 p 12 ≤ 1000 → fLe 0#32 (f32 p 8) = true →
      let k := tget x.comparators (2 * u8 p 1 + u8 p 2) {}
      let k' : Comparator := { k with mode := u8 p 3, level := f32 p 4, hysteresis := f32 p 8, holdoffMs := u16 p 12, asserted := k.asserted && k.mode == u8 p 3 }
      Runs (.filtThresholdSet c p) s (okReply cmdFiltThresholdSet c [] (putChain n { x with comparators := tset x.comparators (2 * u8 p 1 + u8 p 2) k' } h)))
  ∧ (Passes cmdFiltRead c p s → 1 ≤ u32 p 12 → u32 p 12 ≤ 64 → x.newest + 1 - x.ring.length ≤ u32 p 8 → u32 p 8 + u32 p 12 ≤ x.newest + 1 →
      Runs (.filtRead c p) s (okReply cmdFiltRead c (le 4 (x.newest + 1 - x.ring.length) ++ le 4 x.newest ++ zeros 8
        ++ (List.range (u32 p 12)).flatMap (fun i => filtEntry (x.ring.getD (x.newest - (u32 p 8 + i)) {}))) h))

/-- FILTER_OUTPUT_SAMPLE. -/
def Obligations.FilterOutputsAreKeptAndCompared : Prop :=
  ∀ (n : Nat) (s : State),
  let h := s.hw
  let x := chainAt n h
  (x.formed = [] → RunsAll (.filterOutputSample n) s h)
  ∧ (∀ (o : FiltOut) (rest : List FiltOut), x.formed = o :: rest →
      let x' : Chain := { x with
        formed := rest, ring := (o :: x.ring).take (x.cfg.ringSize / 48), newest := x.newest + 1
        questionable := if bit o.flags 1 then inc32 x.questionable else x.questionable }
      let g := putChain n x' h
      (o.flags % 4 ≠ 0 → RunsAll (.filterOutputSample n) s g)
      ∧ (o.flags % 4 = 0 →
          let g' := (List.range o.values.length).foldl (fun g ch =>
            compareOne n ch 1 o.time (o.values.getD ch 0#32) (compareOne n ch 0 o.time (o.values.getD ch 0#32) g)) g
          RunsAll (.filterOutputSample n) s (putChain n { (chainAt n g') with lastGood := o.values.zipIdx.map (fun e => (e.2, o.time, e.1)) } g'))
      ∧ x'.ring.length ≤ x.cfg.ringSize / 48)

/-- R194, and that these are accepted for no chain but a stopped one. -/
def Obligations.RunningChainsAreNotRestructured : Prop :=
  stBusy = 0x0030 ∧ rcFiltNotStopped = 0x0802
  ∧ (∀ (c : Call) (p : List Byte) (s : State) (x : Chain), tfind s.hw.filt.chains (u8 p 0) = some x → x.state ≠ 0 →
      (Passes cmdFiltCoefLoad c p s → Runs (.filtCoefLoad c p) s (refusal cmdFiltCoefLoad c stBusy rcFiltNotStopped (le 1 x.state) s.hw))
      ∧ (Passes cmdFiltStageSet c p s → Runs (.filtStageSet c p) s (refusal cmdFiltStageSet c stBusy rcFiltNotStopped (le 1 x.state) s.hw))
      ∧ (Passes cmdFiltProfile c p s → Runs (.filtProfile c p) s (refusal cmdFiltProfile c stBusy rcFiltNotStopped (le 1 x.state) s.hw)))
  ∧ (∀ (m : Cmd) (c : Call) (p : List Byte) (h g : Hw) (pay : List Byte), m ∈ [cmdFiltCoefLoad, cmdFiltStageSet, cmdFiltProfile] → m.body c p h = .ok g pay →
      ∃ x : Chain, tfind h.filt.chains (u8 p 0) = some x ∧ x.state = 0)
  ∧ (∀ (m : Cmd) (c : Call) (st rc : Nat) (pay : List Byte) (h : Hw),
      let g := refusal m c st rc pay h
      g.filt = h.filt ∧ g.time = h.time ∧ g.acq = h.acq ∧ g.ing = h.ing ∧ g.spec = h.spec ∧ g.fab = h.fab ∧ g.keys = h.keys ∧ g.cfg = h.cfg ∧ g.mode = h.mode)

/-- Where the ACQ commands complete, and with what effect. CAPTURE_SET defining a capture the Bloom does not is the model's choice (log 32). -/
def Obligations.AcqCommandsComplete : Prop :=
  ∀ (c : Call) (p : List Byte) (s : State),
  let h := s.hw
  let n := u8 p 0
  let named := if n = 0xFF then h.acq.captures.map (fun e => e.1) else [n]
  (∀ x : Capture, Passes cmdAcqStatus c p s → tfind h.acq.captures n = some x →
    Runs (.acqStatus c p) s (okReply cmdAcqStatus c (acqStatusBytes n x h) (if bit (u8 p 1) 0 then
      putCapture n { x with records := 0, triggers := 0, secondaries := 0, forced := 0, forcedSuspended := 0, noSpace := 0, shorts := 0, maskFailures := 0, future := 0 } h else h)))
  ∧ (∀ x : LinkInst, Passes cmdAcqLinkStatus c p s → tfind h.acq.links n = some x →
      Runs (.acqLinkStatus c p) s (okReply cmdAcqLinkStatus c (le 1 n ++ le 1 x.state ++ le 1 x.cfg.lanes ++ le 1 (flag x.cfg.realign 0)
        ++ le 4 x.crcErrors ++ le 4 x.headerErrors ++ le 4 x.phaseErrors ++ le 4 x.realigns ++ leInt 4 (deltaPs h.acq.delta) ++ le 2 x.skew ++ zeros 2 ++ le 4 x.invalid) h))
  ∧ (Passes cmdAcqArm c p s → (∀ j ∈ named, (tfind h.acq.captures j).isSome) →
      let due := named.filter (fun j => (captureAt j h).state == 0)
      (due = [] → Runs (.acqArm c p) s (okReply cmdAcqArm c (zeros 8) h))
      ∧ (due ≠ [] → segmentsFree h = true → (∀ j ∈ due, fitsRing (captureAt j h) (wantSegments h) h = true) →
          Runs (.acqArm c p) s (okReply cmdAcqArm c (zeros 8) (due.foldl (fun g j => armCapture (c.hdr.slice, j) j g) h))))
  ∧ (∀ (holder : Nat × Nat) (j : Nat) (g : Hw), (captureAt j g).state = 0 → armCapture holder j g =
      putCapture j { captureAt j g with state := 1, since := some g.time.mono, byViolation := false, stopDue := false }
        { g with acq := { g.acq with holder := if g.acq.segments = 0 then holder else g.acq.holder, segments := wantSegments g } })
  ∧ (Passes cmdAcqStop c p s → (∀ j ∈ named, (tfind h.acq.captures j).isSome) →
      Runs (.acqStop c p) s (okReply cmdAcqStop c [] (named.foldl (fun g j => stopBy (bit (u8 p 1) 0) j g) h)))
  ∧ (Passes cmdAcqTrigger c p s → (n = 0xFF ∨ (tfind h.acq.captures n).isSome) → u64 p 16 < 2 ^ 40 →
      let t := if u64 p 8 = 0 ∧ u64 p 16 = 0 then to40 h.time.now else u64 p 8 * 2 ^ 40 + u64 p 16
      (∀ o, ringOldest h = some o → o ≤ t) →
      Runs (.acqTrigger c p) s (okReply cmdAcqTrigger c []
        { h with acq := { h.acq with inFlight := h.acq.inFlight ++ [{ source := .command (if n = 0xFF then none else some n), time := t }] } }))
  ∧ (∀ r : CapRecord, Passes cmdAcqRecordRead c p s → h.acq.records.find? (fun r => r.number == u32 p 0) = some r → u32 p 8 ≤ 16384 → u32 p 4 + u32 p 8 ≤ r.data.length →
      Runs (.acqRecordRead c p) s (okReply cmdAcqRecordRead c (headerOf r ++ slice r.data (u32 p 4) (u32 p 8)) h))
  ∧ (∀ r : CapRecord, Passes cmdAcqRecordLock c p s → h.acq.records.find? (fun r => r.number == u32 p 0) = some r → u8 p 4 ≤ 1 →
      (u8 p 4 = 0 ∨ r.locked = true ∨ lockedBytes h.acq.records + recordBytes r ≤ (acqSection h).storeBytes / 2) →
      Runs (.acqRecordLock c p) s (okReply cmdAcqRecordLock c []
        { h with acq := { h.acq with records := h.acq.records.map (fun x => if x.number = r.number then { x with locked := u8 p 4 == 1 } else x) } }))
  ∧ (∀ (x : Capture) (j : Nat), Passes cmdAcqProfile c p s → tfind h.acq.captures n = some x → x.state = 0 →
      ((List.range 32).filter (fun j => chanEnabled j h)).head? = some j →
      let ms (t : Nat) := t * chanRate j h / 1000
      let mask := ((List.range 32).filter (fun j => chanEnabled j h)).foldl (fun a j => a + 2 ^ j) 0
      let set (mode pre post gather timeout : Nat) : Hw := putCapture n { x with tuned := true, cfg := { x.cfg with
        mode := mode, channels := mask, pre := ms pre, post := ms post, gatherUs := gather, timeoutMs := timeout } } h
      (u8 p 1 = 1 → Runs (.acqProfile c p) s (okReply cmdAcqProfile c [] (set 0 2 8 1000 x.cfg.timeoutMs)))
      ∧ (u8 p 1 = 2 → Runs (.acqProfile c p) s (okReply cmdAcqProfile c [] (set 0 5 10 2000 x.cfg.timeoutMs)))
      ∧ (u8 p 1 = 3 → Runs (.acqProfile c p) s (okReply cmdAcqProfile c [] (set 1 1 1 0 1000))))
  ∧ (Passes cmdAcqCaptureSet c p s → n ≤ 15 → (captureAt n h).state = 0 → u8 p 1 ≤ 2 → u8 p 2 ≤ 15 →
      (∀ j < 32, bit (u32 p 4) j = true → chanEnabled j h = true) → 1 ≤ u32 p 12 → 1 ≤ u32 p 16 → u32 p 16 ≤ 60000 → u16 p 20 ≤ 2000 → u16 p 22 ≤ 511 →
      u8 p 25 ≤ 4 → (u16 p 40 ≤ 511 ∨ u16 p 40 = 0xFFFF) → (∀ x ∈ [u16 p 32, u16 p 34, u16 p 36, u16 p 38], x &&& 0x7C00 = 0) →
      let x := captureAt n h
      Runs (.acqCaptureSet c p) s (okReply cmdAcqCaptureSet c [] (putCapture n { x with tuned := true, cfg := {
        mode := u8 p 1, stopOnViolation := bit (u8 p 2) 0, sendCross := bit (u8 p 2) 1, lockEach := bit (u8 p 2) 2, autoarm := bit (u8 p 2) 3
        trigIn := u8 p 3 % 16, falling := u8 p 3 / 16, channels := u32 p 4, pre := u32 p 8, post := u32 p 12, timeoutMs := u32 p 16
        gatherUs := u16 p 20, owner := u16 p 22, sendGroup := u8 p 24, groups := (List.range (u8 p 25)).map (fun j => u8 p (26 + j))
        selectors := [u16 p 32, u16 p 34, u16 p 36, u16 p 38], decisionSlice := u16 p 40, decisionFn := u16 p 42, decisionCode := u16 p 44
        masks := x.cfg.masks } } h)))
  ∧ (∀ x : Capture, Passes cmdAcqMaskSet c p s → tfind h.acq.captures n = some x → x.state = 0 →
      let u := u8 p 4
      let d := u8 p 5
      let m : MaskTest := { channel := u8 p 2, enabled := bit (u8 p 3) 0, upper := readVertices p 8 u, lower := readVertices p (8 + 8 * u) d }
      let masks := tset x.cfg.masks (u8 p 1) m
      u8 p 1 ≤ 15 → chanEnabled (u8 p 2) h = true → u8 p 3 ≤ 1 → 2 ≤ u → u ≤ 32 → 2 ≤ d → d ≤ 32 → risingTimes m.upper = true → risingTimes m.lower = true →
      (h.acq.captures.filter (fun e => e.1 != n)).foldl (fun a e => a + vertexCount e.2.cfg.masks) (vertexCount masks) ≤ 2048 →
      Runs (.acqMaskSet c p) s (okReply cmdAcqMaskSet c [] (putCapture n { x with cfg := { x.cfg with masks := masks }, tuned := true } h)))
  ∧ (Passes cmdAcqLinkSet c p s → n ≤ 3 → u8 p 14 ≤ 1 → u16 p 12 ≤ 4095 →
      let k : LinkConfig := { lanes := u8 p 1, first := u8 p 2, converters := u8 p 3, octets := u8 p 4, samples := u8 p 5, blocks := u8 p 6, rbd := u8 p 7
                              fs := u32 p 8, latency := u16 p 12, realign := bit (u8 p 14) 0, enable := u32 p 16, teu := (linkAt n h).cfg.teu }
      let g := moveLink n 0 h
      (k.lanes = 0 → Runs (.acqLinkSet c p) s (okReply cmdAcqLinkSet c [] (followLinks { g with acq := { g.acq with links := tdel g.acq.links n } })))
      ∧ (k.lanes ≠ 0 → linksOk (k :: (h.acq.links.filter (fun e => e.1 != n)).map (fun e => e.2.cfg)) (sysrefPeriod h) = true →
          Runs (.acqLinkSet c p) s (okReply cmdAcqLinkSet c [] (followLinks (putLink n { linkAt n g with cfg := k, ring := [] } g)))))
  ∧ (∀ x : Capture, tfind h.acq.captures n = some x → x.state ≠ 0 →
      (Passes cmdAcqProfile c p s → Runs (.acqProfile c p) s (refusal cmdAcqProfile c stBusy rcAcqNotStopped [] h))
      ∧ (Passes cmdAcqMaskSet c p s → Runs (.acqMaskSet c p) s (refusal cmdAcqMaskSet c stBusy rcAcqNotStopped [] h)))

/-- JESD_LINK_STATE_CHANGE, JESD_SYSREF_EDGE, JESD_ALIGN_DONE and JESD_NO_SYSREF. -/
def Obligations.LinksClimbInOrder : Prop :=
  (∀ (l : Nat) (s : State), (linkAt l s.hw).cfg.lanes ≠ 0 →
    let h := s.hw
    let x := linkAt l h
    (x.state = 0 → Runs (.jesdLinkStateChange l .headerLock) s (moveLink l 1 h))
    ∧ (x.state ≠ 0 → Runs (.jesdLinkStateChange l .headerLock) s h)
    ∧ (∀ k, x.state = 1 → Runs (.jesdLinkStateChange l (.blockLock k)) s (moveLink l 2 (putLink l { x with skew := k } h)))
    ∧ (∀ k, x.state ≠ 1 → Runs (.jesdLinkStateChange l (.blockLock k)) s h)
    ∧ Runs (.jesdLinkStateChange l .loss) s (moveLink l 0 h)
    ∧ (x.state = 0 → Runs (.jesdLinkStateChange l .loss) s h))
  ∧ (∀ (nominal captured : Nat) (far : List Nat) (s : State),
      let g := { s.hw with acq := { s.hw.acq with delta := (captured : Int) - nominal } }
      (sysrefFired nominal s.hw = true → Runs (.jesdSysrefEdge nominal captured far) s ([0, 1, 2, 3].foldl (fun h l => sysrefAt nominal far l h) g))
      ∧ (sysrefFired nominal s.hw = false → Runs (.jesdSysrefEdge nominal captured far) s s.hw))
  ∧ (∀ (nominal : Nat) (far : List Nat) (l : Nat) (h : Hw),
      let x := linkAt l h
      (x.state = 2 → sysrefAt nominal far l h = moveLink l 3 (putLink l { x with aligned := nominal, shift := 0 } h))
      ∧ ((x.state ≤ 1 ∨ (x.state ≠ 2 ∧ l ∉ far)) → sysrefAt nominal far l h = h)
      ∧ (x.state = 4 → l ∈ far → x.cfg.realign = false → sysrefAt nominal far l h = putLink l { x with phaseErrors := inc32 x.phaseErrors } h)
      ∧ (x.state = 4 → l ∈ far → x.cfg.realign = true →
          (realignDown x.cfg = true → sysrefAt nominal far l h = moveLink l 0 (putLink l { x with phaseErrors := inc32 x.phaseErrors } h))
          ∧ (realignDown x.cfg = false → sysrefAt nominal far l h = moveLink l 3
              (putLink l { x with phaseErrors := inc32 x.phaseErrors, aligned := nominal, shift := 0, realigns := inc32 x.realigns } h))))
  ∧ (∀ (l : Nat) (s : State), (linkAt l s.hw).state = 3 →
      let x := linkAt l s.hw
      let due := ((alignSample x * x.cfg.octets + x.cfg.rbd * x.cfg.samples : Nat) : Int) * 2 ^ 64 ≤ ((s.hw.time.now : Int) - x.shift) * x.cfg.octets * x.cfg.fs
      (due → Runs (.jesdAlignDone l) s (moveLink l 4 (putLink l { x with next := alignSample x - x.cfg.latency } s.hw)))
      ∧ (¬due → Runs (.jesdAlignDone l) s s.hw))
  ∧ (∀ (l : Nat) (s : State), (linkAt l s.hw).state = 2 → (linkAt l s.hw).since + 2 * secUnit ≤ s.hw.time.mono →
      let x := linkAt l s.hw
      (x.reported = false → Runs (.jesdNoSysref l) s (acqRecord 0x0914 0x09FF l 0 0 0 (to40 s.hw.time.now) (putLink l { x with reported := true } s.hw)))
      ∧ (x.reported = true → Runs (.jesdNoSysref l) s s.hw))
  ∧ (∀ (l new : Nat) (h : Hw), (linkAt l h).state ≠ new → (linkAt l (moveLink l new h)).state = new)

/-- FAST_SAMPLE_DEFRAMED, TRIGGER_ARRIVAL, GATHER_WINDOW_END, CAPTURE_POST_COMPLETE, CAPTURE_COMMIT_DONE, AUTO_TIMEOUT and CROSS_TRIGGER_RX. -/
def Obligations.CapturesGatherCollectAndCommit : Prop :=
  (∀ (l crc hdr : Nat) (vals : List (Int × Bool)) (s : State),
    let h := s.hw
    let x := retake (linkAt l h)
    let on := vals.zipIdx.filter (fun e => bit x.cfg.enable e.2)
    let stored (v : Int × Bool) : Int := if v.2 then -32768 else if v.1 ≤ -32768 then -32767 else if 32767 < v.1 then 32767 else v.1
    let d : FastSample := { n := x.next, codes := vals.zipIdx.map (fun e => if bit x.cfg.enable e.2 then stored e.1 else 0)
                            clipped := (on.filter (fun e => !e.1.2 && e.1.1 ≤ -32768)).map (fun e => e.2) }
    (x.state = 4 → vals.length = x.cfg.converters →
      let x' : LinkInst := { x with
        next := x.next + 1, ring := if h.acq.segments = 0 then [] else (d :: x.ring).take (ringDepth x h.acq.segments h)
        crcErrors := sat32 (x.crcErrors + crc), headerErrors := sat32 (x.headerErrors + hdr), invalid := sat32 (x.invalid + (on.filter (fun e => e.1.2)).length) }
      let g := putLink l x' h
      let g := { g with acq := { g.acq with captures := tmap g.acq.captures (fun _ c => collect l x.cfg.fs d c) } }
      Runs (.fastSampleDeframed l vals crc hdr) s (feedFast d.n (on.map (fun e => (chanBase l g.acq.links + e.2, stored e.1))) (takeHeld g)))
    ∧ ((x.state ≠ 4 ∨ vals.length ≠ x.cfg.converters) → Runs (.fastSampleDeframed l vals crc hdr) s h))
  ∧ (∀ (j : Nat) (t : Trigger) (s : State), s.hw.acq.inFlight[j]? = some t →
      Runs (.triggerArrival j) s (triggerAll t { s.hw with acq := { s.hw.acq with inFlight := s.hw.acq.inFlight.eraseIdx j } }))
  ∧ (∀ (n : Nat) (t : Trigger) (h : Hw), (captureAt n h).state ≠ 0 → selects n (captureAt n h).cfg t.source = true →
      let c := captureAt n h
      let now := to40 h.time.now
      (now + 2 ^ 40 < t.time → triggerAt n t h = putCapture n { c with future := inc32 c.future } h)
      ∧ (now < t.time → t.time ≤ now + 2 ^ 40 → triggerAt n t h = putCapture n { c with held := c.held ++ [t] } h)
      ∧ (t.time ≤ now → triggerAt n t h = takeTrigger n t h))
  ∧ (∀ (n : Nat) (t : Trigger) (h : Hw),
      let c := captureAt n h
      let ls := captureLinks c h
      (c.state = 1 → ls ≠ [] → (∀ l ∈ ls, sampleThere t.time l h = true) → takeTrigger n t h = putCapture n { c with
        state := 2, trigger := t, cls := timeClass h, errorNs := errorNs h, accepted := h.time.mono, secondary := [], more := 0, samples := []
        truncated := ls.any (fun l => cutShort t.time c.cfg.post l h), triggers := inc32 c.triggers
        forced := if t.source = .timeout n then inc32 c.forced else c.forced } h)
      ∧ (c.state = 2 → h.time.mono < c.accepted + nsUnits (c.cfg.gatherUs * 1000) → t.time < c.trigger.time →
          takeTrigger n t h = putCapture n { addSecondary c.trigger.time c with trigger := t, cls := timeClass h, errorNs := errorNs h } h)
      ∧ (c.state = 2 → (c.accepted + nsUnits (c.cfg.gatherUs * 1000) ≤ h.time.mono ∨ c.trigger.time ≤ t.time) → takeTrigger n t h = putCapture n (addSecondary t.time c) h)
      ∧ (3 ≤ c.state → takeTrigger n t h = putCapture n (addSecondary t.time c) h))
  ∧ (∀ (n : Nat) (s : State), (captureAt n s.hw).state = 2 →
      let h := s.hw
      let x := captureAt n h
      let c : Capture := { x with state := 3, delta := h.acq.delta }
      let window (l : Nat) : List FastSample :=
        let nt := triggerIndex c (linkAt l h).cfg.fs
        sampleRunAt c.truncated nt ((linkAt l h).ring.filter (fun d => nt - c.cfg.pre ≤ d.n && d.n < nt + c.cfg.post))
      let c' : Capture := { c with samples := (captureLinks c h).map (fun l => (l, window l)) }
      (x.accepted + nsUnits (x.cfg.gatherUs * 1000) ≤ h.time.mono → Runs (.gatherWindowEnd n) s (sendCross c' (putCapture n c' h)))
      ∧ (h.time.mono < x.accepted + nsUnits (x.cfg.gatherUs * 1000) → Runs (.gatherWindowEnd n) s h))
  ∧ (∀ (n : Nat) (s : State), (captureAt n s.hw).state = 3 →
      let x := captureAt n s.hw
      let complete := x.truncated = true ∨ ∀ e ∈ x.samples, triggerIndex x (linkAt e.1 s.hw).cfg.fs + x.cfg.post ≤ (linkAt e.1 s.hw).next
      (complete → Runs (.capturePostComplete n) s (putCapture n { x with
        state := 4, built := (buildRecord n x s.hw).1, found := (buildRecord n x s.hw).2, samples := [], preShort := bit (u16 (buildRecord n x s.hw).1.header 38) 1 } s.hw))
      ∧ (¬complete → Runs (.capturePostComplete n) s s.hw))
  ∧ (∀ (n : Nat) (s : State), (captureAt n s.hw).state = 4 →
      let h := s.hw
      let x := captureAt n h
      let r : CapRecord := { x.built with number := h.acq.nextRecord, header := le 4 h.acq.nextRecord ++ (withSecondaries x x.built.time x.built.header).drop 4 }
      let c : Capture := { x with
        untested := sat32 (x.untested + x.found.untested), shorts := if x.preShort then inc32 x.shorts else x.shorts
        maskFailures := if x.found.failing ≠ 0 then inc32 x.maskFailures else x.maskFailures }
      let room := makeRoom (h.acq.records.length + 1) (recordBytes r) (acqSection h).storeBytes h.acq.records
      (room = none → RunsAll (.captureCommitDone n) s
        (afterCommit n r.number (acqRecord 0x0913 0x09FF n 0 0 r.number r.time (putCapture n { c with noSpace := inc32 c.noSpace } h))))
      ∧ (∀ l : List CapRecord, room = some l →
          let g := putCapture n { c with records := inc32 c.records, last := r.number } h
          let r' : CapRecord := { r with locked := c.cfg.lockEach && lockedBytes l + recordBytes r ≤ (acqSection h).storeBytes / 2 }
          RunsAll (.captureCommitDone n) s (afterCommit n r.number (dispatchLocators r (acqRecord 0x0911 0x09FF n 0 0 r.number r.time
            { g with acq := { g.acq with records := r' :: l, nextRecord := (h.acq.nextRecord + 1) % 2 ^ 32 }
                     fab := { g.fab with events := g.fab.events ++ [.capture n] } })))))
  ∧ (∀ (n t : Nat) (s : State), (captureAt n s.hw).state = 1 → (captureAt n s.hw).cfg.mode = 1 → (captureAt n s.hw).since = some t →
      let h := s.hw
      let x := captureAt n h
      t + nsUnits (x.cfg.timeoutMs * 1000000) ≤ h.time.mono →
      (h.fab.budget.level = 2 → Runs (.autoTimeout n) s (putCapture n { x with since := none, forcedSuspended := inc32 x.forcedSuspended } h))
      ∧ (h.fab.budget.level ≠ 2 →
          Runs (.autoTimeout n) s (triggerAt n { source := .timeout n, time := to40 h.time.now } (putCapture n { x with since := some h.time.mono } h))))
  ∧ (∀ (m : CrossMessage) (s : State),
      let h := s.hw
      let b := boundPeer (fun b => b.groups) m.group h
      let id := m.moduleId * 256 + m.group
      chainsRun h = true → m.authentic = true → groupKeyUsable m.group h = true → m.version = 1 → h.const.dissenting = false → bit m.flags 1 = false →
      bit m.flags 0 = (h.mode == .test) → (match b with | some q => gateClosed q h = false | none => (constOf h).isSome) →
      (m.sequence ∈ tget h.acq.seen id [] → Runs (.crossTriggerRx m) s h)
      ∧ (m.sequence ∉ tget h.acq.seen id [] →
          let either : Bool := match b with | some q => suspectEither q h | none => false
          let late := bit m.flags 2 || m.cls == 6 || m.cls == 7 || either
          Runs (.crossTriggerRx m) s (launch
            { source := .cross m.group, time := if late then to40 h.time.now else m.sec * 2 ^ 40 + m.frac40 % 2 ^ 40, suspect := late }
            { h with acq := { h.acq with seen := tset h.acq.seen id (m.sequence :: tget h.acq.seen id []) } })))

/-- Where the PHASOR and LOC commands complete, and with what effect. -/
def Obligations.PhasorAndLocCommandsComplete : Prop :=
  ∀ (c : Call) (p : List Byte) (s : State),
  let h := s.hw
  let n := u8 p 0
  (∀ x : Synchro, tfind h.phasor.streams n = some x →
    (Passes cmdPhasorStatus c p s →
      Runs (.phasorStatus c p) s (okReply cmdPhasorStatus c
        (le 1 n ++ le 1 (synchroState x) ++ le 1 x.cfg.cls ++ le 1 (flag x.cfg.extended 0 + flag (changePending x.cfg h) 1 + flag x.client 2) ++ le 2 x.cfg.rate
          ++ le 2 x.cfg.idcode ++ le 4 x.sent ++ le 4 x.modified ++ le 4 x.errors ++ le 4 x.commands ++ le 4 x.ignored ++ le 4 x.latencyMax)
        (if bit (u8 p 1) 0 then putSynchro n { x with sent := 0, modified := 0, errors := 0, commands := 0, ignored := 0, latencyMax := 0 } h else h)))
    ∧ (Passes cmdPhasorStreamSet c p s → u8 p 1 ≤ 1 →
        Runs (.phasorStreamSet c p) s (okReply cmdPhasorStreamSet c [] (putSynchro n { x with enabled := u8 p 1 == 1, fresh := true } h)))
    ∧ (Passes cmdPhasorTune c p s →
        let k : SynchroConfig := { x.cfg with cls := u8 p 1, rate := u16 p 2, extended := bit (u8 p 4) 0 }
        (x.enabled = true → Runs (.phasorTune c p) s (refusal cmdPhasorTune c stBusy rcPhasorNotStopped [] h))
        ∧ (x.enabled = false → (∀ b ∈ k.blocks, rateOk (slotNominal b.freq.1 h) k.rate k.cls k.extended = true) →
            (h.phasor.streams.filter (fun e => e.1 != n)).foldl (fun a e => a + synchroLoad e.2.cfg) (synchroLoad k) ≤ 491520 →
            Runs (.phasorTune c p) s (okReply cmdPhasorTune c [] (putSynchro n { x with cfg := k, last := none } h)))))
  ∧ (∀ r : PhasorRow, Passes cmdPhasorRead c p s → h.phasor.ring.find? (fun r => r.k == u64 p 0) = some r → 1 ≤ u16 p 10 → u16 p 10 ≤ 1024 →
      u16 p 8 + u16 p 10 ≤ r.width →
      Runs (.phasorRead c p) s (okReply cmdPhasorRead c (le 8 (u64 p 0) ++ le 2 r.width ++ le 2 (u16 p 10) ++ zeros 4
        ++ (List.range (u16 p 10)).flatMap (fun j => phasorBytes (tget r.entries (u16 p 8 + j) {}))) h))
  ∧ (tfind h.phasor.streams n = none →
      (Passes cmdPhasorStatus c p s → Runs (.phasorStatus c p) s (refusal cmdPhasorStatus c stBadParam rcPhasorNoStream [] h))
      ∧ (Passes cmdPhasorStreamSet c p s → Runs (.phasorStreamSet c p) s (refusal cmdPhasorStreamSet c stBadParam rcPhasorNoStream [] h))
      ∧ (Passes cmdPhasorTune c p s → Runs (.phasorTune c p) s (refusal cmdPhasorTune c stBadParam rcPhasorNoStream [] h)))
  ∧ (∀ x : Line, tfind h.phasor.lines n = some x →
    (Passes cmdLocStatus c p s →
      Runs (.locStatus c p) s (okReply cmdLocStatus c
        (le 1 n ++ le 1 (flag (linePartner x).isSome 0 + flag x.lastRejected 1 + flag (h.const.dissenting || h.const.suspect) 2)
          ++ le 2 (((linePartner x).map (fun q => q.1)).getD 0xFFFF) ++ le 4 x.found ++ le 4 x.accepted ++ le 4 x.rejected ++ le 4 x.published
          ++ le 4 x.revisions ++ le 4 (if x.nextResult = 0 then 0xFFFFFFFF else x.nextResult - 1) ++ zeros 4)
        (if bit (u8 p 1) 0 then putLocator n { x with found := 0, accepted := 0, rejected := 0, published := 0, revisions := 0 } h else h)))
    ∧ (∀ r : LocResult, Passes cmdLocResultRead c p s →
        (if u32 p 4 = 0xFFFFFFFF then x.results.head? else x.results.find? (fun r => r.number == u32 p 4)) = some r →
        Runs (.locResultRead c p) s (okReply cmdLocResultRead c (resultBytes n r) h))
    ∧ (∀ b : List Byte, Passes cmdLocArrivalRead c p s →
        (if u32 p 4 = 0xFFFFFFFF then x.sentRecords.getLast?.map (fun e => e.2) else tfind x.sentRecords (u32 p 4)) = some b →
        Runs (.locArrivalRead c p) s (okReply cmdLocArrivalRead c b h))
    ∧ (Passes cmdLocLineSet c p s →
        let keep (o : Nat) (d : Int) : Int := if u32 p o = 0x80000000 then d else s32 p o
        let k : LineConfig := { x.cfg with
          waitMs := if u16 p 2 = 0 then x.cfg.waitMs else u16 p 2
          velocity := if u32 p 4 = 0 then x.cfg.velocity else f32 p 4
          length := if u32 p 8 = 0 then x.cfg.length else f32 p 8
          delays := [keep 12 (x.cfg.delays.getD 0 0), keep 16 (x.cfg.delays.getD 1 0), keep 20 (x.cfg.delays.getD 2 0)] }
        (lineOk k h = true → Runs (.locLineSet c p) s (okReply cmdLocLineSet c [] (putLocator n { x with cfg := k, usePartner := bit (u8 p 1) 0 } h)))
        ∧ (lineOk k h = false → Runs (.locLineSet c p) s (refusal cmdLocLineSet c stBadParam rcLocParamRange [] h))))
  ∧ (∀ l k : Nat, Passes cmdLocArrivalSubmit c p s → recordCheck p c.crypto.signed h = (l, k) →
      (k = 0 → Runs (.locArrivalSubmit c p) s (okReply cmdLocArrivalSubmit c [] (takeRecord l p h)))
      ∧ ((k = 1 ∨ k = 3) → Runs (.locArrivalSubmit c p) s (refusal cmdLocArrivalSubmit c stBadParam rcLocMalformed [] (rejectRecord l k h)))
      ∧ (k = 2 → Runs (.locArrivalSubmit c p) s (refusal cmdLocArrivalSubmit c stAuthFailed rcLocAuth [] (rejectRecord l k h)))
      ∧ (4 ≤ k → k ≤ 7 → Runs (.locArrivalSubmit c p) s (refusal cmdLocArrivalSubmit c stDenied rcLocPartnerRefused [] (rejectRecord l k h)))
      ∧ (k = 8 → Runs (.locArrivalSubmit c p) s (refusal cmdLocArrivalSubmit c stReplay rcLocDuplicate [] (rejectRecord l k h))))

/-- SYNCHROPHASOR_FRAME_SEND, C37118_COMMAND_RX and C37118_TCP_CONNECTION. -/
def Obligations.SynchrophasorStreamsRun : Prop :=
  ∀ (n : Nat) (s : State) (x : Synchro),
  let h := s.hw
  tfind h.phasor.streams n = some x →
  let c := x.cfg
  let f := fGrid h
  let per := f / c.rate
  let tail := (c.blocks.map (fun b => blockTail c b h)).foldl max 0
  let newest := (h.ing.nextSettle - 1 - tail) / per
  let j := match x.last with
    | none => newest
    | some l => if x.fresh = true ∨ ∀ r ∈ h.phasor.rows, r.k ≠ (l + 1) * per + tail then max newest (l + 1) else l + 1
  let k := j * per
  let ready := (h.mode = .serving ∨ h.mode = .test) ∧ synchroState x = 2 ∧ k + tail < h.ing.nextSettle ∧ ∃ r ∈ h.phasor.rows, r.k = k + tail
  (ready →
    let blocks := c.blocks.zipIdx.map (fun e => pmuData c e.1 e.2 k h)
    let u := utcAt (k / f) h
    let x' : Synchro := { x with
      last := some j, fresh := false, sent := inc32 x.sent, latencyMax := max x.latencyMax (sat32 ((h.time.now - instantTime f k) * 1000000000 / 2 ^ 64))
      modified := if blocks.any (fun b => bit b.stat 9) then inc32 x.modified else x.modified
      errors := if blocks.any (fun b => 2 ^ 14 ≤ b.stat) then inc32 x.errors else x.errors }
    Runs (.synchrophasorFrameSend n) s (emit
      (.synchro n (k / f - u.1) (k % f * (9600000 / f)) (flag u.2.1 0 + flag u.2.2 1) (messageQuality (timeClass h)) blocks) (drawn (putSynchro n x' h))))
  ∧ (¬ready → Runs (.synchrophasorFrameSend n) s h)
  ∧ (∀ cmd : Nat,
      let open_ := x.enabled = true ∧ (c.transport = 1 ∨ x.client = true)
      let y : Synchro := { x with commands := inc32 x.commands }
      (open_ → (cmd = 0 ∨ 6 < cmd) → Runs (.c37118CommandRx n cmd) s (putSynchro n { y with ignored := inc32 x.ignored } h))
      ∧ (open_ → (cmd = 1 ∨ cmd = 2) → Runs (.c37118CommandRx n cmd) s (putSynchro n { y with data := cmd == 2, fresh := true } h))
      ∧ (open_ → 3 ≤ cmd → cmd ≤ 6 → (h.mode = .serving ∨ h.mode = .test) →
          Runs (.c37118CommandRx n cmd) s (emit (.synchroConfig {
            stream := n, kind := cmd, idcode := c.idcode, soc := (socOf h.time.now h).1, fraction := (socOf h.time.now h).2.1, leap := (socOf h.time.now h).2.2
            quality := messageQuality (timeClass h), dataRate := c.rate
            blocks := if cmd = 3 then [] else c.blocks.map (fun b => {
              station := b.station, format := 15 + flag (c.extended && 5 ≤ cmd) 15, phasors := b.phasors, analogues := b.analogues, digital := b.digital
              nominal := slotNominal b.freq.1 h }) }) (putSynchro n y h)))
      ∧ (open_ → 3 ≤ cmd → cmd ≤ 6 → h.mode ≠ .serving → h.mode ≠ .test → Runs (.c37118CommandRx n cmd) s (putSynchro n y h))
      ∧ (¬open_ → Runs (.c37118CommandRx n cmd) s h))
  ∧ (c.transport ≠ 1 →
      (x.client = false → x.enabled = true → Runs (.c37118TcpConnection n true) s (putSynchro n { x with client := true } h))
      ∧ (x.client = true ∨ x.enabled = false → Runs (.c37118TcpConnection n true) s h)
      ∧ Runs (.c37118TcpConnection n false) s (putSynchro n { x with client := false, data := false, fresh := true } h))

/-- LOCATOR_ARRIVAL_FOUND, PARTNER_WAIT_EXPIRY, ARRIVAL_RECORD_RX and HELD_RECORD_EXPIRY. -/
def Obligations.ArrivalsArePairedOrPublished : Prop :=
  (∀ (n rec source : Nat) (s : State) (x : Line) (r : CapRecord),
    let h := s.hw
    tfind h.phasor.lines n = some x → h.acq.records.find? (fun r => r.number == rec) = some r →
    let skip := (∀ b ∈ h.fab.blocks, ∀ e ∈ b.2.running, cellSource b.1 e.1 = source → e.2.item.locator ≠ some (n, rec)) ∨ rec ∈ x.done
    (skip → Runs (.locatorArrivalFound n rec source) s h)
    ∧ (¬skip → findArrival x.cfg r h = none →
        let a : Arrival := judgeImpedance h { time := r.time, found := false, at_ := h.time.mono, record := rec, source := source, cfg := x.cfg, cls := r.cls, errorNs := r.errorNs }
        Runs (.locatorArrivalFound n rec source) s
          (publishResult n a none 0 (putLocator n { x with arrivals := a :: x.arrivals, done := rec :: x.done } (drawn h))))
    ∧ (∀ (t amp : Rat) (neg : Bool) (later : List Rat), ¬skip → findArrival x.cfg r h = some (t, amp, neg, later) →
        let a : Arrival := judgeImpedance h {
          time := (t * (2 ^ 40 : Nat)).floor.toNat, at_ := h.time.mono, record := rec, source := source, cfg := x.cfg, cls := r.cls, errorNs := r.errorNs
          candidates := later.map (fun u => fOfRat (fRat x.cfg.velocity * (u - t) * 1000000 / 2)), negative := neg, amplitude := fOfRat amp }
        let y : Line := { x with arrivals := a :: x.arrivals, done := rec :: x.done, found := inc32 x.found }
        (linePartner x = none → Runs (.locatorArrivalFound n rec source) s (publishResult n a none 0 (putLocator n y (drawn h))))
        ∧ (∀ q, linePartner x = some q →
            let full := arrivalRecord n y a q h ++ slice (Config.hmac (macValue (x.cfg.key.getD 0) h) (arrivalRecord n y a q h)) 0 32
            let next := (x.sequence + 1) % 2 ^ 32
            let send : GooseSend := { sequence := next, at_ := h.time.mono, changedAt := h.time.now, payload := full }
            let y' : Line := { y with sequence := next, sentRecords := tset x.sentRecords x.sequence full, send := some send }
            let g := sendArrival n send (putLocator n y' (drawn h))
            ((h.const.dissenting = true ∨ h.const.suspect = true ∨ ∀ e ∈ x.held, pairMatches a e.1 = false) →
              Runs (.locatorArrivalFound n rec source) s g)
            ∧ (∀ e, h.const.dissenting = false → h.const.suspect = false → x.held.find? (fun e => pairMatches a e.1) = some e →
                Runs (.locatorArrivalFound n rec source) s (acceptRecord n a e.1 (putLocator n { y' with held := x.held.filter (fun d => d.1 != e.1) } g))))))
  ∧ (∀ (n : Nat) (t : GooseSend) (x : Line) (h : Hw), tfind h.phasor.lines n = some x →
      let g := putLocator n { x with send := some t } h
      let frame : Goose := {
        block := .line n, ports := [8, 9], priority := 5, gocbRef := x.cfg.gocbRef, datSet := x.cfg.datSet, goId := x.cfg.goId, timeAllowedMs := 2000
        t := t.changedAt, stNum := t.sequence, sqNum := t.sqNum, payload := t.payload }
      sendArrival n t h = sendGoose x.cfg.key frame g)
  ∧ (∀ (n : Nat) (s : State) (x : Line), tfind s.hw.phasor.lines n = some x →
      let due := x.arrivals.filter (fun a => a.result.isNone && a.at_ + nsUnits (a.cfg.waitMs * 1000000) ≤ s.hw.time.mono)
      (∀ a, due.getLast? = some a → Runs (.partnerWaitExpiry n) s (publishResult n a none 4 s.hw))
      ∧ (due = [] → Runs (.partnerWaitExpiry n) s s.hw))
  ∧ (∀ (b : List Byte) (authentic : Bool) (l k : Nat) (s : State), recordCheck b authentic s.hw = (l, k) →
      (k = 0 → Runs (.arrivalRecordRx b authentic) s (takeRecord l b s.hw)) ∧ (k ≠ 0 → Runs (.arrivalRecordRx b authentic) s (rejectRecord l k s.hw)))
  ∧ (∀ (n : Nat) (s : State) (x : Line), tfind s.hw.phasor.lines n = some x →
      let old := x.held.filter (fun e => e.2 + 60 * secUnit ≤ s.hw.time.mono)
      (∀ e, old.head? = some e → Runs (.heldRecordExpiry n) s (rejectRecord n 9 (putLocator n { x with held := x.held.filter (fun y => y != e) } s.hw)))
      ∧ (old = [] → Runs (.heldRecordExpiry n) s s.hw))

/-- Where the FABRIC, BUDGET and SPEC commands complete, and with what effect. -/
def Obligations.FabricBudgetAndSpecCommandsComplete : Prop :=
  ∀ (c : Call) (p : List Byte) (s : State),
  let h := s.hw
  let blocks := selectBlocks (u8 p 0) (u8 p 1)
  (Passes cmdFabricStatus c p s → u8 p 0 ≤ 5 → u8 p 1 ≤ 3 →
    let n := 4 * u8 p 0 + u8 p 1
    Runs (.fabricStatus c p) s (okReply cmdFabricStatus c (fabricStatusBytes n h) (if bit (u8 p 2) 0 then
      putBlock n { blockAt n h with dispatched := 0, overrun := 0, missed := 0, full := 0, affinity := 0, takenBack := 0 } h else h)))
  ∧ (Passes cmdFabricProfile c p s → u8 p 0 ≤ 5 → (u8 p 1 ≤ 3 ∨ u8 p 1 = 0xFF) → 1 ≤ u8 p 2 → u8 p 2 ≤ 3 →
      ((∀ n ∈ blocks, protectBlock n h = false) →
        let mhz := if u8 p 2 = 1 then 2200 else if u8 p 2 = 2 then 1600 else 1000
        Runs (.fabricProfile c p) s (okReply cmdFabricProfile c [] (blocks.foldl (fun g n =>
          putBlock n { blockAt n g with next := some ((tunedOf (blockAt n g)).1, mhz, (tunedOf (blockAt n g)).2.2), tuned := true } g) h)))
      ∧ ((∃ n ∈ blocks, protectBlock n h = true) → Runs (.fabricProfile c p) s (refusal cmdFabricProfile c stBadParam rcFabricProtectClock [] h)))
  ∧ (Passes cmdFabricTune c p s → u8 p 0 ≤ 5 → (u8 p 1 ≤ 3 ∨ u8 p 1 = 0xFF) → (u8 p 2 ≤ 4 ∨ u8 p 2 = 0xFF) →
      let mhz := u16 p 4
      let lims := (List.range 5).map (fun i => u32 p (8 + 4 * i))
      (mhz = 0 ∨ (400 ≤ mhz ∧ mhz ≤ 2200 ∧ mhz % 100 = 0 ∧ ∀ n ∈ blocks, protectBlock n h = false)) →
      (∀ e ∈ lims.zipIdx, e.1 = 0 ∨ limitRange e.2 e.1 = true) →
      Runs (.fabricTune c p) s (okReply cmdFabricTune c [] (blocks.foldl (fun g n =>
        let t := tunedOf (blockAt n g)
        putBlock n { blockAt n g with
          next := some (if u8 p 2 = 0 then t.1 else if u8 p 2 = 0xFF then 0 else u8 p 2, if mhz = 0 then t.2.1 else mhz,
                        List.zipWith (fun new old => if new = 0 then old else new) lims t.2.2), tuned := true } g) h)))
  ∧ (Passes cmdBudgetStatus c p s →
      let g := accrueLevel h
      Runs (.budgetStatus c p) s (okReply cmdBudgetStatus c (budgetStatusBytes g) (if bit (u8 p 0) 0 then
        drawn { g with fab := { g.fab with budget := { g.fab.budget with changes := 0, amberTime := 0, redTime := 0, powerMax := 0 } } } else drawn g)))
  ∧ (Passes cmdBudgetSet c p s → 200 ≤ u16 p 0 → u16 p 0 ≤ maxPower h →
      Runs (.budgetSet c p) s (okReply cmdBudgetSet c [] { h with fab := { h.fab with budget := { h.fab.budget with budget := some (u16 p 0) } } }))
  ∧ (Passes cmdBudgetThresholds c p s →
      (s16 p 6 < s16 p 0 ∧ s16 p 0 ≤ s16 p 2 ∧ s16 p 2 ≤ 1020 ∧ s16 p 6 < s16 p 4 ∧ s16 p 4 < s16 p 2 ∧ u8 p 11 < u8 p 8 ∧ u8 p 8 ≤ u8 p 9 ∧ u8 p 9 ≤ 100
        ∧ u8 p 11 < u8 p 10 ∧ u8 p 10 < u8 p 9 ∧ 1 ≤ u16 p 12 ∧ u16 p 12 ≤ 60000 ∧ 1 ≤ u16 p 14 ∧ u16 p 14 ≤ 60000) →
      Runs (.budgetThresholds c p) s (okReply cmdBudgetThresholds c [] { h with fab := { h.fab with budget := { h.fab.budget with
        temps := [s16 p 0, s16 p 2, s16 p 4, s16 p 6], powers := [u8 p 8, u8 p 9, u8 p 10, u8 p 11], holds := (u16 p 12, u16 p 14) } } }))
  ∧ (Passes cmdBudgetForce c p s → u8 p 0 ≤ 2 →
      Runs (.budgetForce c p) s (okReply cmdBudgetForce c [] (askLevel { h with fab := { h.fab with budget := { h.fab.budget with floor := u8 p 0 } } })))
  ∧ (let n := u16 p 0
     let x := sliceAt n h
     (Passes cmdSpecStatus c p s → (n = 0xFFFF ∨ sliceDefined n h = true) →
       Runs (.specStatus c p) s (okReply cmdSpecStatus c (specStatusBytes n h)
         (if bit (u8 p 2) 0 then { h with spec := { h.spec with counters := tset h.spec.counters n {
           high := (specEntries n h).length, linesHigh := ((specEntries n h).map (fun e => e.2.lines.length)).foldl max 0
           mean := (tget h.spec.counters n {}).mean } } } else h)))
     ∧ (Passes cmdSpecSet c p s → u8 p 2 ≤ 2 → sliceDefined n h = true → x.state = 1 →
         let f (k : SliceConfig) : SliceConfig := { k with specMode := u8 p 2 }
         Runs (.specSet c p) s (okReply cmdSpecSet c [] (putSlice n { x with cfg := f x.cfg, next := x.next.map f } h)))
     ∧ (Passes cmdSpecTune c p s → u8 p 2 ≤ 3 → (u16 p 4 = 0 ∨ (16 ≤ u16 p 4 ∧ u16 p 4 ≤ 1024)) → (u16 p 6 = 0 ∨ (10 ≤ u16 p 6 ∧ u16 p 6 ≤ 500)) →
         sliceDefined n h = true → x.state = 1 →
         let f (k : SliceConfig) : SliceConfig := { k with
           depthCap := if u8 p 2 = 0 then k.depthCap else u8 p 2, lineCap := if u16 p 4 = 0 then k.lineCap else u16 p 4, margin := if u16 p 6 = 0 then k.margin else u16 p 6 }
         Runs (.specTune c p) s (okReply cmdSpecTune c [] (putSlice n { x with cfg := f x.cfg, next := x.next.map f } h)))
     ∧ (sliceDefined n h = true → x.state ≠ 1 → Passes cmdSpecSet c p s → u8 p 2 ≤ 2 →
         Runs (.specSet c p) s (refusal cmdSpecSet c stStateRefused rcSpecQuiesced [] h)))

/-- ITEM_START, ITEM_COMPLETE, CORE_EXCEPTION, RUN_TIME_OVERRUN and SPEC_LINES_DRAINED. -/
def Obligations.ItemsRunToTheirEnd : Prop :=
  (∀ (e : Nat) (s : State),
    let h := s.hw
    (tfind h.spec.entries e = none → RunsAll (.specLinesDrained e) s h)
    ∧ (∀ x, tfind h.spec.entries e = some x →
        (x.state ≠ 4 → RunsAll (.specLinesDrained e) s h)
        ∧ (x.state = 4 →
            let keep := x.lines.filter (fun l => !l.spec)
            let gone := x.lines.length - keep.length
            let g := countSpec x.slice (fun y => { y with discarded := sat32 (y.discarded + gone) }) ((keep.filter (fun l => ownsLine x.slice l h)).foldl (fun g l => commitLine l g) h)
            let g := outcomeRecord e x (x.discarded + gone) g
            RunsAll (.specLinesDrained e) s (dropOldStages { g with spec := { g.spec with entries := tdel g.spec.entries e } }))))
  ∧ ∀ (n c : Nat) (s : State),
  let h := s.hw
  let b := blockAt n h
  (∀ i : Item, tfind b.slots c = some i → tfind b.running c = none → c ∈ cellsInService n h → (i.desc.cls = 4 → levelAllows n i h = true) →
    let late := bit i.desc.flags 2 = true ∧ pastDeadline i h = true
    (late → RunsAll (.itemStart n c) s (deadlineMiss n i (putBlock n { b with slots := tdel b.slots c, emptySince := tset b.emptySince c h.time.mono } h)))
    ∧ (¬late →
    let g := putBlock n { b with
      slots := tdel b.slots c, running := tset b.running c { item := i, since := h.time.mono, asid := (sliceAt i.slice h).cfg.asid, view := itemView i h }
      lastImage := tset b.lastImage c (i.slice, i.desc.image), dispatched := inc32 b.dispatched, emptySince := tset b.emptySince c h.time.mono } h
    let x := entryAt i.ledger g
    let g := if i.ledger = 0xFFFF then g else putEntry i.ledger (if x.state = 1 then { x with specCell := cellSource n c } else { x with rerunCell := some (cellSource n c) }) g
    RunsAll (.itemStart n c) s (if pastDeadline i g then deadlineMiss n i g else g)))
  ∧ (tfind b.slots c = none → RunsAll (.itemStart n c) s h)
  ∧ (∀ r : Run, tfind b.running c = some r →
      let g := retire n c h
      let e := r.item.ledger
      let x := entryAt e g
      let spec := bit r.item.desc.flags 0
      let test := probeEnd n c (probeOf n c h)
      (e = 0xFFFF → RunsAll (.itemComplete n c) s (test (completePlain n c r g)))
      ∧ (e ≠ 0xFFFF → spec = true → x.state = 1 → RunsAll (.itemComplete n c) s (test (decideSpec e r.code g)))
      ∧ (e ≠ 0xFFFF → spec = false → x.state = 3 → (r.code = 0 ∨ (actionOf x.item.actions r.code).isSome) →
          RunsAll (.itemComplete n c) s (test (resolveSettled e r.code g)))
      ∧ (e ≠ 0xFFFF → spec = false → x.state = 3 → r.code ≠ 0 → actionOf x.item.actions r.code = none →
          RunsAll (.itemComplete n c) s (test (resolveSettled e 0 (countSpec x.slice (fun y => { y with badCode := inc32 y.badCode }) (putEntry e { x with badCode := true } g)))))
      ∧ (e ≠ 0xFFFF → x.state ≠ (if spec then 1 else 3) → RunsAll (.itemComplete n c) s (test g))
      ∧ RunsAll (.coreException n c) s (failItem n c 5 r { g with fault := { g.fault with exceptions := inc32 g.fault.exceptions } })
      ∧ (nsUnits (1000 * b.limits.getD r.item.desc.cls 0) ≤ h.time.mono - r.since →
          let q := blockAt n g
          let g := putBlock n { q with overrun := inc32 q.overrun } g
          let g := evrSlice 0x0B11 (cellSource n c) r.item.slice (fabricPayload r.item.desc.cls r.item.desc.image 0 r.item.desc.k g) g
          (e = 0xFFFF → RunsAll (.runTimeOverrun n c) s g)
          ∧ (e ≠ 0xFFFF → (entryAt e g).state = 1 → RunsAll (.runTimeOverrun n c) s (resolveOther e 6 false g))
          ∧ (e ≠ 0xFFFF → (entryAt e g).state = 3 → RunsAll (.runTimeOverrun n c) s (faultEntry e (cellSource n c) (dropLines e g))))
      ∧ (h.time.mono - r.since < nsUnits (1000 * b.limits.getD r.item.desc.cls 0) → RunsAll (.runTimeOverrun n c) s h))
  ∧ (tfind b.running c = none → RunsAll (.itemComplete n c) s h ∧ RunsAll (.coreException n c) s h ∧ RunsAll (.runTimeOverrun n c) s h)

/-- ITEM_DISPATCH, DISPATCHER_TICK, BLOCK_CLOCK_CHANGE_DONE and C4_WINDOW_END. -/
def Obligations.TheDispatcherFillsAndTicks : Prop :=
  (∀ (n c : Nat) (s : State),
    let h := s.hw
    let b := blockAt n h
    let wants (x : Nat) : Prop := x ∈ cellsInService n h ∧ ∃ k, pickClass n x h = some k
      ∧ (tfind b.slots x = none ∨ ∃ i, tfind b.slots x = some i ∧ k < i.desc.cls ∧ ∀ y ∈ cellsInService n h, (tfind b.slots y).isSome = true)
    let mine := ∃ j < 8, c = (b.cellTurn + j) % 8 ∧ wants c ∧ ∀ i < j, ¬wants ((b.cellTurn + i) % 8)
    let b' := { b with cellTurn := (c + 1) % 8 }
    (¬mine → RunsAll (.itemDispatch n c) s h)
    ∧ (mine → tfind b.slots c = none → RunsAll (.itemDispatch n c) s (fillSlot 2048 n c (putBlock n b' h)))
    ∧ (∀ i : Item, mine → tfind b.slots c = some i → RunsAll (.itemDispatch n c) s (fillSlot 2048 n c (putBlock n { b' with
        slots := tdel b.slots c, ready := { i with front := true } :: b.ready, takenBack := inc32 b.takenBack } h))))
  ∧ (∀ s : State,
      let h := s.hw
      let tick := h.time.now * 100000 / 2 ^ 64
      (tick = h.fab.lastTick → RunsAll .dispatcherTick s h)
      ∧ (tick ≠ h.fab.lastTick →
          let g := takeTuned { h with fab := { h.fab with lastTick := tick } }
          let g := match g.fab.budget.due with | some (level, causes) => takeLevel level causes g | none => g
          let g := (List.range (blockCount g)).foldl (fun g n => retarget n g) g
          RunsAll .dispatcherTick s (writeCompletions ((List.range (blockCount g)).foldl (fun g n => releaseDelayed n g) g))))
  ∧ (∀ (n : Nat) (s : State), (∀ t, (blockAt n s.hw).changing = some t →
        Runs (.blockClockChangeDone n) s (setVolts (n / 4) (putBlock n { blockAt n s.hw with changing := none, now := t } s.hw)))
      ∧ ((blockAt n s.hw).changing = none → Runs (.blockClockChangeDone n) s s.hw))
  ∧ (∀ (n : Nat) (s : State),
      let h := s.hw
      let b := blockAt n h
      (nsUnits 1000000 ≤ h.time.mono - b.windowAt →
        Runs (.c4WindowEnd n) s (putBlock n { b with
          lastBusy := b.busy + (b.running.map (fun e => h.time.mono - max e.2.since b.windowAt)).foldl (· + ·) 0
          lastC4 := c4Used n h, busy := 0, busyC4 := 0, windowAt := h.time.mono } h))
      ∧ (h.time.mono - b.windowAt < nsUnits 1000000 → Runs (.c4WindowEnd n) s h))

/-- BUDGET_SAMPLE and the level. -/
def Obligations.SamplesAskAndTicksTakeTheLevel : Prop :=
  (∀ (temps : List (Nat × Option Int)) (rails : List (Nat × Nat × Nat)) (s : State),
    let h := s.hw
    let g := budgetSample temps rails h
    let on := h.mode = .idle ∨ h.mode = .ready ∨ h.mode = .serving ∨ h.mode = .test
    RunsAll (.budgetSample temps rails) s g
    ∧ g.fab.budget.level = h.fab.budget.level ∧ g.fab.budget.floor = h.fab.budget.floor
    ∧ (¬on → g = h)
    ∧ (on → g.fab.budget.sampledAt = some h.time.mono
        ∧ g.fab.budget.power = ((((rails.filter (fun r => (railLimit r.1 h).isSome)).map (fun r => r.2.1 * r.2.2)).foldl (· + ·) 0) :: h.fab.budget.power).take 10
        ∧ g.fab.budget.sensed = (sensorRegions h).map (fun r => (r, ((temps.find? (fun t => t.1 == r)).map (fun t => t.2)).getD none))))
  ∧ (∀ (level causes : Nat) (h : Hw),
      let g := takeLevel level causes h
      g.fab.budget.level = level ∧ g.fab.budget.causes = causes ∧ g.fab.budget.due = none ∧ g.fab.budget.changedAt = h.time.now)

/-- ECALL_DECIDE, ECALL_TIME, ECALL_EVR, ECALL_SUBMIT, ECALL_DMA and SPEC_STORE. -/
def Obligations.RuntimeCallsAnswer : Prop :=
  ∀ (n c : Nat) (s : State),
  let h := s.hw
  let b := blockAt n h
  let ret (a0 a1 : Nat) (g : Hw) : Hw := emit (.ecall (cellSource n c) a0 a1) g
  (tfind b.running c = none →
    (∀ code, RunsAll (.ecallDecide n c code) s h) ∧ RunsAll (.ecallTime n c) s h ∧ (∀ code a, RunsAll (.ecallEvr n c code a) s h)
    ∧ (∀ a, RunsAll (.ecallSubmit n c a) s h ∧ RunsAll (.ecallDma n c a) s h) ∧ (∀ a m data, RunsAll (.specStore n c a m data) s h))
  ∧ (∀ r : Run, tfind b.running c = some r →
      let spec := bit r.item.desc.flags 0
      (∀ code, RunsAll (.ecallDecide n c code) s (ret 0 0 (putBlock n { b with running := tset b.running c { r with code := code % 65536 } } h)))
      ∧ RunsAll (.ecallTime n c) s (ret (secOf h.time.now) (fracOf h.time.now) h)
      ∧ (spec = true →
          let g := resolveOther r.item.ledger 6 false (retire n c h)
          (∀ code a, RunsAll (.ecallEvr n c code a) s g) ∧ (∀ a, RunsAll (.ecallSubmit n c a) s g ∧ RunsAll (.ecallDma n c a) s g))
      ∧ (spec = false → (∀ sl, sliceOfAsid r.asid h = some sl → (sliceAt sl h).state ≠ 1) →
          (∀ code a, RunsAll (.ecallEvr n c code a) s (ret 3 0 h)) ∧ (∀ a, RunsAll (.ecallSubmit n c a) s (ret 3 0 h) ∧ RunsAll (.ecallDma n c a) s (ret 3 0 h)))
      ∧ (∀ sl, spec = false → sliceOfAsid r.asid h = some sl → (sliceAt sl h).state = 1 →
          let y := fillBuckets (sliceAt sl h) h.time.mono
          let g := drawn h
          (∀ code a bs, 0x8000 ≤ code → code ≤ 0xFFFF → sliceRead r sl a 48 h = some bs →
              RunsAll (.ecallEvr n c code a) s (ret 0 0 (evrSlice code (cellSource n c) sl bs g)))
          ∧ (∀ code a, (code < 0x8000 ∨ 0xFFFF < code) → RunsAll (.ecallEvr n c code a) s (ret 5 0 h))
          ∧ (∀ code a, 0x8000 ≤ code → code ≤ 0xFFFF → sliceRead r sl a 48 h = none → RunsAll (.ecallEvr n c code a) s (ret 4 0 h))
          ∧ (∀ a, sliceRead r sl a 64 h = none → RunsAll (.ecallSubmit n c a) s (ret 4 0 h))
          ∧ (∀ a, sliceRead r sl a 32 h = none → RunsAll (.ecallDma n c a) s (ret 4 0 h))
          ∧ (∀ a bs, sliceRead r sl a 64 h = some bs →
              let d := workDescriptor bs
              let sound := d.cls ≤ 4 ∧ d.flags % 4 = 0 ∧ d.flags < 32 ∧ (∀ z ∈ bs.drop 58, z = 0#8) ∧ 0x10000 ≤ d.entry ∧ d.entry ≤ 0x3FFFFFFF
              let m := hintBlock d.affinity n g
              let seq := tget h.fab.sequences sl 0
              let d' : Descriptor := { d with flags := if d.cls = 3 then d.flags else d.flags &&& 0x14 }
              let i : Item := { desc := d', slice := sl, generation := y.generation, sequence := seq }
              let q := putSlice sl { y with items := y.items - 2 ^ 64 } g
              (d.cls ≤ 1 → RunsAll (.ecallSubmit n c a) s (ret 5 0 g))
              ∧ (1 < d.cls → ¬sound → RunsAll (.ecallSubmit n c a) s (ret 4 0 g))
              ∧ (1 < d.cls → sound → y.items < 2 ^ 64 → RunsAll (.ecallSubmit n c a) s (ret 2 0 (putSlice sl { y with itemsLimited := inc32 y.itemsLimited } g)))
              ∧ (1 < d.cls → sound → 2 ^ 64 ≤ y.items → d.release = 0 → listRoom m d.cls g = false → RunsAll (.ecallSubmit n c a) s (ret 1 0 g))
              ∧ (1 < d.cls → sound → 2 ^ 64 ≤ y.items → d.release = 0 → listRoom m d.cls g = true →
                  RunsAll (.ecallSubmit n c a) s (ret 0 0 (pushReady m i { q with fab := { q.fab with sequences := tset q.fab.sequences sl ((seq + 1) % 2 ^ 32) } }))))
          ∧ (∀ a bs, sliceRead r sl a 32 h = some bs →
              let d := dmaDescriptor bs
              let sound := 1 ≤ d.length ∧ d.length ≤ 1048576 ∧ d.flags < 2 ∧ (∀ z ∈ bs.drop 28, z = 0#8)
                ∧ inData d.source d.length y = true ∧ inData d.destination d.length y = true
              (d.engine = 0 → ¬sound → RunsAll (.ecallDma n c a) s (ret 4 0 g))
              ∧ (2 < d.engine → RunsAll (.ecallDma n c a) s (ret 4 0 g))
              ∧ (d.engine = 0 → sound → bit y.cfg.engines 0 = false → RunsAll (.ecallDma n c a) s (ret 5 0 g))
              ∧ (d.engine = 0 → sound → bit y.cfg.engines 0 = true → y.recBytes < 0 →
                  RunsAll (.ecallDma n c a) s (ret 2 0 (putSlice sl { y with bytesLimited := inc32 y.bytesLimited } g)))
              ∧ (d.engine = 0 → sound → bit y.cfg.engines 0 = true → 0 ≤ y.recBytes →
                  RunsAll (.ecallDma n c a) s (ret 0 0 (enqueueDma { d with slice := sl, generation := y.generation, posted := h.time.mono }
                    (putSlice sl { y with recBytes := y.recBytes - ((d.length * 2 ^ 64 : Nat) : Int) } g))))))
      ∧ (∀ (a m : Nat) (data : List Byte),
          let line := a / 64 * 64
          let inside (sl : Nat) : Bool := inData line 64 (sliceAt sl h)
          ((∀ sl, sliceOfAsid r.asid h = some sl → inside sl = false) → RunsAll (.specStore n c a m data) s (coreException n c h))
          ∧ (∀ sl, sliceOfAsid r.asid h = some sl → inside sl = true →
              let addr := physical sl line h
              (r.item.ledger = 0xFFFF → RunsAll (.specStore n c a m data) s (commitLine { addr := addr, spec := false, mask := m % 2 ^ 64, data := data } h))
              ∧ (r.item.ledger ≠ 0xFFFF → spec = true → RunsAll (.specStore n c a m data) s (specStore r.item.ledger addr (m % 2 ^ 64) data h))
              ∧ (r.item.ledger ≠ 0xFFFF → spec = false → RunsAll (.specStore n c a m data) s (rerunStore r.item.ledger addr (m % 2 ^ 64) data h)))))

/-- PRIME_DEADLINE_EXPIRY and GOOSE_REPETITION. -/
def Obligations.PublisherTimersFire : Prop :=
  (∀ (stage ch : Nat) (s : State) (x : StageOut), tfind s.hw.spec.stages stage = some x →
    let h := s.hw
    let k := tget x.chans ch {}
    let due := k.state = 1 ∧ k.deadline ≤ h.time.now
    (due → Runs (.primeDeadlineExpiry stage ch) s (evrSlice 0x0611 0x0B00 k.primeSlice (le 2 stage ++ le 1 ch ++ zeros 1 ++ le 4 k.cseq ++ le 8 k.k)
      (countSpec k.primeSlice (fun y => { y with primeExpired := inc32 y.primeExpired })
        (putStage { x with chans := tset x.chans ch { k with state := 0, primers := [] } } h))))
    ∧ (¬due → Runs (.primeDeadlineExpiry stage ch) s h))
  ∧ (∀ (stage : Nat) (s : State) (x : StageOut), tfind s.hw.spec.stages stage = some x →
      let h := s.hw
      let due := publishes h = true ∧ x.live = true ∧ nsUnits (1000 * repetitionUs x.repeats) ≤ h.time.mono - x.changedMono
      let x' : StageOut := { x with sqNum := x.sqNum + 1, repeats := x.repeats + 1 }
      (due → Runs (.gooseRepetition .stage stage) s (sendCgo x' (putStage x' h))) ∧ (¬due → Runs (.gooseRepetition .stage stage) s h))
  ∧ (∀ (g : Nat) (s : State) (x : GooseSend), tfind s.hw.acq.sends g = some x →
      let h := s.hw
      let due := chainsRun h = true ∧ h.const.dissenting = false ∧ groupKeyUsable g h = true ∧ x.at_ + nsUnits (1000 * crossRepeatUs x.repeats) ≤ h.time.mono
      (due → Runs (.gooseRepetition .group g) s (sendGroup g { x with sqNum := x.sqNum + 1, repeats := x.repeats + 1 } h))
      ∧ (¬due → Runs (.gooseRepetition .group g) s h))
  ∧ (∀ (n : Nat) (s : State) (y : Line) (x : GooseSend), tfind s.hw.phasor.lines n = some y → y.send = some x →
      let h := s.hw
      let due := chainsRun h = true ∧ x.at_ + nsUnits (1000 * crossRepeatUs x.repeats) ≤ h.time.mono
      (due → Runs (.gooseRepetition .line n) s (sendArrival n { x with sqNum := x.sqNum + 1, repeats := x.repeats + 1 } h))
      ∧ (¬due → Runs (.gooseRepetition .line n) s h))
  ∧ (∀ s : State, ∀ sender ∈ [GooseSender.heartbeat, .beacon, .station], ∀ n, Runs (.gooseRepetition sender n) s s.hw)
  ∧ (∀ (x : StageOut) (h : Hw),
      let frame (c : StageConfig) : Goose := {
        block := .stage c.stage, ports := [2 * c.pair, 2 * c.pair + 1], priority := c.priority, vlan := some c.vlan, mac := some c.mac, appid := some c.appid
        gocbRef := c.gocbRef, datSet := c.datSet, goId := c.goId, t := x.changedAt, stNum := x.stNum, sqNum := x.sqNum, confRev := some c.confRev
        payload := cgoPayload { x with cfg := c } h }
      let g := sendGoose x.cfg.key (frame x.cfg) h
      (x.old = none → sendCgo x h = g) ∧ (∀ c, x.old = some c → sendCgo x h = sendGoose c.key { frame c with payload := cgoPayload { x with cfg := c } g } g))
  ∧ (∀ (key : Nat) (f : Goose) (h : Hw),
      (keyUsable key h = true → sendGoose (some key) f h
        = let q : Goose := { f with
            quality := timeQuality h, test := h.mode == .test, key := key, algorithm := hdlUse key, keyId := (keySlot (hdlSlot key) h).keyId }
          emit (.goose { q with tag := macOf (hdlUse key) (macValue key h) (Config.goosePdu q) }) h)
      ∧ (keyUsable key h = false → sendGoose (some key) f h = h) ∧ sendGoose none f h = h)

/-- Where the SLICE commands complete, and with what effect. -/
def Obligations.SliceCommandsComplete : Prop :=
  ∀ (c : Call) (p : List Byte) (s : State),
  let h := s.hw
  let n := u16 p 0
  let x := sliceAt n h
  let manager := c.hdr.slice = 0 ∨ c.hdr.slice = 0xFFFF
  let mine := manager ∧ 1 ≤ n ∧ n ≤ 511 ∧ sliceDefined n h = true
  let limits (f : SliceConfig → SliceConfig) : Hw := putSlice n { x with next := some (f (x.next.getD x.cfg)), tuned := true } h
  (Passes cmdSliceStatus c p s → (manager ∨ c.hdr.slice = n) → n ≤ 511 → (n = 0 ∨ sliceDefined n h = true) →
    Runs (.sliceStatus c p) s (okReply cmdSliceStatus c (sliceStatusBytes n h) (if bit (u8 p 2) 0 then putSlice n (clearSlice x) h else h)))
  ∧ (Passes cmdSliceQuiesce c p s → mine →
      (x.state = 1 → Runs (.sliceQuiesce c p) s (acceptReply cmdSliceQuiesce c (.quiesce n) (quiesceSlice n h)))
      ∧ (x.state ≠ 1 → Runs (.sliceQuiesce c p) s (okReply cmdSliceQuiesce c [] h)))
  ∧ (Passes cmdSliceResume c p s → mine →
      (x.state = 1 → Runs (.sliceResume c p) s (okReply cmdSliceResume c [] h))
      ∧ (x.state ≠ 1 → x.state ≠ 2 → x.zeroing = false → Runs (.sliceResume c p) s (okReply cmdSliceResume c [] (putSlice n { x with resuming := true } h)))
      ∧ (x.state = 2 → Runs (.sliceResume c p) s (refusal cmdSliceResume c stBusy rcSliceQuiescing [] h)))
  ∧ (Passes cmdSliceReset c p s → mine →
      (x.state = 1 → Runs (.sliceReset c p) s (refusal cmdSliceReset c stNotQuiesced rcSliceNotQuiesced [] h))
      ∧ (x.state ≠ 1 → x.state ≠ 2 → x.zeroing = false →
          let y : SliceInst := { clearSlice x with
            generation := if 65535 ≤ x.generation then 1 else x.generation + 1, zeroing := true, resetSince := true, resuming := false
            resets := inc32 x.resets, completion := 0, items := 0, recBytes := 0, netBytes := 0, filledAt := h.time.mono }
          Runs (.sliceReset c p) s (acceptReply cmdSliceReset c (.sliceReset n) (putSlice n y h))))
  ∧ (Passes cmdSliceProfile c p s → mine →
      (u8 p 2 = 1 → Runs (.sliceProfile c p) s (okReply cmdSliceProfile c [] (limits (fun k => { k with weight := 4, itemRate := 20000, recRate := 100, netRate := 10 }))))
      ∧ (u8 p 2 = 2 → Runs (.sliceProfile c p) s (okReply cmdSliceProfile c [] (limits (fun k => { k with weight := 16, itemRate := 100000, recRate := 1000, netRate := 100 }))))
      ∧ (u8 p 2 = 3 → Runs (.sliceProfile c p) s (okReply cmdSliceProfile c [] (limits (fun k => { k with weight := 64, itemRate := 500000, recRate := 4000, netRate := 1000 })))))
  ∧ (Passes cmdSliceLimits c p s → mine → u8 p 3 ≤ 3 → u32 p 4 ≤ 10000000 → u32 p 8 ≤ 16000 → u32 p 12 ≤ 2500 →
      Runs (.sliceLimits c p) s (okReply cmdSliceLimits c [] (limits (fun k => { k with
        weight := keepOr (u8 p 2) 0 k.weight, engines := keepOr (u8 p 3) 0 k.engines, itemRate := keepOr (u32 p 4) 0 k.itemRate
        recRate := keepOr (u32 p 8) 0 k.recRate, netRate := keepOr (u32 p 12) 0 k.netRate, burst := keepOr (u16 p 16) 0 k.burst }))))
  ∧ (¬manager → Passes cmdSliceReset c p s → Runs (.sliceReset c p) s (refusal cmdSliceReset c stDenied rcSliceNotManager [] h))
  ∧ (manager → n = 0 → Passes cmdSliceReset c p s → Runs (.sliceReset c p) s (refusal cmdSliceReset c stDenied rcSliceModule [] h))

/-- SLICE_QUIESCED, SLICE_ZEROING_DONE and DMA_DESCRIPTOR_DONE. -/
def Obligations.SlicesRestAndEnginesMove : Prop :=
  (∀ (n : Nat) (s : State), n ≠ 0 → (sliceAt n s.hw).state = 2 →
    let g := putSlice n { sliceAt n s.hw with state := 3, quiesces := inc32 (sliceAt n s.hw).quiesces } s.hw
    (quiescent n s.hw = true → Runs (.sliceQuiesced n) s (complete (.quiesce n) stOk 0 [] (evrSlice 0x0C10 0x0000 n (slicePayload n g) g)))
    ∧ (quiescent n s.hw = false → Runs (.sliceQuiesced n) s s.hw))
  ∧ (∀ (n : Nat) (s : State), (sliceAt n s.hw).zeroing = true →
      let c := (sliceAt n s.hw).cfg
      let g := putSlice n { sliceAt n s.hw with zeroing := false } s.hw
      let g := { g with fab := { g.fab with dram := memZero g.fab.dram c.base c.size } }
      Runs (.sliceZeroingDone n) s (complete (.sliceReset n) stOk 0 [] (evrSlice 0x0C11 0x0000 n (slicePayload n g) g))
      ∧ (∀ a, c.base ≤ a → a < c.base + c.size → memRead g.fab.dram a = 0)
      ∧ (∀ a, a < c.base ∨ c.base + c.size ≤ a → memRead g.fab.dram a = memRead s.hw.fab.dram a))
  ∧ (∀ (d : DmaDesc) (rest : List DmaDesc) (s : State), s.hw.slc.recQueue = d :: rest →
      let h := s.hw
      let x := sliceAt d.slice h
      let g := { h with slc := { h.slc with recQueue := rest, recSince := h.time.mono } }
      let dst := physical d.slice d.destination h
      let data := memGet h.fab.dram (physical d.slice d.source h) d.length
      let moved := { g with fab := { g.fab with dram := memPut h.fab.dram dst data } }
      let sound := d.generation = x.generation ∧ (d.engine = 2 ∨ inData d.source d.length x = true) ∧ (d.engine = 1 ∨ inData d.destination d.length x = true)
      (h.time.mono - h.slc.recSince < paceTime x.cfg.recRate d.length → ∀ fault, Runs (.dmaDescriptorDone 0 fault) s h)
      ∧ (paceTime x.cfg.recRate d.length ≤ h.time.mono - h.slc.recSince →
          (sound → Runs (.dmaDescriptorDone 0 false) s (postCompletion d 0 d.length moved))
          ∧ (¬sound → Runs (.dmaDescriptorDone 0 false) s (postCompletion d 2 0 g))
          ∧ Runs (.dmaDescriptorDone 0 true) s (postCompletion d 2 0 g))
      ∧ (Memory.wf h.fab.dram = true → ∀ a,
          (a < dst ∨ dst + d.length ≤ a → memRead moved.fab.dram a = memRead h.fab.dram a)
          ∧ (∀ j < d.length, memRead moved.fab.dram (dst + j) = memRead h.fab.dram (physical d.slice d.source h + j))))
  ∧ (∀ (d : DmaDesc) (rest : List DmaDesc) (s : State), s.hw.slc.netQueue = d :: rest →
      let h := s.hw
      let x := sliceAt d.slice h
      let g := { h with slc := { h.slc with netQueue := rest, netSince := h.time.mono } }
      let sound := d.generation = x.generation ∧ (d.engine = 2 ∨ inData d.source d.length x = true) ∧ (d.engine = 1 ∨ inData d.destination d.length x = true)
      (h.time.mono - h.slc.netSince < paceTime x.cfg.netRate d.length → ∀ fault, Runs (.dmaDescriptorDone 1 fault) s h)
      ∧ (paceTime x.cfg.netRate d.length ≤ h.time.mono - h.slc.netSince →
          (sound → Runs (.dmaDescriptorDone 1 false) s (postCompletion d 0 d.length
            (netTransmit d.slice ((sliceDie d.slice g).getD 0) (memGet h.fab.dram (physical d.slice d.source h) d.length) g)))
          ∧ (¬sound → Runs (.dmaDescriptorDone 1 false) s (postCompletion d 2 0 g))
          ∧ Runs (.dmaDescriptorDone 1 true) s (postCompletion d 2 0 g)))
  ∧ (∀ (f : RxFrame) (d : DmaDesc) (fault : Bool) (s : State), rxNext s.hw = some (f, d) →
      let h := s.hw
      let x := sliceAt d.slice h
      let data := f.bytes.take d.length
      let due := paceTime x.cfg.netRate data.length ≤ h.time.mono - max h.slc.rxSince (max f.since d.posted)
      let g := { h with slc := { h.slc with rxQueue := h.slc.rxQueue.erase d, rxFrames := h.slc.rxFrames.erase f, rxSince := h.time.mono } }
      let sound := d.generation = x.generation ∧ (d.engine = 2 ∨ inData d.source d.length x = true) ∧ (d.engine = 1 ∨ inData d.destination d.length x = true)
      (f.generation ≠ x.generation → Runs (.dmaDescriptorDone 2 fault) s
        (putSlice d.slice { x with stale := inc32 x.stale } { h with slc := { h.slc with rxFrames := h.slc.rxFrames.erase f } }))
      ∧ (f.generation = x.generation → ¬due → Runs (.dmaDescriptorDone 2 fault) s h)
      ∧ (f.generation = x.generation → due → fault = false → sound → Runs (.dmaDescriptorDone 2 fault) s (postCompletion d 0 data.length
          { g with fab := { g.fab with dram := memPut g.fab.dram (physical d.slice d.destination g) data } }))
      ∧ (f.generation = x.generation → due → (fault = true ∨ ¬sound) → Runs (.dmaDescriptorDone 2 fault) s (postCompletion d 2 0 g)))
  ∧ (∀ (fault : Bool) (s : State),
      (s.hw.slc.recQueue = [] → Runs (.dmaDescriptorDone 0 fault) s s.hw) ∧ (s.hw.slc.netQueue = [] → Runs (.dmaDescriptorDone 1 fault) s s.hw)
      ∧ (rxNext s.hw = none → Runs (.dmaDescriptorDone 2 fault) s s.hw))

/-- The memory of DRAM: one byte, a run of bytes and a zeroed range (log 9). -/
def Obligations.DramKeepsItsForm : Prop :=
  Memory.wf State.reset.hw.fab.dram = true ∧ ∀ (m : List (Nat × Byte)), Memory.wf m = true →
  (∀ (a : Nat) (v : Byte), Memory.wf (memWrite m a v) = true ∧ memRead (memWrite m a v) a = v ∧ ∀ b, b ≠ a → memRead (memWrite m a v) b = memRead m b)
  ∧ (∀ (a : Nat) (bs : List Byte), Memory.wf (memPut m a bs) = true ∧ (∀ j < bs.length, memRead (memPut m a bs) (a + j) = bs.getD j 0)
      ∧ ∀ b, b < a ∨ a + bs.length ≤ b → memRead (memPut m a bs) b = memRead m b)
  ∧ (∀ a n : Nat, Memory.wf (memZero m a n) = true)
  ∧ (∀ m' : List (Nat × Byte), Memory.wf m' = true → (∀ a, memRead m a = memRead m' a) → m = m')

/-- Where the CYCLE commands complete, and with what effect. -/
def Obligations.CycleCommandsComplete : Prop :=
  ∀ (c : Call) (p : List Byte) (s : State),
  let h := s.hw
  let n := u8 p 0
  let go (n : Nat) (g : Hw) : Hw := if programsRun g then startProgram n (u8 p 1 == 1) g else g
  (Passes cmdCycleStart c p s → u8 p 1 ≤ 1 → n = 0xFF →
    Runs (.cycleStart c p) s (okReply cmdCycleStart c [] ([0, 1, 2, 3].foldl (fun g n => if (progAt n g).state = 1 ∨ (progAt n g).state = 3 then go n g else g) h)))
  ∧ (Passes cmdCycleStop c p s → n = 0xFF → Runs (.cycleStop c p) s (okReply cmdCycleStop c [] ([0, 1, 2, 3].foldl (fun g n => stopAtEnd n g) h)))
  ∧ (∀ k : Nat, Passes cmdCycleStationStatus c p s → ownerOf n h = some k →
      let x := progAt k h
      let y := stationState n x
      Runs (.cycleStationStatus c p) s (okReply cmdCycleStationStatus c
        (le 1 n ++ le 1 y.state ++ le 1 k ++ le 1 (min 255 y.missing) ++ le 4 (y.lastInput.getD 0) ++ le 4 y.missed ++ le 4 y.dropouts ++ le 4 y.notQueued ++ le 4 y.returns
          ++ le 4 y.authFailures ++ zeros 4)
        (if bit (u8 p 1) 0 then
          putProg k { x with stations := tset x.stations n { y with missed := 0, dropouts := 0, notQueued := 0, returns := 0, authFailures := 0 } } h else h)))
  ∧ (∀ i : CycleImage, n ≤ 3 → (progAt n h).image = some i →
      let x := progAt n h
      let base := x.paramsNext.getD x.params
      (Passes cmdCycleStatus c p s → Runs (.cycleStatus c p) s (okReply cmdCycleStatus c (cycleStatusBytes n i x)
        (if bit (u8 p 1) 0 then putProg n { x with overlap := 0, writes := 0, inputLate := 0, notQueued := 0 } h else h)))
      ∧ (Passes cmdCycleStart c p s → u8 p 1 ≤ 1 →
          (x.state ≠ 2 → Runs (.cycleStart c p) s (okReply cmdCycleStart c [] (go n h)))
          ∧ (x.state = 2 → Runs (.cycleStart c p) s (refusal cmdCycleStart c stBusy rcCycleNotStopped [] h)))
      ∧ (Passes cmdCycleStop c p s →
          (x.state ≠ 2 → Runs (.cycleStop c p) s (okReply cmdCycleStop c [] h))
          ∧ (x.state = 2 → Runs (.cycleStop c p) s (okReply cmdCycleStop c [] (putProg n { x with stopDue := true } h))))
      ∧ (Passes cmdCycleRead c p s → 1 ≤ u8 p 1 → u8 p 1 ≤ 16 → (∀ k ∈ entryKeys (u8 p 1) 8 p, (symbolOf k i).isSome) →
          let entry (k : Nat) : List Byte := match symbolOf k i with
            | none => []
            | some y => le 1 y.typ ++ le 1 (flag (tfind x.forces k).isSome 0 + flag y.retain.isSome 1) ++ zeros 6
                ++ le 8 (if y.single then tget x.read k y.initial else Config.freeNat h.free)
          Runs (.cycleRead c p) s (okReply cmdCycleRead c (le 4 x.ended ++ zeros 4 ++ (entryKeys (u8 p 1) 8 p).flatMap entry) (drawn h)))
      ∧ (Passes cmdCycleProfile c p s →
          let set (m w k : Nat) : Hw := putProg n { x with paramsNext := some { base with minUs := m, watchdogUs := w, windowUs := k }, tuned := true } h
          (u8 p 1 = 1 → Runs (.cycleProfile c p) s (okReply cmdCycleProfile c [] (set 0 1000 100)))
          ∧ (u8 p 1 = 2 → Runs (.cycleProfile c p) s (okReply cmdCycleProfile c [] (set 1000 10000 250)))
          ∧ (u8 p 1 = 3 → Runs (.cycleProfile c p) s (okReply cmdCycleProfile c [] (set 10000 100000 1000))))
      ∧ (Passes cmdCycleWrite c p s → 1 ≤ u8 p 1 → u8 p 1 ≤ 16 →
          let l := (List.range (u8 p 1)).map (fun j => (u64 p (8 + 16 * j), u64 p (16 + 16 * j)))
          (∀ e ∈ l, ∃ y, symbolOf e.1 i = some y ∧ y.single = true ∧ tfind x.forces e.1 = none ∧ e.2 < 2 ^ y.width) →
          Runs (.cycleWrite c p) s (okReply cmdCycleWrite c [] (putProg n { x with waiting := x.waiting ++ [l] } h)))
      ∧ (Passes cmdCycleTune c p s →
          let y : CycleParams := { base with
            teu := if u8 p 1 = 0 then none else if u8 p 1 = 1 then some (u8 p 2) else base.teu, stale := keepOr (u8 p 3) 0 base.stale
            minUs := keepOr (u32 p 4) 0xFFFFFFFF base.minUs, watchdogUs := keepOr (u32 p 8) 0 base.watchdogUs, windowUs := keepOr (u32 p 12) 0 base.windowUs }
          (u8 p 1 ≤ 1 ∨ u8 p 1 = 0xFF) → u8 p 2 ≤ 15 → cycleRange y = true →
          (u8 p 1 = 1 → (tget h.time.teus (u8 p 2) {}).armed = true ∧ (tget h.time.teus (u8 p 2) {}).cfg.target = 3 ∧ (tget h.time.teus (u8 p 2) {}).cfg.index = n) →
          Runs (.cycleTune c p) s (okReply cmdCycleTune c [] (putProg n { x with paramsNext := some y, tuned := true } h)))
      ∧ (Passes cmdCycleForce c p s →
          let key := u64 p 8
          let v := u64 p 16
          (u8 p 1 = 0 → (tfind x.forces key).isSome →
            Runs (.cycleForce c p) s (okReply cmdCycleForce c [] (forceRecord n 1 key (putProg n { x with forces := tdel x.forces key } h))))
          ∧ (∀ y, u8 p 1 = 1 → symbolOf key i = some y → y.single = true → v < 2 ^ y.width → ((tfind x.forces key).isSome ∨ x.forces.length < 256) →
              Runs (.cycleForce c p) s (okReply cmdCycleForce c [] (forceRecord n 0 key (putProg n { x with forces := tset x.forces key v } h))))
          ∧ (u8 p 1 = 2 → Runs (.cycleForce c p) s (okReply cmdCycleForce c [] (x.forces.foldl (fun g f => forceRecord n 1 f.1 g) (putProg n { x with forces := [] } h))))))
  ∧ ((progAt n h).image = none →
      (Passes cmdCycleStatus c p s → Runs (.cycleStatus c p) s (refusal cmdCycleStatus c stBadParam rcCycleNoProgram [] h))
      ∧ (Passes cmdCycleForce c p s → Runs (.cycleForce c p) s (refusal cmdCycleForce c stBadParam rcCycleNoProgram [] h)))

/-- CYCLE_START_EVENT, STATION_INPUT_RX, INPUT_WINDOW_END, CYCLE_BODY_END, CYCLE_WATCHDOG_EXPIRY and CONTROL_CORE_EXCEPTION. The rounding of the mean is free (log 3). -/
def Obligations.CyclesRunTheirPhases : Prop :=
  (∀ (n : Nat) (s : State), n ≤ 3 →
    let h := s.hw
    (cycleDue (progAt n h) h = false → Runs (.cycleStartEvent n) s h)
    ∧ (cycleDue (progAt n h) h = true →
        let h := match (progAt n h).next with | some i => adoptImage n i h | none => h
        let p := progAt n h
        let vars := p.forces.foldl (fun t f => tset t f.1 f.2) (p.waiting.foldl (fun t w => w.foldl (fun t e => tset t e.1 e.2) t) p.vars)
        let p : Program := { p with
          params := p.paramsNext.getD p.params, paramsNext := none, vars := vars, forcing := p.forces, writes := sat32 (p.writes + p.waiting.length), waiting := []
          cycle := if p.begun then (p.cycle + 1) % 2 ^ 32 else 0, begun := true, phase := 1, startedAt := h.time.mono, edge := false, snapshot := takeSnapshot h
          stations := tmap p.stations (fun _ x => { x with answered := false }) }
        let g := putProg n p h
        ((p.image.map (fun i => i.stations)).getD [] = [] → Runs (.cycleStartEvent n) s g)
        ∧ (∀ x rest, (p.image.map (fun i => i.stations)).getD [] = x :: rest →
            Runs (.cycleStartEvent n) s
              (((x :: rest).map (fun y => y.pair)).eraseDups.foldl (fun g pair => stationFrame 1 0 n 0xFFFF p.cycle [] { x with pair := pair } g) g))))
  ∧ (∀ (kind flags n station cycle : Nat) (data : List Byte) (x : StationIo) (h : Hw),
      let last := h.cycle.stNums.find? (fun e => e.1 == x.gocbRef)
      let stNum := (last.map (fun e => (e.2 + 1) % 2 ^ 32)).getD 1
      let g := { h with cycle := { h.cycle with stNums := (x.gocbRef, stNum) :: h.cycle.stNums.filter (fun e => e.1 != x.gocbRef) } }
      stationFrame kind flags n station cycle data x h = sendGoose x.key {
      block := .station n station, ports := [2 * x.pair, 2 * x.pair + 1], mac := if station = 0xFFFF then none else some x.mac
      gocbRef := x.gocbRef, datSet := x.datSet, goId := x.goId, timeAllowedMs := (2 * (progAt n g).params.watchdogUs + 999) / 1000
      t := g.time.now, stNum := stNum, payload := stationPayload kind flags n station cycle data g } g)
  ∧ (∀ (n : Nat) (s : State),
      let h := s.hw
      let p := progAt n h
      let ended := p.phase = 1 ∧ ((∀ e ∈ p.stations, e.2.state = 0 → e.2.answered = true) ∨ nsUnits (1000 * p.params.windowUs) ≤ h.time.mono - p.startedAt)
      (ended →
        let g := ((p.image.map (fun i => i.stations)).getD []).foldl (fun g x => missStation n x g) h
        Runs (.inputWindowEnd n) s (putProg n { progAt n g with phase := 2, vars := inputValues (progAt n g) (progAt n g).vars } g))
      ∧ (¬ended → Runs (.inputWindowEnd n) s h))
  ∧ (∀ (n : Nat) (ops : List BodyOp) (s : State) (i : CycleImage), (progAt n s.hw).image = some i →
      let h := s.hw
      let p := progAt n h
      (p.phase = 2 → p.state = 2 →
        let g := i.stations.foldl (fun g x => outputTo n x g) (putProg n (ops.foldl (bodyOp i) p) h)
        let q := progAt n g
        let ns := (g.time.mono - q.startedAt) * 1000000000 / 2 ^ 64
        let q' : Program := { q with
          phase := 0, retained := some (retainOf i q.vars q.sequence), retainOk := true, ended := q.cycle, read := q.vars, lastNs := sat32 ns
          longestNs := max q.longestNs (sat32 ns), meanNs := sat32 (roundOpen (mkRat ((q.meanNs * 255 + ns : Nat) : Int) 256) g).toNat }
        let e := drawn (putProg n q' g)
        Runs (.cycleBodyEnd n ops) s (if q.stopDue then stopProgram n e else e))
      ∧ ((p.phase ≠ 2 ∨ p.state ≠ 2) → Runs (.cycleBodyEnd n ops) s h))
  ∧ (∀ (i : CycleImage) (p : Program) (key value : Nat),
      (∀ y, symbolOf key i = some y → tfind p.forcing key = none → bodyOp i p (.write key value) = { p with vars := tset p.vars key (value % 2 ^ y.width) })
      ∧ ((symbolOf key i = none ∨ (tfind p.forcing key).isSome = true) → bodyOp i p (.write key value) = p))
  ∧ (∀ (n : Nat) (s : State),
      let h := s.hw
      let p := progAt n h
      let fault (cause : Nat) : Hw :=
        let g := setProg n 3 (putProg n { p with fault := cause, phase := 0, edge := false, stopDue := false } h)
        if retainOn g then sendRetain n g else g
      (p.state = 2 → p.phase ≠ 0 → nsUnits (1000 * p.params.watchdogUs) ≤ h.time.mono - p.startedAt → Runs (.cycleWatchdogExpiry n) s (fault 1))
      ∧ (h.time.mono - p.startedAt < nsUnits (1000 * p.params.watchdogUs) → Runs (.cycleWatchdogExpiry n) s h)
      ∧ (p.state = 2 → Runs (.controlCoreException n) s (fault 2))
      ∧ ((p.state ≠ 2 ∨ p.phase = 0) → Runs (.cycleWatchdogExpiry n) s h)
      ∧ (p.state ≠ 2 → Runs (.controlCoreException n) s h))
  ∧ (∀ (b : StationInput) (s : State),
      let h := s.hw
      let p := progAt b.core h
      let x := stationState b.station p
      let find := ((p.image.map (fun i => i.stations)).getD []).find? (fun y => y.station == b.station)
      (find = none → Runs (.stationInputRx b) s h)
      ∧ (∀ io : StationIo, find = some io →
          let genuine := b.authentic = true ∧ ∃ k, io.key = some k ∧ keyUsable k h = true
          let formed := b.version = 1 ∧ b.kind = 2 ∧ b.data.length = io.inLen
          let current := p.phase ≠ 0 ∧ p.state = 2 ∧ b.cycle = p.cycle
          (¬genuine → Runs (.stationInputRx b) s (putProg b.core { p with stations := tset p.stations b.station { x with authFailures := inc32 x.authFailures } } h))
          ∧ (genuine → ¬formed → Runs (.stationInputRx b) s h)
          ∧ (genuine → formed → ¬current → Runs (.stationInputRx b) s (putProg b.core { p with inputLate := inc32 p.inputLate } h))
          ∧ (genuine → formed → current →
              Runs (.stationInputRx b) s (setStation b.core b.station 0 (fun x => { x with
                answered := true, missing := 0, lastInput := some p.cycle, image := b.data, seen := if p.phase = 1 then b.data else x.seen
                present := x.present || stationPath io h, returns := if x.state = 1 ∨ x.state = 2 then inc32 x.returns else x.returns }) h))))

/-- Where the NET commands complete, and with what effect. -/
def Obligations.NetCommandsComplete : Prop :=
  ∀ (c : Call) (p : List Byte) (s : State),
  let h := s.hw
  let n := u8 p 0
  let m := h.net.mirror
  (Passes cmdNetStatus c p s → Runs (.netStatus c p) s (okReply cmdNetStatus c (netStatusBytes h)
    (if bit (u8 p 0) 0 then { h with net := { h.net with noRoute := 0, partials := 0, poolHigh := poolUsed h, mirror := { m with lost := 0 } } } else h)))
  ∧ (Passes cmdNetPortStatus c p s → n ≤ 19 →
      Runs (.netPortStatus c p) s (okReply cmdNetPortStatus c (portStatusBytes n h) (if bit (u8 p 1) 0 then putPort n (clearPort (portAt n h)) h else h)))
  ∧ (Passes cmdNetNodeRead c p s → n ≤ 4 → 1 ≤ u16 p 4 → u16 p 4 ≤ 64 → u16 p 2 < (netPair n h).nodes.length →
      let l := ((netPair n h).nodes.drop (u16 p 2)).take (u16 p 4)
      Runs (.netNodeRead c p) s (okReply cmdNetNodeRead c
        (le 2 (netPair n h).nodes.length ++ le 2 l.length ++ zeros 4 ++ l.flatMap (fun x => nodeEntry n x h)) h))
  ∧ (Passes cmdNetMirrorSet c p s → n ≤ 15 → u16 p 8 ≠ 0 →
      let rule : MirrorRule := { enable := bit (u8 p 1) 0, rx := bit (u8 p 1) 1, tx := bit (u8 p 1) 2, drops := bit (u8 p 1) 3
                                 etype := u16 p 2, ports := u32 p 4, n := u16 p 8 }
      (m.running = false → Runs (.netMirrorSet c p) s (okReply cmdNetMirrorSet c (zeros 8) { h with net := { h.net with mirror := { m with rules := tset m.rules n rule } } }))
      ∧ (m.running = true → Runs (.netMirrorSet c p) s (refusal cmdNetMirrorSet c stBusy rcNetMirrorRunning [] h)))
  ∧ (Passes cmdNetMirrorSet c p s → n = 0xFF →
      (u8 p 13 = 0 → Runs (.netMirrorSet c p) s (okReply cmdNetMirrorSet c (zeros 8)
        { h with net := { h.net with mirror := { m with running := false, ring := [] } }, acq := { h.acq with mirrorSegments := 0 } }))
      ∧ (u8 p 13 = 1 → 1 ≤ u8 p 12 → u8 p 12 ≤ 8 → m.running = false → h.acq.segments + u8 p 12 ≤ 8 →
          Runs (.netMirrorSet c p) s (okReply cmdNetMirrorSet c (zeros 8) { h with
            net := { h.net with mirror := { m with running := true, ring := [], written := 0, window := (0, 0), rules := tmap m.rules (fun _ r => { r with count := 0 }) } }
            acq := { h.acq with mirrorSegments := u8 p 12, mirrorHolder := (c.hdr.slice, 0xFF) } }))
      ∧ (u8 p 13 = 1 → 1 ≤ u8 p 12 → u8 p 12 ≤ 8 → m.running = true → u8 p 12 = h.acq.mirrorSegments →
          Runs (.netMirrorSet c p) s (okReply cmdNetMirrorSet c (zeros 8) h)))
  ∧ (Passes cmdNetMirrorRead c p s → 1 ≤ u32 p 4 → u32 p 4 ≤ 64 → m.written - m.ring.length ≤ u32 p 0 → u32 p 0 + u32 p 4 ≤ m.written → m.ring ≠ [] →
      Runs (.netMirrorRead c p) s (okReply cmdNetMirrorRead c (le 4 (m.written - m.ring.length) ++ le 4 (m.written - 1) ++ zeros 8
        ++ (List.range (u32 p 4)).flatMap (fun j => mirrorBytes (m.ring.getD (m.written - 1 - (u32 p 0 + j)) {}))) h))
  ∧ (Passes cmdNetPortEnable c p s → n ≤ 11 → u8 p 1 ≤ 1 →
      Runs (.netPortEnable c p) s (okReply cmdNetPortEnable c [] (pump n (refreshPort n (modPort n (fun x => { x with forced := some (u8 p 1 == 1) }) h)))))
  ∧ (Passes cmdNetTune c p s → n ≤ 19 →
      let x := portAt n h
      let t := u32 p 16
      let k : PortConfig := { x.cfg with
        pcp := keepOr (u8 p 1) 0xFF x.cfg.pcp, floor := keepOr (u8 p 2) 0xFF x.cfg.floor, high := keepOr (u32 p 4) 0 x.cfg.high
        low := keepOr (u32 p 8) 0 x.cfg.low, cap := keepOr (u32 p 12) 0 x.cfg.cap }
      let g := putPort n { x with cfg := k, step := max x.step k.floor } h
      portRange 0 k = true →
      (t = 0 → Runs (.netTune c p) s (okReply cmdNetTune c [] g))
      ∧ (10 ≤ t → t ≤ 60000 → n ≤ 9 → Runs (.netTune c p) s (okReply cmdNetTune c [] (refreshPort n (putNetPair (n / 2) { netPair (n / 2) g with timeoutMs := t } g)))))
  ∧ (Passes cmdNetAgeingSet c p s →
      let l := (List.range 8).map (fun j => u32 p (4 * j))
      (∀ v ∈ l, v = 0 ∨ (10 ≤ v ∧ v ≤ 100000)) →
      Runs (.netAgeingSet c p) s (okReply cmdNetAgeingSet c [] { h with net := { h.net with ageing := l.zipIdx.map (fun e => keepOr e.1 0 (h.net.ageing.getD e.2 0)) } }))

/-- ETH_FRAME_RX, FRAME_TRANSMIT_END, TX_UNDERRUN and START_STEP_DECAY. -/
def Obligations.FramesAreReceivedAndSent : Prop :=
  (∀ (port : Nat) (bs : List Byte) (ok : Bool) (s : State),
    let h := s.hw
    let prp := port < 10 ∧ (netPair (port / 2) h).mode = 0 ∧ (parseFrame bs).prp.isSome = true
    let q := { frameOf port bs h with length := if prp then bs.length - 6 else bs.length }
    let n := bs.length + 4
    (portUp port h = false ∨ 12 ≤ port → Runs (.ethFrameRx port bs ok) s h)
    ∧ (portUp port h = true → port < 12 →
        (ok = false → Runs (.ethFrameRx port bs ok) s (mirror 2 port 1 q (modPort port (fun x => { x with fcsErr := inc32 x.fcsErr }) h)))
        ∧ (ok = true → n < 64 → Runs (.ethFrameRx port bs ok) s (mirror 2 port 2 q (modPort port (fun x => { x with runt := inc32 x.runt }) h)))
        ∧ (ok = true → 2048 < n → Runs (.ethFrameRx port bs ok) s (mirror 2 port 2 q (modPort port (fun x => { x with oversize := inc32 x.oversize }) h)))
        ∧ (ok = true → 64 ≤ n → n ≤ 2048 →
            let f := parseFrame bs
            let g := mirror 0 port 0 q
              (modPort port (fun x => { x with rxFrames := x.rxFrames + 1, rxBytes := x.rxBytes + n }) h)
            let pause := f.etype = 0x8808 ∧ beFld bs f.body 2 = 1
            (pause → Runs (.ethFrameRx port bs ok) s (pauseRx port (beFld bs (f.body + 2) 2) g))
            ∧ (¬pause → port < 10 → (netPair (port / 2) g).mode = 0 → Runs (.ethFrameRx port bs ok) s (prpRx port bs g))
            ∧ (¬pause → port < 10 → (netPair (port / 2) g).mode = 1 → Runs (.ethFrameRx port bs ok) s (hsrRx port bs g))
            ∧ (¬pause → (10 ≤ port ∨ 2 ≤ (netPair (port / 2) g).mode) → Runs (.ethFrameRx port bs ok) s (dispatchFrame port [] bs g)))))
  ∧ (∀ (port : Nat) (bs : List Byte) (seq lan : Nat) (w : List SeqWindow) (h : Hw), (parseFrame bs).prp = some (seq, lan) → lan = 10 + port % 2 →
      let g := nodeSeen (port / 2) (port % 2) (parseFrame bs).src true h
      seeSequence true g.time.mono (parseFrame bs).src seq (netPair (port / 2) g).windows = (1, w) →
      let e := putNetPair (port / 2) { netPair (port / 2) g with windows := w } g
      prpRx port bs h = dropDup port (frameOf port (bs.take (bs.length - 6)) e) e)
  ∧ (∀ (port : Nat) (bs : List Byte) (h : Hw), (parseFrame bs).hsr = none → (parseFrame bs).src ≠ ownMac port h → (parseFrame bs).dest ≠ ownMac port h →
      let copy := [(if port % 2 = 0 then port + 1 else port - 1, frameOf port bs h)]
      (forModule port (parseFrame bs) bs h = true → hsrRx port bs h = dispatchFrame port copy bs h)
      ∧ (forModule port (parseFrame bs) bs h = false → hsrRx port bs h = forward copy h))
  ∧ (∀ (port : Nat) (bs : List Byte) (h : Hw), (parseFrame bs).src = ownMac port h →
      hsrRx port bs h = mirror 2 port 7 (frameOf port bs h) (modPort port (fun x => { x with ownReturn := inc32 x.ownReturn }) h))
  ∧ (∀ (port : Nat) (s : State) (f : QFrame), (portAt port s.hw).sending = some f →
      let h := s.hw
      let x := portAt port h
      (let g := putPort port { x with
           sending := none, txFrames := x.txFrames + 1, txBytes := x.txBytes + f.bytes.length + 4 } h
       (port < 12 → Runs (.frameTransmitEnd port) s (pump port (emit (.frame port f.bytes false) g)))
       ∧ (port = 19 → Runs (.frameTransmitEnd port) s (pump port (ipAnswer f (emit (.toHub f.bytes) g))))
       ∧ (∀ n, 12 ≤ port → port ≠ 19 → f.slice = some n →
           let y := sliceAt n g
           (y.state = 1 → Runs (.frameTransmitEnd port) s (pump port { g with slc := { g.slc with
             rxFrames := g.slc.rxFrames ++ [{ slice := n, generation := f.generation, since := g.time.mono, bytes := f.bytes }] } }))
           ∧ (y.state ≠ 1 → Runs (.frameTransmitEnd port) s (pump port (putSlice n { y with quiesceDrop := inc32 y.quiesceDrop } g))))
       ∧ (12 ≤ port → port ≠ 19 → f.slice = none → Runs (.frameTransmitEnd port) s (pump port g)))
      ∧ (4 ≤ x.step → Runs (.txUnderrun port) s h)
      ∧ (x.step < 4 →
          let due := match x.stepRecord with | some t => decide (t + secUnit ≤ h.time.mono) | none => true
          let g := mirror 2 port 5 f (putPort port { x with
            sending := none, underrun := inc32 x.underrun, step := x.step + 1, stepAt := h.time.mono, stepRecord := if due then some h.time.mono else x.stepRecord } h)
          let g := if port < 12 then emit (.frame port f.bytes true) g else g
          Runs (.txUnderrun port) s (pump port (if due then evr 0x0E12 (0x0200 + port) (netPayload port x.step (x.step + 1) 0xFF 0xFF 0 g) g else g))))
  ∧ (∀ (port : Nat) (s : State), (portAt port s.hw).sending = none → Runs (.frameTransmitEnd port) s s.hw ∧ Runs (.txUnderrun port) s s.hw)
  ∧ (∀ (port : Nat) (s : State),
      let x := portAt port s.hw
      let due := port ≠ 11 ∧ x.cfg.floor < x.step ∧ secUnit ≤ s.hw.time.mono - x.stepAt
      (due → Runs (.startStepDecay port) s (putPort port { x with step := x.step - 1, stepAt := s.hw.time.mono } s.hw))
      ∧ (¬due → Runs (.startStepDecay port) s s.hw))

/-- PORT_LINK_CHANGE, the PAUSE events, FRAME_AGEING_SCAN, PRP_WINDOW_EXPIRY, NODE_PATH_TIMEOUT and PRP_SUPERVISION_SEND. -/
def Obligations.NetworkTimersAndLinks : Prop :=
  (∀ (port : Nat) (up : Bool) (s : State), port < 12 → portEnabled port s.hw = true →
    let h := s.hw
    let x := portAt port h
    (x.link = up → Runs (.portLinkChange port up) s h)
    ∧ (x.link ≠ up →
        let g := putPort port { x with link := up, linkLosses := if up then x.linkLosses else inc32 x.linkLosses } h
        let g := evr 0x0E10 (0x0200 + port) (netPayload port (flag (!up) 0) (flag up 0) 0xFF 0xFF 0 g) g
        Runs (.portLinkChange port up) s (pump port (refreshPort port g))))
  ∧ (∀ (port quanta : Nat) (s : State), portExists port s.hw = true → quanta < 65536 → (12 ≤ port ∨ portUp port s.hw = true) →
      let h := if 12 ≤ port then s.hw else
        let q := frameOf port (pauseBytes ((List.range 6).map (fun i => Config.freeByte (s.hw.free * 4096 + i))) quanta) s.hw
        enterSwitch port q (drawn s.hw)
      (honoursPause port = true → Runs (.pauseFrameRx port quanta) s (pump port (modPort port (fun x => { x with
        held := some (h.time.mono + quanta * 512 * 2 ^ 64 / wireRate port h), pauseRx := inc32 x.pauseRx }) h)))
      ∧ (honoursPause port = false → Runs (.pauseFrameRx port quanta) s (modPort port (fun x => { x with pauseIgnored := inc32 x.pauseIgnored }) h)))
  ∧ (∀ (port quanta : Nat) (s : State), port < 12 → portUp port s.hw = false → Runs (.pauseFrameRx port quanta) s s.hw)
  ∧ (∀ (port : Nat) (s : State),
      let h := s.hw
      let x := portAt port h
      (x.held.isSome → isHeld port h = false → Runs (.pauseHoldExpiry port) s (pump port (modPort port (fun x => { x with held := none }) h)))
      ∧ ((x.held = none ∨ isHeld port h = true) → Runs (.pauseHoldExpiry port) s h)
      ∧ ((sendsPause port = false ∨ portEnabled port h = false) → Runs (.pauseSend port) s h)
      ∧ (sendsPause port = true → portEnabled port h = true →
          (x.pausing = false → 16 * x.cfg.high ≤ occupancy port h → Runs (.pauseSend port) s (sendPause port 0xFFFF true h))
          ∧ (x.pausing = false → occupancy port h < 16 * x.cfg.high → Runs (.pauseSend port) s h)
          ∧ (x.pausing = true → occupancy port h ≤ 16 * x.cfg.low → Runs (.pauseSend port) s (sendPause port 0 false h))
          ∧ (x.pausing = true → 16 * x.cfg.low < occupancy port h → Runs (.pauseSend port) s h))
      ∧ (let due := portEnabled port h = true ∧ x.pausing = true ∧ 16 * x.cfg.low < occupancy port h ∧ 0xFFFF * 256 * 2 ^ 64 / wireRate port h ≤ h.time.mono - x.pausedAt
         (due → Runs (.pauseResend port) s (sendPause port 0xFFFF true h)) ∧ (¬due → Runs (.pauseResend port) s h)))
  ∧ (∀ s : State,
      (nsUnits 1000 ≤ s.hw.time.mono - s.hw.net.scannedAt →
        Runs .frameAgeingScan s ((List.range 20).foldl (fun g n => agePort n g) { s.hw with net := { s.hw.net with scannedAt := s.hw.time.mono } }))
      ∧ (s.hw.time.mono - s.hw.net.scannedAt < nsUnits 1000 → Runs .frameAgeingScan s s.hw)
      ∧ (s.hw.net.superviseAt ≤ s.hw.time.mono →
          Runs .prpSupervisionSend s ((List.range 5).foldl (fun g n =>
            if (netPair n g).mode ≠ 2 ∧ (portEnabled (2 * n) g = true ∨ portEnabled (2 * n + 1) g = true) then emit (.supervision n) g else g)
            { s.hw with net := { s.hw.net with superviseAt := s.hw.time.mono + 2 * secUnit } }))
      ∧ (s.hw.time.mono < s.hw.net.superviseAt → Runs .prpSupervisionSend s s.hw))
  ∧ (∀ (q : QFrame) (h : Hw),
      let ports := if q.input = 11 then [11] else [8, 9]
      (asksModule (parseFrame q.bytes) q.bytes (addressesAt q.input h) = true → ipAnswer q h = emit (.ipAnswer ports q.bytes) h)
      ∧ (asksModule (parseFrame q.bytes) q.bytes (addressesAt q.input h) = false → ipAnswer q h = h))
  ∧ (∀ (port : Nat) (q : QFrame) (h : Hw), (enterSwitch port q h).net.ports = tset h.net.ports port
      { portAt port h with rxFrames := (portAt port h).rxFrames + 1, rxBytes := (portAt port h).rxBytes + q.length + 4 })
  ∧ (∀ (fuel : Nat) (l : List (Nat × Nat × Nat)) (n : NetState),
      let m := transfer fuel l n
      m = { n with grants := m.grants, accepts := m.accepts })
  ∧ (∀ (pair mac : Nat) (s : State), pair ≤ 4 →
      let h := s.hw
      let x := netPair pair h
      let fresh (l : List SeqWindow) := freshWindows (x.mode == 0) h.time.mono l
      Runs (.prpWindowExpiry pair) s (putNetPair pair { x with windows := fresh x.windows, passEven := fresh x.passEven, passOdd := fresh x.passOdd } h)
      ∧ Runs (.nodePathTimeout pair mac) s (refreshNode pair mac h))

/-- Where the PAIR and CONST commands complete, and with what effect. -/
def Obligations.PairAndConstCommandsComplete : Prop :=
  ∀ (c : Call) (p : List Byte) (s : State),
  let h := s.hw
  let keep (v old : Nat) : Nat := if v = 0 then old else v
  (Passes cmdPairStatus c p s → Runs (.pairStatus c p) s (okReply cmdPairStatus c (pairStatusBytes h) (if bit (u8 p 0) 0 then
    { h with pair := { h.pair with contests := 0, contestsLost := 0, rankClashes := 0, invalid := 0, rejections := 0, yields := 0
                                   paths := tmap h.pair.paths (fun _ x => { x with missed := 0, faults := 0 }) } } else h)))
  ∧ ((pairOf h).isSome →
      (Passes cmdPairSwitch c p s → h.pair.role = 1 → (pathAt 0 h).live = true → (pathAt 1 h).live = true → h.pair.partnerRole = 2 →
        (h.pair.partnerState = 6 ∨ h.pair.partnerState = 7) → h.pair.partnerVerdict = 0 → h.pair.mismatch = false →
        RunsAll (.pairSwitch c p) s (okReply cmdPairSwitch c [] (relinquish 4 h)))
      ∧ (Passes cmdPairSwitch c p s → h.pair.role ≠ 1 → RunsAll (.pairSwitch c p) s (refusal cmdPairSwitch c stStateRefused rcPairNotActive [] h))
      ∧ (∀ st x t, Passes cmdPairStageRead c p s → tfind h.spec.stages (u16 p 0) = some st → st.dropped = false → tfind h.pair.status (u16 p 0) = some (x, t) →
          Runs (.pairStageRead c p) s (okReply cmdPairStageRead c (le 4 (sat32 ((h.time.mono - t) * 1000000 / 2 ^ 64)) ++ zeros 4 ++ stageStatusBytes x) h))
      ∧ (Passes cmdPairTune c p s → (u32 p 0 = 0 ∨ (3600 ≤ u32 p 0 ∧ u32 p 0 ≤ 604800)) → (u32 p 4 = 0 ∨ (100 ≤ u32 p 4 ∧ u32 p 4 ≤ 60000)) →
          (u32 p 8 = 0 ∨ (1 ≤ u32 p 8 ∧ u32 p 8 ≤ 3600)) →
          Runs (.pairTune c p) s (okReply cmdPairTune c [] { h with pair := { h.pair with
            scrubPeriod := keep (u32 p 0) h.pair.scrubPeriod, coreInterval := keep (u32 p 4) h.pair.coreInterval, katInterval := keep (u32 p 8) h.pair.katInterval } })))
  ∧ (pairOf h = none →
      (Passes cmdPairSwitch c p s → RunsAll (.pairSwitch c p) s (refusal cmdPairSwitch c stStateRefused rcPairNotPaired [] h))
      ∧ (Passes cmdPairStageRead c p s → Runs (.pairStageRead c p) s (refusal cmdPairStageRead c stStateRefused rcPairNotPaired [] h))
      ∧ (Passes cmdPairTune c p s → Runs (.pairTune c p) s (refusal cmdPairTune c stStateRefused rcPairNotPaired [] h)))
  ∧ (Passes cmdConstStatus c p s → Runs (.constStatus c p) s (okReply cmdConstStatus c (constStatusBytes h)
      (if bit (u8 p 0) 0 then { h with const := { h.const with sent := 0, received := 0, invalid := 0, clashes := 0 } } else h)))
  ∧ (∀ k : ConstSection, constOf h = some k →
      (Passes cmdConstPeerRead c p s → u16 p 0 ≤ 4095 → 1 ≤ u16 p 2 → u16 p 2 ≤ 64 → u8 p 4 ≤ 2 →
        let want (id : Nat) : Bool := id != h.moduleId && (match u8 p 4 with
          | 0 => true
          | 1 => k.bindings.any (fun b => b.peer == id)
          | _ => match tfind h.const.peers id with | none => true | some x => x.absent || x.dissenting || x.suspect)
        let ids := (((List.range (4096 - u16 p 0)).map (fun j => u16 p 0 + j)).filter want).take (u16 p 2)
        Runs (.constPeerRead c p) s (okReply cmdConstPeerRead c (freeBytes 8 h ++ ids.zipIdx.flatMap (fun e => peerEntry e.1 ((freeBytes (46 + 38 * e.2) h).drop (8 + 38 * e.2)) k h)) (drawn h)))
      ∧ (∀ m : Manifest, Passes cmdConstManifestRead c p s → h.const.manifest = some m → 1 ≤ u16 p 2 → u16 p 2 ≤ 64 → u16 p 0 + u16 p 2 ≤ m.entries.length →
          Runs (.constManifestRead c p) s (okReply cmdConstManifestRead c (manifestHeader m ++ (((m.entries.drop (u16 p 0)).take (u16 p 2)).map entryBytes).flatten) h))
      ∧ (Passes cmdConstTune c p s → u16 p 0 ≤ 600 → u16 p 2 ≤ 3600 → (u16 p 4 = 0 ∨ (200 ≤ u16 p 4 ∧ u16 p 4 ≤ 10000)) →
          Runs (.constTune c p) s (okReply cmdConstTune c [] { h with const := { h.const with
            dissentHold := keep (u16 p 0) h.const.dissentHold, timeHold := keep (u16 p 2) h.const.timeHold, absentMs := keep (u16 p 4) h.const.absentMs } })))
  ∧ (constOf h = none →
      (Passes cmdConstPeerRead c p s → Runs (.constPeerRead c p) s (refusal cmdConstPeerRead c stStateRefused rcConstNoSection [] h))
      ∧ (Passes cmdConstManifestRead c p s → Runs (.constManifestRead c p) s (refusal cmdConstManifestRead c stStateRefused rcConstNoSection [] h))
      ∧ (Passes cmdConstTune c p s → Runs (.constTune c p) s (refusal cmdConstTune c stStateRefused rcConstNoSection [] h)))
  ∧ (let h := swapChange s.hw
     Passes cmdConstManifestLoad c p { s with hw := h } →
      (constOf h = none → RunsAll (.constManifestLoad c p) s (refusal cmdConstManifestLoad c stStateRefused rcConstNoSection [] h))
      ∧ (∀ k : ConstSection, constOf h = some k →
          let n := u16 p 6
          let len := u32 p 8
          let old := h.const.staged
          1 ≤ n → n ≤ 41 → 1 ≤ len → len ≤ 4096 → u16 p 4 < n → (u16 p 4 + 1 = n ∨ len = 4096) →
          (∀ g, old = some g → g.sequence < u32 p 0 ∨ (g.sequence = u32 p 0 ∧ g.fragments = n)) →
          let base : Staged := match old with
            | some g => if g.sequence = u32 p 0 then g else { sequence := u32 p 0, fragments := n }
            | none => { sequence := u32 p 0, fragments := n }
          let g : Staged := { base with parts := tset base.parts (u16 p 4) (p.drop 16) }
          let data := (g.parts.map (fun e => e.2)).flatten
          (g.parts.length < n → RunsAll (.constManifestLoad c p) s (okReply cmdConstManifestLoad c (le 4 data.length ++ zeros 4) { h with const := { h.const with staged := some g } }))
          ∧ (n ≤ g.parts.length → c.crypto.signed = false → RunsAll (.constManifestLoad c p) s (refusal cmdConstManifestLoad c stAuthFailed rcConstManifestSig [] h))
          ∧ (∀ m : Manifest, n ≤ g.parts.length → c.crypto.signed = true → readManifest data = some m → m.constellation = k.constellation → m.sequence = u32 p 0 →
              (∀ x, h.const.manifest = some x → x.sequence < m.sequence) →
              RunsAll (.constManifestLoad c p) s (okReply cmdConstManifestLoad c (le 4 data.length ++ zeros 4) (commitManifest m h)))
          ∧ (∀ m x : Manifest, n ≤ g.parts.length → c.crypto.signed = true → readManifest data = some m → m.constellation = k.constellation → m.sequence = u32 p 0 →
              h.const.manifest = some x → m.sequence ≤ x.sequence →
              RunsAll (.constManifestLoad c p) s (refusal cmdConstManifestLoad c stReplay rcConstManifestOld [] h))))

/-- HEARTBEAT_SEND, HEARTBEAT_RX, PATH_SILENT, STARTUP_CLAIM_TIMEOUT, CONTEST_TIMEOUT and YIELD_HOLD_CLEAR. -/
def Obligations.RolesFollowHeartbeats : Prop :=
  (∀ (path : Nat) (s : State),
    let h := s.hw
    let x := pathAt path h
    let n := h.time.now * 1000000000 / (heartbeatPeriodNs path * 2 ^ 64)
    let due := heartbeatStates h = true ∧ h.pair.stopped = false ∧ (pairOf h).isSome ∧ path ≤ 1 ∧ n ≠ x.nextDue
    (due → RunsAll (.heartbeatSend path) s
      (sendHeartbeat (if h.pair.relinquish then 2 else 1) path (nsUnits (n * heartbeatPeriodNs path)) (putPath path { x with nextDue := n } h)))
    ∧ (¬due → RunsAll (.heartbeatSend path) s h))
  ∧ (∀ (b : Heartbeat) (s : State) (k : PairSection), pairOf s.hw = some k →
      let h := s.hw
      let g := noteClash b (hearPartner b k h)
      let role := b.stateWord / 16 % 16
      let higher := (g.pair.role = 1 ∨ g.pair.role = 3) ∧ (role = 1 ∨ role = 3) ∧ g.pair.claim < b.claim
      let unfit := (role = 2 ∨ (b.stateWord % 16 ≠ 6 ∧ b.stateWord % 16 ≠ 7)) ∧ (b.verdict = 2 ∨ (k.rank = 1 ∧ 8 ≤ g.pair.partnerStandby))
      (heartbeatValid b k h = false → RunsAll (.heartbeatRx b) s { h with pair := { h.pair with invalid := inc32 h.pair.invalid } })
      ∧ (heartbeatValid b k h = true → b.kind = 2 → RunsAll (.heartbeatRx b) s (claimOn 1 g))
      ∧ (heartbeatValid b k h = true → b.kind ≠ 2 → higher → RunsAll (.heartbeatRx b) s (yieldTo b.claim 0xFFFF g))
      ∧ (heartbeatValid b k h = true → b.kind ≠ 2 → ¬higher → unfit → RunsAll (.heartbeatRx b) s (claimOn (if b.verdict = 2 then 6 else 2) g))
      ∧ (heartbeatValid b k h = true → b.kind ≠ 2 → ¬higher → ¬unfit → RunsAll (.heartbeatRx b) s g))
  ∧ (∀ (path : Nat) (s : State), (pairOf s.hw).isSome → path ≤ 1 → (pathAt path s.hw).silent = false →
      let h := s.hw
      let x := pathAt path h
      let other := pathAt (1 - path) h
      let g := putPath path { x with live := false, silent := true } h
      (h.time.mono - x.lastValid < nsUnits (silenceNs path) → RunsAll (.pathSilent path) s h)
      ∧ (nsUnits (silenceNs path) ≤ h.time.mono - x.lastValid →
          (other.live = true → RunsAll (.pathSilent path) s
            (pairRecord 0x0F11 path 0 g.pair.partnerClaim 0xFFFF (putPath path { pathAt path g with faults := inc32 x.faults, faulted := true } g)))
          ∧ (other.live = false → other.silent = true → h.pair.partnerLost = false →
              let e := { g with pair := { g.pair with partnerLost := true } }
              (h.pair.role = 1 → RunsAll (.pathSilent path) s (contest 0 e))
              ∧ (h.pair.role ≠ 1 → h.pair.hold = true → RunsAll (.pathSilent path) s e)
              ∧ (h.pair.role ≠ 1 → h.pair.hold = false → RunsAll (.pathSilent path) s (claimOn 0 e)))
          ∧ (other.live = false → (other.silent = false ∨ h.pair.partnerLost = true) → RunsAll (.pathSilent path) s g)))
  ∧ (∀ (t : Nat) (s : State), s.hw.pair.entered = some t →
      let due := s.hw.pair.heardSince = false ∧ s.hw.pair.hold = false ∧ nsUnits 3250000 ≤ s.hw.time.mono - t
      (due → RunsAll .startupClaimTimeout s (claimOn 2 s.hw)) ∧ (¬due → RunsAll .startupClaimTimeout s s.hw))
  ∧ (∀ (t : Nat) (s : State), s.hw.pair.contestAt = some t →
      let h := s.hw
      let due := h.pair.role = 3 ∧ nsUnits 2000000 ≤ h.time.mono - t
      (due → RunsAll .contestTimeout s (winContest ((reachable h).isEmpty || (reachable h).any (fun x => !echoes h x)) 0xFFFF h))
      ∧ (¬due → RunsAll .contestTimeout s h))
  ∧ (∀ (t : Nat) (s : State), s.hw.pair.notLiveSince = some t →
      let h := s.hw
      let g := { h with pair := { h.pair with hold := false, notLiveSince := none } }
      let due := h.pair.hold = true ∧ nsUnits 4000000 ≤ h.time.mono - t ∧ reachable h ≠ [] ∧ ∀ x ∈ reachable h, bit x.flags 1 = false
      (due → ((pathAt 0 h).live = true ∨ (pathAt 1 h).live = true) → RunsAll .yieldHoldClear s g)
      ∧ (due → (pathAt 0 h).live = false → (pathAt 1 h).live = false → RunsAll .yieldHoldClear s (claimOn 0 g))
      ∧ (¬due → RunsAll .yieldHoldClear s h))
  ∧ (∀ (n : Nat) (h : Hw), h.pair.role = 2 →
      (verdictOf h = 2 → contest n h = h)
      ∧ (verdictOf h ≠ 2 → 0xFFFFFF ≤ highestEpoch h → contest n h = pairRecord 0x0F12 3 0 h.pair.partnerClaim 0xFFFF h)
      ∧ (verdictOf h ≠ 2 → highestEpoch h < 0xFFFFFF → rankOf h < 256 →
          (contest n h).pair.role = 3 ∧ (contest n h).pair.contestAt = some h.time.mono ∧ (contest n h).pair.claim / 256 = highestEpoch h + 1))
  ∧ (∀ (kind path due : Nat) (h : Hw) (k : PairSection), pairOf h = some k → path ≤ 1 →
      let x := pathAt path h
      let pay := heartbeatPayload kind path due k h
      let f := heartbeatGoose path h.time.now x.sent k pay
      sendHeartbeat kind path due h = sendGoose k.key f (putPath path { x with sent := (x.sent + 1) % 2 ^ 32 } h)
      ∧ f.payload = pay ∧ f.ports = (if path = 0 then [10] else [8, 9]) ∧ f.priority = 7 ∧ f.stNum = x.sent
      ∧ ((publishes h = true → ownClaim h = h.pair.claim) ∧ (publishes h = false → ownClaim h = highestEpoch h * 256 + k.rank)))

/-- STAGE_STATUS_RX, RETAIN_SEND, RETAIN_FRAME_RX, BEACON_SEND, BEACON_RX, PEER_ABSENT and TIME_SUSPECT_HOLD_EXPIRY. -/
def Obligations.PeersAndStagesAreHeard : Prop :=
  (∀ (x : StageStatus) (s : State) (st : StageOut), tfind s.hw.spec.stages x.stage = some st →
    ((x.authentic = false ∨ stageKeyUsable st s.hw = false ∨ x.mac ≠ st.cfg.statusMac ∨ x.gocbRef ≠ st.cfg.statusRef ∨ x.goId ≠ st.cfg.statusGoId) → RunsAll (.stageStatusRx x) s s.hw)
    ∧ RunsAll (.stageStatusRx x) s (stageStatusRx x s.hw)
    ∧ (x.authentic = true → stageKeyUsable st s.hw = true → x.mac = st.cfg.statusMac → x.gocbRef = st.cfg.statusRef → x.goId = st.cfg.statusGoId → s.hw.pair.role = 2 →
        tfind (stageStatusRx x s.hw).pair.status x.stage = some (x, s.hw.time.mono) ∧ (stageStatusRx x s.hw).pair.role = 2
        ∧ x.accepted / 256 ≤ (stageStatusRx x s.hw).pair.epochSeen ∧ x.rejected / 256 ≤ (stageStatusRx x s.hw).pair.epochSeen))
  ∧ (∀ s : State,
      let h := s.hw
      let due := retainOn h = true ∧ (h.pair.role = 1 ∨ h.pair.role = 3) ∧ h.pair.retainAt ≤ h.time.mono
      (due → Runs .retainSend s
        ([0, 1, 2, 3].foldl (fun g n => sendRetain n g) { h with pair := { h.pair with retainAt := h.time.mono + nsUnits 100000000 } }))
      ∧ (¬due → Runs .retainSend s h))
  ∧ (∀ (f : RetainFragment) (s : State) (k : PairSection) (key : Nat), pairOf s.hw = some k → k.key = some key → keyUsable key s.hw = true → f.authentic = true →
      f.version = 1 → f.moduleId = k.partner → f.partnerId = s.hw.moduleId → f.core ≤ 3 → 1 ≤ f.fragments → f.fragments ≤ 64 → f.fragment < f.fragments → f.data.length ≤ 1024 → (tget s.hw.pair.partials f.core {}).parts = [] →
      let h := s.hw
      let q : RetainPartial := { image := f.image, fragments := f.fragments, crc := f.crc, identity := f.identity, parts := [(f.fragment, f.data)] }
      (f.fragments = 1 → crc32c f.data = f.crc → Runs (.retainFrameRx f) s { h with pair := { h.pair with
        partials := tdel h.pair.partials f.core
        partnerRetain := if (match tfind h.pair.partnerRetain f.core with | some (r, _) => laterSeq f.image r.sequence | none => true) = false then h.pair.partnerRetain
          else tset h.pair.partnerRetain f.core ({ sequence := f.image, identity := f.identity, data := f.data }, h.time.mono) } })
      ∧ (1 < f.fragments → Runs (.retainFrameRx f) s { h with pair := { h.pair with partials := tset h.pair.partials f.core q } }))
  ∧ (∀ (s : State) (k : ConstSection), constOf s.hw = some k →
      let h := s.hw
      let n := (h.time.now * 40960 / 2 ^ 64 - h.moduleId) / 4096
      let due := beaconStates h = true ∧ n + 1 ≠ h.const.nextBeacon ∧ beaconDue n h.moduleId ≤ h.time.now
      (¬due → Runs .beaconSend s h)
      ∧ (due →
          let g := evalConst true { h with const := { h.const with nextBeacon := n + 1 } }
          let e := { g with const := { g.const with sequence := (g.const.sequence + 1) % 2 ^ 32 } }
          (∀ key, k.key = some key → keyUsable key e = true →
            let x := { e with const := { e.const with sent := inc32 e.const.sent } }
            let f := beaconGoose k (beaconPayload (beaconDue n g.moduleId) g) e
            Runs .beaconSend s (sendGoose k.key f x)
            ∧ f.ports = [8, 9] ∧ f.priority = 6 ∧ f.stNum = (g.const.sequence + 1) % 2 ^ 32 ∧ f.payload = beaconPayload (beaconDue n g.moduleId) g)
          ∧ ((∀ key, k.key = some key → keyUsable key e = false) → Runs .beaconSend s e)))
  ∧ (∀ (b : Beacon) (s : State) (k : ConstSection), constOf s.hw = some k → 4 ≤ modeCode s.hw.mode → modeCode s.hw.mode ≤ 7 →
      let h := s.hw
      let invalid := { h with const := { h.const with invalid := inc32 h.const.invalid } }
      let good := b.authentic = true ∧ (∃ key, k.key = some key ∧ keyUsable key h = true) ∧ b.version = 1
      (¬good → Runs (.beaconRx b) s invalid)
      ∧ (good → b.moduleId = h.moduleId → b.ownMac = true → Runs (.beaconRx b) s invalid)
      ∧ (good → b.moduleId = h.moduleId → b.ownMac = false →
          let g := { h with const := { h.const with clashes := inc32 h.const.clashes, clashSecond := some (secOf h.time.now) } }
          (h.const.clashSecond = some (secOf h.time.now) → Runs (.beaconRx b) s g)
          ∧ (h.const.clashSecond ≠ some (secOf h.time.now) → Runs (.beaconRx b) s (evrOpen 0x10 0x0000 g)))
      ∧ (∀ q, good → b.moduleId ≠ h.moduleId → tfind h.const.peers b.moduleId = some q → laterSeq b.sequence q.beacon.sequence = false → Runs (.beaconRx b) s invalid)
      ∧ (good → b.moduleId ≠ h.moduleId → (∀ q, tfind h.const.peers b.moduleId = some q → laterSeq b.sequence q.beacon.sequence = true) →
          let g := { h with const := { h.const with received := inc32 h.const.received, heard := max h.const.heard b.manifest } }
          Runs (.beaconRx b) s (setPeer b.moduleId
            (viewOf b (inverted b g) { (tfind h.const.peers b.moduleId).getD {} with at_ := h.time.mono, absent := false } g) g)))
  ∧ (∀ (id : Nat) (s : State) (q : Peer), tfind s.hw.const.peers id = some q →
      let due := q.absent = false ∧ q.at_ + nsUnits (s.hw.const.absentMs * 1000000) ≤ s.hw.time.mono
      (due → Runs (.peerAbsent id) s (setPeer id { q with absent := true } s.hw)) ∧ (¬due → Runs (.peerAbsent id) s s.hw))
  ∧ (∀ (t : Nat) (s : State), s.hw.const.cleanSince = some t →
      let due := s.hw.const.suspect = true ∧ t + s.hw.const.timeHold * secUnit ≤ s.hw.time.mono
      (due → Runs .timeSuspectHoldExpiry s (setOwnFlags s.hw.const.dissenting false s.hw)) ∧ (¬due → Runs .timeSuspectHoldExpiry s s.hw))

/-- Where the KEY commands complete, and with what effect; the sealed table's write is KEY_TABLE_WRITTEN. Results of cryptography are operands or free (log 4). -/
def Obligations.KeyCommandsComplete : Prop :=
  ∀ (c : Call) (p : List Byte) (s : State),
  let h := s.hw
  let x := u32 p 0
  let n := hdlSlot x
  let k := keySlot n h
  let named := validHandle x h = true ∧ mayName c n h = true ∧ k.state ≠ 4
  let wait (op : Nat) (g : Hw) : Hw := { g with keys := { g.keys with waiting := g.keys.waiting ++ [{ opcode := op, call := c, params := p }] } }
  (h.keys.waiting = [] → h.keys.zeroised = false →
    (Passes cmdKeyStatus c p s → Runs (.keyStatus c p) s (okReply cmdKeyStatus c
      (le 2 (slotsUsed h) ++ le 2 (1013 - slotsUsed h) ++ le 1 (if h.keys.selftestFailed then 2 else 0) ++ le 1 h.keys.epoch
        ++ le 2 (slotsIn 4 h) ++ le 2 (slotsIn 2 h) ++ le 2 (slotsIn 3 h) ++ le 8 h.keys.counter ++ le 4 h.keys.passed ++ le 4 h.keys.failed ++ zeros 4) h))
    ∧ (Passes cmdKeyInfo c p s → validHandle x h = true → mayName c n h = true →
        ∃ pay, keyInfoRead c p h = .now h pay ∧ Runs (.keyInfo c p) s (okReply cmdKeyInfo c pay h))
    ∧ (Passes cmdKeyPublicRead c p s → named → (k.use = 2 ∨ k.use = 3) →
        (u8 p 4 = 0 → Runs (.keyPublicRead c p) s (okReply cmdKeyPublicRead c (le 4 x ++ le 4 k.version ++ publicOf n h ++ zeros 3) h))
        ∧ (∀ u, u8 p 4 = 1 → k.succ = some u → k.state = 3 →
            Runs (.keyPublicRead c p) s (okReply cmdKeyPublicRead c (le 4 x ++ le 4 u.version ++ successorPublic n h ++ zeros 3) h))
        ∧ (u8 p 4 = 1 → k.state ≠ 3 → Runs (.keyPublicRead c p) s (refusal cmdKeyPublicRead c stStateRefused rcKeySequence [] h)))
    ∧ (Passes cmdKeyAttest c p s → h.keys.selftestFailed = false → named →
        ∃ body : List Byte, Runs (.keyAttest c p) s (okReply cmdKeyAttest c (body ++ slice (Config.sign (keyValue 8 1 h) body) 0 132) h))
    ∧ (Passes cmdKeyDerive c p s → h.keys.selftestFailed = false → named → k.use = 1 → u8 p 4 ∈ [1, 2, 3, 8] → 1 ≤ u16 p 6 → u16 p 6 ≤ 64 →
        let same := h.keys.slots.find? (fun e => e.2.state != 0 && e.2.state != 4 && e.2.parent == n && e.2.parentGen == k.gen && e.2.use == u8 p 4 && e.2.label == labelAt 8 (u16 p 6) p
          && e.2.origin == 0 && 0 < e.2.depth)
        (∀ e, same = some e → Runs (.keyDerive c p) s (okReply cmdKeyDerive c (le 4 (handleOf e.1 e.2)) h))
        ∧ (∀ j, same = none → k.depth ≤ 5 → freeSlot h = some j → Runs (.keyDerive c p) s (wait 0x1104 h)))
    ∧ (Passes cmdKeyImport c p s → h.keys.selftestFailed = false → named → k.use = 1 → 5 ≤ u8 p 4 → u8 p 4 ≤ 7 → 1 ≤ u16 p 6 → u16 p 6 ≤ 64 → k.depth ≤ 5 →
        ∀ v j, unwrapBlock c 16 (u8 p 4) x (u32 p 8) p h = some v → freeSlot h = some j → Runs (.keyImport c p) s (wait 0x1105 h))
    ∧ (∀ v, Passes cmdKeyStage c p s → h.keys.selftestFailed = false → named → 2 ≤ n → isMac k.use = true → k.use ≠ 4 → zeroAt p 212 132 = true →
        inReplacement k = false → ancestorBusy 8 n h = false → (∀ m ∈ subtree n h, inReplacement (keySlot m h) = false) → unwrapBlock c 16 k.use x (u32 p 4) p h = some v →
        Runs (.keyStage c p) s (wait 0x1106 h))
    ∧ (∀ u, Passes cmdKeyVerify c p s → named → 2 ≤ n → isMac k.use = true → k.state = 2 → ancestorBusy 8 n h = false → k.succ = some u →
        (u.kcv = u64 p 8 → Runs (.keyVerify c p) s (okReply cmdKeyVerify c []
          (writeArea ((replaceSet n h).foldl (fun g m => if (keySlot m g).state = 2 then putKey m { keySlot m g with state := 3 } g else g) h))))
        ∧ (u.kcv ≠ u64 p 8 → Runs (.keyVerify c p) s (refusal cmdKeyVerify c stAuthFailed rcKeyKcv [] (writeArea (dropSuccessors n h)))))
    ∧ (Passes cmdKeyCommit c p s → named → 2 ≤ n → k.state = 3 → ancestorBusy 8 n h = false → Runs (.keyCommit c p) s (wait 0x1108 h))
    ∧ (Passes cmdKeyAbandon c p s → named → 2 ≤ n → inReplacement k = true → ancestorBusy 8 n h = false →
        Runs (.keyAbandon c p) s (okReply cmdKeyAbandon c [] (writeArea (dropSuccessors n h))))
    ∧ (Passes cmdKeyInvalidate c p s → named → 2 ≤ n → n ≠ 4 →
        let b := boundUnder n h
        (b.1 = 0 → Runs (.keyInvalidate c p) s (wait 0x110A h))
        ∧ (b.1 ≠ 0 → forced c = false → Runs (.keyInvalidate c p) s (refusal cmdKeyInvalidate c stKeyInUse rcKeyInUse (boundPayload b) h))
        ∧ (b.1 ≠ 0 → forced c = true → Runs (.keyInvalidate c p) s
            (waitKey { opcode := 0x110A, call := c, params := p, ready := some (boundPayload b, k.state, k.keyId) } (forceInvalidate n h))))
    ∧ (let m := u16 p 2
       ∀ v, Passes cmdKeyAedgenUpdate c p s → c.crypto.signed = true → zeroAt p 81 7 = true → zeroAt p 221 3 = true → u8 p 0 = 1 → u8 p 1 = 1 → 16 ≤ m → m ≤ 1023 → isMac (u8 p 80) = true →
        slice p 16 64 = h.keys.idkDigest → h.keys.counter < u64 p 8 → (keySlot m h).state = 1 → (keySlot m h).use = u8 p 80 →
        unwrapBlock c 88 (u8 p 80) (handleOf m (keySlot m h)) (u32 p 4) p h = some v →
        Runs (.keyAedgenUpdate c p) s (wait 0x1110 h))
    ∧ (Passes cmdKeyKatRun c p s → RunsAll (.keyKatRun c p) s (okReply cmdKeyKatRun c (le 1 (c.crypto.selftest.kat % 32) ++ zeros 3) (runKat c.crypto.selftest.kat h))))
  ∧ (∀ o use hdl id : Nat, let imk := keySlot 2 h
      let context := le 4 hdl ++ le 4 id
      let secret := slice (Config.ecdh (keyValue 8 2 h) (slice p o 133)) 0 66
      let key := slice (Config.hkdf [] secret (wrapLabel ++ context) 32) 0 32
      ((c.crypto.tagPasses = false ∨ imk.state = 0 ∨ imk.state = 4) → unwrapBlock c o use hdl id p h = none)
      ∧ (c.crypto.tagPasses = true → imk.state ≠ 0 → imk.state ≠ 4 → unwrapBlock c o use hdl id p h
          = some (slice (Config.gcmOpen key (slice p (o + 136) 12) context (slice p (o + 148) 32) (slice p (o + 180) 16)) 0 (macLength use))))
  ∧ (h.keys.waiting ≠ [] → (Passes cmdKeyStatus c p s → Runs (.keyStatus c p) s (wait 0x1101 h)) ∧ (Passes cmdKeyCommit c p s → Runs (.keyCommit c p) s (wait 0x1108 h)))
  ∧ (h.keys.waiting = [] → h.keys.zeroised = true → Passes cmdKeyDerive c p s → Runs (.keyDerive c p) s (refusal cmdKeyDerive c stStateRefused rcKeyZeroised [] h))

/-- KEY_TABLE_WRITTEN, TAMPER, TAMPER_FUSE_BLOW and TAMPER_RELEASE. -/
def Obligations.TheKeyStoreKeepsItsTable : Prop :=
  (∀ (s : State) (x : KeyPending) (g : Hw) (pay : List Byte), s.hw.keys.waiting = [x] → x.ready = none → keyOp x.opcode x.call x.params s.hw = .write g pay →
    let w := writeArea g
    Runs .keyTableWritten s (answer x.call (keyMask x.opcode) stOk 0 pay { w with keys := { w.keys with waiting := [] } })
    ∧ w.keys.areas.head? = some { epoch := g.keys.epoch, slots := g.keys.slots, counter := g.keys.counter } ∧ w.keys.areas.length ≤ 2)
  ∧ (∀ (s : State) (x : KeyPending) (pay : List Byte) (st id : Nat), s.hw.keys.waiting = [x] → x.ready = some (pay, st, id) →
      let done := { s.hw with keys := { s.hw.keys with waiting := [] } }
      let w := keyRecord 0x1112 0x0C00 (u32 x.params 0) st 0 0 0 id (writeArea s.hw)
      (s.hw.keys.zeroised = true → Runs .keyTableWritten s (answer x.call (keyMask x.opcode) stStateRefused rcKeyZeroised [] done))
      ∧ (s.hw.keys.zeroised = false → Runs .keyTableWritten s (answer x.call (keyMask x.opcode) stOk 0 pay { w with keys := { w.keys with waiting := [] } })))
  ∧ (∀ s : State, s.hw.keys.waiting = [] → Runs .keyTableWritten s s.hw)
  ∧ (∀ h : Hw, let g := zeroise h
      g.keys.zeroised = true ∧ g.keys.duk = [] ∧ g.cmd.sessions = [] ∧ ∀ e ∈ g.keys.slots, e.2.value = [] ∧ e.2.succ = none ∧ e.2.state ≠ 2 ∧ e.2.state ≠ 3)
  ∧ (∀ s : State,
      let h := s.hw
      let low := { h with keys := { h.keys with tamperLow := true } }
      let g := reporting meterTamper (keyRecord 0x1110 0x0C00 0 0 0 0 0 0 (zeroise { low with keys := { low.keys with fuseDue := decide (h.keys.epoch < 64) } }))
      (h.keys.tamperLow = true → RunsAll .tamper s h)
      ∧ (h.keys.tamperLow = false → offline h = true → RunsAll .tamper s low)
      ∧ (h.keys.tamperLow = false → offline h = false → (h.mode = .idle ∨ h.mode = .ready ∨ h.mode = .serving ∨ h.mode = .test) →
          RunsAll .tamper s (dropBloom (changeState .idle rcKeyZeroised (abortSwap rcCfgSwapState 0xFF 0xFF 0 g))))
      ∧ (h.keys.tamperLow = false → offline h = false → (h.mode = .boot ∨ h.mode = .snowdrop ∨ h.mode = .halted) → RunsAll .tamper s g))
  ∧ (∀ s : State, (s.hw.keys.fuseDue = true →
        Runs .tamperFuseBlow s { s.hw with keys := { s.hw.keys with epoch := min 64 (s.hw.keys.epoch + 1), fuseDue := false } })
      ∧ (s.hw.keys.fuseDue = false → Runs .tamperFuseBlow s s.hw))
  ∧ (∀ s : State, Runs .tamperRelease s { s.hw with keys := { s.hw.keys with tamperLow := false } })

/-- The LUPIN commands, HOLLYHOCK_TAP_RX, _NO_TAP, _PERIOD_SNAPSHOT, _COMMIT, _POWER_UP, _UPDATE_VERIFY and VDD_L_WARNING. The payload of CODE 0x1210 is the model's free value (log 3). -/
def Obligations.HollyhockMetersAndAnswers : Prop :=
  (∀ (c : Call) (p : List Byte) (s : State),
    let h := s.hw
    let l := h.lupin
    (Passes cmdLupinStatus c p s → Runs (.lupinStatus c p) s (okReply cmdLupinStatus c (lupinStatusBytes h) h))
    ∧ (l.linkDown = false →
        (let n := u8 p 0
         let kind := u8 p 1
         let held := tget (if kind = 1 then l.periodSnaps else l.secondSnaps) n []
         ∀ x : MeterSnapshot, Passes cmdLupinSnapshotRead c p s → n ≤ 15 → n < l.points.length → (kind = 1 ∨ kind = 2) →
           (u32 p 4 = 0xFFFFFFFF → held.head? = some x) → (u32 p 4 ≠ 0xFFFFFFFF → held.find? (fun y => y.sequence == u32 p 4) = some x) →
           Runs (.lupinSnapshotRead c p) s (okReply cmdLupinSnapshotRead c x.bytes h))
        ∧ (let n := u8 p 1
           let held := if u8 p 0 = 0 then l.live.ring else l.live.protected_
           let got := (List.range n).filterMap (fun i => held.find? (fun r => u32 r 0 == u32 p 4 + i))
           ∀ a b : List Byte, Passes cmdLupinLogRead c p s → u8 p 0 ≤ 1 → 1 ≤ n → n ≤ 64 → held.getLast? = some a → held.head? = some b →
             (got.length = n → Runs (.lupinLogRead c p) s (okReply cmdLupinLogRead c (le 4 (u32 a 0) ++ le 4 (u32 b 0) ++ got.flatten) h))
             ∧ (got.length ≠ n → Runs (.lupinLogRead c p) s (refusal cmdLupinLogRead c stBadParam rcLupinNoRecord [] h)))
        ∧ (Passes cmdLupinIdentity c p s → Runs (.lupinIdentity c p) s (okReply cmdLupinIdentity c (lupinIdentityBytes h) h))
        ∧ (let total := u32 p 0
           let frag := u16 p 4
           let n := u16 p 6
           let len := u32 p 8
           Passes cmdLupinUpdateOffer c p s → 1 ≤ total → total ≤ 2097152 → n = (total + 4095) / 4096 → frag < n → 1 ≤ len → len = min 4096 (total - 4096 * frag) →
             (l.updating = true → Runs (.lupinUpdateOffer c p) s (refusal cmdLupinUpdateOffer c stBusy rcLupinUpdateBusy [] h))
             ∧ (l.updating = false → (∀ o, l.offer = some o → o.total = total ∧ o.fragments = n ∧ tfind o.received frag = none) →
                 let got := tset ((l.offer.map (fun o => o.received)).getD []) frag (slice p 16 len)
                 let g := { h with lupin := { l with offer := some { total := total, fragments := n, received := got } } }
                 (got.length < n → Runs (.lupinUpdateOffer c p) s (okReply cmdLupinUpdateOffer c [] g))
                 ∧ (n ≤ got.length → Runs (.lupinUpdateOffer c p) s
                     (acceptReply cmdLupinUpdateOffer c .lupinOffer (reporting (modLupin (fun l => { l with updating := true })) g))))))
    ∧ (l.linkDown = true →
        (Passes cmdLupinSnapshotRead c p s → Runs (.lupinSnapshotRead c p) s (refusal cmdLupinSnapshotRead c stInternal rcLupinLinkDown [] h))
        ∧ (Passes cmdLupinLogRead c p s → Runs (.lupinLogRead c p) s (refusal cmdLupinLogRead c stInternal rcLupinLinkDown [] h))
        ∧ (Passes cmdLupinIdentity c p s → Runs (.lupinIdentity c p) s (refusal cmdLupinIdentity c stInternal rcLupinLinkDown [] h))
        ∧ (Passes cmdLupinUpdateOffer c p s → Runs (.lupinUpdateOffer c p) s (refusal cmdLupinUpdateOffer c stInternal rcLupinLinkDown [] h))))
  ∧ (∀ (own : Nat) (u : UpdateImage) (s : State), hollyhock s.hw = true →
      let h := s.hw
      let l := h.lupin
      let rep (g : Hw) : Hw := if lupinReport g.lupin = lupinReport l then g else evr 0x1210 0x1FFF (freeBytes 48 g) (drawn g)
      (l.inbox = [] → Runs (.hollyhockTapRx own) s h)
      ∧ (∀ b rest, l.inbox = b :: rest →
          let g := tapRx own h
          Runs (.hollyhockTapRx own) s (rep g) ∧ g.lupin.inbox = rest ∧ g.lupin.own = own
          ∧ (l.grid = some b.grid → (∀ k, l.live.lastK = some k → k < b.k) →
              g.lupin.live.lastK = some b.k ∧ g.lupin.base = 2 ∧ g.lupin.grid = some b.grid ∧ g.lupin.lastTapAt = h.time.mono))
      ∧ (l.base = 2 → l.lastTapAt + nsUnits 1000000000 ≤ h.time.mono → Runs .hollyhockNoTap s (rep { h with lupin := { l with base := 3 } }))
      ∧ ((l.base ≠ 2 ∨ h.time.mono < l.lastTapAt + nsUnits 1000000000) → Runs .hollyhockNoTap s h)
      ∧ (l.unsent = [] → Runs .hollyhockPeriodSnapshot s h)
      ∧ (∀ n q body rest pt, l.unsent = (n, q, body) :: rest → l.points[n]? = some pt →
          let x : MeterSnapshot := { sequence := q, bytes := signSnapshot body h }
          let g := { h with lupin := { l with unsent := rest, periodSnaps := tmod l.periodSnaps n [] (fun y => (x :: y).take 4096) } }
          (l.linkDown = true → Runs .hollyhockPeriodSnapshot s g) ∧ (l.linkDown = false → Runs .hollyhockPeriodSnapshot s (rep (sendSnapshot pt x.bytes g))))
      ∧ Runs .hollyhockCommit s { h with lupin := { l with saved := some l.live } }
      ∧ (let g := logRing 0x02 0xFF [] { h with lupin := { l with own := own } }
         Runs (.vddLWarning own) s { g with lupin := { g.lupin with saved := some g.lupin.live } })
      ∧ (let g := logRing 0x01 0xFF (le 1 (if l.saved.isSome then 1 else 0)) { h with lupin := { l with
           base := 1, updating := false, inbox := [], instants := [], seconds := [], strangers := [], rate := none, rateBad := false, repeatedAt := none,
           offer := none, live := l.saved.getD {}, own := 0, grid := none, rateSlip := none } }
         Runs .hollyhockPowerUp s (rep g))
      ∧ (l.updating = false → Runs (.hollyhockUpdateVerify own u) s h)
      ∧ (l.updating = true →
          let g := { h with lupin := { l with own := own } }
          let r := updateResult u g.lupin
          let t := if r = 0 then adoptUpdate u g else
            let q := logProtected false 0x04 (le 1 r) g
            { q with lupin := { q.lupin with updating := false } }
          let t := { t with lupin := { t.lupin with offer := none } }
          Runs (.hollyhockUpdateVerify own u) s (rep (complete .lupinOffer stOk 0 [] (evr 0x1211 0x1FFF (le 1 r ++ le 4 t.lupin.sealCount) t)))
          ∧ t.lupin.updating = false ∧ t.lupin.offer = none ∧ (r = 0 → t.lupin.sealCount = l.sealCount + 1 ∧ t.lupin.points = u.points ∧ t.lupin.void = false)
          ∧ (r ≠ 0 → t.lupin.sealCount = l.sealCount ∧ t.lupin.points = l.points)))
  ∧ (∀ (own : Nat) (u : UpdateImage) (s : State), hollyhock s.hw = false →
      ∀ i ∈ [Instr.hollyhockTapRx own, .hollyhockNoTap, .hollyhockPeriodSnapshot, .hollyhockCommit, .vddLWarning own, .hollyhockPowerUp, .hollyhockUpdateVerify own u],
        Runs i s s.hw)

/-- The EVR commands, TIME_ANCHOR, EVR_QUEUE_ROOM, EVR_SEQ_FLOOR_WRITE and EVR_CURSOR. What a mark's reply holds when its record was dropped is the model's free value (log 3). -/
def Obligations.TheEventRecorderRecords : Prop :=
  (∀ (c : Call) (p : List Byte) (s : State),
    let h := s.hw
    let e := h.evr
    (Passes cmdEvrStatus c p s → Runs (.evrStatus c p) s (okReply cmdEvrStatus c (evrStatusBytes h)
      (if bit (u8 p 0) 0 then { h with evr := { e with dropped := 0, overwritten := 0 } } else h)))
    ∧ (let first := u64 p 0
       let n := u16 p 8
       Passes cmdEvrRead c p s → 1 ≤ n → n ≤ 64 →
        (e.next - 1 + 1 < first → Runs (.evrRead c p) s (refusal cmdEvrRead c stBadParam rcEvrFuture [] h))
        ∧ (first ≤ e.next - 1 + 1 → first < oldestSeq h → Runs (.evrRead c p) s (refusal cmdEvrRead c stBadParam rcEvrOverwritten [] h))
        ∧ (first ≤ e.next - 1 + 1 → oldestSeq h ≤ first →
            let got := (e.ring.reverse.filter (fun r => decide (first ≤ r.seq))).take n
            Runs (.evrRead c p) s (okReply cmdEvrRead c (le 8 (oldestSeq h) ++ le 8 (e.next - 1) ++ (got.map eventBytes).flatten) h)))
    ∧ (let first := u16 p 0
       let n := u16 p 2
       Passes cmdEvrSavedRead c p s → 1 ≤ n → n ≤ 64 → first ≤ 255 →
        (∀ x, e.saved.find? (fun y => y.crcOk) = some x → first < x.records.length →
          let got := (x.records.drop first).take n
          let seq := (x.records.head?.map (fun r => r.seq)).getD 0
          Runs (.evrSavedRead c p) s (okReply cmdEvrSavedRead c (le 8 seq ++ le 2 x.records.length ++ le 1 x.cause ++ zeros 5 ++ (got.map eventBytes).flatten) h))
        ∧ (e.saved.find? (fun y => y.crcOk) = none → Runs (.evrSavedRead c p) s (refusal cmdEvrSavedRead c stBadParam rcEvrNoSaved [] h)))
    ∧ (let sec := secOf h.time.now
       let used (x : Session) : Nat := if x.markSecond = sec then x.marks else 0
       let own (x : Session) : Bool := x.number == c.hdr.session
       Passes cmdEvrMark c p s →
        ((∃ x ∈ h.cmd.sessions, own x = true ∧ 100 ≤ used x) → c.hdr.session ≠ 0 → Runs (.evrMark c p) s (refusal cmdEvrMark c stBusy rcEvrMarkRate [] h))
        ∧ ((c.hdr.session = 0 ∨ ∀ x ∈ h.cmd.sessions, own x = true → used x < 100) →
            let g := { h with cmd := { h.cmd with sessions := h.cmd.sessions.map (fun x => if own x then { x with markSecond := sec, marks := used x + 1 } else x) } }
            let t := evrFlagged 8 0x1312 (markSource c.via) c.hdr.slice (slice p 0 48) g
            (t.evr.next ≠ e.next → Runs (.evrMark c p) s (okReply cmdEvrMark c (le 8 e.next) t))
            ∧ (t.evr.next = e.next → Runs (.evrMark c p) s (okReply cmdEvrMark c (freeBytes 8 t) (drawn t)))
            ∧ (h.mode ≠ .off → h.mode ≠ .retain → h.mode ≠ .boot → e.stopped = false → queued h < 4096 → t.evr.next = e.next + 1))))
  ∧ (∀ s : State,
      let h := s.hw
      let e := h.evr
      ((h.mode = .off ∨ h.mode = .retain ∨ h.mode = .boot) → Runs .timeAnchor s h)
      ∧ (let sec := if h.mode = .snowdrop then h.rtc.count / 2 ^ 15 else secOf h.time.now
         (e.anchored = sec → Runs .timeAnchor s h)
         ∧ (h.mode ≠ .off → h.mode ≠ .retain → h.mode ≠ .boot → e.anchored ≠ sec →
            Runs .timeAnchor s (evrDirect 0x0001 0x0DFF (anchorPayload h) { h with evr := { e with anchored := sec } })))
      ∧ (e.dropRun = none → Runs .evrQueueRoom s h)
      ∧ (∀ n first last source, e.dropRun = some (n, first, last, source) →
          (4096 ≤ queued h → Runs .evrQueueRoom s h)
          ∧ (queued h < 4096 → Runs .evrQueueRoom s
              (evrDirect 0x1310 0x0DFF (le 4 n ++ le 2 first ++ le 2 last ++ le 2 source) { h with evr := { e with dropRun := none } })))
      ∧ (let due := e.floorOk = true ∧ e.unanchored = false ∧ e.floor ≤ e.next - 1 + 2 ^ 31
         (due → Runs .evrSeqFloorWrite s { h with evr := { e with floor := e.floor + 2 ^ 32 } }) ∧ (¬due → Runs .evrSeqFloorWrite s h))
      ∧ ∀ v : Word64, Runs (.evrCursorWrite v) s { h with evr := { e with cursor := v } })
  ∧ (∀ (r : Record) (h : Hw),
      let g := writeRecord r h
      g.evr.next = h.evr.next + 1 ∧ g.evr.ring.head? = some { r with seq := h.evr.next } ∧ g.evr.ring.length ≤ ringSize h
      ∧ ∀ x ∈ g.evr.ring, x = { r with seq := h.evr.next } ∨ x ∈ h.evr.ring)

/-- The DIAG commands, FW_LOAD_VERIFY_DONE, ECC_ERROR, BLOCK_ERROR, DISPATCHER_STALL, DIE_LINK_ERROR, UNPLACED_SLICE_PLACE, HUB_FATAL_ERROR, CORRECTED_ERROR_REPORT and SELFTEST_DUE. What a self-test finds is an operand (log 4). -/
def Obligations.ErrorsAreCountedAndContained : Prop :=
  (∀ (c : Call) (p : List Byte) (s : State),
    let h := s.hw
    (Passes cmdDiagStatus c p s → Runs (.diagStatus c p) s (okReply cmdDiagStatus c (diagStatusBytes h)
      (if bit (u8 p 0) 0 then { h with fault := clearFaults h.fault } else h)))
    ∧ (let all := h.fault.log.reverse
       let got := (all.dropWhile (fun e => e.sequence != u32 p 0)).take (u16 p 4)
       Passes cmdDiagFaultRead c p s → 1 ≤ u16 p 4 → u16 p 4 ≤ 64 →
        (∀ a b, all.head? = some a → h.fault.log.head? = some b → got ≠ [] →
          Runs (.diagFaultRead c p) s (okReply cmdDiagFaultRead c (le 4 a.sequence ++ le 4 b.sequence ++ zeros 8 ++ (got.map faultEntryBytes).flatten) h))
        ∧ (got = [] → Runs (.diagFaultRead c p) s (refusal cmdDiagFaultRead c stBadParam rcDiagNoEntry [] h)))
    ∧ (let found := c.crypto.selftest
       let picked := (List.range (blockCount h)).filter (fun n => (u8 p 1 == 0xFF || n / 4 == u8 p 1) && (u8 p 2 == 0xFF || n % 4 == u8 p 2))
       let scrub (g : Hw) : Hw := { g with pair := { g.pair with scrubAt := g.time.mono } }
       Passes cmdDiagSelftest c p s → (u8 p 1 ≤ 5 ∨ u8 p 1 = 0xFF) → (u8 p 2 ≤ 3 ∨ u8 p 2 = 0xFF) → u8 p 0 ≤ 4 →
        (u8 p 1 ∈ h.fault.fenced → RunsAll (.diagSelftest c p) s (refusal cmdDiagSelftest c stStateRefused rcDiagFenced [] h))
        ∧ (u8 p 1 ∉ h.fault.fenced →
        (u8 p 0 = 1 → RunsAll (.diagSelftest c p) s (okReply cmdDiagSelftest c [] (coreTest picked found h)))
        ∧ (u8 p 0 = 2 → RunsAll (.diagSelftest c p) s (okReply cmdDiagSelftest c [] (loopbackTest found h)))
        ∧ (u8 p 0 = 3 → RunsAll (.diagSelftest c p) s (okReply cmdDiagSelftest c [] (katTest found h)))
        ∧ (u8 p 0 = 4 → RunsAll (.diagSelftest c p) s (okReply cmdDiagSelftest c [] (scrub h)))
        ∧ (u8 p 0 = 0 → RunsAll (.diagSelftest c p) s
            (okReply cmdDiagSelftest c [] (scrub (katTest found (loopbackTest found (coreTest picked found h))))))))
    ∧ (∀ n x, targetOf (u16 p 0) = some (n, x) → Passes cmdDiagQuarantine c p s → n / 4 ∉ h.fault.fenced →
        let cells := if x = 0xFF then List.range 8 else [x]
        let rest := ((cellsInService n h).filter (fun y => !cells.contains y)).length
        let others := ((List.range (blockCount h)).filter (fun b => b != n)).foldl (fun a b => a + (cellsInService b h).length) 0
        let left := others + (if rest < 4 then 0 else rest)
        (u8 p 2 = 1 → left = 0 → RunsAll (.diagQuarantine c p) s (refusal cmdDiagQuarantine c stDenied rcDiagLastCell [] h))
        ∧ (u8 p 2 = 1 → left ≠ 0 → x = 0xFF → RunsAll (.diagQuarantine c p) s (okReply cmdDiagQuarantine c [] (quarantineBlock n (regionSource (regionOf n)) 0 h)))
        ∧ (u8 p 2 = 1 → left ≠ 0 → x ≠ 0xFF → RunsAll (.diagQuarantine c p) s (okReply cmdDiagQuarantine c [] (quarantineCell n x 0 h)))
        ∧ (u8 p 2 = 0 → (∃ y ∈ cells, n * 8 + y ∈ c.crypto.selftest.cells) →
            RunsAll (.diagQuarantine c p) s (refusal cmdDiagQuarantine c stDenied rcDiagSelftestFailed [] h))
        ∧ (u8 p 2 = 0 → (∀ y ∈ cells, n * 8 + y ∉ c.crypto.selftest.cells) →
            ∃ g : Hw, RunsAll (.diagQuarantine c p) s (okReply cmdDiagQuarantine c [] g)
              ∧ (∀ y ∈ cells, y ∉ (blockAt n g).badCells) ∧ (x = 0xFF → (blockAt n g).quarantined = false)
              ∧ (∀ m, m ≠ n → blockAt m g = blockAt m h)))
    ∧ (∀ n x, (u8 p 0 = 1 ∨ u8 p 0 = 2 ∨ u8 p 0 = 4 ∨ u8 p 0 = 5) → targetOf (u16 p 2) = some (n, x) → x < 8 → n / 4 ∉ h.fault.fenced →
        Passes cmdDiagInject c p s → 1 ≤ u32 p 4 → u32 p 4 ≤ 1000 →
        let g := (List.range (u32 p 4)).foldl (fun g _ => injectOne (u8 p 0) (u16 p 2) g)
          { h with fault := { h.fault with injected := true }, evr := { h.evr with injecting := true } }
        RunsAll (.diagInject c p) s (okReply cmdDiagInject c [] { g with evr := { g.evr with injecting := false } }))
    ∧ (let total := u32 p 0
       let i := u16 p 4
       let n := u16 p 6
       let image := u8 p 12
       Passes cmdDiagFwLoad c p s → fragmentOk 33554432 total i n (u32 p 8) = true → image ≤ 1 →
        (h.mode ≠ .snowdrop → image = h.boot.running → Runs (.diagFwLoad c p) s (refusal cmdDiagFwLoad c stDenied rcDiagFwRunning [] h))
        ∧ ((h.mode = .snowdrop ∨ image ≠ h.boot.running) → h.boot.load = none →
            let g := putImage image invalidImage h
            let l : FwLoad := { session := c.hdr.session, total := total, fragments := n, image := image, received := [(i, slice p 16 (u32 p 8))], prefer := bit (u8 p 13) 0 }
            (1 < n → Runs (.diagFwLoad c p) s (okReply cmdDiagFwLoad c (fwBytes (fwReceived l) image 0 0 (zeros 8)) { g with boot := { g.boot with load := some l } }))
            ∧ (n ≤ 1 → Runs (.diagFwLoad c p) s (acceptReply cmdDiagFwLoad c .fwLoad { g with boot := { g.boot with load := some { l with verifying := true } } })))))
  ∧ (∀ (n x : Nat) (s : State),
      let h := s.hw
      let f := h.fault
      let on := x ∈ cellsInService n h
      (n < blockCount h → x < 8 →
        RunsAll (.eccError (.l1 n x true)) s (noteCorrected (regionSource (regionOf n)) 1 { h with fault := { f with l1Corr := inc32 f.l1Corr } })
        ∧ RunsAll (.eccError (.l2 n x true)) s (noteCorrected (regionSource (regionOf n)) 3 { h with fault := { f with l2Corr := inc32 f.l2Corr } }))
      ∧ (let g := latch 0 true { h with fault := { f with dramUnc := inc32 f.dramUnc } }
         ∀ (m : Nat) (cell : Option (Nat × Nat)),
          (3 < m → ∀ ok, RunsAll (.eccError (.dram m cell ok)) s h)
          ∧ (m ≤ 3 →
              RunsAll (.eccError (.dram m cell true)) s (noteCorrected (0x0E00 + m) 12 { h with fault := { f with dramCorr := inc32 f.dramCorr } })
              ∧ ((∀ e, cell = some e → tfind (blockAt e.1 h).running e.2 = none) → RunsAll (.eccError (.dram m cell false)) s (latch 8 true (logFault (0x0E00 + m) 13 0 0xFFFF 0xFFFF g)))
              ∧ ∀ r, cell = some (n, x) → tfind (blockAt n h).running x = some r → RunsAll (.eccError (.dram m cell false)) s (failItem n x 13 r (retire n x g))))
      ∧ (on → RunsAll (.eccError (.l1 n x false)) s (attribute_ n x 2 (failRunning n x 2 <| latch 0 true { h with fault := { f with l1Unc := inc32 f.l1Unc } }))
          ∧ RunsAll (.eccError (.l2 n x false)) s (attribute_ n x 4 (failRunning n x 4 <| latch 0 true { h with fault := { f with l2Unc := inc32 f.l2Unc } })))
      ∧ (¬on → RunsAll (.eccError (.l1 n x false)) s h ∧ RunsAll (.eccError (.l2 n x false)) s h)
      ∧ (blockOpen n h = false → ∀ pll, RunsAll (.blockError n pll) s h)
      ∧ (blockOpen n h = true → ∀ pll, let g := quarantineBlock n (cellSource n 0xFF) (if pll then 8 else 7) h
          RunsAll (.blockError n pll) s g ∧ (blockAt n g).quarantined = true)
      ∧ (let late := on ∧ tfind (blockAt n h).slots x = none ∧ (∃ t, tfind (blockAt n h).emptySince x = some t ∧ t + nsUnits 50000 ≤ h.time.mono) ∧ pickClass n x h ≠ none
         (late → RunsAll (.dispatcherStall n x) s (quarantineBlock n (cellSource n 0xFF) 7 h)) ∧ (¬late → RunsAll (.dispatcherStall n x) s h)))
  ∧ (∀ (n x kind : Nat) (h : Hw),
      let near := h.time.mono :: (tget h.fault.cellErrors (n * 8 + x) []).filter (fun t => decide (h.time.mono < t + 3600 * secUnit))
      let g := { h with fault := { h.fault with cellErrors := tset h.fault.cellErrors (n * 8 + x) near } }
      attribute_ n x kind h = if 3 ≤ near.length then quarantineCell n x kind g else g)
  ∧ (∀ (region replays : Nat) (noc : Bool) (s : State),
      let h := s.hw
      let g := { h with fault := { h.fault with replays := sat32 (h.fault.replays + replays) } }
      ((region = 0 ∨ 7 < region) → RunsAll (.dieLinkError region noc replays) s g)
      ∧ (2 ≤ region → region ≤ 7 →
          RunsAll (.dieLinkError region noc replays) s (fenceDie (region - 2) (if noc then region * 4096 + 0xFFF else 0x0F10 + region) (if noc then 9 else 10) g))
      ∧ (region = 1 → (hollyhock h = false ∨ noc = true ∨ h.lupin.linkDown = true) → RunsAll (.dieLinkError region noc replays) s g)
      ∧ (region = 1 → hollyhock h = true → noc = false → h.lupin.linkDown = false →
          RunsAll (.dieLinkError region noc replays) s (reporting (modLupin (fun l => { l with linkDown := true })) (logFault 0x0F11 10 0 0xFFFF 0xFFFF g))))
  ∧ (∀ s : State, RunsAll .unplacedSlicePlace s (placeSlices s.hw)
      ∧ ((∀ f ∈ fnsOf s.hw, homeless f s.hw = false ∧ f.slice ∉ s.hw.fault.unplaced) →
          placeSlices s.hw = ((List.range (blockCount s.hw)).filter (fun n => !blockOpen n s.hw)).foldl (fun g n => relocate n g) s.hw))
  ∧ (∀ (source : Nat) (evrRuns pairRuns : Bool) (s : State),
      let h := s.hw
      let on := h.mode = .idle ∨ h.mode = .ready ∨ h.mode = .serving ∨ h.mode = .test
      let g := hubFatal source evrRuns pairRuns h
      (hubUnit source h = true → RunsAll (.hubFatalError source evrRuns pairRuns) s g)
      ∧ (hubUnit source h = false → RunsAll (.hubFatalError source evrRuns pairRuns) s h) ∧ (hubUnit source h = true → source / 4096 = 0 ∧ (0x0F11 ≤ source → source - 0x0F10 ∈ populated h))
      ∧ (¬on → g = h)
      ∧ (on → g.mode = .halted ∧ g.evr.stopped = true ∧ g.cfg.swap = none ∧ ∀ o ∈ g.cmd.owed, o.kind ≠ .swap))
  ∧ (∀ (region : Nat) (s : State),
      let h := s.hw
      let (n, at_, kind, src) := tget h.fault.corrected region (0, none, 0, 0)
      (n = 0 → Runs (.correctedErrorReport region) s h)
      ∧ (∀ t, at_ = some t → h.time.mono < t + 60 * secUnit → Runs (.correctedErrorReport region) s h)
      ∧ (n ≠ 0 → (∀ t, at_ = some t → t + 60 * secUnit ≤ h.time.mono) →
          let seq := (h.fault.next + 2 ^ 32 - 1) % 2 ^ 32
          let g := { h with fault := { h.fault with corrected := tset h.fault.corrected region (0, some h.time.mono, kind, src) } }
          Runs (.correctedErrorReport region) s (evr 0x1411 src (faultPayload src kind 0 seq 0xFFFF 0xFFFF n g) g)))
  ∧ (∀ (x : DieLink) (waiting : List (Nat × Nat)),
      (∀ vc src, arbitrate x waiting = some (vc, src) → 0 < creditsOf x vc ∧ (vc, src) ∈ waiting
        ∧ ∀ w ∈ waiting, 0 < creditsOf x w.1 → w.1 ≤ 7 → vc = 7 ∨ (w.1 ≠ 7 ∧ vc ≤ w.1))
      ∧ (∀ w : Nat × Nat, ∀ vc, creditsOf (sendFlit w x) vc = if vc = w.1 then creditsOf x vc - 1 else creditsOf x vc)
      ∧ (∀ r (h : Hw), (linkTo r (withdrawCredits r h)).withdrawn = true ∧ (∀ vc, maySend (linkTo r (withdrawCredits r h)) vc = false)
        ∧ (∀ q, q ≠ r → linkTo q (withdrawCredits r h) = linkTo q h))
      ∧ (x.withdrawn = true → ∀ vc, returnCredit vc x = x))
  ∧ (∀ (test : Nat) (found : SelfTest) (s : State),
      let h := s.hw
      let on := selfTesting h = true ∧ (h.mode = .idle ∨ h.mode = .ready ∨ h.mode = .serving ∨ h.mode = .test)
      (¬on → RunsAll (.selftestDue test found) s h)
      ∧ (on → test = 1 → h.pair.coreAt + nsUnits (1000000 * h.pair.coreInterval) ≤ h.time.mono →
          RunsAll (.selftestDue test found) s (coreTest (List.range (blockCount h)) found h))
      ∧ (on → test = 2 → h.pair.loopAt + secUnit ≤ h.time.mono → RunsAll (.selftestDue test found) s (loopbackTest found h))
      ∧ (on → test = 3 → h.pair.katAt + h.pair.katInterval * secUnit ≤ h.time.mono → RunsAll (.selftestDue test found) s (katTest found h))
      ∧ (on → test = 4 → h.pair.scrubAt + h.pair.scrubPeriod * secUnit ≤ h.time.mono → RunsAll (.selftestDue test found) s (scrubPass found h)))
  ∧ (∀ (image : FlashImage) (flashOk : Bool) (s : State),
      let h := s.hw
      (h.boot.load = none → Runs (.fwLoadVerifyDone image flashOk) s h)
      ∧ (∀ l, h.boot.load = some l →
          (l.verifying = false → Runs (.fwLoadVerifyDone image flashOk) s h)
          ∧ (l.verifying = true →
              let g := { h with boot := { h.boot with load := none } }
              (flashOk = false → Runs (.fwLoadVerifyDone image flashOk) s (complete .fwLoad stInternal rcDiagFwFlash [] g))
              ∧ (flashOk = true → (image.firstStageOk = false ∨ image.firmwareOk = false) →
                  Runs (.fwLoadVerifyDone image flashOk) s (complete .fwLoad stAuthFailed rcDiagFwSignature [] g))
              ∧ (flashOk = true → image.firstStageOk = true → image.firmwareOk = true →
                  let g := putImage l.image { image with bytes := (l.received.map (fun e => e.2)).flatten } g
                  let g := { g with boot := { g.boot with preferred := if l.prefer then l.image else g.boot.preferred } }
                  Runs (.fwLoadVerifyDone image flashOk) s (complete .fwLoad stOk 0 (fwBytes l.total l.image 1 image.compat image.hash) g)))))

/-- RESET_RELEASE, BOOT_WATCHDOG_EXPIRY, SNOWDROP_WATCHDOG_EXPIRY, SERVING_COUNTER_CLEAR, VAON_RISE, VAON_LOSS, VBAT_CHANGE, BOARD_RESET, RAIL_OUT_OF_TOLERANCE, POWER_FAIL and JUNCTION_OVER_TEMP. That the step RESET_RELEASE covers the boot sequence, whose outcome is its operand, is the model's choice (log 4). -/
def Obligations.StartUpAndSupply : Prop :=
  (∀ (o : BootOutcome) (s : State),
    let h := s.hw
    let g := resetRelease o h
    let n := bootCount h.rtc.status
    let img := flashImage (selectImage h) h
    RunsAll (.resetRelease o) s g
    ∧ ((h.mode ≠ .off → h.mode ≠ .retain → h.mode ≠ .boot → g = h) ∧ (h.mode = .boot → (h.boot.watchdog = true ∨ h.power.powerFail = true) → g = h)
        ∧ ((h.mode = .off ∨ h.mode = .retain) → h.rtc.vaon = false → g = h))
    ∧ (h.mode = .boot → h.boot.watchdog = false → h.power.powerFail = false →
        (3 ≤ n → g.mode = .snowdrop)
        ∧ (n < 3 → o.hang = some 0 → g.mode = .boot ∧ g.boot.watchdog = true ∧ g.boot.watchedAt = h.time.mono)
        ∧ (n < 3 → o.hang ≠ some 0 → img.firstStageOk = false → g.mode = .boot ∧ bootCount g.rtc.status = n + 1 ∧ g.boot.causes.head? = some 2 ∧ g.boot.watchdog = false)
        ∧ (n < 3 → img.firstStageOk = true → img.firmwareOk = true → o.hang = none →
            (∀ r, o.link = some r → r ≠ 0 → r ∈ populated h → g.mode = .boot ∧ bootCount g.rtc.status = n + 1 ∧ g.boot.causes.head? = some 4)
            ∧ ((∀ r, o.link = some r → r = 0 ∨ r ∉ populated h) → h.cfg.stored = [] →
                g.mode = .idle ∧ g.boot.watchdog = false ∧ g.boot.running = selectImage h ∧ bootCount g.rtc.status = n))))
  ∧ (∀ (cause : Nat) (h : Hw),
      let g := failedStart cause h
      bootCount g.rtc.status = min 3 (bootCount h.rtc.status + 1) ∧ g.boot.causes = cause :: h.boot.causes.take 2 ∧ g.mode = h.mode ∧ g.boot.watchdog = false)
  ∧ (∀ s : State,
      let h := s.hw
      let off := h.mode = .off ∨ h.mode = .retain
      (h.mode = .boot → h.boot.watchdog = true → 10 * secUnit ≤ h.time.mono - h.boot.watchedAt → h.power.powerFail = false → Runs .bootWatchdogExpiry s (failedStart 1 h))
      ∧ ((h.mode ≠ .boot ∨ h.boot.watchdog = false ∨ h.time.mono - h.boot.watchedAt < 10 * secUnit ∨ h.power.powerFail = true) → Runs .bootWatchdogExpiry s h)
      ∧ (h.mode = .snowdrop → Runs .snowdropWatchdogExpiry s
          { h with cmd := { h.cmd with sessions := [], waiting := [], tls := [], owed := [] }, boot := { h.boot with load := none } })
      ∧ (h.mode ≠ .snowdrop → Runs .snowdropWatchdogExpiry s h)
      ∧ (∀ t, h.mode = .serving → h.boot.servingSince = some t →
          (600 * secUnit ≤ h.time.mono - t → Runs .servingCounterClear s
            { h with rtc := { h.rtc with status := withBootCount h.rtc.status 0 }, boot := { h.boot with preferred := h.boot.running, causes := [0, 0, 0] } })
          ∧ (h.time.mono - t < 600 * secUnit → Runs .servingCounterClear s h))
      ∧ ((h.mode ≠ .serving ∨ h.boot.servingSince = none) → Runs .servingCounterClear s h)
      ∧ (let g := noteSupply true h.rtc.vbat (setAon aonSource false h)
         (off → Runs .vaonRise s (enterBoot g) ∧ (enterBoot g).mode = .boot) ∧ (¬off → Runs .vaonRise s g))
      ∧ (let g := noteSupply false h.rtc.vbat (setAon aonSource true h)
         (¬off → Runs .vaonLoss s (loseSupply g) ∧ (loseSupply g).mode = (if h.rtc.vbat then .retain else .off))
         ∧ (h.mode = .retain → h.rtc.vbat = false → Runs .vaonLoss s (setMode .off 0 g))
         ∧ ((h.mode = .off ∨ (h.mode = .retain ∧ h.rtc.vbat = true)) → Runs .vaonLoss s g))
      ∧ (∀ present, let g := noteSupply h.rtc.vaon present h
         ((h.rtc.vaon = true ∨ ¬off) → Runs (.vbatChange present) s g)
         ∧ (h.rtc.vaon = false → h.mode = .off → Runs (.vbatChange present) s (if present then setMode .retain 0 g else g))
         ∧ (h.rtc.vaon = false → h.mode = .retain → Runs (.vbatChange present) s (if present then g else setMode .off 0 g)))
      ∧ (let g := { h with power := { h.power with resetLow := true } }
         (h.power.resetLow = true → Runs .boardReset s h)
         ∧ (h.power.resetLow = false → (h.mode = .snowdrop ∨ h.mode = .halted) → Runs .boardReset s (enterBoot g))
         ∧ (h.power.resetLow = false → off → Runs .boardReset s g)
         ∧ (h.power.resetLow = false → ¬off → h.mode ≠ .snowdrop → h.mode ≠ .halted → Runs .boardReset s (loseSupply g)
             ∧ (loseSupply g).mode = (if h.rtc.vaon || h.rtc.vbat then .retain else .off)))
      ∧ (∀ rail, (railCounts rail h = true → Runs (.railOutOfTolerance rail) s (loseSupply h)) ∧ (railCounts rail h = false → Runs (.railOutOfTolerance rail) s h))
      ∧ (let g := powerFailed h
         RunsAll .powerFail s g ∧ ((off ∨ h.power.powerFail = true) → g = h)
         ∧ (¬off → h.power.powerFail = false → g.power.powerFail = true ∧ g.mode = h.mode ∧ ((h.mode ≠ .boot ∨ h.evr.reported = true) → g.evr.stopped = true)))
      ∧ (∀ tenths : Int,
          (off → Runs (.junctionOverTemp tenths) s h)
          ∧ (¬off → 1150 ≤ tenths → Runs (.junctionOverTemp tenths) s { h with power := { h.power with therm := true } })
          ∧ (¬off → tenths < 1050 → Runs (.junctionOverTemp tenths) s { h with power := { h.power with therm := false } })
          ∧ (¬off → 1050 ≤ tenths → tenths < 1150 → Runs (.junctionOverTemp tenths) s h)))
end

