-- ==== Sys2Proof/Laws/Bloom.lean ====
section
/-! SUPPORT. What an effect on behalf of a replaced Bloom can do, and what a run reads. -/
namespace Sys2Proof.Machine

/-! ### The replaced Bloom -/

/-- Without a replaced Bloom there is nothing to do on its behalf. -/
theorem inOld_none (f : Hw → Hw) (h : Hw) (e : h.cfg.old = none) : inOld f h = h := by unfold inOld; rw [e]

/-- The Bloom in force, its sequence and its own instants stay. -/
theorem inOld_force (f : Hw → Hw) (h : Hw) :
    (inOld f h).cfg.bloom = h.cfg.bloom ∧ (inOld f h).cfg.bloomSeq = h.cfg.bloomSeq ∧ (inOld f h).ing.firstK = h.ing.firstK
    ∧ (inOld f h).ing.endK = h.ing.endK ∧ (inOld f h).ing.nextOpen = h.ing.nextOpen := by
  unfold inOld; split <;> exact ⟨rfl, rfl, rfl, rfl, rfl⟩

/-- A part that neither the configuration nor ingest holds stays when the effect leaves it. -/
theorem inOld_keeps {α : Type} (g : Hw → α) (f : Hw → Hw) (h : Hw) (part : ∀ c i (x : Hw), g { x with cfg := c, ing := i } = g x)
    (k : ∀ x, g (f x) = g x) : g (inOld f h) = g h := by
  unfold inOld; split
  · rfl
  · exact (part _ _ _).trans ((k _).trans (part _ _ _))

/-- The rows of the Bloom in force run under it. -/
@[simp] theorem atBloom_present (f : Hw → Hw) (h : Hw) : atBloom h.cfg.bloomSeq f h = f h := if_pos rfl

/-- Once every row of the replaced Bloom is passed on, none was left of a Bloom. -/
theorem oldDone_none (h : Hw) (e : h.cfg.old = none) : oldDone h = false := by unfold oldDone; rw [e]

/-! ### What a run reads -/

/-- A read gives as many bytes as it asks for. -/
theorem sliceRead_length (r : Run) (s va n : Nat) (h : Hw) (bs : List Byte) (e : sliceRead r s va n h = some bs) : bs.length = n := by
  unfold sliceRead at e
  cases a : areaOf (sliceAt s h) va n <;> rw [a] at e <;> simp at e
  rw [← e]; simp

/-- A read inside the slice's data starts there. -/
theorem inData_base (va len : Nat) (x : SliceInst) (e : inData va len x = true) : dataBase ≤ va := by
  simp [inData] at e; exact e.1.1

end Sys2Proof.Machine
end

