-- ==== Sys2Proof/Laws/Commands.lean ====
section
/-! SUPPORT. How a command's own chapter decides what `exec` answers: one lemma per result, and one per way in which a meaning is lifted to states. -/
namespace Sys2Proof.Machine

variable {m : Cmd} {c : Call} {p : List Byte} {h g : Hw} {pay : List Byte} {k : CompletionKind} {st rc : Nat}

/-- A command refused by the gate only answers. -/
theorem runCmd_gate (e : gate m c p h = some (st, rc)) : runCmd m c p h = refusal m c st rc [] h := by
  unfold runCmd; rw [e]; rfl

/-- A command whose chapter says ST_OK. -/
theorem runCmd_ok (e : gate m c p h = none) (b : m.body c p h = .ok g pay) : runCmd m c p h = okReply m c pay g := by
  unfold runCmd; rw [e]; simp only [b]; rfl

/-- A command whose chapter says ST_ACCEPTED. -/
theorem runCmd_accepted (e : gate m c p h = none) (b : m.body c p h = .accepted g k) : runCmd m c p h = acceptReply m c k g := by
  unfold runCmd; rw [e]; simp only [b]; rfl

/-- A command that its chapter refuses. -/
theorem runCmd_refuse (e : gate m c p h = none) (b : m.body c p h = .refuse st rc pay) : runCmd m c p h = refusal m c st rc pay h := by
  unfold runCmd; rw [e]; simp only [b]; rfl

/-- A command that its chapter refuses and counts. -/
theorem runCmd_refuseIn (e : gate m c p h = none) (b : m.body c p h = .refuseIn g st rc pay) : runCmd m c p h = refusal m c st rc pay g := by
  unfold runCmd; rw [e]; simp only [b]; rfl

/-- A command that replies later. -/
theorem runCmd_later (e : gate m c p h = none) (b : m.body c p h = .later g) : runCmd m c p h = g := by
  unfold runCmd; rw [e]; simp only [b]

variable {i : Instr} {s : State} {f : Hw → Hw}

/-- A meaning that is a lifted effect runs to that effect. -/
theorem runs_lift (e : exec i s = lift f s) (b : f s.hw = g) : Runs i s g := by unfold Runs; rw [e, ← b]; rfl

/-- A meaning whose effect other units take. -/
theorem runsAll_lift (e : exec i s = liftAll f s) (b : f s.hw = g) : RunsAll i s g := by unfold RunsAll Runs; rw [e, ← b]; rfl

/-- A command lifted to states, whose chapter says ST_OK. -/
theorem runs_ok (e : exec i s = lift (runCmd m c p) s) (q : Passes m c p s) (b : m.body c p s.hw = .ok g pay) : Runs i s (okReply m c pay g) :=
  runs_lift e (runCmd_ok q b)

/-- As `runs_ok`, where other units take the effect. -/
theorem runsAll_ok (e : exec i s = liftAll (runCmd m c p) s) (q : Passes m c p s) (b : m.body c p s.hw = .ok g pay) : RunsAll i s (okReply m c pay g) :=
  runsAll_lift e (runCmd_ok q b)

/-- A command lifted to states, whose chapter says ST_ACCEPTED. -/
theorem runs_accepted (e : exec i s = lift (runCmd m c p) s) (q : Passes m c p s) (b : m.body c p s.hw = .accepted g k) :
    Runs i s (acceptReply m c k g) := runs_lift e (runCmd_accepted q b)

/-- As `runs_accepted`, where other units take the effect. -/
theorem runsAll_accepted (e : exec i s = liftAll (runCmd m c p) s) (q : Passes m c p s) (b : m.body c p s.hw = .accepted g k) :
    RunsAll i s (acceptReply m c k g) := runsAll_lift e (runCmd_accepted q b)

/-- A command lifted to states that replies later. -/
theorem runs_later (e : exec i s = lift (runCmd m c p) s) (q : Passes m c p s) (b : m.body c p s.hw = .later g) : Runs i s g :=
  runs_lift e (runCmd_later q b)

/-- A command lifted to states that its chapter refuses. -/
theorem runs_refuse (e : exec i s = lift (runCmd m c p) s) (q : Passes m c p s) (b : m.body c p s.hw = .refuse st rc pay) :
    Runs i s (refusal m c st rc pay s.hw) := runs_lift e (runCmd_refuse q b)

end Sys2Proof.Machine
end

