-- ==== Sys2Proof/Laws/Consume.lean ====
section
/-! SUPPORT. When an effect leaves nothing for the other units. -/
namespace Sys2Proof.Machine

/-- Nothing is left for another unit to take. -/
structure Quiet (h : Hw) : Prop where
  teus : h.time.teusDue = [] ∨ h.time.servo = .unset
  opened : h.ing.opened = []
  handoff : h.ing.handoff = []
  old : h.cfg.old = none
  decisions : h.fab.decisions = []
  loops : h.time.loopEdges = []
  cores : h.time.coreEdges = []
  edges : h.time.edges = []
  events : h.fab.events = []
  hooks : h.pair.hooks = []

/-- The hooks of a role that has not changed. -/
theorem runHooks_quiet (h : Hw) (e : h.pair.hooks = []) : runHooks h = h := by
  obtain ⟨⟩ := h; simp_all [runHooks]; rw [← e]

/-- With no speculative item to open. -/
theorem openAll_quiet (h : Hw) (e : h.ing.opened = []) : openAll h = h := by
  obtain ⟨⟩ := h; simp_all [openAll]; rw [← e]

/-- With no row passed on and no Bloom replaced. -/
theorem handRows_quiet (h : Hw) (e : h.ing.handoff = []) (o : h.cfg.old = none) : handRows h = h := by
  have k : handAll h = h := by obtain ⟨⟩ := h; simp_all [handAll]; rw [← e]
  simp [handRows, k, oldDone, o]

/-- In a state whose health is not evaluated, with nothing left, the other units do nothing. -/
theorem consume_quiet (h : Hw) (q : Quiet h) (m : modeCode h.mode < 4 ∨ 7 < modeCode h.mode) : consume h = h := by
  obtain ⟨a, b, c, o, d, j, e, f, g, i⟩ := q
  have ha : armWaiting h = h := by unfold armWaiting; rw [if_pos a]
  unfold consume
  rw [ha, openAll_quiet h b, handRows_quiet h c o]
  clear ha a b c o
  obtain ⟨_, _, _, _, _, _, _, _, _, _, time, _, _, _, _, fab, _, _, pair, _, _, _, _, _, _, _, _, _⟩ := h
  obtain ⟨⟩ := time
  obtain ⟨⟩ := fab
  obtain ⟨⟩ := pair
  dsimp only at d j e f g i m
  subst d j e f g i
  exact if_pos m

end Sys2Proof.Machine
end

