-- ==== Sys2Proof/Laws/Frames.lean ====
section
/-! SUPPORT. What each shared operation leaves alone, field by field. -/
namespace Sys2Proof.Machine

/-- What every step of a fold keeps, the fold keeps. -/
theorem foldl_keeps {α β σ : Type} (g : σ → β) (f : σ → α → σ) (k : ∀ s a, g (f s a) = g s) (l : List α) (s : σ) :
    g (l.foldl f s) = g s := by
  induction l generalizing s with
  | nil => rfl
  | cons a l ih => rw [List.foldl_cons, ih, k]

/-- Putting something out touches the output record alone. -/
@[simp] theorem emit_frame (x : Out) (h : Hw) :
    (emit x h).variant = h.variant ∧ (emit x h).serial = h.serial ∧ (emit x h).moduleId = h.moduleId ∧ (emit x h).mode = h.mode ∧
    (emit x h).cmd = h.cmd ∧ (emit x h).cfg = h.cfg ∧ (emit x h).evr = h.evr ∧ (emit x h).boot = h.boot ∧ (emit x h).fault = h.fault ∧
    (emit x h).power = h.power ∧ (emit x h).time = h.time ∧ (emit x h).rtc = h.rtc ∧ (emit x h).ing = h.ing ∧ (emit x h).loop = h.loop ∧
    (emit x h).keys = h.keys ∧ (emit x h).fab = h.fab ∧ (emit x h).slc = h.slc ∧ (emit x h).spec = h.spec ∧ (emit x h).pair = h.pair ∧
    (emit x h).filt = h.filt ∧ (emit x h).acq = h.acq ∧ (emit x h).const = h.const ∧ (emit x h).phasor = h.phasor ∧ (emit x h).net = h.net ∧
    (emit x h).cycle = h.cycle ∧ (emit x h).lupin = h.lupin ∧ (emit x h).free = h.free := ⟨rfl, rfl, rfl, rfl, rfl, rfl, rfl, rfl, rfl, rfl, rfl, rfl, rfl, rfl, rfl, rfl, rfl, rfl, rfl, rfl, rfl, rfl, rfl, rfl, rfl, rfl, rfl⟩

/-- Drawing a free value touches its counter alone. -/
@[simp] theorem drawn_frame (h : Hw) :
    (drawn h).variant = h.variant ∧ (drawn h).serial = h.serial ∧ (drawn h).moduleId = h.moduleId ∧ (drawn h).mode = h.mode ∧ (drawn h).cmd = h.cmd ∧
    (drawn h).cfg = h.cfg ∧ (drawn h).evr = h.evr ∧ (drawn h).boot = h.boot ∧ (drawn h).fault = h.fault ∧ (drawn h).power = h.power ∧
    (drawn h).time = h.time ∧ (drawn h).rtc = h.rtc ∧ (drawn h).ing = h.ing ∧ (drawn h).loop = h.loop ∧ (drawn h).keys = h.keys ∧
    (drawn h).fab = h.fab ∧ (drawn h).slc = h.slc ∧ (drawn h).spec = h.spec ∧ (drawn h).pair = h.pair ∧ (drawn h).filt = h.filt ∧
    (drawn h).acq = h.acq ∧ (drawn h).const = h.const ∧ (drawn h).phasor = h.phasor ∧ (drawn h).net = h.net ∧ (drawn h).cycle = h.cycle ∧
    (drawn h).lupin = h.lupin ∧ (drawn h).out = h.out := ⟨rfl, rfl, rfl, rfl, rfl, rfl, rfl, rfl, rfl, rfl, rfl, rfl, rfl, rfl, rfl, rfl, rfl, rfl, rfl, rfl, rfl, rfl, rfl, rfl, rfl, rfl, rfl⟩

/-- An interrupt bit touches the command processor and the output record. -/
@[simp] theorem setIrq_frame (i : Nat) (h : Hw) :
    (setIrq i h).variant = h.variant ∧ (setIrq i h).serial = h.serial ∧ (setIrq i h).moduleId = h.moduleId ∧ (setIrq i h).mode = h.mode ∧
    (setIrq i h).cfg = h.cfg ∧ (setIrq i h).evr = h.evr ∧ (setIrq i h).boot = h.boot ∧ (setIrq i h).fault = h.fault ∧ (setIrq i h).power = h.power ∧
    (setIrq i h).time = h.time ∧ (setIrq i h).rtc = h.rtc ∧ (setIrq i h).ing = h.ing ∧ (setIrq i h).loop = h.loop ∧ (setIrq i h).keys = h.keys ∧
    (setIrq i h).fab = h.fab ∧ (setIrq i h).slc = h.slc ∧ (setIrq i h).spec = h.spec ∧ (setIrq i h).pair = h.pair ∧ (setIrq i h).filt = h.filt ∧
    (setIrq i h).acq = h.acq ∧ (setIrq i h).const = h.const ∧ (setIrq i h).phasor = h.phasor ∧ (setIrq i h).net = h.net ∧
    (setIrq i h).cycle = h.cycle ∧ (setIrq i h).lupin = h.lupin ∧ (setIrq i h).free = h.free := by unfold setIrq; dsimp only; split <;> simp

/-- Publication touches the command processor and the output record. -/
@[simp] theorem publish_frame (h : Hw) :
    (publish h).variant = h.variant ∧ (publish h).serial = h.serial ∧ (publish h).moduleId = h.moduleId ∧ (publish h).mode = h.mode ∧
    (publish h).cfg = h.cfg ∧ (publish h).evr = h.evr ∧ (publish h).boot = h.boot ∧ (publish h).fault = h.fault ∧ (publish h).power = h.power ∧
    (publish h).time = h.time ∧ (publish h).rtc = h.rtc ∧ (publish h).ing = h.ing ∧ (publish h).loop = h.loop ∧ (publish h).keys = h.keys ∧
    (publish h).fab = h.fab ∧ (publish h).slc = h.slc ∧ (publish h).spec = h.spec ∧ (publish h).pair = h.pair ∧ (publish h).filt = h.filt ∧
    (publish h).acq = h.acq ∧ (publish h).const = h.const ∧ (publish h).phasor = h.phasor ∧ (publish h).net = h.net ∧ (publish h).cycle = h.cycle ∧
    (publish h).lupin = h.lupin ∧ (publish h).free = h.free := by unfold publish; dsimp only; split <;> simp

/-- A posted reply touches the command processor and the output record. -/
@[simp] theorem postRsp_frame (r : Reply) (h : Hw) :
    (postRsp r h).variant = h.variant ∧ (postRsp r h).serial = h.serial ∧ (postRsp r h).moduleId = h.moduleId ∧ (postRsp r h).mode = h.mode ∧
    (postRsp r h).cfg = h.cfg ∧ (postRsp r h).evr = h.evr ∧ (postRsp r h).boot = h.boot ∧ (postRsp r h).fault = h.fault ∧
    (postRsp r h).power = h.power ∧ (postRsp r h).time = h.time ∧ (postRsp r h).rtc = h.rtc ∧ (postRsp r h).ing = h.ing ∧
    (postRsp r h).loop = h.loop ∧ (postRsp r h).keys = h.keys ∧ (postRsp r h).fab = h.fab ∧ (postRsp r h).slc = h.slc ∧ (postRsp r h).spec = h.spec ∧
    (postRsp r h).pair = h.pair ∧ (postRsp r h).filt = h.filt ∧ (postRsp r h).acq = h.acq ∧ (postRsp r h).const = h.const ∧
    (postRsp r h).phasor = h.phasor ∧ (postRsp r h).net = h.net ∧ (postRsp r h).cycle = h.cycle ∧ (postRsp r h).lupin = h.lupin ∧
    (postRsp r h).free = h.free := by simp [postRsp]

/-- A reply touches the command processor and the output record. -/
@[simp] theorem sendReply_frame (v : Transport) (r : Reply) (h : Hw) :
    (sendReply v r h).variant = h.variant ∧ (sendReply v r h).serial = h.serial ∧ (sendReply v r h).moduleId = h.moduleId ∧
    (sendReply v r h).mode = h.mode ∧ (sendReply v r h).cfg = h.cfg ∧ (sendReply v r h).evr = h.evr ∧ (sendReply v r h).boot = h.boot ∧
    (sendReply v r h).fault = h.fault ∧ (sendReply v r h).power = h.power ∧ (sendReply v r h).time = h.time ∧ (sendReply v r h).rtc = h.rtc ∧
    (sendReply v r h).ing = h.ing ∧ (sendReply v r h).loop = h.loop ∧ (sendReply v r h).keys = h.keys ∧ (sendReply v r h).fab = h.fab ∧
    (sendReply v r h).slc = h.slc ∧ (sendReply v r h).spec = h.spec ∧ (sendReply v r h).pair = h.pair ∧ (sendReply v r h).filt = h.filt ∧
    (sendReply v r h).acq = h.acq ∧ (sendReply v r h).const = h.const ∧ (sendReply v r h).phasor = h.phasor ∧ (sendReply v r h).net = h.net ∧
    (sendReply v r h).cycle = h.cycle ∧ (sendReply v r h).lupin = h.lupin ∧ (sendReply v r h).free = h.free := by
  unfold sendReply; split
  · split <;> simp
  · simp

/-- An answer touches the command processor and the output record. -/
@[simp] theorem answer_frame (c : Call) (m st rc : Nat) (p : List Byte) (h : Hw) :
    (answer c m st rc p h).variant = h.variant ∧ (answer c m st rc p h).serial = h.serial ∧ (answer c m st rc p h).moduleId = h.moduleId ∧
    (answer c m st rc p h).mode = h.mode ∧ (answer c m st rc p h).cfg = h.cfg ∧ (answer c m st rc p h).evr = h.evr ∧
    (answer c m st rc p h).boot = h.boot ∧ (answer c m st rc p h).fault = h.fault ∧ (answer c m st rc p h).power = h.power ∧
    (answer c m st rc p h).time = h.time ∧ (answer c m st rc p h).rtc = h.rtc ∧ (answer c m st rc p h).ing = h.ing ∧
    (answer c m st rc p h).loop = h.loop ∧ (answer c m st rc p h).keys = h.keys ∧ (answer c m st rc p h).fab = h.fab ∧
    (answer c m st rc p h).slc = h.slc ∧ (answer c m st rc p h).spec = h.spec ∧ (answer c m st rc p h).pair = h.pair ∧
    (answer c m st rc p h).filt = h.filt ∧ (answer c m st rc p h).acq = h.acq ∧ (answer c m st rc p h).const = h.const ∧
    (answer c m st rc p h).phasor = h.phasor ∧ (answer c m st rc p h).net = h.net ∧ (answer c m st rc p h).cycle = h.cycle ∧
    (answer c m st rc p h).lupin = h.lupin ∧ (answer c m st rc p h).free = h.free := by simp [answer]

/-- A completion touches the command processor and the output record. -/
@[simp] theorem complete_frame (k : CompletionKind) (st rc : Nat) (p : List Byte) (h : Hw) :
    (complete k st rc p h).variant = h.variant ∧ (complete k st rc p h).serial = h.serial ∧ (complete k st rc p h).moduleId = h.moduleId ∧
    (complete k st rc p h).mode = h.mode ∧ (complete k st rc p h).cfg = h.cfg ∧ (complete k st rc p h).evr = h.evr ∧
    (complete k st rc p h).boot = h.boot ∧ (complete k st rc p h).fault = h.fault ∧ (complete k st rc p h).power = h.power ∧
    (complete k st rc p h).time = h.time ∧ (complete k st rc p h).rtc = h.rtc ∧ (complete k st rc p h).ing = h.ing ∧
    (complete k st rc p h).loop = h.loop ∧ (complete k st rc p h).keys = h.keys ∧ (complete k st rc p h).fab = h.fab ∧
    (complete k st rc p h).slc = h.slc ∧ (complete k st rc p h).spec = h.spec ∧ (complete k st rc p h).pair = h.pair ∧
    (complete k st rc p h).filt = h.filt ∧ (complete k st rc p h).acq = h.acq ∧ (complete k st rc p h).const = h.const ∧
    (complete k st rc p h).phasor = h.phasor ∧ (complete k st rc p h).net = h.net ∧ (complete k st rc p h).cycle = h.cycle ∧
    (complete k st rc p h).lupin = h.lupin ∧ (complete k st rc p h).free = h.free := by
  unfold complete
  refine ⟨(foldl_keeps Hw.variant _ (by simp) _ _), (foldl_keeps Hw.serial _ (by simp) _ _), (foldl_keeps Hw.moduleId _ (by simp) _ _), (foldl_keeps Hw.mode _ (by simp) _ _), (foldl_keeps Hw.cfg _ (by simp) _ _), (foldl_keeps Hw.evr _ (by simp) _ _), (foldl_keeps Hw.boot _ (by simp) _ _), (foldl_keeps Hw.fault _ (by simp) _ _), (foldl_keeps Hw.power _ (by simp) _ _), (foldl_keeps Hw.time _ (by simp) _ _), (foldl_keeps Hw.rtc _ (by simp) _ _), (foldl_keeps Hw.ing _ (by simp) _ _), (foldl_keeps Hw.loop _ (by simp) _ _), (foldl_keeps Hw.keys _ (by simp) _ _), (foldl_keeps Hw.fab _ (by simp) _ _), (foldl_keeps Hw.slc _ (by simp) _ _), (foldl_keeps Hw.spec _ (by simp) _ _), (foldl_keeps Hw.pair _ (by simp) _ _), (foldl_keeps Hw.filt _ (by simp) _ _), (foldl_keeps Hw.acq _ (by simp) _ _), (foldl_keeps Hw.const _ (by simp) _ _), (foldl_keeps Hw.phasor _ (by simp) _ _), (foldl_keeps Hw.net _ (by simp) _ _), (foldl_keeps Hw.cycle _ (by simp) _ _), (foldl_keeps Hw.lupin _ (by simp) _ _), (foldl_keeps Hw.free _ (by simp) _ _)⟩

/-- Forgetting completions touches the command processor alone. -/
@[simp] theorem forget_frame (k : CompletionKind) (h : Hw) :
    (forget k h).variant = h.variant ∧ (forget k h).serial = h.serial ∧ (forget k h).moduleId = h.moduleId ∧ (forget k h).mode = h.mode ∧
    (forget k h).cfg = h.cfg ∧ (forget k h).evr = h.evr ∧ (forget k h).boot = h.boot ∧ (forget k h).fault = h.fault ∧ (forget k h).power = h.power ∧
    (forget k h).time = h.time ∧ (forget k h).rtc = h.rtc ∧ (forget k h).ing = h.ing ∧ (forget k h).loop = h.loop ∧ (forget k h).keys = h.keys ∧
    (forget k h).fab = h.fab ∧ (forget k h).slc = h.slc ∧ (forget k h).spec = h.spec ∧ (forget k h).pair = h.pair ∧ (forget k h).filt = h.filt ∧
    (forget k h).acq = h.acq ∧ (forget k h).const = h.const ∧ (forget k h).phasor = h.phasor ∧ (forget k h).net = h.net ∧
    (forget k h).cycle = h.cycle ∧ (forget k h).lupin = h.lupin ∧ (forget k h).free = h.free ∧ (forget k h).out = h.out := ⟨rfl, rfl, rfl, rfl, rfl, rfl, rfl, rfl, rfl, rfl, rfl, rfl, rfl, rfl, rfl, rfl, rfl, rfl, rfl, rfl, rfl, rfl, rfl, rfl, rfl, rfl, rfl⟩

/-- A record touches the recorder, its interrupt bit and the output record. -/
@[simp] theorem writeRecord_frame (r : Record) (h : Hw) :
    (writeRecord r h).variant = h.variant ∧ (writeRecord r h).serial = h.serial ∧ (writeRecord r h).moduleId = h.moduleId ∧
    (writeRecord r h).mode = h.mode ∧ (writeRecord r h).cfg = h.cfg ∧ (writeRecord r h).boot = h.boot ∧ (writeRecord r h).fault = h.fault ∧
    (writeRecord r h).power = h.power ∧ (writeRecord r h).time = h.time ∧ (writeRecord r h).rtc = h.rtc ∧ (writeRecord r h).ing = h.ing ∧
    (writeRecord r h).loop = h.loop ∧ (writeRecord r h).keys = h.keys ∧ (writeRecord r h).fab = h.fab ∧ (writeRecord r h).slc = h.slc ∧
    (writeRecord r h).spec = h.spec ∧ (writeRecord r h).pair = h.pair ∧ (writeRecord r h).filt = h.filt ∧ (writeRecord r h).acq = h.acq ∧
    (writeRecord r h).const = h.const ∧ (writeRecord r h).phasor = h.phasor ∧ (writeRecord r h).net = h.net ∧ (writeRecord r h).cycle = h.cycle ∧
    (writeRecord r h).lupin = h.lupin ∧ (writeRecord r h).free = h.free := by simp [writeRecord]

/-- An event touches the recorder, its interrupt bit and the output record. -/
@[simp] theorem evrFlagged_frame (e code src sl : Nat) (p : List Byte) (h : Hw) :
    (evrFlagged e code src sl p h).variant = h.variant ∧ (evrFlagged e code src sl p h).serial = h.serial ∧
    (evrFlagged e code src sl p h).moduleId = h.moduleId ∧ (evrFlagged e code src sl p h).mode = h.mode ∧
    (evrFlagged e code src sl p h).cfg = h.cfg ∧ (evrFlagged e code src sl p h).boot = h.boot ∧ (evrFlagged e code src sl p h).fault = h.fault ∧
    (evrFlagged e code src sl p h).power = h.power ∧ (evrFlagged e code src sl p h).time = h.time ∧ (evrFlagged e code src sl p h).rtc = h.rtc ∧
    (evrFlagged e code src sl p h).ing = h.ing ∧ (evrFlagged e code src sl p h).loop = h.loop ∧ (evrFlagged e code src sl p h).keys = h.keys ∧
    (evrFlagged e code src sl p h).fab = h.fab ∧ (evrFlagged e code src sl p h).slc = h.slc ∧ (evrFlagged e code src sl p h).spec = h.spec ∧
    (evrFlagged e code src sl p h).pair = h.pair ∧ (evrFlagged e code src sl p h).filt = h.filt ∧ (evrFlagged e code src sl p h).acq = h.acq ∧
    (evrFlagged e code src sl p h).const = h.const ∧ (evrFlagged e code src sl p h).phasor = h.phasor ∧ (evrFlagged e code src sl p h).net = h.net ∧
    (evrFlagged e code src sl p h).cycle = h.cycle ∧ (evrFlagged e code src sl p h).lupin = h.lupin ∧ (evrFlagged e code src sl p h).free = h.free := by
  unfold evrFlagged; dsimp only
  split
  · simp
  · split
    · split <;> simp
    · split <;> simp

/-- As for every event. -/
@[simp] theorem evr_frame (code src : Nat) (p : List Byte) (h : Hw) :
    (evr code src p h).variant = h.variant ∧ (evr code src p h).serial = h.serial ∧ (evr code src p h).moduleId = h.moduleId ∧
    (evr code src p h).mode = h.mode ∧ (evr code src p h).cfg = h.cfg ∧ (evr code src p h).boot = h.boot ∧ (evr code src p h).fault = h.fault ∧
    (evr code src p h).power = h.power ∧ (evr code src p h).time = h.time ∧ (evr code src p h).rtc = h.rtc ∧ (evr code src p h).ing = h.ing ∧
    (evr code src p h).loop = h.loop ∧ (evr code src p h).keys = h.keys ∧ (evr code src p h).fab = h.fab ∧ (evr code src p h).slc = h.slc ∧
    (evr code src p h).spec = h.spec ∧ (evr code src p h).pair = h.pair ∧ (evr code src p h).filt = h.filt ∧ (evr code src p h).acq = h.acq ∧
    (evr code src p h).const = h.const ∧ (evr code src p h).phasor = h.phasor ∧ (evr code src p h).net = h.net ∧ (evr code src p h).cycle = h.cycle ∧
    (evr code src p h).lupin = h.lupin ∧ (evr code src p h).free = h.free := by simp [evr]

/-- As for every event. -/
@[simp] theorem evrSlice_frame (code src sl : Nat) (p : List Byte) (h : Hw) :
    (evrSlice code src sl p h).variant = h.variant ∧ (evrSlice code src sl p h).serial = h.serial ∧
    (evrSlice code src sl p h).moduleId = h.moduleId ∧ (evrSlice code src sl p h).mode = h.mode ∧ (evrSlice code src sl p h).cfg = h.cfg ∧
    (evrSlice code src sl p h).boot = h.boot ∧ (evrSlice code src sl p h).fault = h.fault ∧ (evrSlice code src sl p h).power = h.power ∧
    (evrSlice code src sl p h).time = h.time ∧ (evrSlice code src sl p h).rtc = h.rtc ∧ (evrSlice code src sl p h).ing = h.ing ∧
    (evrSlice code src sl p h).loop = h.loop ∧ (evrSlice code src sl p h).keys = h.keys ∧ (evrSlice code src sl p h).fab = h.fab ∧
    (evrSlice code src sl p h).slc = h.slc ∧ (evrSlice code src sl p h).spec = h.spec ∧ (evrSlice code src sl p h).pair = h.pair ∧
    (evrSlice code src sl p h).filt = h.filt ∧ (evrSlice code src sl p h).acq = h.acq ∧ (evrSlice code src sl p h).const = h.const ∧
    (evrSlice code src sl p h).phasor = h.phasor ∧ (evrSlice code src sl p h).net = h.net ∧ (evrSlice code src sl p h).cycle = h.cycle ∧
    (evrSlice code src sl p h).lupin = h.lupin ∧ (evrSlice code src sl p h).free = h.free := by simp [evrSlice]

/-- As for every event. -/
@[simp] theorem evrDirect_frame (code src : Nat) (p : List Byte) (h : Hw) :
    (evrDirect code src p h).variant = h.variant ∧ (evrDirect code src p h).serial = h.serial ∧ (evrDirect code src p h).moduleId = h.moduleId ∧
    (evrDirect code src p h).mode = h.mode ∧ (evrDirect code src p h).cfg = h.cfg ∧ (evrDirect code src p h).boot = h.boot ∧
    (evrDirect code src p h).fault = h.fault ∧ (evrDirect code src p h).power = h.power ∧ (evrDirect code src p h).time = h.time ∧
    (evrDirect code src p h).rtc = h.rtc ∧ (evrDirect code src p h).ing = h.ing ∧ (evrDirect code src p h).loop = h.loop ∧
    (evrDirect code src p h).keys = h.keys ∧ (evrDirect code src p h).fab = h.fab ∧ (evrDirect code src p h).slc = h.slc ∧
    (evrDirect code src p h).spec = h.spec ∧ (evrDirect code src p h).pair = h.pair ∧ (evrDirect code src p h).filt = h.filt ∧
    (evrDirect code src p h).acq = h.acq ∧ (evrDirect code src p h).const = h.const ∧ (evrDirect code src p h).phasor = h.phasor ∧
    (evrDirect code src p h).net = h.net ∧ (evrDirect code src p h).cycle = h.cycle ∧ (evrDirect code src p h).lupin = h.lupin ∧
    (evrDirect code src p h).free = h.free := by unfold evrDirect; split <;> simp

/-- As for every event; its payload is drawn. -/
@[simp] theorem evrOpen_frame (g src : Nat) (h : Hw) :
    (evrOpen g src h).variant = h.variant ∧ (evrOpen g src h).serial = h.serial ∧ (evrOpen g src h).moduleId = h.moduleId ∧
    (evrOpen g src h).mode = h.mode ∧ (evrOpen g src h).cfg = h.cfg ∧ (evrOpen g src h).boot = h.boot ∧ (evrOpen g src h).fault = h.fault ∧
    (evrOpen g src h).power = h.power ∧ (evrOpen g src h).time = h.time ∧ (evrOpen g src h).rtc = h.rtc ∧ (evrOpen g src h).ing = h.ing ∧
    (evrOpen g src h).loop = h.loop ∧ (evrOpen g src h).keys = h.keys ∧ (evrOpen g src h).fab = h.fab ∧ (evrOpen g src h).slc = h.slc ∧
    (evrOpen g src h).spec = h.spec ∧ (evrOpen g src h).pair = h.pair ∧ (evrOpen g src h).filt = h.filt ∧ (evrOpen g src h).acq = h.acq ∧
    (evrOpen g src h).const = h.const ∧ (evrOpen g src h).phasor = h.phasor ∧ (evrOpen g src h).net = h.net ∧ (evrOpen g src h).cycle = h.cycle ∧
    (evrOpen g src h).lupin = h.lupin := by simp [evrOpen]

/-- A change of state touches the state, its count of service, and the recorder. -/
@[simp] theorem setMode_frame (m : ModState) (c : Nat) (h : Hw) :
    (setMode m c h).variant = h.variant ∧ (setMode m c h).serial = h.serial ∧ (setMode m c h).moduleId = h.moduleId ∧ (setMode m c h).cfg = h.cfg ∧
    (setMode m c h).fault = h.fault ∧ (setMode m c h).power = h.power ∧ (setMode m c h).time = h.time ∧ (setMode m c h).rtc = h.rtc ∧
    (setMode m c h).ing = h.ing ∧ (setMode m c h).loop = h.loop ∧ (setMode m c h).keys = h.keys ∧ (setMode m c h).fab = h.fab ∧
    (setMode m c h).slc = h.slc ∧ (setMode m c h).spec = h.spec ∧ (setMode m c h).pair = h.pair ∧ (setMode m c h).filt = h.filt ∧
    (setMode m c h).acq = h.acq ∧ (setMode m c h).const = h.const ∧ (setMode m c h).phasor = h.phasor ∧ (setMode m c h).net = h.net ∧
    (setMode m c h).cycle = h.cycle ∧ (setMode m c h).lupin = h.lupin ∧ (setMode m c h).free = h.free := by simp [setMode]

/-- An abandoned swap touches the sets, the recorder and the command processor. -/
@[simp] theorem abortSwap_frame (a b c d : Nat) (h : Hw) :
    (abortSwap a b c d h).variant = h.variant ∧ (abortSwap a b c d h).serial = h.serial ∧ (abortSwap a b c d h).moduleId = h.moduleId ∧
    (abortSwap a b c d h).mode = h.mode ∧ (abortSwap a b c d h).boot = h.boot ∧ (abortSwap a b c d h).fault = h.fault ∧
    (abortSwap a b c d h).power = h.power ∧ (abortSwap a b c d h).time = h.time ∧ (abortSwap a b c d h).rtc = h.rtc ∧
    (abortSwap a b c d h).ing = h.ing ∧ (abortSwap a b c d h).loop = h.loop ∧ (abortSwap a b c d h).keys = h.keys ∧
    (abortSwap a b c d h).fab = h.fab ∧ (abortSwap a b c d h).slc = h.slc ∧ (abortSwap a b c d h).spec = h.spec ∧
    (abortSwap a b c d h).pair = h.pair ∧ (abortSwap a b c d h).filt = h.filt ∧ (abortSwap a b c d h).acq = h.acq ∧
    (abortSwap a b c d h).const = h.const ∧ (abortSwap a b c d h).phasor = h.phasor ∧ (abortSwap a b c d h).net = h.net ∧
    (abortSwap a b c d h).cycle = h.cycle ∧ (abortSwap a b c d h).lupin = h.lupin ∧ (abortSwap a b c d h).free = h.free := by unfold abortSwap; split <;> simp

/-! ### The switch -/

/-- A port is part of the switch. -/
@[simp] theorem putPort_frame (p : Nat) (x : Port) (h : Hw) :
    (putPort p x h).variant = h.variant ∧ (putPort p x h).serial = h.serial ∧ (putPort p x h).moduleId = h.moduleId ∧ (putPort p x h).mode = h.mode ∧
    (putPort p x h).cmd = h.cmd ∧ (putPort p x h).cfg = h.cfg ∧ (putPort p x h).evr = h.evr ∧ (putPort p x h).boot = h.boot ∧
    (putPort p x h).fault = h.fault ∧ (putPort p x h).power = h.power ∧ (putPort p x h).time = h.time ∧ (putPort p x h).rtc = h.rtc ∧
    (putPort p x h).ing = h.ing ∧ (putPort p x h).loop = h.loop ∧ (putPort p x h).keys = h.keys ∧ (putPort p x h).fab = h.fab ∧
    (putPort p x h).slc = h.slc ∧ (putPort p x h).spec = h.spec ∧ (putPort p x h).pair = h.pair ∧ (putPort p x h).filt = h.filt ∧
    (putPort p x h).acq = h.acq ∧ (putPort p x h).const = h.const ∧ (putPort p x h).phasor = h.phasor ∧ (putPort p x h).cycle = h.cycle ∧
    (putPort p x h).lupin = h.lupin ∧ (putPort p x h).free = h.free ∧ (putPort p x h).out = h.out := ⟨rfl, rfl, rfl, rfl, rfl, rfl, rfl, rfl, rfl, rfl, rfl, rfl, rfl, rfl, rfl, rfl, rfl, rfl, rfl, rfl, rfl, rfl, rfl, rfl, rfl, rfl, rfl⟩

/-- The mirror touches the switch, and draws bytes. -/
@[simp] theorem mirror_frame (d p r : Nat) (f : QFrame) (h : Hw) :
    (mirror d p r f h).variant = h.variant ∧ (mirror d p r f h).serial = h.serial ∧ (mirror d p r f h).moduleId = h.moduleId ∧
    (mirror d p r f h).mode = h.mode ∧ (mirror d p r f h).cmd = h.cmd ∧ (mirror d p r f h).cfg = h.cfg ∧ (mirror d p r f h).evr = h.evr ∧
    (mirror d p r f h).boot = h.boot ∧ (mirror d p r f h).fault = h.fault ∧ (mirror d p r f h).power = h.power ∧ (mirror d p r f h).time = h.time ∧
    (mirror d p r f h).rtc = h.rtc ∧ (mirror d p r f h).ing = h.ing ∧ (mirror d p r f h).loop = h.loop ∧ (mirror d p r f h).keys = h.keys ∧
    (mirror d p r f h).fab = h.fab ∧ (mirror d p r f h).slc = h.slc ∧ (mirror d p r f h).spec = h.spec ∧ (mirror d p r f h).pair = h.pair ∧
    (mirror d p r f h).filt = h.filt ∧ (mirror d p r f h).acq = h.acq ∧ (mirror d p r f h).const = h.const ∧ (mirror d p r f h).phasor = h.phasor ∧
    (mirror d p r f h).cycle = h.cycle ∧ (mirror d p r f h).lupin = h.lupin ∧ (mirror d p r f h).out = h.out := by
  unfold mirror; dsimp only
  split
  · simp
  · split
    · simp
    · (repeat' split) <;> simp

/-- Admission touches the switch. -/
@[simp] theorem admit_frame (p : Nat) (f : QFrame) (h : Hw) :
    ((admitCopy p f h).2).variant = h.variant ∧ ((admitCopy p f h).2).serial = h.serial ∧ ((admitCopy p f h).2).moduleId = h.moduleId ∧
    ((admitCopy p f h).2).mode = h.mode ∧ ((admitCopy p f h).2).cmd = h.cmd ∧ ((admitCopy p f h).2).cfg = h.cfg ∧ ((admitCopy p f h).2).evr = h.evr ∧
    ((admitCopy p f h).2).boot = h.boot ∧ ((admitCopy p f h).2).fault = h.fault ∧ ((admitCopy p f h).2).power = h.power ∧
    ((admitCopy p f h).2).time = h.time ∧ ((admitCopy p f h).2).rtc = h.rtc ∧ ((admitCopy p f h).2).ing = h.ing ∧
    ((admitCopy p f h).2).loop = h.loop ∧ ((admitCopy p f h).2).keys = h.keys ∧ ((admitCopy p f h).2).fab = h.fab ∧
    ((admitCopy p f h).2).slc = h.slc ∧ ((admitCopy p f h).2).spec = h.spec ∧ ((admitCopy p f h).2).pair = h.pair ∧
    ((admitCopy p f h).2).filt = h.filt ∧ ((admitCopy p f h).2).acq = h.acq ∧ ((admitCopy p f h).2).const = h.const ∧
    ((admitCopy p f h).2).phasor = h.phasor ∧ ((admitCopy p f h).2).cycle = h.cycle ∧ ((admitCopy p f h).2).lupin = h.lupin ∧
    ((admitCopy p f h).2).out = h.out := by
  unfold admitCopy; dsimp only
  split
  · simp
  · split <;> simp

/-- Ageing touches the switch. -/
@[simp] theorem ageHead_frame (p c : Nat) (h : Hw) :
    (ageHead p c h).variant = h.variant ∧ (ageHead p c h).serial = h.serial ∧ (ageHead p c h).moduleId = h.moduleId ∧ (ageHead p c h).mode = h.mode ∧
    (ageHead p c h).cmd = h.cmd ∧ (ageHead p c h).cfg = h.cfg ∧ (ageHead p c h).evr = h.evr ∧ (ageHead p c h).boot = h.boot ∧
    (ageHead p c h).fault = h.fault ∧ (ageHead p c h).power = h.power ∧ (ageHead p c h).time = h.time ∧ (ageHead p c h).rtc = h.rtc ∧
    (ageHead p c h).ing = h.ing ∧ (ageHead p c h).loop = h.loop ∧ (ageHead p c h).keys = h.keys ∧ (ageHead p c h).fab = h.fab ∧
    (ageHead p c h).slc = h.slc ∧ (ageHead p c h).spec = h.spec ∧ (ageHead p c h).pair = h.pair ∧ (ageHead p c h).filt = h.filt ∧
    (ageHead p c h).acq = h.acq ∧ (ageHead p c h).const = h.const ∧ (ageHead p c h).phasor = h.phasor ∧ (ageHead p c h).cycle = h.cycle ∧
    (ageHead p c h).lupin = h.lupin ∧ (ageHead p c h).out = h.out := by
  unfold ageHead; split
  · simp
  · split <;> simp

/-- Ageing touches the switch. -/
@[simp] theorem agePort_frame (p : Nat) (h : Hw) :
    (agePort p h).variant = h.variant ∧ (agePort p h).serial = h.serial ∧ (agePort p h).moduleId = h.moduleId ∧ (agePort p h).mode = h.mode ∧
    (agePort p h).cmd = h.cmd ∧ (agePort p h).cfg = h.cfg ∧ (agePort p h).evr = h.evr ∧ (agePort p h).boot = h.boot ∧ (agePort p h).fault = h.fault ∧
    (agePort p h).power = h.power ∧ (agePort p h).time = h.time ∧ (agePort p h).rtc = h.rtc ∧ (agePort p h).ing = h.ing ∧
    (agePort p h).loop = h.loop ∧ (agePort p h).keys = h.keys ∧ (agePort p h).fab = h.fab ∧ (agePort p h).slc = h.slc ∧ (agePort p h).spec = h.spec ∧
    (agePort p h).pair = h.pair ∧ (agePort p h).filt = h.filt ∧ (agePort p h).acq = h.acq ∧ (agePort p h).const = h.const ∧
    (agePort p h).phasor = h.phasor ∧ (agePort p h).cycle = h.cycle ∧ (agePort p h).lupin = h.lupin ∧ (agePort p h).out = h.out := by
  unfold agePort
  exact ⟨foldl_keeps Hw.variant _ (by simp) _ _, foldl_keeps Hw.serial _ (by simp) _ _, foldl_keeps Hw.moduleId _ (by simp) _ _, foldl_keeps Hw.mode _ (by simp) _ _, foldl_keeps Hw.cmd _ (by simp) _ _, foldl_keeps Hw.cfg _ (by simp) _ _, foldl_keeps Hw.evr _ (by simp) _ _, foldl_keeps Hw.boot _ (by simp) _ _, foldl_keeps Hw.fault _ (by simp) _ _, foldl_keeps Hw.power _ (by simp) _ _, foldl_keeps Hw.time _ (by simp) _ _, foldl_keeps Hw.rtc _ (by simp) _ _, foldl_keeps Hw.ing _ (by simp) _ _, foldl_keeps Hw.loop _ (by simp) _ _, foldl_keeps Hw.keys _ (by simp) _ _, foldl_keeps Hw.fab _ (by simp) _ _, foldl_keeps Hw.slc _ (by simp) _ _, foldl_keeps Hw.spec _ (by simp) _ _, foldl_keeps Hw.pair _ (by simp) _ _, foldl_keeps Hw.filt _ (by simp) _ _, foldl_keeps Hw.acq _ (by simp) _ _, foldl_keeps Hw.const _ (by simp) _ _, foldl_keeps Hw.phasor _ (by simp) _ _, foldl_keeps Hw.cycle _ (by simp) _ _, foldl_keeps Hw.lupin _ (by simp) _ _, foldl_keeps Hw.out _ (by simp) _ _⟩

/-- Ageing touches the switch. -/
@[simp] theorem ageAll_frame {α : Type} (p : Nat) (l : List α) (h : Hw) :
    (l.foldl (fun h _ => agePort p h) h).variant = h.variant ∧ (l.foldl (fun h _ => agePort p h) h).serial = h.serial ∧
    (l.foldl (fun h _ => agePort p h) h).moduleId = h.moduleId ∧ (l.foldl (fun h _ => agePort p h) h).mode = h.mode ∧
    (l.foldl (fun h _ => agePort p h) h).cmd = h.cmd ∧ (l.foldl (fun h _ => agePort p h) h).cfg = h.cfg ∧
    (l.foldl (fun h _ => agePort p h) h).evr = h.evr ∧ (l.foldl (fun h _ => agePort p h) h).boot = h.boot ∧
    (l.foldl (fun h _ => agePort p h) h).fault = h.fault ∧ (l.foldl (fun h _ => agePort p h) h).power = h.power ∧
    (l.foldl (fun h _ => agePort p h) h).time = h.time ∧ (l.foldl (fun h _ => agePort p h) h).rtc = h.rtc ∧
    (l.foldl (fun h _ => agePort p h) h).ing = h.ing ∧ (l.foldl (fun h _ => agePort p h) h).loop = h.loop ∧
    (l.foldl (fun h _ => agePort p h) h).keys = h.keys ∧ (l.foldl (fun h _ => agePort p h) h).fab = h.fab ∧
    (l.foldl (fun h _ => agePort p h) h).slc = h.slc ∧ (l.foldl (fun h _ => agePort p h) h).spec = h.spec ∧
    (l.foldl (fun h _ => agePort p h) h).pair = h.pair ∧ (l.foldl (fun h _ => agePort p h) h).filt = h.filt ∧
    (l.foldl (fun h _ => agePort p h) h).acq = h.acq ∧ (l.foldl (fun h _ => agePort p h) h).const = h.const ∧
    (l.foldl (fun h _ => agePort p h) h).phasor = h.phasor ∧ (l.foldl (fun h _ => agePort p h) h).cycle = h.cycle ∧
    (l.foldl (fun h _ => agePort p h) h).lupin = h.lupin ∧ (l.foldl (fun h _ => agePort p h) h).out = h.out := ⟨foldl_keeps Hw.variant _ (by simp) _ _, foldl_keeps Hw.serial _ (by simp) _ _, foldl_keeps Hw.moduleId _ (by simp) _ _, foldl_keeps Hw.mode _ (by simp) _ _, foldl_keeps Hw.cmd _ (by simp) _ _, foldl_keeps Hw.cfg _ (by simp) _ _, foldl_keeps Hw.evr _ (by simp) _ _, foldl_keeps Hw.boot _ (by simp) _ _, foldl_keeps Hw.fault _ (by simp) _ _, foldl_keeps Hw.power _ (by simp) _ _, foldl_keeps Hw.time _ (by simp) _ _, foldl_keeps Hw.rtc _ (by simp) _ _, foldl_keeps Hw.ing _ (by simp) _ _, foldl_keeps Hw.loop _ (by simp) _ _, foldl_keeps Hw.keys _ (by simp) _ _, foldl_keeps Hw.fab _ (by simp) _ _, foldl_keeps Hw.slc _ (by simp) _ _, foldl_keeps Hw.spec _ (by simp) _ _, foldl_keeps Hw.pair _ (by simp) _ _, foldl_keeps Hw.filt _ (by simp) _ _, foldl_keeps Hw.acq _ (by simp) _ _, foldl_keeps Hw.const _ (by simp) _ _, foldl_keeps Hw.phasor _ (by simp) _ _, foldl_keeps Hw.cycle _ (by simp) _ _, foldl_keeps Hw.lupin _ (by simp) _ _, foldl_keeps Hw.out _ (by simp) _ _⟩

/-- The choice of the next frame touches the switch. -/
@[simp] theorem pump_frame (p : Nat) (h : Hw) :
    (pump p h).variant = h.variant ∧ (pump p h).serial = h.serial ∧ (pump p h).moduleId = h.moduleId ∧ (pump p h).mode = h.mode ∧
    (pump p h).cmd = h.cmd ∧ (pump p h).cfg = h.cfg ∧ (pump p h).evr = h.evr ∧ (pump p h).boot = h.boot ∧ (pump p h).fault = h.fault ∧
    (pump p h).power = h.power ∧ (pump p h).time = h.time ∧ (pump p h).rtc = h.rtc ∧ (pump p h).ing = h.ing ∧ (pump p h).loop = h.loop ∧
    (pump p h).keys = h.keys ∧ (pump p h).fab = h.fab ∧ (pump p h).slc = h.slc ∧ (pump p h).spec = h.spec ∧ (pump p h).pair = h.pair ∧
    (pump p h).filt = h.filt ∧ (pump p h).acq = h.acq ∧ (pump p h).const = h.const ∧ (pump p h).phasor = h.phasor ∧ (pump p h).cycle = h.cycle ∧
    (pump p h).lupin = h.lupin ∧ (pump p h).out = h.out := by
  unfold pump; split
  · simp
  · dsimp only; split
    · simp
    · split <;> simp

/-- Admission of every copy touches the switch. -/
@[simp] theorem admitAll_frame (l : List (Nat × QFrame)) (a : List (Nat × QFrame) × Hw) :

    ((l.foldl (fun (a : List (Nat × QFrame) × Hw) e => let (ok, h) := admitCopy e.1 e.2 a.2; (if ok then a.1 ++ [e] else a.1, h)) a).2).variant = a.2.variant ∧
    ((l.foldl (fun (a : List (Nat × QFrame) × Hw) e => let (ok, h) := admitCopy e.1 e.2 a.2; (if ok then a.1 ++ [e] else a.1, h)) a).2).serial = a.2.serial ∧
    ((l.foldl (fun (a : List (Nat × QFrame) × Hw) e => let (ok, h) := admitCopy e.1 e.2 a.2; (if ok then a.1 ++ [e] else a.1, h)) a).2).moduleId = a.2.moduleId ∧
    ((l.foldl (fun (a : List (Nat × QFrame) × Hw) e => let (ok, h) := admitCopy e.1 e.2 a.2; (if ok then a.1 ++ [e] else a.1, h)) a).2).mode = a.2.mode ∧
    ((l.foldl (fun (a : List (Nat × QFrame) × Hw) e => let (ok, h) := admitCopy e.1 e.2 a.2; (if ok then a.1 ++ [e] else a.1, h)) a).2).cmd = a.2.cmd ∧
    ((l.foldl (fun (a : List (Nat × QFrame) × Hw) e => let (ok, h) := admitCopy e.1 e.2 a.2; (if ok then a.1 ++ [e] else a.1, h)) a).2).cfg = a.2.cfg ∧
    ((l.foldl (fun (a : List (Nat × QFrame) × Hw) e => let (ok, h) := admitCopy e.1 e.2 a.2; (if ok then a.1 ++ [e] else a.1, h)) a).2).evr = a.2.evr ∧
    ((l.foldl (fun (a : List (Nat × QFrame) × Hw) e => let (ok, h) := admitCopy e.1 e.2 a.2; (if ok then a.1 ++ [e] else a.1, h)) a).2).boot = a.2.boot ∧
    ((l.foldl (fun (a : List (Nat × QFrame) × Hw) e => let (ok, h) := admitCopy e.1 e.2 a.2; (if ok then a.1 ++ [e] else a.1, h)) a).2).fault = a.2.fault ∧
    ((l.foldl (fun (a : List (Nat × QFrame) × Hw) e => let (ok, h) := admitCopy e.1 e.2 a.2; (if ok then a.1 ++ [e] else a.1, h)) a).2).power = a.2.power ∧
    ((l.foldl (fun (a : List (Nat × QFrame) × Hw) e => let (ok, h) := admitCopy e.1 e.2 a.2; (if ok then a.1 ++ [e] else a.1, h)) a).2).time = a.2.time ∧
    ((l.foldl (fun (a : List (Nat × QFrame) × Hw) e => let (ok, h) := admitCopy e.1 e.2 a.2; (if ok then a.1 ++ [e] else a.1, h)) a).2).rtc = a.2.rtc ∧
    ((l.foldl (fun (a : List (Nat × QFrame) × Hw) e => let (ok, h) := admitCopy e.1 e.2 a.2; (if ok then a.1 ++ [e] else a.1, h)) a).2).ing = a.2.ing ∧
    ((l.foldl (fun (a : List (Nat × QFrame) × Hw) e => let (ok, h) := admitCopy e.1 e.2 a.2; (if ok then a.1 ++ [e] else a.1, h)) a).2).loop = a.2.loop ∧
    ((l.foldl (fun (a : List (Nat × QFrame) × Hw) e => let (ok, h) := admitCopy e.1 e.2 a.2; (if ok then a.1 ++ [e] else a.1, h)) a).2).keys = a.2.keys ∧
    ((l.foldl (fun (a : List (Nat × QFrame) × Hw) e => let (ok, h) := admitCopy e.1 e.2 a.2; (if ok then a.1 ++ [e] else a.1, h)) a).2).fab = a.2.fab ∧
    ((l.foldl (fun (a : List (Nat × QFrame) × Hw) e => let (ok, h) := admitCopy e.1 e.2 a.2; (if ok then a.1 ++ [e] else a.1, h)) a).2).slc = a.2.slc ∧
    ((l.foldl (fun (a : List (Nat × QFrame) × Hw) e => let (ok, h) := admitCopy e.1 e.2 a.2; (if ok then a.1 ++ [e] else a.1, h)) a).2).spec = a.2.spec ∧
    ((l.foldl (fun (a : List (Nat × QFrame) × Hw) e => let (ok, h) := admitCopy e.1 e.2 a.2; (if ok then a.1 ++ [e] else a.1, h)) a).2).pair = a.2.pair ∧
    ((l.foldl (fun (a : List (Nat × QFrame) × Hw) e => let (ok, h) := admitCopy e.1 e.2 a.2; (if ok then a.1 ++ [e] else a.1, h)) a).2).filt = a.2.filt ∧
    ((l.foldl (fun (a : List (Nat × QFrame) × Hw) e => let (ok, h) := admitCopy e.1 e.2 a.2; (if ok then a.1 ++ [e] else a.1, h)) a).2).acq = a.2.acq ∧
    ((l.foldl (fun (a : List (Nat × QFrame) × Hw) e => let (ok, h) := admitCopy e.1 e.2 a.2; (if ok then a.1 ++ [e] else a.1, h)) a).2).const = a.2.const ∧
    ((l.foldl (fun (a : List (Nat × QFrame) × Hw) e => let (ok, h) := admitCopy e.1 e.2 a.2; (if ok then a.1 ++ [e] else a.1, h)) a).2).phasor = a.2.phasor ∧
    ((l.foldl (fun (a : List (Nat × QFrame) × Hw) e => let (ok, h) := admitCopy e.1 e.2 a.2; (if ok then a.1 ++ [e] else a.1, h)) a).2).cycle = a.2.cycle ∧
    ((l.foldl (fun (a : List (Nat × QFrame) × Hw) e => let (ok, h) := admitCopy e.1 e.2 a.2; (if ok then a.1 ++ [e] else a.1, h)) a).2).lupin = a.2.lupin ∧
    ((l.foldl (fun (a : List (Nat × QFrame) × Hw) e => let (ok, h) := admitCopy e.1 e.2 a.2; (if ok then a.1 ++ [e] else a.1, h)) a).2).out = a.2.out := ⟨foldl_keeps (fun a : List (Nat × QFrame) × Hw => a.2.variant) _ (by simp) _ _, foldl_keeps (fun a : List (Nat × QFrame) × Hw => a.2.serial) _ (by simp) _ _, foldl_keeps (fun a : List (Nat × QFrame) × Hw => a.2.moduleId) _ (by simp) _ _, foldl_keeps (fun a : List (Nat × QFrame) × Hw => a.2.mode) _ (by simp) _ _, foldl_keeps (fun a : List (Nat × QFrame) × Hw => a.2.cmd) _ (by simp) _ _, foldl_keeps (fun a : List (Nat × QFrame) × Hw => a.2.cfg) _ (by simp) _ _, foldl_keeps (fun a : List (Nat × QFrame) × Hw => a.2.evr) _ (by simp) _ _, foldl_keeps (fun a : List (Nat × QFrame) × Hw => a.2.boot) _ (by simp) _ _, foldl_keeps (fun a : List (Nat × QFrame) × Hw => a.2.fault) _ (by simp) _ _, foldl_keeps (fun a : List (Nat × QFrame) × Hw => a.2.power) _ (by simp) _ _, foldl_keeps (fun a : List (Nat × QFrame) × Hw => a.2.time) _ (by simp) _ _, foldl_keeps (fun a : List (Nat × QFrame) × Hw => a.2.rtc) _ (by simp) _ _, foldl_keeps (fun a : List (Nat × QFrame) × Hw => a.2.ing) _ (by simp) _ _, foldl_keeps (fun a : List (Nat × QFrame) × Hw => a.2.loop) _ (by simp) _ _, foldl_keeps (fun a : List (Nat × QFrame) × Hw => a.2.keys) _ (by simp) _ _, foldl_keeps (fun a : List (Nat × QFrame) × Hw => a.2.fab) _ (by simp) _ _, foldl_keeps (fun a : List (Nat × QFrame) × Hw => a.2.slc) _ (by simp) _ _, foldl_keeps (fun a : List (Nat × QFrame) × Hw => a.2.spec) _ (by simp) _ _, foldl_keeps (fun a : List (Nat × QFrame) × Hw => a.2.pair) _ (by simp) _ _, foldl_keeps (fun a : List (Nat × QFrame) × Hw => a.2.filt) _ (by simp) _ _, foldl_keeps (fun a : List (Nat × QFrame) × Hw => a.2.acq) _ (by simp) _ _, foldl_keeps (fun a : List (Nat × QFrame) × Hw => a.2.const) _ (by simp) _ _, foldl_keeps (fun a : List (Nat × QFrame) × Hw => a.2.phasor) _ (by simp) _ _, foldl_keeps (fun a : List (Nat × QFrame) × Hw => a.2.cycle) _ (by simp) _ _, foldl_keeps (fun a : List (Nat × QFrame) × Hw => a.2.lupin) _ (by simp) _ _, foldl_keeps (fun a : List (Nat × QFrame) × Hw => a.2.out) _ (by simp) _ _⟩

/-- As for one port. -/
@[simp] theorem pumpAll_frame (l : List (Nat × QFrame)) (h : Hw) :
    (l.foldl (fun h e => pump e.1 h) h).variant = h.variant ∧ (l.foldl (fun h e => pump e.1 h) h).serial = h.serial ∧
    (l.foldl (fun h e => pump e.1 h) h).moduleId = h.moduleId ∧ (l.foldl (fun h e => pump e.1 h) h).mode = h.mode ∧
    (l.foldl (fun h e => pump e.1 h) h).cmd = h.cmd ∧ (l.foldl (fun h e => pump e.1 h) h).cfg = h.cfg ∧
    (l.foldl (fun h e => pump e.1 h) h).evr = h.evr ∧ (l.foldl (fun h e => pump e.1 h) h).boot = h.boot ∧
    (l.foldl (fun h e => pump e.1 h) h).fault = h.fault ∧ (l.foldl (fun h e => pump e.1 h) h).power = h.power ∧
    (l.foldl (fun h e => pump e.1 h) h).time = h.time ∧ (l.foldl (fun h e => pump e.1 h) h).rtc = h.rtc ∧
    (l.foldl (fun h e => pump e.1 h) h).ing = h.ing ∧ (l.foldl (fun h e => pump e.1 h) h).loop = h.loop ∧
    (l.foldl (fun h e => pump e.1 h) h).keys = h.keys ∧ (l.foldl (fun h e => pump e.1 h) h).fab = h.fab ∧
    (l.foldl (fun h e => pump e.1 h) h).slc = h.slc ∧ (l.foldl (fun h e => pump e.1 h) h).spec = h.spec ∧
    (l.foldl (fun h e => pump e.1 h) h).pair = h.pair ∧ (l.foldl (fun h e => pump e.1 h) h).filt = h.filt ∧
    (l.foldl (fun h e => pump e.1 h) h).acq = h.acq ∧ (l.foldl (fun h e => pump e.1 h) h).const = h.const ∧
    (l.foldl (fun h e => pump e.1 h) h).phasor = h.phasor ∧ (l.foldl (fun h e => pump e.1 h) h).cycle = h.cycle ∧
    (l.foldl (fun h e => pump e.1 h) h).lupin = h.lupin ∧ (l.foldl (fun h e => pump e.1 h) h).out = h.out := ⟨foldl_keeps Hw.variant _ (by simp) _ _, foldl_keeps Hw.serial _ (by simp) _ _, foldl_keeps Hw.moduleId _ (by simp) _ _, foldl_keeps Hw.mode _ (by simp) _ _, foldl_keeps Hw.cmd _ (by simp) _ _, foldl_keeps Hw.cfg _ (by simp) _ _, foldl_keeps Hw.evr _ (by simp) _ _, foldl_keeps Hw.boot _ (by simp) _ _, foldl_keeps Hw.fault _ (by simp) _ _, foldl_keeps Hw.power _ (by simp) _ _, foldl_keeps Hw.time _ (by simp) _ _, foldl_keeps Hw.rtc _ (by simp) _ _, foldl_keeps Hw.ing _ (by simp) _ _, foldl_keeps Hw.loop _ (by simp) _ _, foldl_keeps Hw.keys _ (by simp) _ _, foldl_keeps Hw.fab _ (by simp) _ _, foldl_keeps Hw.slc _ (by simp) _ _, foldl_keeps Hw.spec _ (by simp) _ _, foldl_keeps Hw.pair _ (by simp) _ _, foldl_keeps Hw.filt _ (by simp) _ _, foldl_keeps Hw.acq _ (by simp) _ _, foldl_keeps Hw.const _ (by simp) _ _, foldl_keeps Hw.phasor _ (by simp) _ _, foldl_keeps Hw.cycle _ (by simp) _ _, foldl_keeps Hw.lupin _ (by simp) _ _, foldl_keeps Hw.out _ (by simp) _ _⟩

/-- Forwarding touches the switch. -/
@[simp] theorem forward_frame (l : List (Nat × QFrame)) (h : Hw) :
    (forward l h).variant = h.variant ∧ (forward l h).serial = h.serial ∧ (forward l h).moduleId = h.moduleId ∧ (forward l h).mode = h.mode ∧
    (forward l h).cmd = h.cmd ∧ (forward l h).cfg = h.cfg ∧ (forward l h).evr = h.evr ∧ (forward l h).boot = h.boot ∧ (forward l h).fault = h.fault ∧
    (forward l h).power = h.power ∧ (forward l h).time = h.time ∧ (forward l h).rtc = h.rtc ∧ (forward l h).ing = h.ing ∧
    (forward l h).loop = h.loop ∧ (forward l h).keys = h.keys ∧ (forward l h).fab = h.fab ∧ (forward l h).slc = h.slc ∧ (forward l h).spec = h.spec ∧
    (forward l h).pair = h.pair ∧ (forward l h).filt = h.filt ∧ (forward l h).acq = h.acq ∧ (forward l h).const = h.const ∧
    (forward l h).phasor = h.phasor ∧ (forward l h).cycle = h.cycle ∧ (forward l h).lupin = h.lupin ∧ (forward l h).out = h.out := by unfold forward; dsimp only; split <;> simp

/-- A sequence number is part of the switch. -/
@[simp] theorem nextSequence_frame (p : Nat) (h : Hw) :
    (nextSequence p h).variant = h.variant ∧ (nextSequence p h).serial = h.serial ∧ (nextSequence p h).moduleId = h.moduleId ∧
    (nextSequence p h).mode = h.mode ∧ (nextSequence p h).cmd = h.cmd ∧ (nextSequence p h).cfg = h.cfg ∧ (nextSequence p h).evr = h.evr ∧
    (nextSequence p h).boot = h.boot ∧ (nextSequence p h).fault = h.fault ∧ (nextSequence p h).power = h.power ∧ (nextSequence p h).time = h.time ∧
    (nextSequence p h).rtc = h.rtc ∧ (nextSequence p h).ing = h.ing ∧ (nextSequence p h).loop = h.loop ∧ (nextSequence p h).keys = h.keys ∧
    (nextSequence p h).fab = h.fab ∧ (nextSequence p h).slc = h.slc ∧ (nextSequence p h).spec = h.spec ∧ (nextSequence p h).pair = h.pair ∧
    (nextSequence p h).filt = h.filt ∧ (nextSequence p h).acq = h.acq ∧ (nextSequence p h).const = h.const ∧ (nextSequence p h).phasor = h.phasor ∧
    (nextSequence p h).cycle = h.cycle ∧ (nextSequence p h).lupin = h.lupin ∧ (nextSequence p h).free = h.free ∧ (nextSequence p h).out = h.out := ⟨rfl, rfl, rfl, rfl, rfl, rfl, rfl, rfl, rfl, rfl, rfl, rfl, rfl, rfl, rfl, rfl, rfl, rfl, rfl, rfl, rfl, rfl, rfl, rfl, rfl, rfl, rfl⟩

/-- As for one pair. -/
@[simp] theorem nextSequences_frame (l : List Nat) (h : Hw) :
    (l.foldl (fun h n => nextSequence n h) h).variant = h.variant ∧ (l.foldl (fun h n => nextSequence n h) h).serial = h.serial ∧
    (l.foldl (fun h n => nextSequence n h) h).moduleId = h.moduleId ∧ (l.foldl (fun h n => nextSequence n h) h).mode = h.mode ∧
    (l.foldl (fun h n => nextSequence n h) h).cmd = h.cmd ∧ (l.foldl (fun h n => nextSequence n h) h).cfg = h.cfg ∧
    (l.foldl (fun h n => nextSequence n h) h).evr = h.evr ∧ (l.foldl (fun h n => nextSequence n h) h).boot = h.boot ∧
    (l.foldl (fun h n => nextSequence n h) h).fault = h.fault ∧ (l.foldl (fun h n => nextSequence n h) h).power = h.power ∧
    (l.foldl (fun h n => nextSequence n h) h).time = h.time ∧ (l.foldl (fun h n => nextSequence n h) h).rtc = h.rtc ∧
    (l.foldl (fun h n => nextSequence n h) h).ing = h.ing ∧ (l.foldl (fun h n => nextSequence n h) h).loop = h.loop ∧
    (l.foldl (fun h n => nextSequence n h) h).keys = h.keys ∧ (l.foldl (fun h n => nextSequence n h) h).fab = h.fab ∧
    (l.foldl (fun h n => nextSequence n h) h).slc = h.slc ∧ (l.foldl (fun h n => nextSequence n h) h).spec = h.spec ∧
    (l.foldl (fun h n => nextSequence n h) h).pair = h.pair ∧ (l.foldl (fun h n => nextSequence n h) h).filt = h.filt ∧
    (l.foldl (fun h n => nextSequence n h) h).acq = h.acq ∧ (l.foldl (fun h n => nextSequence n h) h).const = h.const ∧
    (l.foldl (fun h n => nextSequence n h) h).phasor = h.phasor ∧ (l.foldl (fun h n => nextSequence n h) h).cycle = h.cycle ∧
    (l.foldl (fun h n => nextSequence n h) h).lupin = h.lupin ∧ (l.foldl (fun h n => nextSequence n h) h).free = h.free ∧
    (l.foldl (fun h n => nextSequence n h) h).out = h.out := ⟨foldl_keeps Hw.variant _ (by simp) _ _, foldl_keeps Hw.serial _ (by simp) _ _, foldl_keeps Hw.moduleId _ (by simp) _ _, foldl_keeps Hw.mode _ (by simp) _ _, foldl_keeps Hw.cmd _ (by simp) _ _, foldl_keeps Hw.cfg _ (by simp) _ _, foldl_keeps Hw.evr _ (by simp) _ _, foldl_keeps Hw.boot _ (by simp) _ _, foldl_keeps Hw.fault _ (by simp) _ _, foldl_keeps Hw.power _ (by simp) _ _, foldl_keeps Hw.time _ (by simp) _ _, foldl_keeps Hw.rtc _ (by simp) _ _, foldl_keeps Hw.ing _ (by simp) _ _, foldl_keeps Hw.loop _ (by simp) _ _, foldl_keeps Hw.keys _ (by simp) _ _, foldl_keeps Hw.fab _ (by simp) _ _, foldl_keeps Hw.slc _ (by simp) _ _, foldl_keeps Hw.spec _ (by simp) _ _, foldl_keeps Hw.pair _ (by simp) _ _, foldl_keeps Hw.filt _ (by simp) _ _, foldl_keeps Hw.acq _ (by simp) _ _, foldl_keeps Hw.const _ (by simp) _ _, foldl_keeps Hw.phasor _ (by simp) _ _, foldl_keeps Hw.cycle _ (by simp) _ _, foldl_keeps Hw.lupin _ (by simp) _ _, foldl_keeps Hw.free _ (by simp) _ _, foldl_keeps Hw.out _ (by simp) _ _⟩

/-- Sending touches the switch. -/
@[simp] theorem sendFrame_frame (l : List Nat) (q : QFrame) (h : Hw) :
    (sendFrame l q h).variant = h.variant ∧ (sendFrame l q h).serial = h.serial ∧ (sendFrame l q h).moduleId = h.moduleId ∧
    (sendFrame l q h).mode = h.mode ∧ (sendFrame l q h).cmd = h.cmd ∧ (sendFrame l q h).cfg = h.cfg ∧ (sendFrame l q h).evr = h.evr ∧
    (sendFrame l q h).boot = h.boot ∧ (sendFrame l q h).fault = h.fault ∧ (sendFrame l q h).power = h.power ∧ (sendFrame l q h).time = h.time ∧
    (sendFrame l q h).rtc = h.rtc ∧ (sendFrame l q h).ing = h.ing ∧ (sendFrame l q h).loop = h.loop ∧ (sendFrame l q h).keys = h.keys ∧
    (sendFrame l q h).fab = h.fab ∧ (sendFrame l q h).slc = h.slc ∧ (sendFrame l q h).spec = h.spec ∧ (sendFrame l q h).pair = h.pair ∧
    (sendFrame l q h).filt = h.filt ∧ (sendFrame l q h).acq = h.acq ∧ (sendFrame l q h).const = h.const ∧ (sendFrame l q h).phasor = h.phasor ∧
    (sendFrame l q h).cycle = h.cycle ∧ (sendFrame l q h).lupin = h.lupin ∧ (sendFrame l q h).out = h.out := by simp [sendFrame]

/-- Entering the switch touches the switch. -/
@[simp] theorem enterSwitch_frame (p : Nat) (q : QFrame) (h : Hw) :
    (enterSwitch p q h).variant = h.variant ∧ (enterSwitch p q h).serial = h.serial ∧ (enterSwitch p q h).moduleId = h.moduleId ∧
    (enterSwitch p q h).mode = h.mode ∧ (enterSwitch p q h).cmd = h.cmd ∧ (enterSwitch p q h).cfg = h.cfg ∧ (enterSwitch p q h).evr = h.evr ∧
    (enterSwitch p q h).boot = h.boot ∧ (enterSwitch p q h).fault = h.fault ∧ (enterSwitch p q h).power = h.power ∧
    (enterSwitch p q h).time = h.time ∧ (enterSwitch p q h).rtc = h.rtc ∧ (enterSwitch p q h).ing = h.ing ∧ (enterSwitch p q h).loop = h.loop ∧
    (enterSwitch p q h).keys = h.keys ∧ (enterSwitch p q h).fab = h.fab ∧ (enterSwitch p q h).slc = h.slc ∧ (enterSwitch p q h).spec = h.spec ∧
    (enterSwitch p q h).pair = h.pair ∧ (enterSwitch p q h).filt = h.filt ∧ (enterSwitch p q h).acq = h.acq ∧ (enterSwitch p q h).const = h.const ∧
    (enterSwitch p q h).phasor = h.phasor ∧ (enterSwitch p q h).cycle = h.cycle ∧ (enterSwitch p q h).lupin = h.lupin ∧
    (enterSwitch p q h).out = h.out := by simp [enterSwitch]

/-- A frame handed over touches the switch. -/
@[simp] theorem handOver_frame (x : Out) (h : Hw) :
    (handOver x h).variant = h.variant ∧ (handOver x h).serial = h.serial ∧ (handOver x h).moduleId = h.moduleId ∧ (handOver x h).mode = h.mode ∧
    (handOver x h).cmd = h.cmd ∧ (handOver x h).cfg = h.cfg ∧ (handOver x h).evr = h.evr ∧ (handOver x h).boot = h.boot ∧
    (handOver x h).fault = h.fault ∧ (handOver x h).power = h.power ∧ (handOver x h).time = h.time ∧ (handOver x h).rtc = h.rtc ∧
    (handOver x h).ing = h.ing ∧ (handOver x h).loop = h.loop ∧ (handOver x h).keys = h.keys ∧ (handOver x h).fab = h.fab ∧
    (handOver x h).slc = h.slc ∧ (handOver x h).spec = h.spec ∧ (handOver x h).pair = h.pair ∧ (handOver x h).filt = h.filt ∧
    (handOver x h).acq = h.acq ∧ (handOver x h).const = h.const ∧ (handOver x h).phasor = h.phasor ∧ (handOver x h).cycle = h.cycle ∧
    (handOver x h).lupin = h.lupin ∧ (handOver x h).out = h.out := by
  unfold handOver; split <;> simp

/-- As for one frame. -/
@[simp] theorem handOvers_frame (l : List Out) (h : Hw) :
    (l.foldl (fun h x => handOver x h) h).variant = h.variant ∧ (l.foldl (fun h x => handOver x h) h).serial = h.serial ∧
    (l.foldl (fun h x => handOver x h) h).moduleId = h.moduleId ∧ (l.foldl (fun h x => handOver x h) h).mode = h.mode ∧
    (l.foldl (fun h x => handOver x h) h).cmd = h.cmd ∧ (l.foldl (fun h x => handOver x h) h).cfg = h.cfg ∧
    (l.foldl (fun h x => handOver x h) h).evr = h.evr ∧ (l.foldl (fun h x => handOver x h) h).boot = h.boot ∧
    (l.foldl (fun h x => handOver x h) h).fault = h.fault ∧ (l.foldl (fun h x => handOver x h) h).power = h.power ∧
    (l.foldl (fun h x => handOver x h) h).time = h.time ∧ (l.foldl (fun h x => handOver x h) h).rtc = h.rtc ∧
    (l.foldl (fun h x => handOver x h) h).ing = h.ing ∧ (l.foldl (fun h x => handOver x h) h).loop = h.loop ∧
    (l.foldl (fun h x => handOver x h) h).keys = h.keys ∧ (l.foldl (fun h x => handOver x h) h).fab = h.fab ∧
    (l.foldl (fun h x => handOver x h) h).slc = h.slc ∧ (l.foldl (fun h x => handOver x h) h).spec = h.spec ∧
    (l.foldl (fun h x => handOver x h) h).pair = h.pair ∧ (l.foldl (fun h x => handOver x h) h).filt = h.filt ∧
    (l.foldl (fun h x => handOver x h) h).acq = h.acq ∧ (l.foldl (fun h x => handOver x h) h).const = h.const ∧
    (l.foldl (fun h x => handOver x h) h).phasor = h.phasor ∧ (l.foldl (fun h x => handOver x h) h).cycle = h.cycle ∧
    (l.foldl (fun h x => handOver x h) h).lupin = h.lupin ∧ (l.foldl (fun h x => handOver x h) h).out = h.out := ⟨foldl_keeps Hw.variant _ (by simp) _ _, foldl_keeps Hw.serial _ (by simp) _ _, foldl_keeps Hw.moduleId _ (by simp) _ _, foldl_keeps Hw.mode _ (by simp) _ _, foldl_keeps Hw.cmd _ (by simp) _ _, foldl_keeps Hw.cfg _ (by simp) _ _, foldl_keeps Hw.evr _ (by simp) _ _, foldl_keeps Hw.boot _ (by simp) _ _, foldl_keeps Hw.fault _ (by simp) _ _, foldl_keeps Hw.power _ (by simp) _ _, foldl_keeps Hw.time _ (by simp) _ _, foldl_keeps Hw.rtc _ (by simp) _ _, foldl_keeps Hw.ing _ (by simp) _ _, foldl_keeps Hw.loop _ (by simp) _ _, foldl_keeps Hw.keys _ (by simp) _ _, foldl_keeps Hw.fab _ (by simp) _ _, foldl_keeps Hw.slc _ (by simp) _ _, foldl_keeps Hw.spec _ (by simp) _ _, foldl_keeps Hw.pair _ (by simp) _ _, foldl_keeps Hw.filt _ (by simp) _ _, foldl_keeps Hw.acq _ (by simp) _ _, foldl_keeps Hw.const _ (by simp) _ _, foldl_keeps Hw.phasor _ (by simp) _ _, foldl_keeps Hw.cycle _ (by simp) _ _, foldl_keeps Hw.lupin _ (by simp) _ _, foldl_keeps Hw.out _ (by simp) _ _⟩

/-- Carrying the frames touches the switch. -/
@[simp] theorem carry_frame (h : Hw) :
    (carry h).variant = h.variant ∧ (carry h).serial = h.serial ∧ (carry h).moduleId = h.moduleId ∧ (carry h).mode = h.mode ∧ (carry h).cmd = h.cmd ∧
    (carry h).cfg = h.cfg ∧ (carry h).evr = h.evr ∧ (carry h).boot = h.boot ∧ (carry h).fault = h.fault ∧ (carry h).power = h.power ∧
    (carry h).time = h.time ∧ (carry h).rtc = h.rtc ∧ (carry h).ing = h.ing ∧ (carry h).loop = h.loop ∧ (carry h).keys = h.keys ∧
    (carry h).fab = h.fab ∧ (carry h).slc = h.slc ∧ (carry h).spec = h.spec ∧ (carry h).pair = h.pair ∧ (carry h).filt = h.filt ∧
    (carry h).acq = h.acq ∧ (carry h).const = h.const ∧ (carry h).phasor = h.phasor ∧ (carry h).cycle = h.cycle ∧ (carry h).lupin = h.lupin ∧
    (carry h).out = h.out := by unfold carry; dsimp only; split <;> simp [-List.foldl_reverse]

/-- The ball is part of the island; its level goes to the output record. -/
@[simp] theorem settleSqw_frame (h : Hw) :
    (settleSqw h).variant = h.variant ∧ (settleSqw h).serial = h.serial ∧ (settleSqw h).moduleId = h.moduleId ∧ (settleSqw h).mode = h.mode ∧
    (settleSqw h).cmd = h.cmd ∧ (settleSqw h).cfg = h.cfg ∧ (settleSqw h).evr = h.evr ∧ (settleSqw h).boot = h.boot ∧ (settleSqw h).fault = h.fault ∧
    (settleSqw h).power = h.power ∧ (settleSqw h).time = h.time ∧ (settleSqw h).ing = h.ing ∧ (settleSqw h).loop = h.loop ∧
    (settleSqw h).keys = h.keys ∧ (settleSqw h).fab = h.fab ∧ (settleSqw h).slc = h.slc ∧ (settleSqw h).spec = h.spec ∧ (settleSqw h).pair = h.pair ∧
    (settleSqw h).filt = h.filt ∧ (settleSqw h).acq = h.acq ∧ (settleSqw h).const = h.const ∧ (settleSqw h).phasor = h.phasor ∧
    (settleSqw h).net = h.net ∧ (settleSqw h).cycle = h.cycle ∧ (settleSqw h).lupin = h.lupin ∧ (settleSqw h).free = h.free := by
  unfold settleSqw driveTrigOut3 settleOwner; dsimp only; split <;> split <;> simp

/-- What ends a step touches the switch, the owner of the ball, the published word and the output record. -/
@[simp] theorem settle_frame (h : Hw) :
    (settle h).variant = h.variant ∧ (settle h).serial = h.serial ∧ (settle h).moduleId = h.moduleId ∧ (settle h).mode = h.mode ∧
    (settle h).cfg = h.cfg ∧ (settle h).evr = h.evr ∧ (settle h).boot = h.boot ∧ (settle h).fault = h.fault ∧ (settle h).power = h.power ∧
    (settle h).time = h.time ∧ (settle h).ing = h.ing ∧ (settle h).loop = h.loop ∧ (settle h).keys = h.keys ∧ (settle h).fab = h.fab ∧
    (settle h).slc = h.slc ∧ (settle h).spec = h.spec ∧ (settle h).pair = h.pair ∧ (settle h).filt = h.filt ∧ (settle h).acq = h.acq ∧
    (settle h).const = h.const ∧ (settle h).phasor = h.phasor ∧ (settle h).cycle = h.cycle ∧ (settle h).lupin = h.lupin := by simp [settle]

end Sys2Proof.Machine
end

