-- ==== Sys2Proof/Laws/Memory.lean ====
section
/-! SUPPORT. Laws of committed memory: a read after a write, every other byte, and the canonical form. -/
namespace Sys2Proof.Machine

/-- A byte reads as it was written, and every other byte as before. -/
theorem memRead_memWrite (m : List (Nat × Byte)) (x y : Nat) (v : Byte) (w : Memory.wf m = true) :
    memRead (memWrite m x v) y = if y = x then v else memRead m y := by
  induction m with
  | nil =>
    by_cases hv : v = 0#8
    · simp [memWrite, memRead, hv]
    · by_cases hy : y = x
      · simp [memWrite, memRead, hv, hy]
      · simp [memWrite, memRead, hv, hy, Ne.symm hy]
  | cons e r ih =>
    obtain ⟨a, b⟩ := e
    have wr : Memory.wf r = true := by cases r with
      | nil => rfl
      | cons d r => simp only [Memory.wf, Bool.and_eq_true] at w; exact w.2
    have above : ∀ z, z ≤ a → memRead r z = 0#8 := by
      clear ih
      intro z hz
      induction r generalizing a b with
      | nil => rfl
      | cons d r ih =>
        obtain ⟨c, d⟩ := d
        simp only [Memory.wf, Bool.and_eq_true, decide_eq_true_eq] at w
        have hc : c ≠ z := by omega
        have wr' : Memory.wf r = true := by cases r with
          | nil => rfl
          | cons d r => simp only [Memory.wf, Bool.and_eq_true] at w; exact w.2.2
        simp only [memRead, hc, if_false]
        exact ih c d w.2 wr' (by omega)
    unfold memWrite
    by_cases hxa : x < a
    · by_cases hv : v = 0#8
      · simp only [hxa, hv, if_true]
        by_cases hy : y = x
        · subst hy; simp only [if_true, memRead, show a ≠ y by omega, if_false]; exact above y (by omega)
        · simp [hy]
      · simp only [hxa, hv, if_true, if_false, memRead]
        by_cases hy : y = x
        · simp [hy]
        · simp [hy, Ne.symm hy]
    · by_cases he : x = a
      · subst he
        by_cases hv : v = 0#8
        · simp only [Nat.lt_irrefl, if_false, if_true, hv]
          by_cases hy : y = x
          · subst hy; simp [above y (Nat.le_refl _)]
          · simp [memRead, Ne.symm hy, hy]
        · simp only [Nat.lt_irrefl, if_false, if_true, hv, memRead]
          by_cases hy : y = x
          · simp [hy]
          · simp [hy, Ne.symm hy]
      · simp only [hxa, he, if_false, memRead]
        rw [ih wr]
        by_cases hy : y = x
        · subst hy; simp [show a ≠ y from fun h => he h.symm]
        · simp [hy]

/-- A write keeps the head's bound: every address listed after it is above `a` when the written one is. -/
theorem memWrite_above (m : List (Nat × Byte)) (a x : Nat) (v b : Byte) (hx : a < x)
    (w : Memory.wf ((a, b) :: m) = true) (hw : Memory.wf (memWrite m x v) = true) : Memory.wf ((a, b) :: memWrite m x v) = true := by
  have hb : (b != 0#8) = true := by cases m with
    | nil => exact w
    | cons d r => simp only [Memory.wf, Bool.and_eq_true] at w; exact w.1.1
  have head : ∀ e r, memWrite m x v = e :: r → a < e.1 := by
    intro e r h
    cases m with
    | nil =>
      unfold memWrite at h
      split at h
      · cases h
      · injection h with h _; subst h; exact hx
    | cons d r' =>
      obtain ⟨c, d⟩ := d
      simp only [Memory.wf, Bool.and_eq_true, decide_eq_true_eq] at w
      unfold memWrite at h
      split at h
      · split at h <;> (injection h with h _; subst h) <;> first | exact w.1.2 | exact hx
      · split at h
        · split at h
          · subst h
            have := w.2
            simp only [Memory.wf, Bool.and_eq_true, decide_eq_true_eq] at this
            have h2 := this.1.2
            have h1 := w.1.2
            omega
          · injection h with h _; subst h; exact hx
        · injection h with h _; subst h; exact w.1.2
  cases hm : memWrite m x v with
  | nil => exact hb
  | cons e r =>
    obtain ⟨c, d⟩ := e
    have := head _ _ hm
    rw [hm] at hw
    simp only [Memory.wf, Bool.and_eq_true, decide_eq_true_eq]
    exact ⟨⟨hb, this⟩, hw⟩

/-- A write keeps the canonical form. -/
theorem memWrite_wf (m : List (Nat × Byte)) (x : Nat) (v : Byte) (w : Memory.wf m = true) : Memory.wf (memWrite m x v) = true := by
  induction m with
  | nil => unfold memWrite; split <;> simp_all [Memory.wf]
  | cons e r ih =>
    obtain ⟨a, b⟩ := e
    have wr : Memory.wf r = true := by cases r with
      | nil => rfl
      | cons d r => simp only [Memory.wf, Bool.and_eq_true] at w; exact w.2
    unfold memWrite
    split
    · split
      · exact w
      · rename_i h1 h2
        simp only [Memory.wf, Bool.and_eq_true, decide_eq_true_eq]
        exact ⟨⟨by simpa using h2, h1⟩, w⟩
    · split
      · split
        · exact wr
        · rename_i h1 h2 h3
          subst h2
          cases r with
          | nil => simpa [Memory.wf] using h3
          | cons d r =>
            simp only [Memory.wf, Bool.and_eq_true] at w ⊢
            exact ⟨⟨by simpa using h3, w.1.2⟩, w.2⟩
      · rename_i h1 h2
        exact memWrite_above r a x v b (by omega) w (ih wr)

/-- A string of writes keeps the canonical form. -/
theorem memPut_wf (bs : List Byte) (m : List (Nat × Byte)) (a : Nat) (w : Memory.wf m = true) : Memory.wf (memPut m a bs) = true := by
  induction bs generalizing m a with
  | nil => exact w
  | cons b bs ih => exact ih _ _ (memWrite_wf m a b w)

/-- Writes listed in any order keep the canonical form. -/
theorem memWrites_wf {α : Type} (l : List α) (f : α → Nat) (g : α → Byte) (m : List (Nat × Byte)) (w : Memory.wf m = true) :
    Memory.wf (l.foldl (fun m i => memWrite m (f i) (g i)) m) = true := by
  induction l generalizing m with
  | nil => exact w
  | cons i l ih => exact ih _ (memWrite_wf m (f i) (g i) w)

/-- The canonical form is that of its pairs: strictly rising addresses and no zero byte. -/
theorem wf_iff (m : List (Nat × Byte)) :
    Memory.wf m = true ↔ m.Pairwise (fun a b => a.1 < b.1) ∧ ∀ e ∈ m, e.2 ≠ 0#8 := by
  induction m with
  | nil => simp [Memory.wf]
  | cons e r ih =>
    obtain ⟨a, b⟩ := e
    cases r with
    | nil => simp [Memory.wf]
    | cons d r =>
      obtain ⟨c, d⟩ := d
      simp only [Memory.wf, Bool.and_eq_true, decide_eq_true_eq, bne_iff_ne, ne_eq]
      rw [ih]
      constructor
      · rintro ⟨⟨hb, hac⟩, hp, hn⟩
        refine ⟨List.pairwise_cons.mpr ⟨?_, hp⟩, ?_⟩
        · intro e he
          rcases List.mem_cons.mp he with rfl | he
          · exact hac
          · exact Nat.lt_trans hac ((List.pairwise_cons.mp hp).1 e he)
        · intro e he
          rcases List.mem_cons.mp he with rfl | he
          · exact hb
          · exact hn e he
      · rintro ⟨hp, hn⟩
        obtain ⟨h1, h2⟩ := List.pairwise_cons.mp hp
        exact ⟨⟨hn (a, b) (by simp), h1 (c, d) (by simp)⟩, h2, fun e he => hn e (List.mem_cons_of_mem _ he)⟩

/-- Zeroing a range keeps the canonical form. -/
theorem memZero_wf (m : List (Nat × Byte)) (a n : Nat) (w : Memory.wf m = true) : Memory.wf (memZero m a n) = true := by
  rw [wf_iff] at *
  exact ⟨w.1.filter _, fun e he => w.2 e (List.mem_filter.mp he).1⟩

/-- A zeroed range reads 0, and every other byte as before. -/
theorem memRead_memZero (m : List (Nat × Byte)) (a n y : Nat) :
    memRead (memZero m a n) y = if a ≤ y ∧ y < a + n then 0#8 else memRead m y := by
  induction m with
  | nil => simp [memZero, memRead]
  | cons e r ih =>
    obtain ⟨c, b⟩ := e
    unfold memZero at *
    simp only [List.filter_cons]
    by_cases hin : c < a ∨ a + n ≤ c
    · simp only [hin, Bool.or_eq_true, decide_eq_true_eq, if_true, memRead]
      rw [ih]
      by_cases hcy : c = y
      · subst hcy; simp; omega
      · simp [hcy]
    · have hc : a ≤ c ∧ c < a + n := by omega
      simp only [hin, Bool.or_eq_true, decide_eq_true_eq, if_false, memRead]
      rw [ih]
      by_cases hcy : c = y
      · subst hcy; simp [hc]
      · simp [hcy]

end Sys2Proof.Machine
end

