-- ==== Sys2Proof/Laws/Outcome.lean ====
section
/-! SUPPORT. What a step can do at all: it answers a next state, leaves the queue to the dispatcher, and settles. -/
namespace Sys2Proof.Machine

/-- Every command answers a settled next state and does not touch the queue. -/
theorem exec_settles (i : Instr) (s : State) : ∃ h, exec i s = .next { s with hw := settle h } := by
  cases i <;> exact ⟨_, rfl⟩

/-- A step on an empty queue settles too. -/
theorem idle_settles (s : State) : ∃ h, idle s = .next { s with hw := settle h } := ⟨_, rfl⟩

/-- Every step answers a settled next state with the queue's rest. -/
theorem step_settles (s : State) : ∃ h, step s = .next { pending := s.pending.tail, hw := settle h } := by
  unfold step
  cases hp : s.pending with
  | nil => obtain ⟨h, e⟩ := idle_settles s; exact ⟨h, by rw [e]; simp [hp]⟩
  | cons c rest => obtain ⟨h, e⟩ := exec_settles c { s with pending := rest }; exact ⟨h, e⟩

/-! ### Publication -/

/-- The state word after publication is the one before it. -/
@[simp] theorem stateWord_publish (h : Hw) : stateWord (publish h) = stateWord h := by
  unfold stateWord osf; simp

/-- Publication shows the state word. -/
theorem publish_word (h : Hw) : (publish h).cmd.word = stateWord h := by
  unfold publish
  split
  · assumption
  · dsimp only; unfold setIrq; dsimp only; split <;> rfl

/-- The owner of the ball and its level do not depend on publication. -/
@[simp] theorem sqwOwnerOf_publish (h : Hw) : sqwOwnerOf (publish h) = sqwOwnerOf h := by
  unfold publish
  split
  · rfl
  · dsimp only; unfold setIrq; dsimp only; split <;> rfl
@[simp] theorem trigOut3Level_publish (h : Hw) : trigOut3Level (publish h) = trigOut3Level h := by
  unfold publish
  split
  · rfl
  · dsimp only; unfold setIrq; dsimp only; split <;> rfl

/-- The owner does not depend on itself, nor on the level. -/
@[simp] theorem sqwOwnerOf_settleOwner (h : Hw) : sqwOwnerOf (settleOwner h) = sqwOwnerOf h := by
  unfold settleOwner; dsimp only; split <;> rfl
@[simp] theorem sqwOwnerOf_driveTrigOut3 (h : Hw) : sqwOwnerOf (driveTrigOut3 h) = sqwOwnerOf h := by
  unfold driveTrigOut3; dsimp only; split <;> rfl
@[simp] theorem trigOut3Level_driveTrigOut3 (h : Hw) : trigOut3Level (driveTrigOut3 h) = trigOut3Level h := by
  unfold driveTrigOut3; dsimp only; split <;> rfl

/-- The owner of the ball is settled. -/
theorem settleOwner_owner (h : Hw) : (settleOwner h).rtc.sqwOwner = sqwOwnerOf h := by
  unfold settleOwner
  dsimp only
  split
  · rename_i k; exact k.symm
  · rfl

/-- Driving the ball leaves its owner and sets its level. -/
theorem driveTrigOut3_owner (h : Hw) : (driveTrigOut3 h).rtc.sqwOwner = h.rtc.sqwOwner := by
  unfold driveTrigOut3; dsimp only; split <;> rfl
theorem driveTrigOut3_level (h : Hw) : (driveTrigOut3 h).rtc.sqwBall = trigOut3Level h := by
  unfold driveTrigOut3
  dsimp only
  split
  · rename_i k; exact k.symm
  · rfl

/-- A settled state shows its own state word. -/
theorem settle_word (h : Hw) : (settle h).cmd.word = stateWord (settle h) := by
  unfold settle; rw [publish_word, stateWord_publish]

/-- A settled state's ball belongs to the owner that the rules give it, and has its level. -/
theorem settle_ball (h : Hw) : ballSettled (settle h) := by
  unfold ballSettled settle
  rw [sqwOwnerOf_publish, trigOut3Level_publish]
  simp [settleSqw, driveTrigOut3_owner, settleOwner_owner, driveTrigOut3_level]

end Sys2Proof.Machine
end

