-- ==== Sys2Proof/Laws/Tables.lean ====
section
/-! SUPPORT. Reading a table after an update, for every key. -/
namespace Sys2Proof.Machine

variable {α : Type}

/-- Reading the entry just set. -/
@[simp] theorem tget_tset_self (t : Tbl α) (k : Nat) (v d : α) : tget (tset t k v) k d = v := by
  induction t with
  | nil => simp [tset, tget]
  | cons e r ih =>
    obtain ⟨j, w⟩ := e
    unfold tset
    split
    · simp [tget]
    · split
      · simp [tget]
      · rename_i h; simp [tget, Ne.symm h, ih]

/-- Reading another entry. -/
theorem tget_tset_ne (t : Tbl α) (k j : Nat) (v d : α) (h : j ≠ k) : tget (tset t k v) j d = tget t j d := by
  induction t with
  | nil => simp [tset, tget, Ne.symm h]
  | cons e r ih =>
    obtain ⟨i, w⟩ := e
    unfold tset
    split
    · simp [tget, Ne.symm h]
    · split
      · subst_vars; simp [tget, Ne.symm h]
      · simp [tget, ih]

/-- Finding the entry just set. -/
@[simp] theorem tfind_tset_self (t : Tbl α) (k : Nat) (v : α) : tfind (tset t k v) k = some v := by
  induction t with
  | nil => simp [tset, tfind]
  | cons e r ih =>
    obtain ⟨j, w⟩ := e
    unfold tset
    split
    · simp [tfind]
    · split
      · simp [tfind]
      · rename_i h; simp [tfind, Ne.symm h, ih]

/-- Finding another entry. -/
theorem tfind_tset_ne (t : Tbl α) (k j : Nat) (v : α) (h : j ≠ k) : tfind (tset t k v) j = tfind t j := by
  induction t with
  | nil => simp [tset, tfind, Ne.symm h]
  | cons e r ih =>
    obtain ⟨i, w⟩ := e
    unfold tset
    split
    · simp [tfind, Ne.symm h]
    · split
      · subst_vars; simp [tfind, Ne.symm h]
      · simp [tfind, ih]

/-- Reading an entry that is found. -/
theorem tget_of_tfind (t : Tbl α) (k : Nat) (v d : α) (h : tfind t k = some v) : tget t k d = v := by
  induction t with
  | nil => simp [tfind] at h
  | cons e r ih =>
    obtain ⟨j, w⟩ := e
    unfold tfind at h; unfold tget
    split at h
    · rename_i e; simp_all
    · rename_i e; simp [e]; exact ih h

end Sys2Proof.Machine
end

