-- ==== Sys2Proof/Laws/State.lean ====
section
/-! SUPPORT. What each update of one part of the state leaves alone, field by field, and what reading that part gives afterwards. -/
namespace Sys2Proof.Machine

/-! ### The state and its queue -/

/-- Nothing waits after reset. -/
@[simp] theorem reset_pending : State.reset.pending = [] := rfl
/-- Reset leaves BOOT. -/
@[simp] theorem reset_mode : State.reset.hw.mode = .boot := rfl
/-- Memory after reset is in its canonical form. -/
theorem reset_mem_wf : Memory.wf State.reset.hw.fab.dram = true := rfl
/-- Placing a word's command leaves the hardware alone. -/
@[simp] theorem withFetchWord_hw (s : State) (n w : Nat) : (s.withFetchWord n w).hw = s.hw := by unfold State.withFetchWord; split <;> rfl
/-- Placing a word's command puts it in front. -/
theorem withFetchWord_pending (s : State) (n w : Nat) (i : Instr) (e : decodeTableWord n w = some i) :
    (s.withFetchWord n w).pending = i :: s.pending := by unfold State.withFetchWord; rw [e]

/-! ### Updates of one part -/

/-- The fault manager changes alone. -/
@[simp] theorem modFault_part (f : FaultState → FaultState) (h : Hw) :
    (modFault f h).variant = h.variant ∧ (modFault f h).serial = h.serial ∧ (modFault f h).moduleId = h.moduleId ∧ (modFault f h).mode = h.mode ∧
    (modFault f h).cmd = h.cmd ∧ (modFault f h).cfg = h.cfg ∧ (modFault f h).evr = h.evr ∧ (modFault f h).boot = h.boot ∧
    (modFault f h).power = h.power ∧ (modFault f h).time = h.time ∧ (modFault f h).rtc = h.rtc ∧ (modFault f h).ing = h.ing ∧
    (modFault f h).loop = h.loop ∧ (modFault f h).keys = h.keys ∧ (modFault f h).fab = h.fab ∧ (modFault f h).slc = h.slc ∧
    (modFault f h).spec = h.spec ∧ (modFault f h).pair = h.pair ∧ (modFault f h).filt = h.filt ∧ (modFault f h).acq = h.acq ∧
    (modFault f h).const = h.const ∧ (modFault f h).phasor = h.phasor ∧ (modFault f h).net = h.net ∧ (modFault f h).cycle = h.cycle ∧
    (modFault f h).lupin = h.lupin ∧ (modFault f h).free = h.free ∧ (modFault f h).out = h.out := ⟨rfl, rfl, rfl, rfl, rfl, rfl, rfl, rfl, rfl, rfl, rfl, rfl, rfl, rfl, rfl, rfl, rfl, rfl, rfl, rfl, rfl, rfl, rfl, rfl, rfl, rfl, rfl⟩

/-- Hollyhock changes alone. -/
@[simp] theorem modLupin_part (f : LupinState → LupinState) (h : Hw) :
    (modLupin f h).variant = h.variant ∧ (modLupin f h).serial = h.serial ∧ (modLupin f h).moduleId = h.moduleId ∧ (modLupin f h).mode = h.mode ∧
    (modLupin f h).cmd = h.cmd ∧ (modLupin f h).cfg = h.cfg ∧ (modLupin f h).evr = h.evr ∧ (modLupin f h).boot = h.boot ∧
    (modLupin f h).fault = h.fault ∧ (modLupin f h).power = h.power ∧ (modLupin f h).time = h.time ∧ (modLupin f h).rtc = h.rtc ∧
    (modLupin f h).ing = h.ing ∧ (modLupin f h).loop = h.loop ∧ (modLupin f h).keys = h.keys ∧ (modLupin f h).fab = h.fab ∧
    (modLupin f h).slc = h.slc ∧ (modLupin f h).spec = h.spec ∧ (modLupin f h).pair = h.pair ∧ (modLupin f h).filt = h.filt ∧
    (modLupin f h).acq = h.acq ∧ (modLupin f h).const = h.const ∧ (modLupin f h).phasor = h.phasor ∧ (modLupin f h).net = h.net ∧
    (modLupin f h).cycle = h.cycle ∧ (modLupin f h).free = h.free ∧ (modLupin f h).out = h.out := ⟨rfl, rfl, rfl, rfl, rfl, rfl, rfl, rfl, rfl, rfl, rfl, rfl, rfl, rfl, rfl, rfl, rfl, rfl, rfl, rfl, rfl, rfl, rfl, rfl, rfl, rfl, rfl⟩

/-- Hollyhock changes alone. -/
@[simp] theorem modStore_part (f : MeterStore → MeterStore) (h : Hw) :
    (modStore f h).variant = h.variant ∧ (modStore f h).serial = h.serial ∧ (modStore f h).moduleId = h.moduleId ∧ (modStore f h).mode = h.mode ∧
    (modStore f h).cmd = h.cmd ∧ (modStore f h).cfg = h.cfg ∧ (modStore f h).evr = h.evr ∧ (modStore f h).boot = h.boot ∧
    (modStore f h).fault = h.fault ∧ (modStore f h).power = h.power ∧ (modStore f h).time = h.time ∧ (modStore f h).rtc = h.rtc ∧
    (modStore f h).ing = h.ing ∧ (modStore f h).loop = h.loop ∧ (modStore f h).keys = h.keys ∧ (modStore f h).fab = h.fab ∧
    (modStore f h).slc = h.slc ∧ (modStore f h).spec = h.spec ∧ (modStore f h).pair = h.pair ∧ (modStore f h).filt = h.filt ∧
    (modStore f h).acq = h.acq ∧ (modStore f h).const = h.const ∧ (modStore f h).phasor = h.phasor ∧ (modStore f h).net = h.net ∧
    (modStore f h).cycle = h.cycle ∧ (modStore f h).free = h.free ∧ (modStore f h).out = h.out := ⟨rfl, rfl, rfl, rfl, rfl, rfl, rfl, rfl, rfl, rfl, rfl, rfl, rfl, rfl, rfl, rfl, rfl, rfl, rfl, rfl, rfl, rfl, rfl, rfl, rfl, rfl, rfl⟩

/-- Hollyhock changes alone. -/
@[simp] theorem modRegs_part (n : Nat) (f : MeterRegs → MeterRegs) (h : Hw) :
    (modRegs n f h).variant = h.variant ∧ (modRegs n f h).serial = h.serial ∧ (modRegs n f h).moduleId = h.moduleId ∧ (modRegs n f h).mode = h.mode ∧
    (modRegs n f h).cmd = h.cmd ∧ (modRegs n f h).cfg = h.cfg ∧ (modRegs n f h).evr = h.evr ∧ (modRegs n f h).boot = h.boot ∧
    (modRegs n f h).fault = h.fault ∧ (modRegs n f h).power = h.power ∧ (modRegs n f h).time = h.time ∧ (modRegs n f h).rtc = h.rtc ∧
    (modRegs n f h).ing = h.ing ∧ (modRegs n f h).loop = h.loop ∧ (modRegs n f h).keys = h.keys ∧ (modRegs n f h).fab = h.fab ∧
    (modRegs n f h).slc = h.slc ∧ (modRegs n f h).spec = h.spec ∧ (modRegs n f h).pair = h.pair ∧ (modRegs n f h).filt = h.filt ∧
    (modRegs n f h).acq = h.acq ∧ (modRegs n f h).const = h.const ∧ (modRegs n f h).phasor = h.phasor ∧ (modRegs n f h).net = h.net ∧
    (modRegs n f h).cycle = h.cycle ∧ (modRegs n f h).free = h.free ∧ (modRegs n f h).out = h.out := ⟨rfl, rfl, rfl, rfl, rfl, rfl, rfl, rfl, rfl, rfl, rfl, rfl, rfl, rfl, rfl, rfl, rfl, rfl, rfl, rfl, rfl, rfl, rfl, rfl, rfl, rfl, rfl⟩

/-- A home is the fault manager's. -/
@[simp] theorem setHome_part (f : FnConfig) (n : Nat) (h : Hw) :
    (setHome f n h).variant = h.variant ∧ (setHome f n h).serial = h.serial ∧ (setHome f n h).moduleId = h.moduleId ∧ (setHome f n h).mode = h.mode ∧
    (setHome f n h).cmd = h.cmd ∧ (setHome f n h).cfg = h.cfg ∧ (setHome f n h).evr = h.evr ∧ (setHome f n h).boot = h.boot ∧
    (setHome f n h).power = h.power ∧ (setHome f n h).time = h.time ∧ (setHome f n h).rtc = h.rtc ∧ (setHome f n h).ing = h.ing ∧
    (setHome f n h).loop = h.loop ∧ (setHome f n h).keys = h.keys ∧ (setHome f n h).fab = h.fab ∧ (setHome f n h).slc = h.slc ∧
    (setHome f n h).spec = h.spec ∧ (setHome f n h).pair = h.pair ∧ (setHome f n h).filt = h.filt ∧ (setHome f n h).acq = h.acq ∧
    (setHome f n h).const = h.const ∧ (setHome f n h).phasor = h.phasor ∧ (setHome f n h).net = h.net ∧ (setHome f n h).cycle = h.cycle ∧
    (setHome f n h).lupin = h.lupin ∧ (setHome f n h).free = h.free ∧ (setHome f n h).out = h.out := ⟨rfl, rfl, rfl, rfl, rfl, rfl, rfl, rfl, rfl, rfl, rfl, rfl, rfl, rfl, rfl, rfl, rfl, rfl, rfl, rfl, rfl, rfl, rfl, rfl, rfl, rfl, rfl⟩

/-- A status bit is part of the island. -/
@[simp] theorem setAon_part (i : Nat) (b : Bool) (h : Hw) :
    (setAon i b h).variant = h.variant ∧ (setAon i b h).serial = h.serial ∧ (setAon i b h).moduleId = h.moduleId ∧ (setAon i b h).mode = h.mode ∧
    (setAon i b h).cmd = h.cmd ∧ (setAon i b h).cfg = h.cfg ∧ (setAon i b h).evr = h.evr ∧ (setAon i b h).boot = h.boot ∧
    (setAon i b h).fault = h.fault ∧ (setAon i b h).power = h.power ∧ (setAon i b h).time = h.time ∧ (setAon i b h).ing = h.ing ∧
    (setAon i b h).loop = h.loop ∧ (setAon i b h).keys = h.keys ∧ (setAon i b h).fab = h.fab ∧ (setAon i b h).slc = h.slc ∧
    (setAon i b h).spec = h.spec ∧ (setAon i b h).pair = h.pair ∧ (setAon i b h).filt = h.filt ∧ (setAon i b h).acq = h.acq ∧
    (setAon i b h).const = h.const ∧ (setAon i b h).phasor = h.phasor ∧ (setAon i b h).net = h.net ∧ (setAon i b h).cycle = h.cycle ∧
    (setAon i b h).lupin = h.lupin ∧ (setAon i b h).free = h.free ∧ (setAon i b h).out = h.out := ⟨rfl, rfl, rfl, rfl, rfl, rfl, rfl, rfl, rfl, rfl, rfl, rfl, rfl, rfl, rfl, rfl, rfl, rfl, rfl, rfl, rfl, rfl, rfl, rfl, rfl, rfl, rfl⟩

/-- A row is part of the aligner. -/
@[simp] theorem modRow_part (k : Nat) (f : Row → Row) (h : Hw) :
    (modRow k f h).variant = h.variant ∧ (modRow k f h).serial = h.serial ∧ (modRow k f h).moduleId = h.moduleId ∧ (modRow k f h).mode = h.mode ∧
    (modRow k f h).cmd = h.cmd ∧ (modRow k f h).cfg = h.cfg ∧ (modRow k f h).evr = h.evr ∧ (modRow k f h).boot = h.boot ∧
    (modRow k f h).fault = h.fault ∧ (modRow k f h).power = h.power ∧ (modRow k f h).time = h.time ∧ (modRow k f h).rtc = h.rtc ∧
    (modRow k f h).loop = h.loop ∧ (modRow k f h).keys = h.keys ∧ (modRow k f h).fab = h.fab ∧ (modRow k f h).slc = h.slc ∧
    (modRow k f h).spec = h.spec ∧ (modRow k f h).pair = h.pair ∧ (modRow k f h).filt = h.filt ∧ (modRow k f h).acq = h.acq ∧
    (modRow k f h).const = h.const ∧ (modRow k f h).phasor = h.phasor ∧ (modRow k f h).net = h.net ∧ (modRow k f h).cycle = h.cycle ∧
    (modRow k f h).lupin = h.lupin ∧ (modRow k f h).free = h.free ∧ (modRow k f h).out = h.out := ⟨rfl, rfl, rfl, rfl, rfl, rfl, rfl, rfl, rfl, rfl, rfl, rfl, rfl, rfl, rfl, rfl, rfl, rfl, rfl, rfl, rfl, rfl, rfl, rfl, rfl, rfl, rfl⟩

/-- Only this part changes. -/
@[simp] theorem putBlock_part (n : Nat) (x : Block) (h : Hw) :
    (putBlock n x h).variant = h.variant ∧ (putBlock n x h).serial = h.serial ∧ (putBlock n x h).moduleId = h.moduleId ∧
    (putBlock n x h).mode = h.mode ∧ (putBlock n x h).cmd = h.cmd ∧ (putBlock n x h).cfg = h.cfg ∧ (putBlock n x h).evr = h.evr ∧
    (putBlock n x h).boot = h.boot ∧ (putBlock n x h).fault = h.fault ∧ (putBlock n x h).power = h.power ∧ (putBlock n x h).time = h.time ∧
    (putBlock n x h).rtc = h.rtc ∧ (putBlock n x h).ing = h.ing ∧ (putBlock n x h).loop = h.loop ∧ (putBlock n x h).keys = h.keys ∧
    (putBlock n x h).slc = h.slc ∧ (putBlock n x h).spec = h.spec ∧ (putBlock n x h).pair = h.pair ∧ (putBlock n x h).filt = h.filt ∧
    (putBlock n x h).acq = h.acq ∧ (putBlock n x h).const = h.const ∧ (putBlock n x h).phasor = h.phasor ∧ (putBlock n x h).net = h.net ∧
    (putBlock n x h).cycle = h.cycle ∧ (putBlock n x h).lupin = h.lupin ∧ (putBlock n x h).free = h.free ∧ (putBlock n x h).out = h.out := ⟨rfl, rfl, rfl, rfl, rfl, rfl, rfl, rfl, rfl, rfl, rfl, rfl, rfl, rfl, rfl, rfl, rfl, rfl, rfl, rfl, rfl, rfl, rfl, rfl, rfl, rfl, rfl⟩

/-- Reading what was put. -/
@[simp] theorem blockAt_putBlock_self (n : Nat) (x : Block) (h : Hw) : blockAt n (putBlock n x h) = x := tget_tset_self ..
/-- Reading another. -/
theorem blockAt_putBlock_ne (n m : Nat) (x : Block) (h : Hw) (e : m ≠ n) : blockAt m (putBlock n x h) = blockAt m h := tget_tset_ne _ _ _ _ _ e

/-- Only this part changes. -/
@[simp] theorem putSlice_part (n : Nat) (x : SliceInst) (h : Hw) :
    (putSlice n x h).variant = h.variant ∧ (putSlice n x h).serial = h.serial ∧ (putSlice n x h).moduleId = h.moduleId ∧
    (putSlice n x h).mode = h.mode ∧ (putSlice n x h).cmd = h.cmd ∧ (putSlice n x h).cfg = h.cfg ∧ (putSlice n x h).evr = h.evr ∧
    (putSlice n x h).boot = h.boot ∧ (putSlice n x h).fault = h.fault ∧ (putSlice n x h).power = h.power ∧ (putSlice n x h).time = h.time ∧
    (putSlice n x h).rtc = h.rtc ∧ (putSlice n x h).ing = h.ing ∧ (putSlice n x h).loop = h.loop ∧ (putSlice n x h).keys = h.keys ∧
    (putSlice n x h).fab = h.fab ∧ (putSlice n x h).spec = h.spec ∧ (putSlice n x h).pair = h.pair ∧ (putSlice n x h).filt = h.filt ∧
    (putSlice n x h).acq = h.acq ∧ (putSlice n x h).const = h.const ∧ (putSlice n x h).phasor = h.phasor ∧ (putSlice n x h).net = h.net ∧
    (putSlice n x h).cycle = h.cycle ∧ (putSlice n x h).lupin = h.lupin ∧ (putSlice n x h).free = h.free ∧ (putSlice n x h).out = h.out := ⟨rfl, rfl, rfl, rfl, rfl, rfl, rfl, rfl, rfl, rfl, rfl, rfl, rfl, rfl, rfl, rfl, rfl, rfl, rfl, rfl, rfl, rfl, rfl, rfl, rfl, rfl, rfl⟩

/-- Only this part changes. -/
@[simp] theorem putEntry_part (n : Nat) (x : Entry) (h : Hw) :
    (putEntry n x h).variant = h.variant ∧ (putEntry n x h).serial = h.serial ∧ (putEntry n x h).moduleId = h.moduleId ∧
    (putEntry n x h).mode = h.mode ∧ (putEntry n x h).cmd = h.cmd ∧ (putEntry n x h).cfg = h.cfg ∧ (putEntry n x h).evr = h.evr ∧
    (putEntry n x h).boot = h.boot ∧ (putEntry n x h).fault = h.fault ∧ (putEntry n x h).power = h.power ∧ (putEntry n x h).time = h.time ∧
    (putEntry n x h).rtc = h.rtc ∧ (putEntry n x h).ing = h.ing ∧ (putEntry n x h).loop = h.loop ∧ (putEntry n x h).keys = h.keys ∧
    (putEntry n x h).fab = h.fab ∧ (putEntry n x h).slc = h.slc ∧ (putEntry n x h).pair = h.pair ∧ (putEntry n x h).filt = h.filt ∧
    (putEntry n x h).acq = h.acq ∧ (putEntry n x h).const = h.const ∧ (putEntry n x h).phasor = h.phasor ∧ (putEntry n x h).net = h.net ∧
    (putEntry n x h).cycle = h.cycle ∧ (putEntry n x h).lupin = h.lupin ∧ (putEntry n x h).free = h.free ∧ (putEntry n x h).out = h.out := ⟨rfl, rfl, rfl, rfl, rfl, rfl, rfl, rfl, rfl, rfl, rfl, rfl, rfl, rfl, rfl, rfl, rfl, rfl, rfl, rfl, rfl, rfl, rfl, rfl, rfl, rfl, rfl⟩

/-- Reading what was put. -/
@[simp] theorem entryAt_putEntry_self (n : Nat) (x : Entry) (h : Hw) : entryAt n (putEntry n x h) = x := tget_tset_self ..
/-- Reading another. -/
theorem entryAt_putEntry_ne (n m : Nat) (x : Entry) (h : Hw) (e : m ≠ n) : entryAt m (putEntry n x h) = entryAt m h := tget_tset_ne _ _ _ _ _ e

/-- Only this part changes. -/
@[simp] theorem putStage_part (x : StageOut) (h : Hw) :
    (putStage x h).variant = h.variant ∧ (putStage x h).serial = h.serial ∧ (putStage x h).moduleId = h.moduleId ∧ (putStage x h).mode = h.mode ∧
    (putStage x h).cmd = h.cmd ∧ (putStage x h).cfg = h.cfg ∧ (putStage x h).evr = h.evr ∧ (putStage x h).boot = h.boot ∧
    (putStage x h).fault = h.fault ∧ (putStage x h).power = h.power ∧ (putStage x h).time = h.time ∧ (putStage x h).rtc = h.rtc ∧
    (putStage x h).ing = h.ing ∧ (putStage x h).loop = h.loop ∧ (putStage x h).keys = h.keys ∧ (putStage x h).fab = h.fab ∧
    (putStage x h).slc = h.slc ∧ (putStage x h).pair = h.pair ∧ (putStage x h).filt = h.filt ∧ (putStage x h).acq = h.acq ∧
    (putStage x h).const = h.const ∧ (putStage x h).phasor = h.phasor ∧ (putStage x h).net = h.net ∧ (putStage x h).cycle = h.cycle ∧
    (putStage x h).lupin = h.lupin ∧ (putStage x h).free = h.free ∧ (putStage x h).out = h.out := ⟨rfl, rfl, rfl, rfl, rfl, rfl, rfl, rfl, rfl, rfl, rfl, rfl, rfl, rfl, rfl, rfl, rfl, rfl, rfl, rfl, rfl, rfl, rfl, rfl, rfl, rfl, rfl⟩

/-- Only this part changes. -/
@[simp] theorem putLink_part (n : Nat) (x : LinkInst) (h : Hw) :
    (putLink n x h).variant = h.variant ∧ (putLink n x h).serial = h.serial ∧ (putLink n x h).moduleId = h.moduleId ∧ (putLink n x h).mode = h.mode ∧
    (putLink n x h).cmd = h.cmd ∧ (putLink n x h).cfg = h.cfg ∧ (putLink n x h).evr = h.evr ∧ (putLink n x h).boot = h.boot ∧
    (putLink n x h).fault = h.fault ∧ (putLink n x h).power = h.power ∧ (putLink n x h).time = h.time ∧ (putLink n x h).rtc = h.rtc ∧
    (putLink n x h).ing = h.ing ∧ (putLink n x h).loop = h.loop ∧ (putLink n x h).keys = h.keys ∧ (putLink n x h).fab = h.fab ∧
    (putLink n x h).slc = h.slc ∧ (putLink n x h).spec = h.spec ∧ (putLink n x h).pair = h.pair ∧ (putLink n x h).filt = h.filt ∧
    (putLink n x h).const = h.const ∧ (putLink n x h).phasor = h.phasor ∧ (putLink n x h).net = h.net ∧ (putLink n x h).cycle = h.cycle ∧
    (putLink n x h).lupin = h.lupin ∧ (putLink n x h).free = h.free ∧ (putLink n x h).out = h.out := ⟨rfl, rfl, rfl, rfl, rfl, rfl, rfl, rfl, rfl, rfl, rfl, rfl, rfl, rfl, rfl, rfl, rfl, rfl, rfl, rfl, rfl, rfl, rfl, rfl, rfl, rfl, rfl⟩

/-- Reading what was put. -/
@[simp] theorem linkAt_putLink_self (n : Nat) (x : LinkInst) (h : Hw) : linkAt n (putLink n x h) = x := tget_tset_self ..
/-- Reading another. -/
theorem linkAt_putLink_ne (n m : Nat) (x : LinkInst) (h : Hw) (e : m ≠ n) : linkAt m (putLink n x h) = linkAt m h := tget_tset_ne _ _ _ _ _ e

/-- Only this part changes. -/
@[simp] theorem putCapture_part (n : Nat) (x : Capture) (h : Hw) :
    (putCapture n x h).variant = h.variant ∧ (putCapture n x h).serial = h.serial ∧ (putCapture n x h).moduleId = h.moduleId ∧
    (putCapture n x h).mode = h.mode ∧ (putCapture n x h).cmd = h.cmd ∧ (putCapture n x h).cfg = h.cfg ∧ (putCapture n x h).evr = h.evr ∧
    (putCapture n x h).boot = h.boot ∧ (putCapture n x h).fault = h.fault ∧ (putCapture n x h).power = h.power ∧ (putCapture n x h).time = h.time ∧
    (putCapture n x h).rtc = h.rtc ∧ (putCapture n x h).ing = h.ing ∧ (putCapture n x h).loop = h.loop ∧ (putCapture n x h).keys = h.keys ∧
    (putCapture n x h).fab = h.fab ∧ (putCapture n x h).slc = h.slc ∧ (putCapture n x h).spec = h.spec ∧ (putCapture n x h).pair = h.pair ∧
    (putCapture n x h).filt = h.filt ∧ (putCapture n x h).const = h.const ∧ (putCapture n x h).phasor = h.phasor ∧ (putCapture n x h).net = h.net ∧
    (putCapture n x h).cycle = h.cycle ∧ (putCapture n x h).lupin = h.lupin ∧ (putCapture n x h).free = h.free ∧ (putCapture n x h).out = h.out := ⟨rfl, rfl, rfl, rfl, rfl, rfl, rfl, rfl, rfl, rfl, rfl, rfl, rfl, rfl, rfl, rfl, rfl, rfl, rfl, rfl, rfl, rfl, rfl, rfl, rfl, rfl, rfl⟩

/-- Reading what was put. -/
@[simp] theorem captureAt_putCapture_self (n : Nat) (x : Capture) (h : Hw) : captureAt n (putCapture n x h) = x := tget_tset_self ..
/-- Reading another. -/
theorem captureAt_putCapture_ne (n m : Nat) (x : Capture) (h : Hw) (e : m ≠ n) : captureAt m (putCapture n x h) = captureAt m h := tget_tset_ne _ _ _ _ _ e

/-- Only this part changes. -/
@[simp] theorem putSynchro_part (n : Nat) (x : Synchro) (h : Hw) :
    (putSynchro n x h).variant = h.variant ∧ (putSynchro n x h).serial = h.serial ∧ (putSynchro n x h).moduleId = h.moduleId ∧
    (putSynchro n x h).mode = h.mode ∧ (putSynchro n x h).cmd = h.cmd ∧ (putSynchro n x h).cfg = h.cfg ∧ (putSynchro n x h).evr = h.evr ∧
    (putSynchro n x h).boot = h.boot ∧ (putSynchro n x h).fault = h.fault ∧ (putSynchro n x h).power = h.power ∧ (putSynchro n x h).time = h.time ∧
    (putSynchro n x h).rtc = h.rtc ∧ (putSynchro n x h).ing = h.ing ∧ (putSynchro n x h).loop = h.loop ∧ (putSynchro n x h).keys = h.keys ∧
    (putSynchro n x h).fab = h.fab ∧ (putSynchro n x h).slc = h.slc ∧ (putSynchro n x h).spec = h.spec ∧ (putSynchro n x h).pair = h.pair ∧
    (putSynchro n x h).filt = h.filt ∧ (putSynchro n x h).acq = h.acq ∧ (putSynchro n x h).const = h.const ∧ (putSynchro n x h).net = h.net ∧
    (putSynchro n x h).cycle = h.cycle ∧ (putSynchro n x h).lupin = h.lupin ∧ (putSynchro n x h).free = h.free ∧ (putSynchro n x h).out = h.out := ⟨rfl, rfl, rfl, rfl, rfl, rfl, rfl, rfl, rfl, rfl, rfl, rfl, rfl, rfl, rfl, rfl, rfl, rfl, rfl, rfl, rfl, rfl, rfl, rfl, rfl, rfl, rfl⟩

/-- Only this part changes. -/
@[simp] theorem putLocator_part (n : Nat) (x : Line) (h : Hw) :
    (putLocator n x h).variant = h.variant ∧ (putLocator n x h).serial = h.serial ∧ (putLocator n x h).moduleId = h.moduleId ∧
    (putLocator n x h).mode = h.mode ∧ (putLocator n x h).cmd = h.cmd ∧ (putLocator n x h).cfg = h.cfg ∧ (putLocator n x h).evr = h.evr ∧
    (putLocator n x h).boot = h.boot ∧ (putLocator n x h).fault = h.fault ∧ (putLocator n x h).power = h.power ∧ (putLocator n x h).time = h.time ∧
    (putLocator n x h).rtc = h.rtc ∧ (putLocator n x h).ing = h.ing ∧ (putLocator n x h).loop = h.loop ∧ (putLocator n x h).keys = h.keys ∧
    (putLocator n x h).fab = h.fab ∧ (putLocator n x h).slc = h.slc ∧ (putLocator n x h).spec = h.spec ∧ (putLocator n x h).pair = h.pair ∧
    (putLocator n x h).filt = h.filt ∧ (putLocator n x h).acq = h.acq ∧ (putLocator n x h).const = h.const ∧ (putLocator n x h).net = h.net ∧
    (putLocator n x h).cycle = h.cycle ∧ (putLocator n x h).lupin = h.lupin ∧ (putLocator n x h).free = h.free ∧ (putLocator n x h).out = h.out := ⟨rfl, rfl, rfl, rfl, rfl, rfl, rfl, rfl, rfl, rfl, rfl, rfl, rfl, rfl, rfl, rfl, rfl, rfl, rfl, rfl, rfl, rfl, rfl, rfl, rfl, rfl, rfl⟩

/-- Only this part changes. -/
@[simp] theorem putNetPair_part (n : Nat) (x : PairNet) (h : Hw) :
    (putNetPair n x h).variant = h.variant ∧ (putNetPair n x h).serial = h.serial ∧ (putNetPair n x h).moduleId = h.moduleId ∧
    (putNetPair n x h).mode = h.mode ∧ (putNetPair n x h).cmd = h.cmd ∧ (putNetPair n x h).cfg = h.cfg ∧ (putNetPair n x h).evr = h.evr ∧
    (putNetPair n x h).boot = h.boot ∧ (putNetPair n x h).fault = h.fault ∧ (putNetPair n x h).power = h.power ∧ (putNetPair n x h).time = h.time ∧
    (putNetPair n x h).rtc = h.rtc ∧ (putNetPair n x h).ing = h.ing ∧ (putNetPair n x h).loop = h.loop ∧ (putNetPair n x h).keys = h.keys ∧
    (putNetPair n x h).fab = h.fab ∧ (putNetPair n x h).slc = h.slc ∧ (putNetPair n x h).spec = h.spec ∧ (putNetPair n x h).pair = h.pair ∧
    (putNetPair n x h).filt = h.filt ∧ (putNetPair n x h).acq = h.acq ∧ (putNetPair n x h).const = h.const ∧ (putNetPair n x h).phasor = h.phasor ∧
    (putNetPair n x h).cycle = h.cycle ∧ (putNetPair n x h).lupin = h.lupin ∧ (putNetPair n x h).free = h.free ∧ (putNetPair n x h).out = h.out := ⟨rfl, rfl, rfl, rfl, rfl, rfl, rfl, rfl, rfl, rfl, rfl, rfl, rfl, rfl, rfl, rfl, rfl, rfl, rfl, rfl, rfl, rfl, rfl, rfl, rfl, rfl, rfl⟩

/-- Reading what was put. -/
@[simp] theorem netPair_putNetPair_self (n : Nat) (x : PairNet) (h : Hw) : netPair n (putNetPair n x h) = x := tget_tset_self ..
/-- Reading another. -/
theorem netPair_putNetPair_ne (n m : Nat) (x : PairNet) (h : Hw) (e : m ≠ n) : netPair m (putNetPair n x h) = netPair m h := tget_tset_ne _ _ _ _ _ e

/-- Only this part changes. -/
@[simp] theorem putChain_part (n : Nat) (x : Chain) (h : Hw) :
    (putChain n x h).variant = h.variant ∧ (putChain n x h).serial = h.serial ∧ (putChain n x h).moduleId = h.moduleId ∧
    (putChain n x h).mode = h.mode ∧ (putChain n x h).cmd = h.cmd ∧ (putChain n x h).cfg = h.cfg ∧ (putChain n x h).evr = h.evr ∧
    (putChain n x h).boot = h.boot ∧ (putChain n x h).fault = h.fault ∧ (putChain n x h).power = h.power ∧ (putChain n x h).time = h.time ∧
    (putChain n x h).rtc = h.rtc ∧ (putChain n x h).ing = h.ing ∧ (putChain n x h).loop = h.loop ∧ (putChain n x h).keys = h.keys ∧
    (putChain n x h).fab = h.fab ∧ (putChain n x h).slc = h.slc ∧ (putChain n x h).spec = h.spec ∧ (putChain n x h).pair = h.pair ∧
    (putChain n x h).acq = h.acq ∧ (putChain n x h).const = h.const ∧ (putChain n x h).phasor = h.phasor ∧ (putChain n x h).net = h.net ∧
    (putChain n x h).cycle = h.cycle ∧ (putChain n x h).lupin = h.lupin ∧ (putChain n x h).free = h.free ∧ (putChain n x h).out = h.out := ⟨rfl, rfl, rfl, rfl, rfl, rfl, rfl, rfl, rfl, rfl, rfl, rfl, rfl, rfl, rfl, rfl, rfl, rfl, rfl, rfl, rfl, rfl, rfl, rfl, rfl, rfl, rfl⟩

/-- Reading what was put. -/
@[simp] theorem chainAt_putChain_self (n : Nat) (x : Chain) (h : Hw) : chainAt n (putChain n x h) = x := tget_tset_self ..
/-- Reading another. -/
theorem chainAt_putChain_ne (n m : Nat) (x : Chain) (h : Hw) (e : m ≠ n) : chainAt m (putChain n x h) = chainAt m h := tget_tset_ne _ _ _ _ _ e

/-- Only this part changes. -/
@[simp] theorem putKey_part (n : Nat) (x : KeySlot) (h : Hw) :
    (putKey n x h).variant = h.variant ∧ (putKey n x h).serial = h.serial ∧ (putKey n x h).moduleId = h.moduleId ∧ (putKey n x h).mode = h.mode ∧
    (putKey n x h).cmd = h.cmd ∧ (putKey n x h).cfg = h.cfg ∧ (putKey n x h).evr = h.evr ∧ (putKey n x h).boot = h.boot ∧
    (putKey n x h).fault = h.fault ∧ (putKey n x h).power = h.power ∧ (putKey n x h).time = h.time ∧ (putKey n x h).rtc = h.rtc ∧
    (putKey n x h).ing = h.ing ∧ (putKey n x h).loop = h.loop ∧ (putKey n x h).fab = h.fab ∧ (putKey n x h).slc = h.slc ∧
    (putKey n x h).spec = h.spec ∧ (putKey n x h).pair = h.pair ∧ (putKey n x h).filt = h.filt ∧ (putKey n x h).acq = h.acq ∧
    (putKey n x h).const = h.const ∧ (putKey n x h).phasor = h.phasor ∧ (putKey n x h).net = h.net ∧ (putKey n x h).cycle = h.cycle ∧
    (putKey n x h).lupin = h.lupin ∧ (putKey n x h).free = h.free ∧ (putKey n x h).out = h.out := ⟨rfl, rfl, rfl, rfl, rfl, rfl, rfl, rfl, rfl, rfl, rfl, rfl, rfl, rfl, rfl, rfl, rfl, rfl, rfl, rfl, rfl, rfl, rfl, rfl, rfl, rfl, rfl⟩

/-- Reading what was put. -/
@[simp] theorem keySlot_putKey_self (n : Nat) (x : KeySlot) (h : Hw) : keySlot n (putKey n x h) = x := tget_tset_self ..
/-- Reading another. -/
theorem keySlot_putKey_ne (n m : Nat) (x : KeySlot) (h : Hw) (e : m ≠ n) : keySlot m (putKey n x h) = keySlot m h := tget_tset_ne _ _ _ _ _ e

/-- Only this part changes. -/
@[simp] theorem putLoop_part (n : Nat) (x : LoopInst) (h : Hw) :
    (putLoop n x h).variant = h.variant ∧ (putLoop n x h).serial = h.serial ∧ (putLoop n x h).moduleId = h.moduleId ∧ (putLoop n x h).mode = h.mode ∧
    (putLoop n x h).cmd = h.cmd ∧ (putLoop n x h).cfg = h.cfg ∧ (putLoop n x h).evr = h.evr ∧ (putLoop n x h).boot = h.boot ∧
    (putLoop n x h).fault = h.fault ∧ (putLoop n x h).power = h.power ∧ (putLoop n x h).time = h.time ∧ (putLoop n x h).rtc = h.rtc ∧
    (putLoop n x h).ing = h.ing ∧ (putLoop n x h).keys = h.keys ∧ (putLoop n x h).fab = h.fab ∧ (putLoop n x h).slc = h.slc ∧
    (putLoop n x h).spec = h.spec ∧ (putLoop n x h).pair = h.pair ∧ (putLoop n x h).filt = h.filt ∧ (putLoop n x h).acq = h.acq ∧
    (putLoop n x h).const = h.const ∧ (putLoop n x h).phasor = h.phasor ∧ (putLoop n x h).net = h.net ∧ (putLoop n x h).cycle = h.cycle ∧
    (putLoop n x h).lupin = h.lupin ∧ (putLoop n x h).free = h.free ∧ (putLoop n x h).out = h.out := ⟨rfl, rfl, rfl, rfl, rfl, rfl, rfl, rfl, rfl, rfl, rfl, rfl, rfl, rfl, rfl, rfl, rfl, rfl, rfl, rfl, rfl, rfl, rfl, rfl, rfl, rfl, rfl⟩

/-- Only this part changes. -/
@[simp] theorem putStream_part (n : Nat) (x : Stream) (h : Hw) :
    (putStream n x h).variant = h.variant ∧ (putStream n x h).serial = h.serial ∧ (putStream n x h).moduleId = h.moduleId ∧
    (putStream n x h).mode = h.mode ∧ (putStream n x h).cmd = h.cmd ∧ (putStream n x h).cfg = h.cfg ∧ (putStream n x h).evr = h.evr ∧
    (putStream n x h).boot = h.boot ∧ (putStream n x h).fault = h.fault ∧ (putStream n x h).power = h.power ∧ (putStream n x h).time = h.time ∧
    (putStream n x h).rtc = h.rtc ∧ (putStream n x h).loop = h.loop ∧ (putStream n x h).keys = h.keys ∧ (putStream n x h).fab = h.fab ∧
    (putStream n x h).slc = h.slc ∧ (putStream n x h).spec = h.spec ∧ (putStream n x h).pair = h.pair ∧ (putStream n x h).filt = h.filt ∧
    (putStream n x h).acq = h.acq ∧ (putStream n x h).const = h.const ∧ (putStream n x h).phasor = h.phasor ∧ (putStream n x h).net = h.net ∧
    (putStream n x h).cycle = h.cycle ∧ (putStream n x h).lupin = h.lupin ∧ (putStream n x h).free = h.free ∧ (putStream n x h).out = h.out := ⟨rfl, rfl, rfl, rfl, rfl, rfl, rfl, rfl, rfl, rfl, rfl, rfl, rfl, rfl, rfl, rfl, rfl, rfl, rfl, rfl, rfl, rfl, rfl, rfl, rfl, rfl, rfl⟩

/-- Reading what was put. -/
@[simp] theorem streamAt_putStream_self (n : Nat) (x : Stream) (h : Hw) : streamAt n (putStream n x h) = x := tget_tset_self ..
/-- Reading another. -/
theorem streamAt_putStream_ne (n m : Nat) (x : Stream) (h : Hw) (e : m ≠ n) : streamAt m (putStream n x h) = streamAt m h := tget_tset_ne _ _ _ _ _ e

/-- Only this part changes. -/
@[simp] theorem putIngestPort_part (n : Nat) (x : IngestPort) (h : Hw) :
    (putIngestPort n x h).variant = h.variant ∧ (putIngestPort n x h).serial = h.serial ∧ (putIngestPort n x h).moduleId = h.moduleId ∧
    (putIngestPort n x h).mode = h.mode ∧ (putIngestPort n x h).cmd = h.cmd ∧ (putIngestPort n x h).cfg = h.cfg ∧ (putIngestPort n x h).evr = h.evr ∧
    (putIngestPort n x h).boot = h.boot ∧ (putIngestPort n x h).fault = h.fault ∧ (putIngestPort n x h).power = h.power ∧
    (putIngestPort n x h).time = h.time ∧ (putIngestPort n x h).rtc = h.rtc ∧ (putIngestPort n x h).loop = h.loop ∧
    (putIngestPort n x h).keys = h.keys ∧ (putIngestPort n x h).fab = h.fab ∧ (putIngestPort n x h).slc = h.slc ∧
    (putIngestPort n x h).spec = h.spec ∧ (putIngestPort n x h).pair = h.pair ∧ (putIngestPort n x h).filt = h.filt ∧
    (putIngestPort n x h).acq = h.acq ∧ (putIngestPort n x h).const = h.const ∧ (putIngestPort n x h).phasor = h.phasor ∧
    (putIngestPort n x h).net = h.net ∧ (putIngestPort n x h).cycle = h.cycle ∧ (putIngestPort n x h).lupin = h.lupin ∧
    (putIngestPort n x h).free = h.free ∧ (putIngestPort n x h).out = h.out := ⟨rfl, rfl, rfl, rfl, rfl, rfl, rfl, rfl, rfl, rfl, rfl, rfl, rfl, rfl, rfl, rfl, rfl, rfl, rfl, rfl, rfl, rfl, rfl, rfl, rfl, rfl, rfl⟩

/-- Only this part changes. -/
@[simp] theorem putPath_part (n : Nat) (x : HbPath) (h : Hw) :
    (putPath n x h).variant = h.variant ∧ (putPath n x h).serial = h.serial ∧ (putPath n x h).moduleId = h.moduleId ∧ (putPath n x h).mode = h.mode ∧
    (putPath n x h).cmd = h.cmd ∧ (putPath n x h).cfg = h.cfg ∧ (putPath n x h).evr = h.evr ∧ (putPath n x h).boot = h.boot ∧
    (putPath n x h).fault = h.fault ∧ (putPath n x h).power = h.power ∧ (putPath n x h).time = h.time ∧ (putPath n x h).rtc = h.rtc ∧
    (putPath n x h).ing = h.ing ∧ (putPath n x h).loop = h.loop ∧ (putPath n x h).keys = h.keys ∧ (putPath n x h).fab = h.fab ∧
    (putPath n x h).slc = h.slc ∧ (putPath n x h).spec = h.spec ∧ (putPath n x h).filt = h.filt ∧ (putPath n x h).acq = h.acq ∧
    (putPath n x h).const = h.const ∧ (putPath n x h).phasor = h.phasor ∧ (putPath n x h).net = h.net ∧ (putPath n x h).cycle = h.cycle ∧
    (putPath n x h).lupin = h.lupin ∧ (putPath n x h).free = h.free ∧ (putPath n x h).out = h.out := ⟨rfl, rfl, rfl, rfl, rfl, rfl, rfl, rfl, rfl, rfl, rfl, rfl, rfl, rfl, rfl, rfl, rfl, rfl, rfl, rfl, rfl, rfl, rfl, rfl, rfl, rfl, rfl⟩

/-- Reading what was put. -/
@[simp] theorem pathAt_putPath_self (n : Nat) (x : HbPath) (h : Hw) : pathAt n (putPath n x h) = x := tget_tset_self ..
/-- Reading another. -/
theorem pathAt_putPath_ne (n m : Nat) (x : HbPath) (h : Hw) (e : m ≠ n) : pathAt m (putPath n x h) = pathAt m h := tget_tset_ne _ _ _ _ _ e

/-- Only this part changes. -/
@[simp] theorem putProg_part (n : Nat) (x : Program) (h : Hw) :
    (putProg n x h).variant = h.variant ∧ (putProg n x h).serial = h.serial ∧ (putProg n x h).moduleId = h.moduleId ∧ (putProg n x h).mode = h.mode ∧
    (putProg n x h).cmd = h.cmd ∧ (putProg n x h).cfg = h.cfg ∧ (putProg n x h).evr = h.evr ∧ (putProg n x h).boot = h.boot ∧
    (putProg n x h).fault = h.fault ∧ (putProg n x h).power = h.power ∧ (putProg n x h).time = h.time ∧ (putProg n x h).rtc = h.rtc ∧
    (putProg n x h).ing = h.ing ∧ (putProg n x h).loop = h.loop ∧ (putProg n x h).keys = h.keys ∧ (putProg n x h).fab = h.fab ∧
    (putProg n x h).slc = h.slc ∧ (putProg n x h).spec = h.spec ∧ (putProg n x h).pair = h.pair ∧ (putProg n x h).filt = h.filt ∧
    (putProg n x h).acq = h.acq ∧ (putProg n x h).const = h.const ∧ (putProg n x h).phasor = h.phasor ∧ (putProg n x h).net = h.net ∧
    (putProg n x h).lupin = h.lupin ∧ (putProg n x h).free = h.free ∧ (putProg n x h).out = h.out := ⟨rfl, rfl, rfl, rfl, rfl, rfl, rfl, rfl, rfl, rfl, rfl, rfl, rfl, rfl, rfl, rfl, rfl, rfl, rfl, rfl, rfl, rfl, rfl, rfl, rfl, rfl, rfl⟩

/-- Reading what was put. -/
@[simp] theorem progAt_putProg_self (n : Nat) (x : Program) (h : Hw) : progAt n (putProg n x h) = x := tget_tset_self ..
/-- Reading another. -/
theorem progAt_putProg_ne (n m : Nat) (x : Program) (h : Hw) (e : m ≠ n) : progAt m (putProg n x h) = progAt m h := tget_tset_ne _ _ _ _ _ e

/-- Reading what was put. -/
@[simp] theorem portAt_putPort_self (n : Nat) (x : Port) (h : Hw) : portAt n (putPort n x h) = x := tget_tset_self ..
/-- Reading another. -/
theorem portAt_putPort_ne (n m : Nat) (x : Port) (h : Hw) (e : m ≠ n) : portAt m (putPort n x h) = portAt m h := tget_tset_ne _ _ _ _ _ e

end Sys2Proof.Machine
end

