-- ==== Sys2Proof/Tests/Slice0.lean ====
section
/-! SUPPORT. The model's own tests. -/
open Sys2Proof Sys2Proof.Machine
namespace Sys2Proof.Tests
set_option Elab.async false

/-! ### Helpers -/

/-- A full call on the PCIe rings: ADMIN, with AUTH, FORCE and EXPERT. -/
def adm : Call := { hdr := { flags := 14 } }

/-- A state with an empty queue. -/
def st (h : Hw) : State := { hw := h }

/-- The hardware after reset, in another module state. -/
def inMode (m : ModState) (h : Hw := {}) : Hw := { h with mode := m }

/-- In SERVING, with a Bloom. -/
def srv (b : Image := {}) : Hw := { mode := .serving, cfg := { bloom := some b } }

/-! ### Witnesses: states and operands that meet the hypotheses of the statements, clause by clause -/

theorem witness_IdleStepIsOneTimeCycle :
    ((1953124 - 128 : Nat) + 128 < 1953125) ∧ (1953125 ≤ (1953125 - 128 : Nat) + 128) := by decide

theorem witness_TheQueueIsWorkedOff : State.reset.pending.length ≤ 0 := by decide

theorem witness_EveryStepPublishesTheStateWord : step State.reset = .next { State.reset with hw := settle (timeCycle State.reset.hw) } := rfl

theorem witness_GateRefusalsHaveNoEffect : gate cmdModReset adm (le 4 0) (inMode .serving) = some (stStateRefused, rcModStateIllegal) := by decide

theorem witness_NoCommandPassesAFailedCheck :
    gate cmdModIdentify adm [] (inMode .idle) = none
    ∧ gate cmdModReset { adm with hdr := { version := 1 } } (le 4 0) (inMode .idle) = some (0x0050, 0x0107)
    ∧ gate cmdModReset adm (le 4 0 ++ le 1 0) (inMode .idle) = some (stBadLength, rcModLength)
    ∧ gate cmdModReset { adm with privilege := 2 } (le 4 0) (inMode .idle) = some (stDenied, rcModPrivilege)
    ∧ gate cmdTimePortSet { adm with hdr := { flags := 2 } } (zeros 16) (inMode .idle) = some (stDenied, rcModExpertFlag)
    ∧ gate cmdModReset { adm with scope := some 1 } (le 4 0) (inMode .idle) = some (stDenied, rcModScope)
    ∧ gate cmdLupinStatus adm [] { mode := .idle, variant := 0x20 } = some (stAbsent, rcModAbsent)
    ∧ gate cmdModReset adm (le 4 0) (inMode .serving) = some (stStateRefused, rcModStateIllegal)
    ∧ gate cmdModReset adm (le 4 0x0100) (inMode .idle) = some (stBadParam, rcModReserved) := by
  repeat' apply And.intro
  all_goals decide +kernel


/-- A session of principal 63 on the PCIe rings. -/
def sess : Session := { number := 1, principal := 63, privilege := 3 }

theorem witness_PacketsRunInTheOrderOfTheirChecks :
    let on : Hw := { mode := .serving, keys := { slots := [(4, { state := 1 }), (5, { state := 1, use := 5 })] }, cmd := { sessions := [sess] } }
    let x : Packet := { hdr := { opcode := 0x0101, session := 1, sequence := 1 } }
    let bare : Packet := { hdr := { opcode := 0x0101, flags := 0 }, trailer := 0 }
    delivers .pcie on = true ∧ (keySlot 4 on).state ≠ 0 ∧ (step1 .pcie { x with hdr := { x.hdr with version := 3 } } on).isSome = true
    ∧ step1 .pcie x on = none ∧ (step2 .pcie { x with verifies := false } on).isOk = false ∧ (step2 .pcie x on).isOk = true
    ∧ seqOk (.session 1) 0 { on with cmd := { sessions := [{ sess with last := some 0 }] } } = false ∧ seqOk (.session 1) 1 on = true ∧ (cmdOf 0x0101).isSome = true ∧ (cmdOf 0x0100).isSome = false
    ∧ (step2 .pcie bare on).isOk = true
    ∧ delivers .pairing { on with cfg := { bloom := some { pair := some { key := some 5 } } } } = true
    ∧ step1 .pairing { x with hdr := { x.hdr with session := 0xFFFFFFFF }, trailer := 32 } { on with cfg := { bloom := some { pair := some { key := some 5 } } } } = none := by
  repeat' apply And.intro
  all_goals decide +kernel

theorem witness_AuthorityComesFromAuthentication :
    let on : Hw := { mode := .serving, cmd := { sessions := [sess] } }
    let x : Packet := { hdr := { opcode := 0x0101, session := 1, sequence := 1 } }
    (step2 .pcie x on).isOk = true ∧ (step2 .pcie { x with hdr := { opcode := 0x0101, flags := 0 }, trailer := 0 } on).isOk = true
    ∧ (step2 .pairing { x with hdr := { x.hdr with session := 0xFFFFFFFF } }
      { on with cfg := { bloom := some { pair := some { key := some (handleOf 5 { state := 1 }) } } }, keys := { slots := [(4, { state := 1 }), (5, { state := 1 })] } }).isOk = true
    ∧ (step2 .pcie { x with hdr := { x.hdr with session := 0 }, signer := 3 } { on with cfg := { bloom := some { access := [{ number := 3 }] } } }).isOk = true := by
  repeat' apply And.intro
  all_goals decide +kernel

theorem witness_SequencesAreSpentOnce : (5 : Nat) ≤ 5 ∧ ([sess].any (fun v => v.number == 1)) = true
    ∧ (let h : Hw := { time := { servo := .seeded } }
       seqOk (.signed 3) (30 * 2 ^ 32) h = true ∧ seqOk (.signed 3) (30 * 2 ^ 32 + 1) h = false
       ∧ seqOk .partner (2 ^ 64 - 30 * 2 ^ 32) h = true ∧ seqOk .partner (2 ^ 64 - 30 * 2 ^ 32 - 1) h = false
       ∧ seqOk .partner (31 * 2 ^ 32) { h with time := { servo := .unset } } = true) := by
  repeat' apply And.intro
  all_goals decide +kernel

theorem witness_CatalogueRows : (cmdOf 0x0100).isNone = true ∧ (cmdOf 0x1500).isNone = true ∧ (cmdOf 0x1484).isNone = true := by
  repeat' apply And.intro
  all_goals decide +kernel

theorem witness_ModCommandsComplete :
    Passes cmdModIdentify adm [] (st (inMode .idle))
    ∧ (let s := st { (srv) with time := { servo := .locked } }
       Passes cmdModSetState adm (le 1 5 ++ zeros 3) s ∧ Passes cmdModSetState adm (le 1 7 ++ zeros 3) s ∧ Passes cmdModSetState adm (le 1 6 ++ zeros 3) s)
    ∧ (let p := le 2 0 ++ le 1 3 ++ zeros 1 ++ le 4 3600 ++ zeros 168
       let s := st (srv { access := [{ number := 0, privilege := 3 }] })
       Passes cmdModSessionOpen adm p s ∧ (principal (u16 p 0) s.hw).isSome = true ∧ (liveSessions s.hw).length < 32)
    ∧ (let s := st { (srv) with cmd := { sessions := [sess] } }
       Passes cmdModSessionClose adm (le 4 1) s ∧ (s.hw.cmd.sessions.any (fun v => v.number == 1)) = true)
    ∧ Passes cmdModReset adm (le 4 1) (st (inMode .ready)) := by
  repeat' apply And.intro
  all_goals decide +kernel

theorem witness_CfgCommandsComplete :
    Passes cmdCfgStatus adm [] (st (srv))
    ∧ (let p := le 4 65537 ++ le 2 1 ++ le 2 2 ++ le 4 1 ++ zeros 4 ++ zeros 1
       Passes cmdCfgLoad adm p (st (srv)) ∧ u16 p 4 < u16 p 6 ∧ u16 p 6 = (u32 p 0 + 65535) / 65536)
    ∧ (let p := le 4 1 ++ le 2 0 ++ le 2 1 ++ le 4 1 ++ zeros 4 ++ zeros 1
       Passes cmdCfgLoad adm p (st (srv)) ∧ u16 p 6 = 1 ∧ u32 p 8 = u32 p 0)
    ∧ (let s := st { (srv {}) with mode := .idle, cfg := { bloom := some {}, bud := some {} }, keys := { slots := [(4, { state := 1 })] } }
       Passes cmdCfgSwap adm (zeros 16) s ∧ s.hw.mode = .idle ∧ checkSwap {} s.hw = none)
    ∧ (let p := le 8 48 ++ zeros 8
       let s := st { (srv) with cfg := { bloom := some {}, bud := some {} } }
       Passes cmdCfgSwap adm p s ∧ (100 * s.hw.time.now + 2 ^ 64) * fGrid s.hw ≤ u64 p 0 * 100 * 2 ^ 64
         ∧ u64 p 0 * 2 ^ 64 ≤ (s.hw.time.now + 86400 * 2 ^ 64) * fGrid s.hw ∧ u64 p 0 * gridHz 0 % fGrid s.hw = 0 ∧ checkSwap {} s.hw = none)
    ∧ Passes cmdCfgSwapCancel adm [] (st { (srv) with cfg := { swap := some {} } })
    ∧ (let b : Image := { fns := [{ slice := 1, index := 2 }] }
       let p := le 2 1 ++ le 2 2 ++ zeros 4
       Passes cmdCfgFnEnable adm p (st (srv b)) ∧ b.fns.find? (fun f => f.slice == u16 p 0 && f.index == u16 p 2) = some { slice := 1, index := 2 } ∧ u8 p 4 = 0)
    ∧ Passes cmdCfgCheck adm [] (st { (srv) with cfg := { bloom := some {}, bud := some {} } }) := by
  repeat' apply And.intro
  all_goals decide +kernel

theorem witness_Bar0WritesComplete :
    transportsLive (srv) = true ∧ bar0Live (srv) = true
    ∧ (let v : Word64 := 0x8000000000000602#64
       2 ≤ v.toNat % 16 ∧ v.toNat % 16 ≤ 10 ∧ v.toNat / 256 % 16 ≤ 6 ∧ v.getLsbD 63 = true)
    ∧ (srv).cmd.rspRing.enable = false ∧ (srv).cmd.cmdRing.enable = false
    ∧ (if true then ({ rspRing := { enable := true } } : CmdState).rspRing else ({} : CmdState).cmdRing).enable = true
    ∧ (0x0008 : Nat) ∉ [0x0010, 0x0018, 0x0020, 0x0028, 0x0030, 0x0038, 0x0100, 0x0108, 0x0200]
    ∧ (inMode .halted).mode = .halted ∧ 0x0FF8 % 8 = 0 ∧ 0x0200 < 0x0FF8 := by
  repeat' apply And.intro
  all_goals decide +kernel

theorem witness_ConnectionsAndSessionsEnd :
    transportsLive (srv) = true ∧ (srv { net := { tlsPair4 := true } }).cmd.tls.length < 8
    ∧ ((srv { net := { tlsPair4 := true } }).cfg.bloom.map (fun b => b.net.tlsPair4)) = some true
    ∧ (∀ t ∈ ([{ number := 0 }, { number := 6 }] : List TlsConn), t.number ≠ 7) := by
  repeat' apply And.intro
  all_goals decide +kernel

/-- The least image: its header and a signature, of the length it names. -/
def leastImage : List Byte :=
  let b : Image := {}
  le 1 b.version ++ le 1 b.grid ++ le 1 b.variants ++ le 1 b.steppings ++ le 2 b.compatMin ++ le 2 b.compatMax ++ le 4 196 ++ le 2 b.stage ++ le 2 b.stages
    ++ zeros 32 ++ le 4 b.sections ++ zeros 12 ++ zeros 132

theorem witness_LoadAndSwapEventsComplete :
    (let l : BudLoad := { checking := true, total := 196, fragments := 1, received := [(0, leastImage)] }
     l.checking = true ∧ checkImage (withHeader (loadBytes l) {}) { (srv) with cfg := { load := none }, keys := { slots := [(4, { state := 1 })] } } = none)
    ∧ checkSwap {} (srv) = none
    ∧ (let h := srv
       1 ∈ populated h ∧ 1 ∉ ([0] : List Nat) ∧ (∃ r ∈ populated h, r ∉ [0, 1]) ∧ (∀ r ∈ populated h, r ∈ [0, 2, 3, 4, 5, 6, 7] ++ [1]))
    ∧ (let w : Swap := { ks := 48, votes := [0] }
       let h := { (srv) with cfg := { swap := some w }, time := { now := instantTime 4800 46 } }
       instantTime (fGrid h) (w.ks - 2) ≤ h.time.now ∧ (populated h).find? (fun r => !w.votes.contains r) = some 1 ∧ h.mode ≠ .idle)
    ∧ (let h := { (srv) with cfg := { swap := some { ks := 48, committed := true }, bud := some {} }, time := { now := instantTime 4800 48 } }
       instantTime (fGrid h) 48 ≤ h.time.now)
    ∧ ({ bloom := some {}, storeDue := true } : CfgState).storeDue = true := by
  repeat' apply And.intro
  all_goals decide +kernel


theorem witness_TimeCommandsComplete :
    Passes cmdTimeStatus adm [] (st (srv)) ∧ Passes cmdTimeRead adm [] (st (srv))
    ∧ Passes cmdTimeSet adm (zeros 16) (st (inMode .idle)) ∧ (inMode .idle).time.servo = .unset
    ∧ (let p := le 1 2 ++ le 1 0 ++ le 1 1 ++ le 1 1 ++ le 1 1 ++ le 1 2 ++ zeros 2
       Passes cmdTimeProfile adm p (st (inMode .idle)) ∧ u8 p 0 ∈ [1, 2] ∧ u8 p 5 ≤ 2)
    ∧ (let p := le 1 15 ++ zeros 19 ++ le 4 4 ++ zeros 16
       let h := { (srv) with time := { servo := .seeded } }
       Passes cmdTimeTeuConfig adm p (st h) ∧ (tget h.time.teus 15 {}).armed = false ∧ teuRange (teuOf p) (u8 p 2) = none ∧ ballHolder (u8 p 1) (u8 p 0) h = none ∧ u8 p 1 ≠ 8)
    ∧ (let h := { (srv) with time := { teus := [(15, { armed := true })] } }
       Passes cmdTimeTeuStop adm (le 1 15 ++ zeros 3) (st h) ∧ (tget h.time.teus 15 {}).armed = true ∧ (tget h.time.teus 15 {}).pulse = none
       ∧ ballTarget 5 = true ∧ ballTarget 0 = false
       ∧ (let g := { (srv) with time := { teus := [(15, { armed := true, pulse := some 0 })] } }
          Passes cmdTimeTeuStop adm (le 1 15 ++ zeros 3) (st g) ∧ (tget g.time.teus 15 {}).pulse ≠ none))
    ∧ Passes cmdTimeCaptureRead adm (le 1 5 ++ le 1 16 ++ zeros 2) (st (srv))
    ∧ (let p := le 4 0x3F800000 ++ le 4 0x3C23D70A ++ le 4 500000 ++ le 2 70 ++ zeros 2
       let h := inMode .idle
       Passes cmdTimeServoSet adm p (st h) ∧ 1000 ≤ u32 p 8 ∧ u32 p 8 ≤ 500000 ∧ u16 p 12 ≠ 0 ∧ stable (f32 p 0) (f32 p 4) h.time = true)
    ∧ (let h := { (srv) with time := { servo := .holdover } }
       Passes cmdTimeSetIncrement adm (le 8 incMax) (st h) ∧ incMin ≤ u64 (le 8 incMax) 0)
    ∧ (Passes cmdTimePortSet adm (le 1 10 ++ le 1 1 ++ zeros 14) (st (inMode .idle)) ∧ bit 1 1 = false)
    ∧ (let p := le 1 10 ++ zeros 3 ++ leInt 4 (-20000)
       Passes cmdTimeIoDelaySet adm p (st (inMode .idle)) ∧ s32 p 4 = -20000) := by
  repeat' apply And.intro
  all_goals decide +kernel

theorem witness_ServoTransitions :
    agreed (List.replicate 8 0) = true ∧ agreed ([0] : List Int) = false ∧ 2 ^ 64 < ((2 : Int) ^ 64 / 1000 + 1).natAbs * 1000
    ∧ ((2 : Int) ^ 64 / 1000).natAbs * 1000 ≤ 2 ^ 64
    ∧ (let t : TimeState := { servo := .acquiring, source := 1, within := 15 }
       let seen : Hw := { (srv) with time := { t with recent := [0] } }
       16 ≤ (discipline 0 seen).time.within + 1 ∧ (discipline 0 { seen with time := { seen.time with within := 14 } }).time.within + 1 < 16)
    ∧ sourceUsable 1 (srv) = true ∧ sourceUsable 2 { (srv) with time := { irig := some (0, true) } } = true ∧ sourceUsable 2 (srv) = false
    ∧ (let h : Hw := { (srv) with time := { source := 2 } }
       preferred 1 h = true ∧ preferred 2 { h with time := { source := 1 } } = false ∧ agreed ([0] : List Int) = false)
    ∧ (let h : Hw := { (srv) with time := { source := 2, servo := .locked, ppsAt := some 0, mono := 3 * 2 ^ 64 } }
       sourceSilent h = true ∧ sourceSilent { h with time := { h.time with mono := 3 * 2 ^ 64 - 1 } } = false)
    ∧ ({ servo := .fault, confirmed := some 0 } : TimeState).confirmed = some 0 := by
  repeat' apply And.intro
  all_goals decide +kernel

theorem witness_TimingEventsComplete :
    let h : Hw := { (srv) with time := { mono := nsUnits 1000 } }
    let edge : Rat := ((h.time.mono / 36893488147 * 2 : Nat) : Rat) - mkRat (0 * 8 * 2) 1
    (edge - 0 < 20) = false ∧ (edge - (edge - 22) < 24) = true ∧ (edge - (edge - 22) < 20) = false ∧ (edge - (edge - 19) < 20) = true
    ∧ 16 ≤ (List.replicate 16 ({} : Capture40)).length
    ∧ (let u : Teu := { armed := true, next := 0 }
       teuDue { (srv) with time := { servo := .locked, teus := [(15, u)] } } u = true)
    ∧ (let h := { (srv) with time := { slavePort := some 0, ports := [(10, { ptp := true, role := 3 })] } }
       (tget h.time.ports 10 {}).ptp = true ∧ (tget h.time.ports 10 {}).l1sync = false ∧ ({} : PtpMessage).domain = h.time.domain ∧ (tget h.time.ports 10 {}).role = 3
       ∧ h.time.slavePort ≠ none ∧ h.time.stepMode ≤ 1)
    ∧ ({ domain := 1 } : PtpMessage).domain ≠ ({} : TimeState).domain
    ∧ (let t : TimeState := { ports := [(8, { role := 2 }), (9, { role := 1 })] }
       (tget t.ports 9 {}).role = 1 ∧ (tget t.ports 8 {}).role = 2) ∧ (netPair 4 (srv)).mode = 0
    ∧ 7 ∈ [2, 3, 6, 7] ∧ 4 ∉ [2, 3, 6, 7] ∧ follows (false, false) 59 0 = true ∧ follows (false, false) 59 1 = false ∧ follows (true, false) 59 60 = true ∧ follows (false, true) 58 0 = true := by
  repeat' apply And.intro
  all_goals decide +kernel

theorem witness_RtcCommandsComplete :
    Passes cmdRtcStatus adm (zeros 4) (st (srv)) ∧ Passes cmdRtcSet adm (zeros 8) (st (inMode .idle))
    ∧ Passes cmdRtcClearOsf adm [] (st { (inMode .idle) with rtc := { status := withBit 0x4003#32 aonTimeSet true } })
    ∧ (withBit 0x4003#32 aonTimeSet true).getLsbD aonTimeSet = true
    ∧ Passes cmdRtcCapture adm [] (st (srv)) ∧ (srv).rtc.lastShift = none
    ∧ (let p := leInt 2 (-32767) ++ zeros 2
       Passes cmdRtcShift adm p (st (srv)) ∧ s16 p 0 = -32767)
    ∧ Passes cmdRtcAlarmSet adm (le 1 1 ++ le 1 1 ++ zeros 14) (st (srv))
    ∧ (Passes cmdRtcWakeSet adm (le 4 16588800) (st (srv)) ∧ u32 (le 4 16588800) 0 ≤ 16588800)
    ∧ Passes cmdRtcSqwSet adm (le 1 3 ++ zeros 3) (st (srv))
    ∧ Passes cmdRtcDisciplineSet adm (le 2 3600 ++ le 1 1 ++ zeros 1) (st (inMode .idle))
    ∧ ¬((srv).rtc.discipline = true ∧ ((srv).time.servo = .acquiring ∨ (srv).time.servo = .locked)) ∧ (srv).rtc.oscStopped = false := by
  repeat' apply And.intro
  all_goals decide +kernel

theorem witness_IslandEventsComplete :
    (let r : RtcState := { alarms := [(1, { armed := true })] }
     (tget r.alarms 1 {}).armed = true ∧ (tget r.alarms 1 {}).at_ ≤ r.count)
    ∧ wakeDue { (srv) with rtc := { wakeP := 1, wakeFrom := 0, count := 32768 * 10, wakePassed := 1 } } = true
    ∧ ({} : RtcState).discipline = true ∧ ({} : RtcState).oscStopped = false ∧ ({} : RtcState).lastPass = none
    ∧ 4000 ≤ (4000 : Nat) ∧ (3999 : Nat) < 4000 ∧ aonCauseFirst ∈ [aonCauseFirst, aonCauseDip, aonCauseOsc] ∧ ({ vaon := true } : RtcState).vaon = true
    ∧ (let r : RtcState := { vaon := false, vbat := false }
       ¬(r.vaon = true ∨ r.vbat = true) ∧ r.holdup = none) ∧ ({} : RtcState).railFell = false ∧ 199999 < (200000 : Nat) ∧ ({ vaon := false, vbat := true } : RtcState).vbat = true
    ∧ (let r : RtcState := { write := some 5, shift := none }
       r.write = some 5 ∧ r.writeStation = false) ∧ ({ writeStation := true } : RtcState).writeStation = true ∧ ({ shift := some (-1) } : RtcState).shift = some (-1)
    ∧ ({} : RtcState).write = none ∧ ({} : RtcState).writeStation = false ∧ ({} : RtcState).shift = none := by
  repeat' apply And.intro
  all_goals decide +kernel

theorem witness_DisciplineKeepsTheClock :
    (let h := { (inMode .idle) with time := { servo := .locked } }
     h.rtc.discipline = true ∧ Passes cmdRtcSet adm (zeros 8) (st h) ∧ Passes cmdRtcShift adm (leInt 2 (-32767) ++ zeros 2) (st h)) := by
  repeat' apply And.intro
  all_goals decide +kernel


/-- One stream of one current channel on pair 0, and its Bloom. -/
def stream0 : StreamConfig := { channels := [{ kind := 0 }] }
def rowBloom : Image := { streams := [stream0] }

/-- A frame of that stream. -/
def frame0 : SvFrame := { asdus := [{ smpCnt := 0, values := [(1, 0)] }] }

/-- A change-over to a Bloom without streams, with instants 0 to 9 of the Bloom before still to come. -/
def old0 : OldBloom := { image := rowBloom, streams := [(0, {})], endK := 10 }
def changed : Hw := { (srv) with cfg := { bloom := some {}, bloomSeq := 1, old := some old0 } }

theorem witness_IngestCommandsComplete :
    let h := srv rowBloom
    Passes cmdIngestStatus adm [] (st h)
    ∧ (Passes cmdIngestStreamStatus adm (zeros 4) (st h) ∧ (subscription 0 h).isSome = true)
    ∧ (Passes cmdIngestStreamStatus adm (le 2 1 ++ zeros 2) (st h) ∧ subscription 1 h = none)
    ∧ Passes cmdIngestPortCounters adm (le 1 7 ++ zeros 3) (st h)
    ∧ (let g := { h with ing := { ring := [{ k := 5, settled := some (0, false) }], nextSettle := 6 } }
       Passes cmdIngestRowRead adm (le 8 5 ++ le 2 0 ++ le 2 1024 ++ zeros 4) (st g) ∧ (settledRow 5 g).isSome = true)
    ∧ Passes cmdIngestBlock adm (le 2 0 ++ le 1 1 ++ zeros 1) (st h)
    ∧ Passes cmdIngestSimSet adm (le 1 1 ++ zeros 3) (st (inMode .test h))
    ∧ (let p := le 2 0 ++ le 1 3 ++ le 1 8 ++ le 4 2000000 ++ le 8 1 ++ zeros 8
       Passes cmdIngestStreamTune adm p (st h) ∧ ∀ r ∈ ([{ k := 0 }] : List Row), r.k < u64 p 8) := by
  repeat' apply And.intro
  all_goals decide +kernel

theorem witness_FramesAreCheckedAndCounted :
    let h := srv rowBloom
    ingestRuns (inMode .idle) = false ∧ ¬(19 < 8) ∧ ingestRuns h = true ∧ 2000000 < (2000000 + 1 : Nat) ∧ (1 : Nat) ≤ 2000000
    ∧ matching { frame0 with appid := 1 } h = none ∧ matching frame0 h = some (stream0, 0)
    ∧ portMatch stream0 2 = false ∧ portMatch stream0 1 = true ∧ wellFormedFrame stream0 { frame0 with asdus := [] } = false
    ∧ wellFormedFrame stream0 frame0 = true ∧ ({ frame0 with confRev := 1 } : SvFrame).confRev ≠ stream0.confRev
    ∧ authVerdict stream0 frame0 h = (none, 0, false) ∧ simDrops {} { frame0 with sim := true } h = true ∧ simDrops {} frame0 h = false
    ∧ ({ blocked := true } : Stream).blocked = true ∧ streamShut 0 h = false
    ∧ matching frame0 changed = none ∧ oldMatch frame0 changed = some (old0, stream0, 0) ∧ oldNeeds frame0 old0 stream0 0 changed = true ∧ h.cfg.old = none := by
  repeat' apply And.intro
  all_goals decide +kernel

theorem witness_RowsOpenAndSettle :
    let h := srv rowBloom
    let late : Hw := { h with time := { now := secUnit } }
    openDue 0 late = true ∧ late.ing.nextOpen ≤ 0 ∧ openDue 1 h = false
    ∧ (let r : Row := { k := 0 }
       let g : Hw := { late with ing := { open_ := [r] } }
       subscription 0 g = some stream0 ∧ g.ing.open_.find? (fun r => r.k == 0) = some r ∧ tfind r.parts 0 = none
         ∧ horizonAt stream0 (streamAt 0 g) (fGrid g) 0 < exact g.time.now)
    ∧ exact h.time.now ≤ horizonAt stream0 (streamAt 0 h) (fGrid h) 0
    ∧ (let g : Hw := { h with ing := { open_ := [{ k := 0, width := 8, parts := [(0, .arrived 0)] }] } }
       (g.ing.open_.filter (due? g)) ≠ [])
    ∧ (let g : Hw := { changed with time := { now := secUnit } }
       changed.cfg.old = some old0 ∧ old0.nextOpen ≤ 0 ∧ 0 < old0.endK ∧ openDue 0 (oldView old0 g) = true ∧ oldToOpen 0 h = false ∧ oldOpen 0 h = false
       ∧ oldOpen 0 { g with ing := { open_ := [{ k := 0 }] } } = true) := by
  repeat' apply And.intro
  all_goals decide +kernel


/-- A defined loop instance with profile 2 on a 4,800 Hz grid, in a state with its stream. -/
def loop0 : LoopInst := { defined := true, params := applyProfile 2 4800 {}, memories := [{ taps := List.replicate 96 0#32 }] }
def withLoop (i : LoopInst := loop0) : Hw := { (srv rowBloom) with loop := { insts := [(0, i)] } }

theorem witness_LoopCommandsComplete :
    let h := withLoop
    definedLoop 0 h = some loop0 ∧ Passes cmdLoopStatus adm (zeros 4) (st h) ∧ Passes cmdLoopProfile adm (zeros 2 ++ le 1 3 ++ zeros 1) (st h)
    ∧ Passes cmdLoopReset adm (zeros 4) (st h)
    ∧ (Passes cmdLoopMemoryRead adm (zeros 4 ++ le 2 95 ++ le 2 1024) (st h) ∧ (memoryOf loop0 0).isSome = true ∧ 95 < loop0.params.taps)
    ∧ (let ff := le 4 0xFFFFFFFF
       let p := zeros 4 ++ (List.replicate 10 ff).flatten ++ zeros 4 ++ ff ++ ff ++ zeros 8
       let q := tunedParams p (comingParams loop0)
       Passes cmdLoopTune adm p (st h) ∧ loopRange q = true ∧ loopLimits q = true ∧ loopStable q = true ∧ q.taps = loop0.params.taps
         ∧ loopWords (streamsOf h) ((0, q.taps) :: (h.loop.insts.filter (fun e => e.2.defined && e.1 != 0)).map (fun e => (e.1, (comingParams e.2).taps))) ≤ loopPool)
    ∧ comingParams { loop0 with swapNext := some (9, { loop0.params with taps := 4 }) } = { loop0.params with taps := 4 }
    ∧ Passes cmdLoopReset adm (le 2 0xFFFF ++ zeros 2) (st h)
    ∧ (let n := le 2 127 ++ zeros 2
       definedLoop 127 h = none ∧ Passes cmdLoopStatus adm n (st h) ∧ Passes cmdLoopProfile adm n (st h) ∧ Passes cmdLoopReset adm n (st h)
         ∧ Passes cmdLoopMemoryRead adm (n ++ zeros 4) (st h) ∧ Passes cmdLoopTune adm (n ++ zeros 60) (st h)) := by
  repeat' apply And.intro
  all_goals decide +kernel

theorem witness_LoopStepsInRowOrder :
    let r : Row := { k := 7, settled := some (0, false) }
    let h : Hw := { withLoop with ing := { ring := [r], nextSettle := 8 } }
    (tget h.loop.insts 127 {}).defined = false ∧ ({ loop0 with grid := 14400 } : LoopInst).grid ≠ 0 ∧ loop0.grid = 0 ∧ loop0.params.source = none ∧ nextLoopRow loop0 withLoop = none ∧ nextLoopRow loop0 h = some r
    ∧ (let i := { loop0 with params := { loop0.params with source := some 3 } }
       i.defined = true ∧ i.params.source = some 3 ∧ nextLoopRow i h = some r ∧ h.ing.ring.length ≤ 4096
         ∧ ((r.settled.map (fun e => e.1)).getD 0) + nsUnits 10000000 ≤ secUnit ∧ h.time.now < ((r.settled.map (fun e => e.1)).getD 0) + nsUnits 10000000) := by
  repeat' apply And.intro
  all_goals decide +kernel


/-- A filter chain in a state of its own. -/
def withChain (x : Chain) : Hw := { (srv rowBloom) with filt := { chains := [(0, x)] } }

theorem witness_FiltCommandsComplete :
    let fir : FiltStage := { kind := 3, taps := 2, coefs := [(0, 0#32), (1, 0#32)] }
    let stopped : Chain := { cfg := { inputs := [0], stages := [fir] } }
    let fast : Chain := { cfg := { fast := true, inputs := [0], stages := [fir] } }
    let h := withChain stopped
    tfind h.filt.chains 0 = some stopped
    ∧ Passes cmdFiltStatus adm (zeros 4) (st h) ∧ Passes cmdFiltStart adm (zeros 4) (st h) ∧ ({ stopped with state := 1 } : Chain).state ≠ 0
    ∧ stopped.cfg.stages ≠ [] ∧ coefsOk stopped.cfg.stages = true
    ∧ loadsOk ((h.filt.chains.filter (fun e => e.2.state != 0 || e.1 == 0)).map (fun e => (e.2.cfg, chainRate e.2.cfg h))) = true
    ∧ Passes cmdFiltStop adm (zeros 4) (st h)
    ∧ Passes cmdFiltProfile adm (le 1 0 ++ le 1 1 ++ zeros 2) (st (withChain fast)) ∧ Passes cmdFiltProfile adm (le 1 0 ++ le 1 3 ++ zeros 2) (st h)
    ∧ poolWords [{ kind := 1, order := 5, decimation := 125 }, { kind := 2, decimation := 2, taps := 23 }] ≤ 32768
    ∧ (fGrid h + slotNominal 0 h / 2) / slotNominal 0 h ≤ 256
    ∧ Passes cmdFiltStageSet adm (le 1 0 ++ le 1 7 ++ zeros 14) (st h)
    ∧ (let p := le 1 0 ++ le 1 1 ++ le 1 3 ++ zeros 1 ++ le 2 1 ++ le 2 16 ++ zeros 8
       let new : FiltStage := { kind := u8 p 2, order := u8 p 3, decimation := u16 p 4, taps := u16 p 6, delay := f32 p 8 }
       Passes cmdFiltStageSet adm p (st h) ∧ u8 p 2 = 3 ∧ u8 p 3 = 0 ∧ stageRange new = true ∧ u8 p 1 ≤ stopped.cfg.stages.length
         ∧ cascadeOk false [fir, new] = true ∧ inputsOk false [0] (rateNow h) (8 * (streamsOf h).length) = true ∧ poolWords [fir, new] ≤ 32768)
    ∧ (let p := le 1 0 ++ le 1 0 ++ le 2 0 ++ le 2 2 ++ zeros 10
       Passes cmdFiltCoefLoad adm p (st h) ∧ u16 p 2 + u16 p 4 ≤ fir.taps ∧ 1 ≤ u16 p 4)
    ∧ (let p := le 1 0 ++ le 1 0 ++ le 1 1 ++ le 1 3 ++ zeros 8 ++ le 2 1000 ++ zeros 2
       Passes cmdFiltThresholdSet adm p (st h) ∧ u8 p 1 < stopped.cfg.inputs.length ∧ fLe 0#32 (f32 p 8) = true)
    ∧ (let x : Chain := { stopped with ring := List.replicate 64 {}, newest := 63 }
       let p := le 4 0 ++ zeros 4 ++ le 4 0 ++ le 4 64
       Passes cmdFiltRead adm p (st (withChain x)) ∧ x.newest + 1 - x.ring.length ≤ u32 p 8 ∧ u32 p 8 + u32 p 12 ≤ x.newest + 1) := by
  repeat' apply And.intro
  all_goals decide +kernel

theorem witness_FilterOutputsAreKeptAndCompared :
    (chainAt 0 (srv)).formed = [] ∧ (chainAt 0 (withChain { formed := [{}] })).formed = {} :: [] ∧ ({} : FiltOut).flags % 4 = 0 ∧ ({ flags := 1 } : FiltOut).flags % 4 ≠ 0 := by
  repeat' apply And.intro
  all_goals decide +kernel

theorem witness_RunningChainsAreNotRestructured :
    let h := withChain { state := 3 }
    Passes cmdFiltCoefLoad adm (zeros 4 ++ le 2 1 ++ zeros 6) (st h) ∧ Passes cmdFiltStageSet adm (zeros 16) (st h) ∧ Passes cmdFiltProfile adm (zeros 4) (st h)
    ∧ (match cmdFiltProfile.body adm (le 1 0 ++ le 1 3 ++ zeros 2) (withChain { cfg := { inputs := [0] } }) with | .ok _ _ => true | _ => false) = true := by
  repeat' apply And.intro
  all_goals decide +kernel


/-- One converter link of one lane and four converters, and a capture of that channel. -/
def link0 : LinkConfig := { converters := 4, octets := 8, enable := 1, fs := 20000000 }
def capture0 : CaptureConfig := { channels := 1, pre := 10, post := 10 }
def withAcq (l : LinkInst) (c : Capture) : Hw := { (srv) with acq := { links := [(0, l)], captures := [(0, c)] } }

theorem witness_AcqCommandsComplete :
    let h := withAcq { cfg := link0 } { cfg := capture0 }
    let r : CapRecord := { number := 7, data := zeros 8 }
    let store : Hw := { h with acq := { h.acq with records := [r] } }
    Passes cmdAcqStatus adm (zeros 4) (st h) ∧ (tfind h.acq.captures 0).isSome = true
    ∧ Passes cmdAcqLinkStatus adm (zeros 4) (st h) ∧ (tfind h.acq.links 0).isSome = true
    ∧ Passes cmdAcqArm adm (zeros 4) (st h) ∧ segmentsFree h = true ∧ fitsRing (captureAt 0 h) (wantSegments h) h = true
    ∧ Passes cmdAcqArm adm (le 1 0xFF ++ zeros 3) (st h) ∧ Passes cmdAcqArm adm (zeros 4) (st (withAcq { cfg := link0 } { state := 1 }))
    ∧ Passes cmdAcqStop adm (zeros 4) (st h)
    ∧ (let p := le 1 0xFF ++ zeros 7 ++ le 8 1 ++ le 8 (2 ^ 40 - 1)
       Passes cmdAcqTrigger adm p (st h) ∧ u64 p 16 < 2 ^ 40 ∧ ringOldest h = none)
    ∧ (let p := le 4 7 ++ le 4 0 ++ le 4 8
       Passes cmdAcqRecordRead adm p (st store) ∧ store.acq.records.find? (fun r => r.number == u32 p 0) = some r ∧ u32 p 4 + u32 p 8 ≤ r.data.length)
    ∧ (let p := le 4 7 ++ le 1 1 ++ zeros 3
       Passes cmdAcqRecordLock adm p (st store) ∧ lockedBytes store.acq.records + recordBytes r ≤ (acqSection store).storeBytes / 2)
    ∧ Passes cmdAcqProfile adm (zeros 1 ++ le 1 3 ++ zeros 2) (st h) ∧ ((List.range 32).filter (fun j => chanEnabled j h)).head? = some 0
    ∧ (let p := le 1 15 ++ le 1 2 ++ le 1 15 ++ zeros 1 ++ le 4 1 ++ le 4 0 ++ le 4 1 ++ le 4 60000 ++ le 2 2000 ++ le 2 511 ++ zeros 1 ++ le 1 4 ++ zeros 14
         ++ le 2 0xFFFF ++ zeros 22
       Passes cmdAcqCaptureSet adm p (st h) ∧ (captureAt 15 h).state = 0 ∧ (∀ j < 32, bit (u32 p 4) j = true → chanEnabled j h = true)
         ∧ 1 ≤ u32 p 12 ∧ u32 p 16 ≤ 60000 ∧ u8 p 25 ≤ 4 ∧ u16 p 40 = 0xFFFF ∧ ∀ x ∈ [u16 p 32, u16 p 34, u16 p 36, u16 p 38], x &&& 0x7C00 = 0)
    ∧ (let v (t : Nat) := le 4 t ++ zeros 4
       let p := zeros 2 ++ le 1 0 ++ le 1 1 ++ le 1 2 ++ le 1 2 ++ zeros 2 ++ v 0 ++ v 1 ++ v 0 ++ v 1
       Passes cmdAcqMaskSet adm p (st h) ∧ risingTimes (readVertices p 8 2) = true ∧ risingTimes (readVertices p 24 2) = true)
    ∧ (Passes cmdAcqLinkSet adm (zeros 24) (st (inMode .idle h)))
    ∧ (let p := le 1 0 ++ le 1 1 ++ le 1 0 ++ le 1 4 ++ le 1 8 ++ le 1 1 ++ le 1 1 ++ le 1 0 ++ le 4 20000000 ++ le 2 4095 ++ le 1 1 ++ zeros 1 ++ le 4 1 ++ zeros 4
       let k : LinkConfig := { lanes := u8 p 1, first := u8 p 2, converters := u8 p 3, octets := u8 p 4, samples := u8 p 5, blocks := u8 p 6, rbd := u8 p 7
                               fs := u32 p 8, latency := u16 p 12, realign := bit (u8 p 14) 0, enable := u32 p 16 }
       Passes cmdAcqLinkSet adm p (st (inMode .idle h)) ∧ linksOk [k] (sysrefPeriod h) = true ∧ u16 p 12 = 4095 ∧ k.lanes ≠ 0)
    ∧ (captureAt 0 h).state = 0
    ∧ Passes cmdAcqProfile adm (zeros 4) (st (withAcq {} { state := 4 }))
    ∧ Passes cmdAcqMaskSet adm (zeros 4 ++ le 1 2 ++ le 1 2 ++ zeros 34) (st (withAcq {} { state := 4 })) := by
  repeat' apply And.intro
  all_goals decide +kernel

theorem witness_LinksClimbInOrder :
    (let at_ (n : Nat) : LinkInst := { cfg := link0, state := n }
     (at_ 0).cfg.lanes ≠ 0 ∧ (at_ 0).state = 0 ∧ (at_ 1).state ≠ 0 ∧ (at_ 1).state = 1 ∧ (at_ 4).state ≠ 1
     ∧ (linkAt 0 (withAcq (at_ 2) {})).state = 2 ∧ 3 ∉ ([0] : List Nat) ∧ ((at_ 4).state = 4 ∧ 0 ∈ ([0] : List Nat) ∧ (at_ 4).cfg.realign = false)
     ∧ (linkAt 0 (withAcq (at_ 3) {})).state = 3
     ∧ (linkAt 0 (withAcq (at_ 2) {})).since + 2 * secUnit ≤ ({ (withAcq (at_ 2) {}) with time := { mono := 2 * secUnit } } : Hw).time.mono
     ∧ (at_ 2).reported = false ∧ ({ (at_ 2) with reported := true } : LinkInst).reported = true ∧ (linkAt 0 (withAcq (at_ 2) {})).state ≠ 3)
    ∧ (let u : Teu := { cfg := { target := 1 }, lastN := some 0 }
       let h : Hw := { (srv) with time := { teus := [(0, u)] } }
       sysrefFired (to40 (edgeFine u 0 / 10 ^ 12)) h = true ∧ sysrefFired 5 (srv) = false)
    ∧ (realignDown { link0 with realign := true } = false ∧ realignDown { link0 with lanes := 1, converters := 8, fs := 125000000, blocks := 9, realign := true } = true)
    ∧ (let x : LinkInst := { cfg := link0, state := 3 }
       let due (now : Int) : Prop := ((alignSample x * x.cfg.octets + x.cfg.rbd * x.cfg.samples : Nat) : Int) * 2 ^ 64 ≤ (now - x.shift) * x.cfg.octets * x.cfg.fs
       due (2 ^ 64) ∧ ¬due 0) := by
  repeat' apply And.intro
  all_goals decide +kernel

theorem witness_CapturesGatherCollectAndCommit :
    let data : LinkInst := { cfg := link0, state := 4 }
    let x : Capture := { cfg := capture0 }
    data.state = 4 ∧ (List.replicate 4 ((5 : Int), false)).length = data.cfg.converters ∧ ({ data with state := 3 } : LinkInst).state ≠ 4
    ∧ ({ (srv) with acq := { inFlight := [{}] } } : Hw).acq.inFlight[0]? = some ({} : Trigger)
    ∧ (let c : Capture := { x with state := 1 }
       let g : Hw := { (withAcq data c) with time := { now := secUnit } }
       let t (n : Nat) : Trigger := { source := .command none, time := n }
       (captureAt 0 g).state = 1 ∧ selects 0 c.cfg (t 0).source = true ∧ selects 0 c.cfg (.command (some 1)) = false
       ∧ to40 g.time.now + 2 ^ 40 < (t (2 ^ 41 + 1)).time ∧ to40 g.time.now < (t (2 ^ 41)).time ∧ (t (2 ^ 41)).time ≤ to40 g.time.now + 2 ^ 40 ∧ (t (2 ^ 40)).time ≤ to40 g.time.now
       ∧ captureLinks c g = [0] ∧ sampleThere (t 0).time 0 g = true
       ∧ (0 : Nat) < c.accepted + nsUnits (c.cfg.gatherUs * 1000) ∧ (t 0).time < ({ c with trigger := t 1 } : Capture).trigger.time)
    ∧ (let g := withAcq data { x with state := 2 }
       (captureAt 0 g).state = 2 ∧ g.time.mono < nsUnits 1000000 ∧ x.accepted + nsUnits (x.cfg.gatherUs * 1000) ≤ nsUnits 1000000)
    ∧ (let c : Capture := { x with state := 3, truncated := true }
       (captureAt 0 (withAcq data c)).state = 3 ∧ c.truncated = true)
    ∧ (let c : Capture := { x with state := 4 }
       let g := withAcq data c
       (captureAt 0 g).state = 4 ∧ (makeRoom 1 0 16777216 []).isSome = true ∧ makeRoom 1 16777217 16777216 [] = none)
    ∧ (let c : Capture := { x with state := 1, since := some 0, cfg := { capture0 with mode := 1 } }
       c.since = some 0 ∧ c.cfg.mode = 1 ∧ nsUnits (c.cfg.timeoutMs * 1000000) ≤ secUnit)
    ∧ (let h : Hw := { (srv { acq := { groups := [(1, { key := some (handleOf 16 { use := 5 }) })] }, constellation := some {} }) with
         keys := { slots := [(16, { state := 1, use := 5 })] } }
       let m : CrossMessage := { group := 1 }
       chainsRun h = true ∧ m.authentic = true ∧ groupKeyUsable m.group h = true ∧ m.version = 1 ∧ h.const.dissenting = false ∧ bit m.flags 1 = false
         ∧ bit m.flags 0 = (h.mode == .test) ∧ boundPeer (fun b => b.groups) m.group h = none ∧ (constOf h).isSome = true ∧ m.sequence ∉ tget h.acq.seen 1 [] ∧ m.sequence ∈ tget [(1, [0])] 1 []) := by
  repeat' apply And.intro
  all_goals decide +kernel


/-- A line with a partner, under a key, and a committed record with a steep step in its first channel. -/
def lineHw : Hw :=
  { (srv { acq := { links := [(0, link0)] }, constellation := some { bindings := [{ peer := 9, lines := [0] }] } }) with
    moduleId := 1
    keys := { slots := [(16, { state := 1, use := 5 })] }
    const := { manifest := some { entries := [{ moduleId := 9 }] }, peers := [(9, {})] }
    phasor := { lines := [(0, { cfg := { partner := some (9, 3), key := some (handleOf 16 { use := 5 }) } })] }
    acq := { records := [{ number := 5, channels := 7, fs := 1000000, samples := 8, header := zeros 64, first := 100,
                           data := ([0, 0, 0, 0, 9000, 9000, 9000, 9000].map (fun (v : Nat) => le 2 v ++ zeros 4)).flatten }] } }

/-- A partner's record for that line that passes every check. -/
def partnerRecord : List Byte :=
  le 1 1 ++ zeros 1 ++ le 2 9 ++ le 2 1 ++ le 1 3 ++ le 1 0 ++ zeros 48 ++ le 4 0x47C35000 ++ le 4 0x43948000 ++ zeros 64

theorem witness_PhasorAndLocCommandsComplete :
    let x : Synchro := { cfg := { blocks := [{}] } }
    let full : LineConfig := { voltages := [0, 1, 2], currents := [4, 5, 6] }
    let h : Hw := { (srv rowBloom) with phasor := { streams := [(0, x)], ring := [{ k := 3, width := 8 }], lines := [(0, { cfg := full })] } }
    let off : Hw := { h with phasor := { streams := [(0, { x with enabled := false })] } }
    let res : Hw := { h with phasor := { lines := [(0, { results := [{ number := 2 }], sentRecords := [(4, zeros 128)] })] } }
    (tfind h.phasor.streams 0).isSome = true ∧ Passes cmdPhasorStatus adm (zeros 4) (st h) ∧ Passes cmdPhasorStreamSet adm (zeros 1 ++ le 1 1 ++ zeros 2) (st h)
    ∧ (let p := zeros 1 ++ le 1 1 ++ le 2 200 ++ zeros 12
       Passes cmdPhasorTune adm p (st h) ∧ Passes cmdPhasorTune adm p (st off) ∧ rateOk (slotNominal 0 off) 200 1 false = true ∧ synchroLoad { x.cfg with rate := 200 } ≤ 491520)
    ∧ Passes cmdPhasorRead adm (le 8 3 ++ le 2 7 ++ le 2 1 ++ zeros 4) (st h) ∧ h.phasor.ring.find? (fun r => r.k == 3) = some { k := 3, width := 8 }
    ∧ (let n := le 1 63 ++ zeros 3
       tfind h.phasor.streams 63 = none ∧ Passes cmdPhasorStatus adm n (st h) ∧ Passes cmdPhasorStreamSet adm n (st h) ∧ Passes cmdPhasorTune adm (n ++ zeros 12) (st h))
    ∧ Passes cmdLocStatus adm (zeros 4) (st h)
    ∧ (Passes cmdLocResultRead adm (zeros 4 ++ le 4 2) (st res) ∧ ([{ number := 2 }] : List LocResult).find? (fun r => r.number == 2) = some { number := 2 })
    ∧ (Passes cmdLocArrivalRead adm (zeros 4 ++ le 4 4) (st res) ∧ (tfind [(4, zeros 128)] 4).isSome = true)
    ∧ (let p := zeros 2 ++ le 2 30000 ++ zeros 28
       let bad := zeros 2 ++ le 2 30001 ++ zeros 28
       Passes cmdLocLineSet adm p (st h) ∧ Passes cmdLocLineSet adm bad (st h) ∧ lineOk { full with waitMs := 30000 } h = true ∧ lineOk { full with waitMs := 30001 } h = false)
    ∧ Passes cmdLocArrivalSubmit adm partnerRecord (st lineHw) ∧ recordCheck partnerRecord true lineHw = (0, 0)
    ∧ recordCheck (zeros 128) true lineHw = (0, 1) ∧ recordCheck partnerRecord false lineHw = (0, 2) ∧ recordCheck partnerRecord true { lineHw with mode := .test } = (0, 4)
    ∧ recordCheck partnerRecord true { lineHw with const := { lineHw.const with suspect := true } } = (0, 6)
    ∧ (let y : Line := { tget lineHw.phasor.lines 0 {} with lastSeq := [(9, 0)] }
       recordCheck partnerRecord true { lineHw with phasor := { lines := [(0, y)] } } = (0, 8)) := by
  repeat' apply And.intro
  all_goals decide +kernel

theorem witness_SynchrophasorStreamsRun :
    let x : Synchro := { cfg := { blocks := [{}] }, data := true, client := true }
    let h : Hw := { (srv rowBloom) with phasor := { streams := [(0, x)] }, ing := { nextSettle := 9601 } }
    let tail := (x.cfg.blocks.map (fun b => blockTail x.cfg b h)).foldl max 0
    let j := (h.ing.nextSettle - 1 - tail) / 96
    h.mode = .serving ∧ synchroState x = 2 ∧ j * 96 + tail < h.ing.nextSettle
    ∧ (∃ r ∈ ([{ k := j * 96 + tail }] : List Row), r.k = j * 96 + tail) ∧ (∀ r ∈ h.phasor.rows, r.k ≠ (5 + 1) * 96 + tail)
    ∧ ¬(({ h with mode := .ready } : Hw).mode = .serving ∨ ({ h with mode := .ready } : Hw).mode = .test)
    ∧ x.enabled = true ∧ x.cfg.transport ≠ 1 ∧ ({ x with client := false } : Synchro).client = false := by
  repeat' apply And.intro
  all_goals decide +kernel

theorem witness_ArrivalsArePairedOrPublished :
    let r : CapRecord := lineHw.acq.records.headD {}
    let x : Line := tget lineHw.phasor.lines 0 {}
    lineHw.acq.records.find? (fun r => r.number == 5) = some r ∧ r.capture = x.cfg.capture ∧ bit (u16 r.header 38) 0 = false ∧ 5 ∉ x.done
    ∧ (let i : Item := { locator := some (0, 5) }
       let b : Nat × Block := (0, { running := [(7, { item := i })] })
       ∃ e ∈ b.2.running, cellSource b.1 e.1 = 0x2007 ∧ e.2.item.locator = some (0, 5))
    ∧ (∀ b ∈ lineHw.fab.blocks, ∀ e ∈ b.2.running, cellSource b.1 e.1 = 0x2007 → e.2.item.locator ≠ some (0, 5))
    ∧ (findArrival x.cfg r lineHw).isSome = true ∧ findArrival x.cfg { r with data := zeros 48 } lineHw = none
    ∧ linePartner x = some (9, 3) ∧ linePartner { x with usePartner := false } = none
    ∧ (∀ e ∈ x.held, pairMatches { cfg := x.cfg } e.1 = false) ∧ pairMatches { cfg := x.cfg } partnerRecord = true
    ∧ recordCheck partnerRecord true lineHw = (0, 0) ∧ recordCheck [] true lineHw = (0, 1)
    ∧ (let a : Arrival := { at_ := 0 }
       a.result.isNone = true ∧ a.at_ + nsUnits (x.cfg.waitMs * 1000000) ≤ 2 * secUnit)
    ∧ (0 + 60 * secUnit ≤ 60 * secUnit) ∧ (([] : List (List Byte × Nat)).filter (fun e => e.2 + 60 * secUnit ≤ 0)) = [] := by
  repeat' apply And.intro
  all_goals decide +kernel


/-- One running slice, and an item of it on cell 7 of block 0. -/
def slice1 : SliceInst := { state := 1, cfg := { base := 0x40000000 } }
def runOf (d : Descriptor) (e : Nat := 0xFFFF) : Run := { item := { desc := d, slice := 1, ledger := e, actions := [{}] }, code := 1, asid := 1 }
def withRun (r : Run) : Hw := { (srv) with slc := { insts := [(1, slice1)] }, fab := { blocks := [(0, { running := [(7, r)] })] } }

theorem witness_FabricBudgetAndSpecCommandsComplete :
    let h := withRun {}
    let prot := srv { fns := [{}] }
    Passes cmdFabricStatus adm (le 1 0 ++ le 1 3 ++ zeros 2) (st h)
    ∧ (Passes cmdFabricProfile adm (le 1 0 ++ le 1 0xFF ++ le 1 3 ++ zeros 1) (st h) ∧ ∀ n ∈ selectBlocks 0 0xFF, protectBlock n h = false)
    ∧ (Passes cmdFabricProfile adm (le 1 0 ++ le 1 0xFF ++ le 1 1 ++ zeros 1) (st prot) ∧ ∃ n ∈ selectBlocks 0 0xFF, protectBlock n prot = true)
    ∧ (let p := le 1 0 ++ le 1 3 ++ le 1 4 ++ zeros 1 ++ le 2 2200 ++ zeros 2 ++ le 4 5 ++ zeros 12 ++ le 4 1000000 ++ zeros 4
       Passes cmdFabricTune adm p (st h) ∧ (∀ n ∈ selectBlocks 0 3, protectBlock n h = false)
       ∧ ∀ e ∈ ((List.range 5).map (fun i => u32 p (8 + 4 * i))).zipIdx, e.1 = 0 ∨ limitRange e.2 e.1 = true)
    ∧ Passes cmdBudgetStatus adm (zeros 4) (st h)
    ∧ (Passes cmdBudgetSet adm (le 2 440 ++ zeros 2) (st { h with variant := 0x20 }) ∧ maxPower { h with variant := 0x20 } = 440)
    ∧ Passes cmdBudgetThresholds adm (le 2 950 ++ le 2 1020 ++ le 2 970 ++ le 2 900 ++ le 1 90 ++ le 1 100 ++ le 1 92 ++ le 1 85 ++ le 2 60000 ++ le 2 1) (st (inMode .idle))
    ∧ Passes cmdBudgetForce adm (le 1 2 ++ zeros 3) (st h)
    ∧ Passes cmdSpecStatus adm (le 2 0xFFFF ++ zeros 2) (st h) ∧ Passes cmdSpecStatus adm (le 2 1 ++ le 1 1 ++ zeros 1) (st h) ∧ sliceDefined 1 h = true ∧ (sliceAt 1 h).state = 1
    ∧ Passes cmdSpecSet adm (le 2 1 ++ le 1 2 ++ zeros 1) (st h)
    ∧ Passes cmdSpecTune adm (le 2 1 ++ le 1 3 ++ zeros 1 ++ le 2 16 ++ le 2 500 ++ zeros 4) (st h)
    ∧ (let g : Hw := { h with slc := { insts := [(1, { slice1 with state := 2 })] } }
       sliceDefined 1 g = true ∧ (sliceAt 1 g).state ≠ 1 ∧ Passes cmdSpecSet adm (le 2 1 ++ le 1 2 ++ zeros 1) (st g)) := by
  repeat' apply And.intro
  all_goals decide +kernel

theorem witness_ItemsRunToTheirEnd :
    let h := withRun (runOf {})
    (let x : Entry := { state := 4 }
     tfind [(3, x)] 3 = some x ∧ x.state = 4) ∧ (let x : Entry := {}
     tfind [(3, x)] 3 = some x ∧ x.state ≠ 4) ∧ tfind h.spec.entries 3 = none
    ∧ (let i : Item := { desc := { cls := 4 } }
       let g : Hw := { (srv) with fab := { blocks := [(0, { slots := [(0, i)] })] } }
       tfind (blockAt 0 g).slots 0 = some i ∧ tfind (blockAt 0 g).running 0 = none ∧ 0 ∈ cellsInService 0 g ∧ levelAllows 0 i g = true)
    ∧ (let i : Item := { desc := { cls := 2, flags := 4, deadline := 1 } }
       bit i.desc.flags 2 = true ∧ pastDeadline i { (srv) with time := { now := secUnit } } = true ∧ pastDeadline i (srv) = false)
    ∧ tfind (blockAt 0 h).slots 0 = none ∧ tfind (blockAt 0 h).running 7 = some (runOf {}) ∧ tfind (blockAt 0 h).running 0 = none
    ∧ (runOf {}).item.ledger = 0xFFFF
    ∧ (let r := runOf { flags := 1 } 0
       let g : Hw := { withRun r with spec := { entries := [(0, { state := 1 })] } }
       tfind (blockAt 0 g).running 7 = some r ∧ (entryAt 0 (retire 7 0 g)).state = 1 ∧ bit r.item.desc.flags 0 = true)
    ∧ (let r := runOf {} 0
       let g : Hw := { withRun r with spec := { entries := [(0, { state := 3 })] } }
       tfind (blockAt 0 g).running 7 = some r ∧ (entryAt 0 (retire 0 7 g)).state = 3 ∧ bit r.item.desc.flags 0 = false
       ∧ (actionOf r.item.actions r.code).isSome = true ∧ actionOf r.item.actions 2 = none)
    ∧ (let g : Hw := { h with time := { h.time with mono := nsUnits (1000 * 2000) } }
       nsUnits (1000 * (blockAt 0 g).limits.getD 2 0) ≤ g.time.mono - (runOf {}).since) ∧ h.time.mono - (runOf {}).since < nsUnits (1000 * (blockAt 0 h).limits.getD 2 0) := by
  repeat' apply And.intro
  all_goals decide +kernel

theorem witness_TheDispatcherFillsAndTicks :
    let low : Item := { desc := { cls := 3 } }
    let b : Block := { slots := (List.range 8).map (fun c => (c, low)), ready := [{ desc := { cls := 2 } }] }
    let h : Hw := { (srv) with fab := { blocks := [(0, b), (1, { b with ready := [] })] } }
    (blockAt 0 h).cellTurn = 0 ∧ 0 ∈ cellsInService 0 h ∧ pickClass 0 0 h = some 2 ∧ tfind (blockAt 0 h).slots 0 = some low
    ∧ (let g : Hw := { h with fab := { blocks := [(3, { ready := [{ desc := { cls := 2 } }] })] } }
       tfind (blockAt 3 g).slots 0 = none ∧ pickClass 3 0 g = some 2 ∧ (blockAt 3 g).cellTurn = 0)
    ∧ 8 ∉ cellsInService 0 h ∧ 7 ∈ cellsInService 2 h ∧ tfind (blockAt 2 h).slots 7 = none
    ∧ 7 ∈ cellsInService 0 h ∧ tfind (blockAt 0 h).slots 7 = some low ∧ (∀ x ∈ cellsInService 0 h, (tfind (blockAt 0 h).slots x).isSome)
    ∧ pickClass 0 7 h = some 2 ∧ 2 < low.desc.cls ∧ tfind (blockAt 1 h).slots 7 = some low ∧ pickClass 1 7 h = none
    ∧ h.time.now * 100000 / 2 ^ 64 = h.fab.lastTick ∧ secUnit * 100000 / 2 ^ 64 ≠ h.fab.lastTick
    ∧ (∃ y : Block, y.changing = some 1000) ∧ (blockAt 0 h).changing = none
    ∧ nsUnits 1000000 ≤ nsUnits 1000000 - (blockAt 0 h).windowAt ∧ h.time.mono - (blockAt 0 h).windowAt < nsUnits 1000000 := by
  repeat' apply And.intro
  case right.right.right.right.right.right.right.right.right.right.right.right.right.right.right.right.right.left => exact ⟨{ changing := some 1000 }, rfl⟩
  all_goals decide +kernel

theorem witness_SamplesAskAndTicksTakeTheLevel :
    (inMode .test).mode = .test ∧ ¬((inMode .snowdrop).mode = .idle ∨ (inMode .snowdrop).mode = .ready ∨ (inMode .snowdrop).mode = .serving ∨ (inMode .snowdrop).mode = .test) := by
  repeat' apply And.intro
  all_goals decide +kernel

/-- A work descriptor and a transfer descriptor as they lie in memory. -/
def work0 (cls flags : Nat) : List Byte := le 8 0x3FFFFFFF ++ zeros 10 ++ le 1 cls ++ le 1 flags ++ zeros 44
def transfer0 (engine length flags : Nat) : List Byte := le 8 0x100000000 ++ le 8 (0x100000000 + 0x200000 - 1) ++ le 4 length ++ le 1 engine ++ le 1 flags ++ zeros 10

theorem witness_RuntimeCallsAnswer :
    let r := runOf {}
    let at_ (bs : List Byte) : Hw := { (withRun r) with fab := { (withRun r).fab with dram := memPut [] 0x40000000 bs } }
    let h := withRun r
    let x := sliceAt 1 h
    let sound (d : Descriptor) (bs : List Byte) : Bool := d.cls ≤ 4 && d.flags % 4 = 0 && d.flags < 32 && (bs.drop 58).all (fun z => z = 0#8) && 0x10000 ≤ d.entry && d.entry ≤ 0x3FFFFFFF
    let moves (d : DmaDesc) (bs : List Byte) : Bool := 1 ≤ d.length && d.length ≤ 1048576 && d.flags < 2 && (bs.drop 28).all (fun z => z = 0#8)
      && inData d.source d.length x && inData d.destination d.length x
    tfind (blockAt 0 h).running 0 = none ∧ tfind (blockAt 0 h).running 7 = some r ∧ bit r.item.desc.flags 0 = false ∧ sliceOfAsid r.asid h = some 1 ∧ x.state = 1
    ∧ sliceOfAsid 9 h = none ∧ sliceOfAsid 1 { h with slc := { insts := [(1, { slice1 with state := 2 })] } } = some 1
    ∧ bit (runOf { flags := 1 }).item.desc.flags 0 = true ∧ ({ slice1 with state := 2 } : SliceInst).state ≠ 1
    ∧ (0x8000 ≤ 0xFFFF ∧ 0x7FFF < 0x8000)
    ∧ sliceRead r 1 0x100000000 48 (at_ []) = some (zeros 48) ∧ sliceRead r 1 0 48 h = none ∧ sliceRead r 1 0 64 h = none ∧ sliceRead r 1 0 32 h = none
    ∧ (let bs := work0 4 28
       let y := fillBuckets x secUnit
       sliceRead r 1 0x100000000 64 (at_ bs) = some bs ∧ 1 < (workDescriptor bs).cls ∧ sound (workDescriptor bs) bs = true ∧ (workDescriptor bs).release = 0
       ∧ 2 ^ 64 ≤ y.items ∧ listRoom (hintBlock (workDescriptor bs).affinity 0 (at_ bs)) 4 (at_ bs) = true ∧ (fillBuckets x h.time.mono).items < 2 ^ 64)
    ∧ (let bs := work0 4 1
       sliceRead r 1 0x100000000 64 (at_ bs) = some bs ∧ sound (workDescriptor bs) bs = false)
    ∧ (let bs := work0 1 0
       sliceRead r 1 0x100000000 64 (at_ bs) = some bs ∧ (workDescriptor bs).cls ≤ 1)
    ∧ (let bs := transfer0 0 1 1
       sliceRead r 1 0x100000000 32 (at_ bs) = some bs ∧ (dmaDescriptor bs).engine = 0 ∧ moves (dmaDescriptor bs) bs = true ∧ bit x.cfg.engines 0 = true
       ∧ bit ({ slice1 with cfg := { slice1.cfg with engines := 2 } } : SliceInst).cfg.engines 0 = false
       ∧ 0 ≤ (fillBuckets x h.time.mono).recBytes ∧ (fillBuckets { x with recBytes := -1 } h.time.mono).recBytes < 0)
    ∧ (let bs := transfer0 0 2 0
       sliceRead r 1 0x100000000 32 (at_ bs) = some bs ∧ (dmaDescriptor bs).engine = 0 ∧ moves (dmaDescriptor bs) bs = false)
    ∧ (let bs := transfer0 3 1 0
       sliceRead r 1 0x100000000 32 (at_ bs) = some bs ∧ 2 < (dmaDescriptor bs).engine)
    ∧ (let line := (0x100000000 + 0x200000 - 1) / 64 * 64
       inData line 64 x = true ∧ inData (line + 64) 64 x = false)
    ∧ r.item.ledger = 0xFFFF ∧ (runOf {} 0).item.ledger ≠ 0xFFFF := by
  repeat' apply And.intro
  all_goals decide +kernel

/-- A session key of use 5 in slot 16, and its handle. -/
def slot16 : KeySlot := { state := 1, use := 5 }
def key16 : Nat := handleOf 16 slot16

theorem witness_PublisherTimersFire :
    let k : Chan := { state := 1, deadline := secUnit }
    let x : StageOut := { chans := [(0, k)], live := true }
    let h : Hw := { (srv { acq := { groups := [(3, { key := some key16 })] } }) with
      keys := { slots := [(16, slot16)] }
      spec := { stages := [(0, x)] }, time := { now := secUnit, mono := secUnit, servo := .locked } }
    tfind h.spec.stages 0 = some x ∧ (tget x.chans 0 {}).state = 1 ∧ (tget x.chans 0 {}).deadline ≤ h.time.now ∧ (tget x.chans 1 {}).state ≠ 1
    ∧ publishes h = true ∧ x.live = true ∧ nsUnits (1000 * repetitionUs x.repeats) ≤ h.time.mono - x.changedMono ∧ ({ x with live := false } : StageOut).live ≠ true
    ∧ (let y : GooseSend := { at_ := 0 }
       let g : Hw := { h with acq := { sends := [(3, y)] }, phasor := { lines := [(0, { send := some y })] } }
       tfind g.acq.sends 3 = some y ∧ chainsRun g = true ∧ g.const.dissenting = false ∧ groupKeyUsable 3 g = true
       ∧ y.at_ + nsUnits (1000 * crossRepeatUs y.repeats) ≤ g.time.mono ∧ ¬(y.at_ + nsUnits (1000 * crossRepeatUs y.repeats) ≤ 0)
       ∧ tfind g.phasor.lines 0 = some ({ send := some y } : Line))
    ∧ x.old = none ∧ ({ x with old := some {} } : StageOut).old = some {} ∧ keyUsable key16 h = true ∧ keyUsable 0 h = false := by
  repeat' apply And.intro
  all_goals decide +kernel


theorem witness_SliceCommandsComplete :
    let h := withRun {}
    let man : Call := { adm with hdr := { adm.hdr with slice := 0xFFFF } }
    let own : Call := { adm with hdr := { adm.hdr with slice := 1 } }
    let one := le 2 1 ++ zeros 2
    let inState (k : Nat) : Hw := { h with slc := { insts := [(1, { slice1 with state := k })] } }
    Passes cmdSliceStatus own one (st h) ∧ own.hdr.slice = u16 one 0 ∧ Passes cmdSliceStatus man (zeros 4) (st h) ∧ sliceDefined 1 h = true
    ∧ man.hdr.slice = 0xFFFF ∧ ¬(own.hdr.slice = 0 ∨ own.hdr.slice = 0xFFFF)
    ∧ (sliceAt 1 h).state = 1 ∧ Passes cmdSliceQuiesce man one (st h) ∧ Passes cmdSliceResume man one (st h) ∧ Passes cmdSliceReset man one (st h)
    ∧ Passes cmdSliceReset own one (st h) ∧ Passes cmdSliceReset man (zeros 4) (st h)
    ∧ Passes cmdSliceResume man one (st (inState 2)) ∧ (sliceAt 1 (inState 2)).state = 2 ∧ sliceDefined 1 (inState 2) = true
    ∧ Passes cmdSliceQuiesce man one (st (inState 3)) ∧ Passes cmdSliceResume man one (st (inState 3)) ∧ Passes cmdSliceReset man one (st (inState 3))
    ∧ (sliceAt 1 (inState 3)).state = 3 ∧ (sliceAt 1 (inState 3)).zeroing = false ∧ sliceDefined 1 (inState 3) = true
    ∧ Passes cmdSliceProfile man (le 2 1 ++ le 1 1 ++ zeros 1) (st h) ∧ Passes cmdSliceProfile man (le 2 1 ++ le 1 2 ++ zeros 1) (st h)
    ∧ Passes cmdSliceProfile man (le 2 1 ++ le 1 3 ++ zeros 1) (st h)
    ∧ Passes cmdSliceLimits man (le 2 1 ++ le 1 255 ++ le 1 3 ++ le 4 10000000 ++ le 4 16000 ++ le 4 2500 ++ le 2 65535 ++ zeros 6) (st h) := by
  repeat' apply And.intro
  all_goals decide +kernel

theorem witness_SlicesRestAndEnginesMove :
    let h := withRun (runOf {})
    let off : SliceInst := { slice1 with state := 2 }
    let idle : Hw := { (srv) with slc := { insts := [(1, off)] } }
    let busy : Hw := { h with slc := { insts := [(1, off)] } }
    let d : DmaDesc := { source := 0x100000000, destination := 0x100000040, slice := 1 }
    let e : DmaDesc := { d with engine := 1 }
    let r : DmaDesc := { d with engine := 2 }
    let q : Hw := { h with slc := { insts := [(1, slice1)], recQueue := [d], netQueue := [e], rxQueue := [r], rxFrames := [{ slice := 1, generation := 1, bytes := zeros 4 }] } }
    let f : RxFrame := { slice := 1, generation := 1, bytes := zeros 4 }
    (sliceAt 1 idle).state = 2 ∧ quiescent 1 idle = true ∧ (sliceAt 1 busy).state = 2 ∧ quiescent 1 busy = false
    ∧ (sliceAt 1 ({ h with slc := { insts := [(1, { slice1 with zeroing := true })] } } : Hw)).zeroing = true
    ∧ q.slc.recQueue = [d] ∧ q.slc.netQueue = [e] ∧ q.time.mono - q.slc.recSince < paceTime (sliceAt 1 q).cfg.recRate 1
    ∧ paceTime (sliceAt 1 q).cfg.recRate 1 ≤ secUnit - q.slc.recSince ∧ paceTime (sliceAt 1 q).cfg.netRate 1 ≤ secUnit - q.slc.netSince ∧ q.time.mono - q.slc.netSince < paceTime (sliceAt 1 q).cfg.netRate 1
    ∧ Memory.wf q.fab.dram = true
    ∧ rxNext q = some (f, r) ∧ f.generation = (sliceAt 1 q).generation ∧ f.generation ≠ (sliceAt 1 { q with slc := { q.slc with insts := [(1, { slice1 with generation := 2 })] } }).generation
    ∧ ¬(paceTime (sliceAt 1 q).cfg.netRate 4 ≤ q.time.mono - max q.slc.rxSince (max f.since r.posted)) ∧ paceTime (sliceAt 1 q).cfg.netRate 4 ≤ secUnit - max q.slc.rxSince (max f.since r.posted)
    ∧ rxNext h = none ∧ inData r.destination 4 (sliceAt 1 q) = true := by
  repeat' apply And.intro
  all_goals decide +kernel

theorem witness_DramKeepsItsForm : Memory.wf [(0x40000000, 1), (0xFFFFFFFFF, 255)] = true ∧ Memory.wf [(0, 0)] = false := by
  repeat' apply And.intro
  all_goals decide +kernel

/-- A program on core 0 with one station, and a module that runs it. -/
def sym1 : Symbol := { key := 7, width := 8, retain := some 0 }
def io1 : StationIo := { inLen := 2, key := some key16 }
def image1 : CycleImage := { symbols := [sym1], stations := [io1], retainSize := 1 }
def withProg (x : Program) : Hw :=
  { (srv) with keys := { slots := [(16, slot16)] }, cycle := { programs := [(0, { x with image := some image1 })] } }

theorem witness_CycleCommandsComplete :
    let off := withProg { state := 1 }
    let run := withProg { state := 2 }
    let mid := withProg { state := 2, phase := 2 }
    let forced := withProg { state := 2, forces := (List.range 256).map (fun k => (k + 7, 0)) }
    let c0 := zeros 4
    Passes cmdCycleStart adm (le 1 0xFF ++ le 1 1 ++ zeros 2) (st off) ∧ Passes cmdCycleStop adm (le 1 0xFF ++ zeros 3) (st off)
    ∧ Passes cmdCycleStationStatus adm c0 (st off) ∧ ownerOf 0 off = some 0
    ∧ (progAt 0 off).image = some image1 ∧ (progAt 3 off).image = none
    ∧ Passes cmdCycleStatus adm c0 (st off) ∧ Passes cmdCycleStart adm (le 1 0 ++ le 1 1 ++ zeros 2) (st off) ∧ Passes cmdCycleStart adm c0 (st run)
    ∧ Passes cmdCycleStop adm c0 (st off) ∧ Passes cmdCycleStop adm c0 (st run) ∧ Passes cmdCycleStop adm c0 (st mid)
    ∧ (let p := le 1 0 ++ le 1 16 ++ zeros 6 ++ (List.replicate 16 (le 8 7)).flatten
       Passes cmdCycleRead adm p (st run) ∧ ∀ k ∈ entryKeys (u8 p 1) 8 p, (symbolOf k image1).isSome)
    ∧ Passes cmdCycleProfile adm (le 1 0 ++ le 1 1 ++ zeros 2) (st run) ∧ Passes cmdCycleProfile adm (le 1 0 ++ le 1 2 ++ zeros 2) (st run)
    ∧ Passes cmdCycleProfile adm (le 1 0 ++ le 1 3 ++ zeros 2) (st run)
    ∧ (let p := le 1 0 ++ le 1 1 ++ zeros 6 ++ le 8 7 ++ le 8 255
       Passes cmdCycleWrite adm p (st run) ∧ (List.range (u8 p 1)).map (fun j => (u64 p (8 + 16 * j), u64 p (16 + 16 * j))) = [(7, 255)]
       ∧ symbolOf 7 image1 = some sym1 ∧ sym1.single = true ∧ tfind (progAt 0 run).forces 7 = none ∧ 255 < 2 ^ sym1.width)
    ∧ (let p := le 1 0 ++ le 1 1 ++ le 1 15 ++ zeros 1 ++ le 4 1000000 ++ le 4 100 ++ le 4 2000 ++ zeros 8
       let g : Hw := { run with time := { teus := [(15, { armed := true, cfg := { target := 3 } })] } }
       Passes cmdCycleTune adm p (st g) ∧ cycleRange { teu := some 15, minUs := 1000000, watchdogUs := 100, windowUs := 2000 } = true
       ∧ (tget g.time.teus 15 {}).armed = true ∧ (tget g.time.teus 15 {}).cfg.target = 3 ∧ (tget g.time.teus 15 {}).cfg.index = 0)
    ∧ (Passes cmdCycleForce adm (le 1 0 ++ le 1 0 ++ zeros 6 ++ le 8 7 ++ zeros 8) (st forced) ∧ (tfind (progAt 0 forced).forces 7).isSome)
    ∧ (Passes cmdCycleForce adm (le 1 0 ++ le 1 1 ++ zeros 6 ++ le 8 7 ++ le 8 255) (st forced) ∧ (progAt 0 run).forces.length < 256)
    ∧ Passes cmdCycleForce adm (le 1 0 ++ le 1 2 ++ zeros 6 ++ zeros 16) (st forced)
    ∧ Passes cmdCycleStatus adm (le 1 3 ++ zeros 3) (st off) ∧ Passes cmdCycleForce adm (le 1 3 ++ zeros 23) (st off) := by
  repeat' apply And.intro
  all_goals decide +kernel

theorem witness_CyclesRunTheirPhases :
    let first := withProg { state := 2 }
    let paced := withProg { state := 2, begun := true, params := { minUs := 1000000 } }
    let waits := withProg { state := 2, phase := 1, cycle := 4 }
    let body := withProg { state := 2, phase := 2 }
    let late (h : Hw) (us : Nat) : Hw := { h with time := { h.time with mono := nsUnits (1000 * us) } }
    let bare : Hw := { first with cycle := { programs := [(0, { state := 2, image := some {} })] } }
    cycleDue (progAt 0 paced) paced = false ∧ cycleDue (progAt 0 first) first = true ∧ cycleDue (progAt 0 bare) bare = true
    ∧ (progAt 0 first).image.map (fun i => i.stations) = some [io1] ∧ (progAt 0 bare).image.map (fun i => i.stations) = some []
    ∧ (progAt 0 waits).phase = 1 ∧ (progAt 0 first).phase ≠ 1 ∧ nsUnits (1000 * 200) ≤ (late waits 200).time.mono - (progAt 0 waits).startedAt
    ∧ (progAt 0 body).image = some image1 ∧ (progAt 0 body).phase = 2 ∧ (progAt 0 body).state = 2 ∧ (progAt 0 first).phase ≠ 2
    ∧ (let w := late body 20000
       nsUnits (1000 * (progAt 0 w).params.watchdogUs) ≤ w.time.mono - (progAt 0 w).startedAt) ∧ body.time.mono - 0 < nsUnits (1000 * 20000)
    ∧ (let b : StationInput := { cycle := 4, data := zeros 2 }
       image1.stations.find? (fun y => y.station == b.station) = some io1 ∧ image1.stations.find? (fun y => y.station == 255) = none
       ∧ io1.key = some key16 ∧ io1.inLen = b.data.length ∧ keyUsable key16 waits = true ∧ b.authentic = true ∧ ({ b with authentic := false } : StationInput).authentic = false
       ∧ b.version = 1 ∧ b.kind = 2 ∧ ({ b with kind := 1 } : StationInput).kind ≠ 2 ∧ (progAt 0 waits).phase ≠ 0 ∧ b.cycle = (progAt 0 waits).cycle
       ∧ (progAt 0 first).phase = 0)
    ∧ symbolOf 7 image1 = some sym1 ∧ symbolOf 8 image1 = none ∧ tfind (progAt 0 body).forcing 7 = none ∧ (tfind (progAt 0 (withProg { forcing := [(7, 1)] })).forcing 7).isSome = true
    ∧ (progAt 0 (withProg { state := 1 })).state ≠ 2 := by
  repeat' apply And.intro
  all_goals decide +kernel

/-- A module with a port in a given state. -/
def withPort (n : Nat) (x : Port) : Hw := { (srv) with net := { ports := [(n, x)] } }
/-- A queued frame. -/
def qf : QFrame := { bytes := zeros 64 }

theorem witness_NetCommandsComplete :
    let h := withPort 0 { link := true }
    let nodes : Hw := { h with net := { pairs := [(4, { nodes := [{}] })] } }
    let on : Hw := { h with net := { mirror := { running := true, ring := [{}, {}], written := 3 } }, acq := { mirrorSegments := 8 } }
    Passes cmdNetStatus adm (le 1 1 ++ zeros 3) (st h) ∧ Passes cmdNetPortStatus adm (le 1 19 ++ le 1 1 ++ zeros 2) (st h)
    ∧ Passes cmdNetNodeRead adm (le 1 4 ++ zeros 1 ++ le 2 0 ++ le 2 64 ++ zeros 2) (st nodes) ∧ 0 < (netPair 4 nodes).nodes.length
    ∧ (let p := le 1 15 ++ le 1 15 ++ zeros 2 ++ le 4 0xFFFFF ++ le 2 1 ++ zeros 6
       Passes cmdNetMirrorSet adm p (st h) ∧ Passes cmdNetMirrorSet adm p (st on) ∧ h.net.mirror.running = false ∧ on.net.mirror.running = true)
    ∧ Passes cmdNetMirrorSet adm (le 1 0xFF ++ zeros 15) (st on)
    ∧ (let p := le 1 0xFF ++ zeros 11 ++ le 1 8 ++ le 1 1 ++ zeros 2
       Passes cmdNetMirrorSet adm p (st h) ∧ h.acq.segments + 8 ≤ 8 ∧ Passes cmdNetMirrorSet adm p (st on) ∧ on.acq.mirrorSegments = 8)
    ∧ (Passes cmdNetMirrorRead adm (le 4 1 ++ le 4 2) (st on) ∧ on.net.mirror.written - on.net.mirror.ring.length ≤ 1 ∧ 1 + 2 ≤ on.net.mirror.written ∧ on.net.mirror.ring ≠ [])
    ∧ Passes cmdNetPortEnable adm (le 1 11 ++ le 1 1 ++ zeros 2) (st (inMode .idle))
    ∧ (let p := le 1 9 ++ le 1 7 ++ le 1 4 ++ zeros 1 ++ le 4 8192 ++ le 4 8160 ++ le 4 20736 ++ le 4 60000 ++ zeros 4
       let q := le 1 19 ++ le 1 0xFF ++ le 1 0xFF ++ zeros 21
       Passes cmdNetTune adm p (st h) ∧ portRange 0 { pcp := 7, floor := 4, high := 8192, low := 8160, cap := 20736 } = true
       ∧ Passes cmdNetTune adm q (st h) ∧ portRange 0 (portAt 19 h).cfg = true)
    ∧ (let p := le 4 10 ++ zeros 24 ++ le 4 100000
       Passes cmdNetAgeingSet adm p (st h) ∧ ∀ v ∈ (List.range 8).map (fun j => u32 p (4 * j)), v = 0 ∨ (10 ≤ v ∧ v ≤ 100000)) := by
  repeat' apply And.intro
  all_goals decide +kernel

theorem witness_FramesAreReceivedAndSent :
    let h := withPort 0 { link := true }
    let a := withPort 11 { link := true }
    let inPair (n : Nat) : Hw := { h with net := { ports := h.net.ports, pairs := [(0, { mode := n })] } }
    let prp := zeros 12 ++ be 2 0x8000 ++ zeros 40 ++ be 2 5 ++ be 2 0xA034 ++ be 2 0x88FB
    portUp 1 h = false ∧ portUp 0 h = true ∧ portUp 11 a = true ∧ 2048 < (zeros 2045).length + 4 ∧ (zeros 2044).length + 4 ≤ 2048 ∧ (zeros 59).length + 4 < 64
    ∧ (let p := zeros 12 ++ be 2 0x8808 ++ be 2 1 ++ be 2 7 ++ zeros 42
       let f := parseFrame p
       64 ≤ p.length + 4 ∧ f.etype = 0x8808 ∧ beFld p f.body 2 = 1)
    ∧ 64 ≤ (zeros 60).length + 4 ∧ (parseFrame (zeros 60)).etype ≠ 0x8808 ∧ (netPair 0 h).mode = 0 ∧ (netPair 0 (inPair 1)).mode = 1 ∧ 2 ≤ (netPair 0 (inPair 2)).mode
    ∧ (parseFrame prp).prp = some (5, 10)
    ∧ (seeSequence true 0 0 5 [{ highest := 5, seen := [5] }]).1 = 1
    ∧ (let b := zeros 11 ++ be 1 2 ++ be 2 0x892F ++ zeros 46
       let g : Hw := { h with net := { ports := h.net.ports, base := 2 } }
       (parseFrame b).hsr = some 0 ∧ (parseFrame b).src = ownMac 0 g)
    ∧ (let g : Hw := { h with net := { ports := h.net.ports, base := 2 } }
       let all : List Byte := List.replicate 6 0xFF#8 ++ zeros 6 ++ be 2 0x0806 ++ zeros 46
       (parseFrame (zeros 60)).hsr = none ∧ (parseFrame (zeros 60)).src ≠ ownMac 0 g ∧ (parseFrame (zeros 60)).dest ≠ ownMac 0 g ∧ forModule 0 (parseFrame (zeros 60)) (zeros 60) g = false
       ∧ (parseFrame all).hsr = none ∧ (parseFrame all).src ≠ ownMac 8 g ∧ (parseFrame all).dest ≠ ownMac 8 g ∧ forModule 8 (parseFrame all) all g = true)
    ∧ (let x : Port := { sending := some qf, step := 3 }
       (portAt 0 (withPort 0 x)).sending = some qf ∧ qf.bytes ≠ [] ∧ (portAt 19 (withPort 19 x)).sending = some qf ∧ ({ qf with bytes := [] } : QFrame).bytes = []
       ∧ (({ qf with slice := some 3 } : QFrame).slice = some 3 ∧ 12 ≤ 18 ∧ 18 < 19)
       ∧ x.step < 4 ∧ 4 ≤ ({ x with step := 4 } : Port).step ∧ (portAt 0 h).sending = none)
    ∧ (let g := withPort 10 { step := 1 }
       (portAt 10 g).cfg.floor < (portAt 10 g).step ∧ secUnit ≤ secUnit - (portAt 10 g).stepAt) := by
  repeat' apply And.intro
  all_goals decide +kernel

theorem witness_NetworkTimersAndLinks :
    let h := withPort 0 { link := true }
    let x : Port := { link := true, cfg := { high := 64, low := 32 }, held := some secUnit }
    let held := withPort 8 x
    let late : Hw := { held with time := { held.time with mono := secUnit } }
    let full (k : Nat) (b : Bool) : Hw := { (srv) with net := { ports := [(8, { cfg := { high := 64, low := 32 }, pausing := b, queue := [{ qf with input := 8, cells := k }] })] } }
    portEnabled 0 h = true ∧ (portAt 0 h).link = true ∧ portExists 18 h = true ∧ portExists 19 h = true ∧ honoursPause 8 = true ∧ honoursPause 10 = false
    ∧ (portAt 8 held).held.isSome = true ∧ isHeld 8 held = true ∧ isHeld 8 late = false ∧ (portAt 0 h).held = none
    ∧ sendsPause 8 = true ∧ sendsPause 19 = true ∧ 16 * 64 ≤ occupancy 8 (full 1024 false) ∧ occupancy 8 (full 1023 false) < 16 * 64
    ∧ occupancy 8 (full 512 true) ≤ 16 * 32 ∧ 16 * 32 < occupancy 8 (full 513 true)
    ∧ (let g : Hw := { full 513 true with time := { mono := secUnit } }
       (portAt 8 g).pausing = true ∧ 0xFFFF * 256 * 2 ^ 64 / wireRate 8 g ≤ g.time.mono - (portAt 8 g).pausedAt)
    ∧ nsUnits 1000 ≤ secUnit - h.net.scannedAt ∧ h.time.mono - h.net.scannedAt < nsUnits 1000
    ∧ (netPair 0 h).mode ≠ 2
    ∧ (let n : Hw := { h with net := { superviseAt := 2 * secUnit } }
       n.net.superviseAt ≤ 2 * secUnit ∧ n.time.mono < n.net.superviseAt)
    ∧ (let arp : List Byte := zeros 12 ++ be 2 0x0806 ++ zeros 6 ++ be 2 1 ++ zeros 16 ++ be 4 0xC0A80101 ++ zeros 18
       asksModule (parseFrame arp) arp [0xC0A80101] = true ∧ asksModule (parseFrame arp) arp (addressesAt 0 h) = false) := by
  repeat' apply And.intro
  all_goals decide +kernel

/-- A paired module with a role, in SERVING, and its partner's heartbeat. -/
def pair9 : PairSection := { partner := 9, key := some key16 }
def withPair (x : PairState) : Hw :=
  { (srv { pair := some pair9 }) with moduleId := 1, keys := { slots := [(16, slot16)] }, pair := x }
def bothLive : Tbl HbPath := [(0, { live := true }), (1, { live := true })]
def beat : Heartbeat := { moduleId := 9, partnerId := 1, sequence := 1, stateWord := 6 + 2 * 16 }

/-- A module of a constellation. -/
def const1 : ConstSection := { moduleId := 1, key := some key16, bindings := [{ peer := 9 }] }
def withConst (x : ConstState) : Hw := { (srv { constellation := some const1 }) with moduleId := 1, keys := { slots := [(16, slot16)] }, const := x }
/-- A manifest of one entry in its layout, with a signature. -/
def manifestBytes : List Byte := le 1 1 ++ zeros 3 ++ le 4 7 ++ le 4 1 ++ le 2 1 ++ zeros 18 ++ zeros 40 ++ zeros 132

theorem witness_PairAndConstCommandsComplete :
    let act := withPair { role := 1, paths := bothLive, partnerRole := 2, partnerState := 7, partnerVerdict := 0, status := [(3, ({ stage := 3 }, 0))] }
    let h : Hw := { act with spec := { stages := [(3, {})] } }
    let none' := srv
    Passes cmdPairStatus adm (le 1 1 ++ zeros 3) (st h) ∧ (pairOf h).isSome = true ∧ Passes cmdPairSwitch adm [] (st h) ∧ h.pair.role = 1
    ∧ (pathAt 0 h).live = true ∧ (pathAt 1 h).live = true ∧ h.pair.partnerRole = 2 ∧ h.pair.partnerVerdict = 0 ∧ h.pair.mismatch = false
    ∧ (Passes cmdPairSwitch adm [] (st (withPair { role := 2 })) ∧ (withPair { role := 2 }).pair.role ≠ 1)
    ∧ (Passes cmdPairStageRead adm (le 2 3 ++ zeros 2) (st h) ∧ tfind h.spec.stages 3 = some {} ∧ ({} : StageOut).dropped = false ∧ tfind h.pair.status 3 = some ({ stage := 3 }, 0))
    ∧ Passes cmdPairTune adm (le 4 604800 ++ le 4 100 ++ le 4 3600 ++ zeros 4) (st h)
    ∧ pairOf (none' : Hw) = none ∧ Passes cmdPairSwitch adm [] (st none') ∧ Passes cmdPairStageRead adm (zeros 4) (st none') ∧ Passes cmdPairTune adm (zeros 16) (st none')
    ∧ constOf (none' : Hw) = none ∧ Passes cmdConstPeerRead adm (zeros 8) (st none') ∧ Passes cmdConstManifestRead adm (zeros 8) (st none')
    ∧ Passes cmdConstTune adm (zeros 16) (st none') ∧ Passes cmdConstManifestLoad adm (zeros 16) (st (swapChange none')) ∧ constOf (swapChange none') = none
    ∧ (let g := withConst {}
       let old := withConst { manifest := some { sequence := 7, entries := [{}] } }
       let p (i n : Nat) (d : List Byte) := le 4 7 ++ le 2 i ++ le 2 n ++ le 4 d.length ++ zeros 4 ++ d
       constOf g = some const1 ∧ Passes cmdConstStatus adm (le 1 1 ++ zeros 3) (st g) ∧ Passes cmdConstPeerRead adm (le 2 4095 ++ le 2 64 ++ le 1 2 ++ zeros 3) (st g)
       ∧ constOf (swapChange g) = some const1 ∧ Passes cmdConstManifestLoad adm (p 0 1 manifestBytes) (st (swapChange g)) ∧ Passes cmdConstManifestLoad { adm with crypto := { signed := false } } (p 0 1 manifestBytes) (st (swapChange g))
       ∧ (readManifest manifestBytes).isSome = true ∧ (readManifest manifestBytes).all (fun m => m.constellation == const1.constellation && m.sequence == 7) = true
       ∧ g.const.manifest = none ∧ old.const.manifest = some { sequence := 7, entries := [{}] } ∧ Passes cmdConstManifestLoad adm (p 0 1 manifestBytes) (st (swapChange old)) ∧ (swapChange old).const.manifest = some { sequence := 7, entries := [{}] }
       ∧ Passes cmdConstManifestLoad adm (p 40 41 (zeros 1)) (st (swapChange g)) ∧ (swapChange g).const.staged = none
       ∧ (Passes cmdConstManifestRead adm (le 2 0 ++ le 2 1 ++ zeros 4) (st old) ∧ 0 + 1 ≤ ([{}] : List ManifestEntry).length)
       ∧ Passes cmdConstTune adm (le 2 600 ++ le 2 3600 ++ le 2 10000 ++ zeros 10) (st g)) := by
  repeat' apply And.intro
  all_goals decide +kernel

theorem witness_RolesFollowHeartbeats :
    let act := withPair { role := 1, paths := bothLive }
    let quiet (n : Nat) (b : Bool) : Hw := { withPair { role := n, hold := b, paths := [(0, { live := true }), (1, { silent := true })] } with time := { mono := secUnit } }
    heartbeatStates act = true ∧ heartbeatStates (inMode .halted act) = true ∧ act.pair.stopped = false ∧ pairOf act = some pair9
    ∧ (let g : Hw := { act with time := { now := secUnit } }
       g.time.now * 1000000000 / (heartbeatPeriodNs 1 * 2 ^ 64) ≠ (pathAt 1 g).nextDue) ∧ act.time.now * 1000000000 / (heartbeatPeriodNs 0 * 2 ^ 64) = (pathAt 0 act).nextDue
    ∧ heartbeatValid beat pair9 act = true ∧ heartbeatValid { beat with moduleId := 8 } pair9 act = false ∧ heartbeatValid { beat with kind := 2 } pair9 act = true
    ∧ (let b : Heartbeat := { beat with stateWord := 6 + 16, claim := 513 }
       let g := noteClash b (hearPartner b pair9 act)
       heartbeatValid b pair9 act = true ∧ g.pair.role = 1 ∧ b.stateWord / 16 % 16 = 1 ∧ g.pair.claim < b.claim)
    ∧ (beat.stateWord / 16 % 16 = 2 ∧ beat.stateWord % 16 = 6 ∧ ({ beat with verdict := 2 } : Heartbeat).verdict = 2 ∧ heartbeatValid { beat with verdict := 2 } pair9 act = true
       ∧ beat.verdict = 0 ∧ (noteClash beat (hearPartner beat pair9 act)).pair.partnerStandby < 8)
    ∧ (pathAt 0 (quiet 1 false)).silent = false ∧ nsUnits (silenceNs 0) ≤ (quiet 1 false).time.mono - (pathAt 0 (quiet 1 false)).lastValid
    ∧ act.time.mono - (pathAt 0 act).lastValid < nsUnits (silenceNs 0) ∧ (pathAt 1 act).live = true
    ∧ (pathAt 1 (quiet 1 false)).live = false ∧ (pathAt 1 (quiet 2 true)).silent = true ∧ (quiet 2 true).pair.partnerLost = false
    ∧ (quiet 1 false).pair.role = 1 ∧ (quiet 2 true).pair.hold = true ∧ (quiet 2 false).pair.hold = false
    ∧ (pathAt 1 (withPair { paths := [(0, { live := true })] })).live = false ∧ (pathAt 1 (withPair { paths := [(0, { live := true })] })).silent = false
    ∧ ({ entered := some 0 } : PairState).heardSince = false ∧ nsUnits 3250000 ≤ secUnit - 0 ∧ ¬(nsUnits 3250000 ≤ 0 - 0)
    ∧ (withPair { role := 3, contestAt := some 0 }).pair.role = 3 ∧ nsUnits 2000000 ≤ secUnit - 0
    ∧ (withPair { hold := true, notLiveSince := some 0 }).pair.notLiveSince = some 0 ∧ nsUnits 4000000 ≤ secUnit - 0
    ∧ (let x : StageStatus := { stage := 3, flags := 0 }
       let g : Hw := { (withPair { hold := true, notLiveSince := some 0, status := [(3, (x, 0))] }) with spec := { stages := [(3, {})] } }
       reachable g = [x] ∧ (∀ y ∈ reachable g, bit y.flags 1 = false))
    ∧ (let well : TimeState := { servo := .locked }
       let g : Hw := { (withPair { role := 2 }) with time := well }
       let last : Hw := { (withPair { role := 2, epochSeen := 0xFFFFFF }) with time := well }
       g.pair.role = 2 ∧ verdictOf g ≠ 2 ∧ highestEpoch g < 0xFFFFFF ∧ rankOf g < 256 ∧ verdictOf last ≠ 2 ∧ 0xFFFFFF ≤ highestEpoch last
       ∧ verdictOf (withPair { role := 2 }) = 2)
    ∧ publishes (withPair { role := 2 }) = false ∧ publishes { act with time := { servo := .locked } } = true := by
  repeat' apply And.intro
  all_goals decide +kernel

theorem witness_PeersAndStagesAreHeard :
    let out : StageOut := { cfg := { stage := 3, key := some key16 } }
    let h : Hw := { withPair { role := 2 } with spec := { stages := [(3, out)] } }
    let c := withConst { clashSecond := some 0, peers := [(9, {})], suspect := true, cleanSince := some 0 }
    let due := beaconDue 0 1
    tfind h.spec.stages 3 = some out ∧ (let x : StageStatus := { stage := 3 }; x.mac = out.cfg.statusMac ∧ x.gocbRef = out.cfg.statusRef ∧ x.goId = out.cfg.statusGoId)
    ∧ (let x : StageStatus := { stage := 3, gocbRef := [1#8] }; x.gocbRef ≠ out.cfg.statusRef) ∧ stageKeyUsable out h = true ∧ stageKeyUsable {} h = false ∧ h.pair.role = 2
    ∧ retainOn h = true ∧ (withPair { role := 3 }).pair.role = 3 ∧ (withPair { role := 3 }).pair.retainAt ≤ 0 ∧ retainOn (withPair { role := 1 }) = true ∧ retainOn (srv) = false
    ∧ (pairOf h = some pair9 ∧ pair9.key = some key16 ∧ keyUsable key16 h = true ∧ (tget h.pair.partials 3 {}).parts = [] ∧ (zeros 1024).length ≤ 1024
       ∧ (let f : RetainFragment := { moduleId := 9, partnerId := 1, crc := crc32c (zeros 4), data := zeros 4, fragments := 1 }
          f.version = 1 ∧ f.moduleId = pair9.partner ∧ f.partnerId = h.moduleId ∧ f.authentic = true ∧ f.fragment < f.fragments ∧ crc32c f.data = f.crc))
    ∧ constOf c = some const1 ∧ beaconStates c = true ∧ beaconStates (inMode .idle c) = false
    ∧ (let g : Hw := { c with time := { now := due } }
       (g.time.now * 40960 / 2 ^ 64 - g.moduleId) / 4096 + 1 ≠ g.const.nextBeacon ∧ beaconDue 0 g.moduleId ≤ g.time.now ∧ const1.key = some key16)
    ∧ keyUsable key16 c = true ∧ ({} : Beacon).version = 1 ∧ ({} : Beacon).authentic = true ∧ (constOf (srv { constellation := some { const1 with key := none } })).map (fun k => k.key) = some none
    ∧ modeCode c.mode = 6 ∧ c.const.clashSecond = some (secOf c.time.now) ∧ (withConst {}).const.clashSecond ≠ some 0 ∧ ({ moduleId := 1 } : Beacon).moduleId = c.moduleId ∧ ({ moduleId := 9 } : Beacon).moduleId ≠ c.moduleId
    ∧ tfind c.const.peers 9 = some {} ∧ laterSeq 0 ({} : Peer).beacon.sequence = false ∧ laterSeq 1 ({} : Peer).beacon.sequence = true ∧ tfind c.const.peers 8 = none
    ∧ ({} : Peer).absent = false ∧ ({} : Peer).at_ + nsUnits (350 * 1000000) ≤ secUnit
    ∧ c.const.cleanSince = some 0 ∧ c.const.suspect = true ∧ 0 + c.const.timeHold * secUnit ≤ 10 * secUnit := by
  repeat' apply And.intro
  all_goals decide +kernel

/-- A key store with more slots. -/
def withKeys (l : Tbl KeySlot) (h : Hw := inMode .serving) : Hw := { h with keys := { slots := ({} : KeyState).slots ++ l } }
/-- Parameters of KEY.IMPORT and KEY.AEDGEN_UPDATE: a handle and a slot of the store named in them. -/
def mrk : Nat := handleOf 3 { use := 1 }

theorem witness_KeyCommandsComplete :
    let h := withKeys [(16, slot16)]
    let full : Hw := { h with keys := { h.keys with waiting := [{}] } }
    let zero : Hw := { h with keys := { h.keys with zeroised := true } }
    let named (x : Nat) (g : Hw) : Bool := validHandle x g && mayName adm (hdlSlot x) g && (keySlot (hdlSlot x) g).state != 4
    let un : Call := { adm with crypto := { tagPasses := true } }
    h.keys.waiting = [] ∧ h.keys.zeroised = false ∧ h.keys.selftestFailed = false ∧ full.keys.waiting ≠ [] ∧ zero.keys.zeroised = true
    ∧ Passes cmdKeyStatus adm [] (st h) ∧ (Passes cmdKeyInfo adm (le 4 mrk) (st h) ∧ validHandle mrk h = true ∧ mayName adm 3 h = true ∧ named mrk h = true)
    ∧ (let x := handleOf 1 { use := 2 }
       let y := withKeys [(17, { state := 3, use := 3, succ := some {} })]
       let z := handleOf 17 { use := 3 }
       Passes cmdKeyPublicRead adm (le 4 x ++ zeros 4) (st h) ∧ named x h = true ∧ (keySlot 1 h).use = 2 ∧ (keySlot 1 h).state ≠ 3
       ∧ Passes cmdKeyPublicRead adm (le 4 x ++ le 1 1 ++ zeros 3) (st h) ∧ Passes cmdKeyPublicRead adm (le 4 z ++ le 1 1 ++ zeros 3) (st y)
       ∧ named z y = true ∧ (keySlot 17 y).state = 3 ∧ (keySlot 17 y).succ = some {})
    ∧ Passes cmdKeyAttest adm (le 4 mrk ++ zeros 36) (st h)
    ∧ (let p := le 4 mrk ++ le 1 8 ++ zeros 1 ++ le 2 64 ++ zeros 64
       let g := withKeys [(20, { state := 1, use := 8, parent := 3, parentGen := 1, depth := 2, label := zeros 64 })]
       Passes cmdKeyDerive adm p (st h) ∧ (keySlot 3 h).use = 1 ∧ u16 p 6 = 64 ∧ (keySlot 3 h).depth ≤ 5 ∧ (freeSlot h).isSome = true
       ∧ (h.keys.slots.find? (fun e => e.2.state != 0 && e.2.state != 4 && e.2.parent == 3 && e.2.parentGen == 1 && e.2.use == 8 && e.2.label == labelAt 8 64 p && e.2.origin == 0 && 0 < e.2.depth)) = none
       ∧ Passes cmdKeyDerive adm p (st g)
       ∧ (g.keys.slots.find? (fun e => e.2.state != 0 && e.2.state != 4 && e.2.parent == 3 && e.2.parentGen == 1 && e.2.use == 8 && e.2.label == labelAt 8 64 p && e.2.origin == 0 && 0 < e.2.depth)).isSome = true)
    ∧ Passes cmdKeyImport un (le 4 mrk ++ le 1 7 ++ zeros 1 ++ le 2 1 ++ zeros 205) (st h) ∧ (unwrapBlock un 16 7 mrk 0 (zeros 213) h).isSome = true
    ∧ un.crypto.tagPasses = true ∧ adm.crypto.tagPasses = false ∧ (keySlot 2 h).state ≠ 0 ∧ (keySlot 2 h).state ≠ 4
    ∧ (let x := handleOf 16 slot16
       Passes cmdKeyStage un (le 4 x ++ zeros 340) (st h) ∧ named x h = true ∧ isMac (keySlot 16 h).use = true ∧ zeroAt (le 4 x ++ zeros 340) 212 132 = true
       ∧ inReplacement (keySlot 16 h) = false ∧ ancestorBusy 8 16 h = false ∧ subtree 16 h = []
       ∧ (unwrapBlock un 16 5 x 0 (le 4 x ++ zeros 340) h).isSome = true)
    ∧ (let y := withKeys [(16, { slot16 with state := 2, succ := some { kcv := 5 } })]
       let v := withKeys [(16, { slot16 with state := 3, succ := some {} })]
       Passes cmdKeyVerify adm (le 4 key16 ++ zeros 4 ++ le 8 5) (st y) ∧ Passes cmdKeyVerify adm (le 4 key16 ++ zeros 4 ++ le 8 6) (st y) ∧ named key16 y = true
       ∧ (keySlot 16 y).state = 2 ∧ ancestorBusy 8 16 y = false ∧ (keySlot 16 y).succ = some { kcv := 5 } ∧ inReplacement (keySlot 16 y) = true
       ∧ Passes cmdKeyAbandon adm (le 4 key16) (st y) ∧ Passes cmdKeyCommit adm (le 4 key16) (st v) ∧ named key16 v = true ∧ (keySlot 16 v).state = 3 ∧ ancestorBusy 8 16 v = false)
    ∧ (let b : Hw := { h with cfg := { bloom := some { pair := some { key := some key16 } } } }
       let soft : Call := { adm with hdr := { adm.hdr with flags := 2 } }
       Passes cmdKeyInvalidate adm (le 4 key16) (st h) ∧ (boundUnder 16 h).1 = 0 ∧ Passes cmdKeyInvalidate adm (le 4 key16) (st b) ∧ (boundUnder 16 b).1 ≠ 0
       ∧ forced adm = true ∧ Passes cmdKeyInvalidate soft (le 4 key16) (st b) ∧ forced soft = false)
    ∧ (let p := le 1 1 ++ le 1 1 ++ le 2 16 ++ zeros 4 ++ le 8 1 ++ zeros 64 ++ le 1 5 ++ zeros 335
       zeroAt p 81 7 = true ∧ zeroAt p 221 3 = true ∧ Passes cmdKeyAedgenUpdate un p (st h) ∧ un.crypto.signed = true ∧ slice p 16 64 = h.keys.idkDigest ∧ h.keys.counter < u64 p 8 ∧ isMac (u8 p 80) = true
       ∧ (keySlot 16 h).state = 1 ∧ (keySlot 16 h).use = u8 p 80 ∧ (unwrapBlock un 88 5 key16 0 p h).isSome = true)
    ∧ Passes cmdKeyKatRun adm [] (st h)
    ∧ Passes cmdKeyStatus adm [] (st full) ∧ Passes cmdKeyCommit adm (le 4 key16) (st full) ∧ Passes cmdKeyDerive adm (zeros 8) (st zero) := by
  repeat' apply And.intro
  all_goals decide +kernel

theorem witness_TheKeyStoreKeepsItsTable :
    let v := withKeys [(16, { slot16 with state := 3, succ := some {} })]
    let x : KeyPending := { opcode := 0x1108, call := adm, params := le 4 key16 }
    let h : Hw := { v with keys := { v.keys with waiting := [x] } }
    let y : KeyPending := { x with ready := some ([], 1, 0) }
    h.keys.waiting = [x] ∧ ({ h.keys with waiting := [y] } : KeyState).waiting = [y] ∧ y.ready = some ([], 1, 0) ∧ h.keys.zeroised = false ∧ ({ zeroised := true } : KeyState).zeroised = true ∧ x.ready = none ∧ (match keyOp x.opcode x.call x.params h with | .write _ _ => true | _ => false) = true ∧ v.keys.waiting = []
    ∧ ({ tamperLow := true } : KeyState).tamperLow = true ∧ v.keys.tamperLow = false ∧ offline (inMode .off) = true ∧ offline (inMode .serving) = false
    ∧ offline (inMode .idle) = false ∧ offline (inMode .boot) = false ∧ ({ fuseDue := true } : KeyState).fuseDue = true := by
  repeat' apply And.intro
  all_goals decide +kernel

/-- Hollyhock with its link up. -/
def withMeter (x : LupinState) (h : Hw := inMode .serving) : Hw := { h with variant := 0x40, lupin := { x with linkDown := false } }

theorem witness_HollyhockMetersAndAnswers :
    let x : LupinState := { points := List.replicate 16 {}, periodSnaps := [(15, [{ sequence := 4 }])], secondSnaps := [(0, [{}])]
                            live := { ring := [le 4 6 ++ zeros 60, le 4 5 ++ zeros 60] } }
    let h := withMeter x
    let down : Hw := { h with lupin := { x with linkDown := true } }
    let offer (n f len : Nat) := le 4 n ++ le 2 f ++ le 2 ((n + 4095) / 4096) ++ le 4 len ++ zeros (4 + len)
    let ix := withMeter {} (inMode .idle)
    let tap : TapBlock := { k := 7 }
    Passes cmdLupinStatus adm [] (st h) ∧ h.lupin.linkDown = false ∧ down.lupin.linkDown = true
    ∧ (Passes cmdLupinSnapshotRead adm (le 1 15 ++ le 1 1 ++ zeros 2 ++ le 4 4) (st h) ∧ (tget x.periodSnaps 15 []).find? (fun y => y.sequence == 4) = some { sequence := 4 })
    ∧ (Passes cmdLupinSnapshotRead adm (le 1 0 ++ le 1 2 ++ zeros 2 ++ le 4 0xFFFFFFFF) (st h) ∧ (tget x.secondSnaps 0 []).head? = some {})
    ∧ (let got (first n : Nat) := (List.range n).filterMap (fun i => x.live.ring.find? (fun r => u32 r 0 == first + i))
       Passes cmdLupinLogRead adm (le 1 0 ++ le 1 2 ++ zeros 2 ++ le 4 5) (st h) ∧ (got 5 2).length = 2 ∧ Passes cmdLupinLogRead adm (le 1 0 ++ le 1 64 ++ zeros 2 ++ le 4 6) (st h)
       ∧ (got 6 64).length ≠ 64 ∧ x.live.ring.head?.isSome = true)
    ∧ Passes cmdLupinIdentity adm [] (st h)
    ∧ Passes cmdLupinUpdateOffer adm (offer 1 0 1) (st ix) ∧ ix.lupin.updating = false ∧ ix.lupin.offer = none
    ∧ Passes cmdLupinUpdateOffer adm (offer 4097 1 1) (st ix) ∧ Passes cmdLupinUpdateOffer adm (offer 1 0 1) (st { ix with lupin := { ix.lupin with updating := true } })
    ∧ Passes cmdLupinSnapshotRead adm (zeros 8) (st down) ∧ Passes cmdLupinLogRead adm (zeros 8) (st down) ∧ Passes cmdLupinIdentity adm [] (st down)
    ∧ Passes cmdLupinUpdateOffer adm (offer 1 0 1) (st { ix with lupin := {} })
    ∧ hollyhock h = true ∧ hollyhock { h with variant := 0x20 } = false ∧ h.lupin.inbox = []
    ∧ (let g := withMeter { inbox := [tap], grid := some 0, base := 2, live := { lastK := some 6 } }
       g.lupin.inbox = [tap] ∧ g.lupin.grid = some tap.grid ∧ 6 < tap.k ∧ g.lupin.base = 2 ∧ g.lupin.lastTapAt + nsUnits 1000000000 ≤ secUnit
       ∧ h.lupin.base ≠ 2 ∧ g.time.mono < g.lupin.lastTapAt + nsUnits 1000000000)
    ∧ (withMeter { unsent := [(0, 1, [])], points := [{}] }).lupin.unsent = [(0, 1, [])] ∧ (List.replicate 1 ({} : MeterPoint))[0]? = some ({} : MeterPoint) ∧ h.lupin.unsent = []
    ∧ (let g := withMeter { updating := true, sealCount := 4 }
       g.lupin.updating = true ∧ updateResult { counter := 5 } g.lupin = 0 ∧ updateResult { counter := 4 } g.lupin ≠ 0) := by
  repeat' apply And.intro
  all_goals decide +kernel

theorem witness_TheEventRecorderRecords :
    let r (n : Nat) : Record := { seq := n }
    let x : SavedCopy := { records := [r 4, r 5] }
    let h : Hw := { (srv) with evr := { ring := [r 3, r 2], next := 4, saved := [x] } }
    let s1 : Call := { adm with hdr := { session := 1 } }
    let full : Hw := { h with evr := { h.evr with backlog := 102400, dropRun := some (1, 2, 3, 4) } }
    let used : Hw := { h with cmd := { sessions := [{ sess with marks := 100 }] } }
    Passes cmdEvrStatus adm (le 1 1 ++ zeros 3) (st h) ∧ Passes cmdEvrRead adm (le 8 4 ++ le 2 64 ++ zeros 6) (st h) ∧ Passes cmdEvrRead adm (le 8 5 ++ le 2 1 ++ zeros 6) (st h)
    ∧ Passes cmdEvrRead adm (le 8 1 ++ le 2 1 ++ zeros 6) (st h) ∧ oldestSeq h = 2 ∧ 4 ≤ h.evr.next - 1 + 1 ∧ h.evr.next - 1 + 1 < 5
    ∧ (Passes cmdEvrSavedRead adm (le 2 1 ++ le 2 64 ++ zeros 4) (st h) ∧ h.evr.saved.find? (fun y => y.crcOk) = some x ∧ 1 < x.records.length)
    ∧ (Passes cmdEvrSavedRead adm (le 2 255 ++ le 2 1 ++ zeros 4) (st (inMode .idle)) ∧ (inMode .idle).evr.saved.find? (fun y => y.crcOk) = none)
    ∧ Passes cmdEvrMark adm (zeros 48) (st h) ∧ adm.hdr.session = 0 ∧ queued h < 4096 ∧ h.evr.stopped = false ∧ (evrFlagged 8 0x1312 0 0 [] h).evr.next ≠ h.evr.next
    ∧ (evrFlagged 8 0x1312 0 0 [] full).evr.next = full.evr.next ∧ Passes cmdEvrMark s1 (zeros 48) (st used) ∧ s1.hdr.session ≠ 0
    ∧ (∃ x ∈ used.cmd.sessions, x.number = 1 ∧ 100 ≤ x.marks) ∧ h.evr.dropRun = none ∧ full.evr.dropRun = some (1, 2, 3, 4) ∧ 4096 ≤ queued full
    ∧ h.evr.floorOk = true ∧ h.evr.unanchored = false ∧ h.evr.floor ≤ h.evr.next - 1 + 2 ^ 31 ∧ offline (inMode .retain) = true
    ∧ ({ h with evr := { h.evr with anchored := 0 } } : Hw).evr.anchored = secOf h.time.now
    ∧ ({ h with evr := { h.evr with anchored := 1 } } : Hw).evr.anchored ≠ secOf h.time.now := by
  repeat' apply And.intro
  all_goals decide +kernel

theorem witness_ErrorsAreCountedAndContained :
    let e (n : Nat) : FaultEntry := { sequence := n }
    let h : Hw := { (srv) with fault := { log := [e 6, e 5] } }
    let test : Hw := inMode .test h
    let load (total i image len : Nat) := le 4 total ++ le 2 i ++ le 2 ((total + 65535) / 65536) ++ le 4 len ++ le 1 image ++ le 1 1 ++ zeros 2 ++ zeros len
    let stuck : Hw := { h with fab := { blocks := [(0, { emptySince := [(7, 0)], ready := [{}] })] }, time := { mono := nsUnits 50000 } }
    let last : Hw := { h with variant := 0x20, fab := { blocks := (List.range 4).map (fun b => (b, ({ quarantined := b != 0, badCells := [4, 5, 6, 7] } : Block))) } }
    Passes cmdDiagStatus adm (le 1 1 ++ zeros 3) (st h)
    ∧ (Passes cmdDiagFaultRead adm (le 4 5 ++ le 2 64 ++ zeros 2) (st h) ∧ ((h.fault.log.reverse.dropWhile (fun x => x.sequence != 5)).take 64) ≠ []
       ∧ Passes cmdDiagFaultRead adm (le 4 7 ++ le 2 1 ++ zeros 2) (st h) ∧ ((h.fault.log.reverse.dropWhile (fun x => x.sequence != 7)).take 1) = [] ∧ h.fault.log.head? = some (e 6))
    ∧ (Passes cmdDiagSelftest adm (zeros 1 ++ le 1 0xFF ++ le 1 0xFF ++ zeros 1) (st h) ∧ Passes cmdDiagSelftest adm (le 1 1 ++ zeros 1 ++ le 1 3 ++ zeros 1) (st h)
       ∧ Passes cmdDiagSelftest adm (le 1 2 ++ zeros 3) (st h) ∧ Passes cmdDiagSelftest adm (le 1 3 ++ zeros 3) (st h) ∧ Passes cmdDiagSelftest adm (le 1 4 ++ zeros 3) (st h)
       ∧ Passes cmdDiagSelftest adm (zeros 1 ++ le 1 2 ++ le 1 0xFF ++ zeros 1) (st { h with fault := { h.fault with fenced := [2] } }))
    ∧ (let on (src : Nat) := le 2 src ++ le 1 1 ++ zeros 5
       let off (src : Nat) := le 2 src ++ zeros 6
       let left (n : Nat) (cells : List Nat) (g : Hw) : Nat :=
         let rest := ((cellsInService n g).filter (fun y => !cells.contains y)).length
         ((List.range (blockCount g)).filter (fun b => b != n)).foldl (fun a b => a + (cellsInService b g).length) 0 + (if rest < 4 then 0 else rest)
       targetOf 0x2007 = some (0, 7) ∧ targetOf 0x20FF = some (0, 0xFF) ∧ targetOf 0x73FF = some (23, 0xFF) ∧ 0 ∉ h.fault.fenced
       ∧ Passes cmdDiagQuarantine adm (on 0x2007) (st h) ∧ left 0 [7] h ≠ 0 ∧ Passes cmdDiagQuarantine adm (on 0x20FF) (st h) ∧ left 0 (List.range 8) h ≠ 0
       ∧ Passes cmdDiagQuarantine adm (on 0x2000) (st last) ∧ left 0 [0] last = 0 ∧ Passes cmdDiagQuarantine adm (off 0x2007) (st h)
       ∧ Passes cmdDiagQuarantine { adm with crypto := { selftest := { cells := [7] } } } (off 0x2007) (st h) ∧ Passes cmdDiagQuarantine adm (off 0x20FF) (st h))
    ∧ (Passes cmdDiagInject adm (le 1 1 ++ zeros 1 ++ le 2 0x2007 ++ le 4 1000 ++ zeros 8) (st test) ∧ Passes cmdDiagInject adm (le 1 5 ++ zeros 1 ++ le 2 0x2000 ++ le 4 1 ++ zeros 8) (st test))
    ∧ (Passes cmdDiagFwLoad adm (load 1 0 0 1) (st (inMode .idle)) ∧ fragmentOk 33554432 1 0 1 1 = true ∧ (inMode .idle).boot.running = 0 ∧ (inMode .idle).boot.load = none
       ∧ Passes cmdDiagFwLoad adm (load 1 0 1 1) (st (inMode .idle)) ∧ Passes cmdDiagFwLoad adm (load 65537 1 1 1) (st (inMode .snowdrop)) ∧ fragmentOk 33554432 65537 1 2 1 = true
       ∧ fragmentOk 33554432 33554432 511 512 65536 = true)
    ∧ 0 < blockCount h ∧ 7 ∈ cellsInService 0 h ∧ 8 ∉ cellsInService 0 h ∧ blockOpen 0 h = true ∧ blockOpen 24 h = false
    ∧ (7 ∈ cellsInService 0 stuck ∧ tfind (blockAt 0 stuck).slots 7 = none ∧ tfind (blockAt 0 stuck).emptySince 7 = some 0 ∧ 0 + nsUnits 50000 ≤ stuck.time.mono ∧ pickClass 0 7 stuck ≠ none)
    ∧ pickClass 0 7 h = none
    ∧ (hollyhock (withMeter {}) = true ∧ (withMeter {}).lupin.linkDown = false ∧ hollyhock last = false)
    ∧ ((inMode .test).mode = .test ∧ ¬((inMode .boot).mode = .idle ∨ (inMode .boot).mode = .ready ∨ (inMode .boot).mode = .serving ∨ (inMode .boot).mode = .test))
    ∧ (let g : Hw := { h with fault := { corrected := [(2, (1, some 0, 1, 0x2FFF)), (3, (1, none, 1, 0x3FFF))] } }
       tget h.fault.corrected 2 (0, none, 0, 0) = (0, none, 0, 0) ∧ tget g.fault.corrected 2 (0, none, 0, 0) = (1, some 0, 1, 0x2FFF) ∧ g.time.mono < 0 + 60 * secUnit
       ∧ tget g.fault.corrected 3 (0, none, 0, 0) = (1, none, 1, 0x3FFF) ∧ 0 + 60 * secUnit ≤ 60 * secUnit)
    ∧ (let g : Hw := { withPair { role := 2 } with time := { mono := 86400 * secUnit } }
       selfTesting g = true ∧ g.mode = .serving ∧ g.pair.coreAt + nsUnits (1000000 * g.pair.coreInterval) ≤ g.time.mono ∧ g.pair.loopAt + secUnit ≤ g.time.mono
       ∧ g.pair.katAt + g.pair.katInterval * secUnit ≤ g.time.mono ∧ g.pair.scrubAt + g.pair.scrubPeriod * secUnit ≤ g.time.mono ∧ selfTesting h = false)
    ∧ ({ load := some { verifying := true } } : BootState).load = some { verifying := true } ∧ ({ verifying := false } : FwLoad).verifying = false
    ∧ hubUnit 0x0000 h = true ∧ hubUnit 0x1000 h = false ∧ hubUnit 0x0F17 h = true ∧ hubUnit 0x0F17 last = false ∧ ¬(3 < 3) ∧ 3 < 4
    ∧ (let r : Run := { item := {} }
       let b : Hw := { h with fab := { blocks := [(0, { running := [(7, r)] })] } }
       tfind (blockAt 0 b).running 7 = some r ∧ tfind (blockAt 0 h).running 7 = none)
    ∧ (let x : DieLink := linkTo 2 h
       arbitrate x [(5, 1), (0, 2), (7, 3)] = some (7, 3) ∧ arbitrate x [(5, 1), (0, 2)] = some (0, 2) ∧ (linkTo 2 (withdrawCredits 2 h)).withdrawn = true ∧ 3 ≠ 2)
    ∧ (∀ f ∈ fnsOf h, homeless f h = false ∧ f.slice ∉ h.fault.unplaced)
    ∧ ({ firmwareOk := false } : FlashImage).firmwareOk = false ∧ ({} : FlashImage).firstStageOk = true ∧ ({} : FlashImage).firmwareOk = true := by
  repeat' apply And.intro
  all_goals decide +kernel

theorem witness_StartUpAndSupply :
    let h := inMode .boot
    let count (n : Nat) : Hw := { h with rtc := { h.rtc with status := withBootCount h.rtc.status n } }
    let dark : Hw := { inMode .retain with rtc := { h.rtc with vaon := false } }
    let run : Hw := { (srv) with boot := { servingSince := some 0 } }
    h.mode = .boot ∧ h.boot.watchdog = false ∧ h.power.powerFail = false ∧ bootCount h.rtc.status < 3 ∧ 3 ≤ bootCount (count 3).rtc.status ∧ bootCount (count 2).rtc.status < 3
    ∧ ({ hang := some 0 } : BootOutcome).hang = some 0 ∧ ({} : BootOutcome).hang ≠ some 0
    ∧ (let g : Hw := { h with boot := { imageA := { firstStageOk := false } } }
       (flashImage (selectImage g) g).firstStageOk = false) ∧ (flashImage (selectImage h) h).firstStageOk = true ∧ (flashImage (selectImage h) h).firmwareOk = true
    ∧ ({ link := some 1 } : BootOutcome).link = some 1 ∧ 1 ≠ 0 ∧ 1 ∈ populated { h with variant := 0x40 } ∧ 1 ∉ populated { h with variant := 0x20 }
    ∧ h.cfg.stored = [] ∧ ({} : BootOutcome).hang = none
    ∧ dark.mode = .retain ∧ dark.rtc.vaon = false ∧ (let w : Hw := { h with boot := { watchdog := true }, time := { mono := 10 * secUnit } }
         w.mode = .boot ∧ w.boot.watchdog = true ∧ 10 * secUnit ≤ w.time.mono - w.boot.watchedAt ∧ w.power.powerFail = false
         ∧ ({ w with time := {} } : Hw).time.mono - w.boot.watchedAt < 10 * secUnit)
    ∧ (inMode .snowdrop).mode = .snowdrop ∧ run.mode = .serving ∧ run.boot.servingSince = some 0 ∧ 600 * secUnit ≤ 600 * secUnit - 0 ∧ run.time.mono - 0 < 600 * secUnit
    ∧ h.boot.servingSince = none ∧ h.mode ≠ .off ∧ h.mode ≠ .retain ∧ (inMode .off).mode = .off ∧ ({ dark with rtc := { dark.rtc with vbat := false } } : Hw).rtc.vbat = false
    ∧ dark.rtc.vbat = true ∧ h.rtc.vaon = true ∧ h.power.resetLow = true ∧ ({ run with power := { resetLow := false } } : Hw).power.resetLow = false
    ∧ railCounts 13 run = true ∧ railCounts 14 run = false ∧ railCounts 3 { run with variant := 0x20 } = false
    ∧ ({ h with power := { powerFail := true } } : Hw).power.powerFail = true ∧ ((1150 : Int) ≤ 1150 ∧ (1049 : Int) < 1050) := by
  repeat' apply And.intro
  all_goals decide +kernel

/-! ### Ill-formed operands are refused -/

/-- A command of each row of the catalogue, by its call. -/
def rows0 : List (Call → List Byte → Instr) :=
  [.modIdentify, .modSetState, .modSessionOpen, .modSessionClose, .modReset, .cfgStatus, .cfgLoad, .cfgSwap, .cfgSwapCancel, .cfgFnEnable, .cfgCheck, .timeStatus, .timeRead, .timeSet, .timeProfile, .timeTeuConfig, .timeTeuStop, .timeCaptureRead, .timeServoSet, .timeSetIncrement, .timePortSet, .timeIoDelaySet, .rtcStatus, .rtcSet, .rtcClearOsf]
def rows1 : List (Call → List Byte → Instr) :=
  [.rtcCapture, .rtcShift, .rtcAlarmSet, .rtcWakeSet, .rtcSqwSet, .rtcDisciplineSet, .ingestStatus, .ingestStreamStatus, .ingestPortCounters, .ingestRowRead, .ingestBlock, .ingestSimSet, .ingestStreamTune, .specStatus, .specSet, .specTune, .loopStatus, .loopProfile, .loopReset, .loopMemoryRead, .loopTune, .filtStatus, .filtStart, .filtStop, .filtProfile]
def rows2 : List (Call → List Byte → Instr) :=
  [.filtThresholdSet, .filtRead, .filtStageSet, .filtCoefLoad, .acqStatus, .acqLinkStatus, .acqArm, .acqStop, .acqTrigger, .acqRecordRead, .acqRecordLock, .acqProfile, .acqCaptureSet, .acqMaskSet, .acqLinkSet, .phasorStatus, .phasorStreamSet, .phasorRead, .locStatus, .locResultRead, .locArrivalRead, .locArrivalSubmit, .phasorTune, .locLineSet, .fabricStatus]
def rows3 : List (Call → List Byte → Instr) :=
  [.fabricProfile, .budgetStatus, .budgetSet, .fabricTune, .budgetThresholds, .budgetForce, .sliceStatus, .sliceQuiesce, .sliceResume, .sliceReset, .sliceProfile, .sliceLimits, .cycleStatus, .cycleStart, .cycleStop, .cycleStationStatus, .cycleRead, .cycleProfile, .cycleWrite, .cycleTune, .cycleForce, .netStatus, .netPortStatus, .netNodeRead, .netMirrorSet]
def rows4 : List (Call → List Byte → Instr) :=
  [.netMirrorRead, .netPortEnable, .netTune, .netAgeingSet, .pairStatus, .pairSwitch, .pairStageRead, .pairTune, .constStatus, .constPeerRead, .constManifestLoad, .constManifestRead, .constTune, .keyStatus, .keyInfo, .keyPublicRead, .keyDerive, .keyImport, .keyStage, .keyVerify, .keyCommit, .keyAbandon, .keyInvalidate, .keyAttest, .keyAedgenUpdate]
def rows5 : List (Call → List Byte → Instr) :=
  [.keyKatRun, .lupinStatus, .lupinSnapshotRead, .lupinLogRead, .lupinIdentity, .lupinUpdateOffer, .evrStatus, .evrRead, .evrSavedRead, .evrMark, .diagStatus, .diagFaultRead, .diagSelftest, .diagQuarantine, .diagInject, .diagFwLoad]

/-- A call no command may carry. -/
def badCall : Call := { privilege := 4 }

theorem test_bad_calls : (rows0 ++ rows1 ++ rows2 ++ rows3 ++ rows4 ++ rows5).all (fun f => !(f badCall []).wellFormed && (f adm []).wellFormed) = true := by decide +kernel

/-- One call for each check of a header and a call. -/
def badCalls : List Call :=
  [{ hdr := { version := 256 } }, { hdr := { flags := 256 } }, { hdr := { opcode := 65536 } }, { hdr := { tag := 65536 } }, { hdr := { slice := 65536 } }
   , { hdr := { length := 2 ^ 32 } }, { hdr := { session := 2 ^ 32 } }, { hdr := { sequence := 2 ^ 64 } }, { hdr := { reserved := 2 ^ 64 } }
   , { principal := 64 }, { privilege := 4 }, { scope := some 512 }]

theorem test_each_check_of_a_call : badCalls.all (fun c => !(Instr.modIdentify c []).wellFormed) = true := by decide +kernel

/-- One packet for each check of a packet. -/
def badPackets : List Packet := [{ hdr := { version := 256 } }, { params := zeros 65553 }, { trailer := 133 }, { signer := 64 }]

theorem test_each_check_of_a_packet :
    badPackets.all (fun x => !(Instr.commandPacketRx .pcie x).wellFormed && !(Instr.pairingPacketRx x).wellFormed) = true := by decide +kernel

/-- Events with an operand out of range, one for each check. -/
theorem test_bad_events_1 : (
  [.cmdDoorbellWrite (2 ^ 32) [] false, .cmdDoorbellWrite 0 [some { trailer := 133 }] false, .rspDoorbellWrite (2 ^ 32), .registerWrite 65536 0, .registerWrite 4 0
   , .sessionIdleTimeout 0, .sessionIdleTimeout 0xFFFFFFFF, .swapVote 8 0 0 true, .swapVote 0 256 0 true, .swapVote 0 0 65536 true, .svFrameRx 20 {}, .horizonExpiry 2048 0
   , .loopStep 128, .loopTeuFallback 128, .itemDispatch 24 0, .itemDispatch 0 8, .itemStart 24 0, .itemComplete 0 8, .specLinesDrained 4096
   , .ecallDecide 0 8 0, .ecallDecide 0 0 65536, .ecallSubmit 24 0 0, .ecallSubmit 0 0 (2 ^ 64), .ecallDma 0 8 0, .ecallDma 0 0 (2 ^ 64), .ecallEvr 24 0 0 0, .ecallEvr 0 0 65536 0, .ecallEvr 0 0 0 (2 ^ 64)
   , .ecallTime 24 0, .specStore 0 8 0 0 [], .specStore 0 0 (2 ^ 64) 0 [], .coreException 24 0, .runTimeOverrun 0 8, .c4WindowEnd 24, .primeDeadlineExpiry 4096 0, .primeDeadlineExpiry 0 16
   , .gooseRepetition .stage 4096, .heartbeatSend 2, .pathSilent 2, .selftestDue 0 {}, .selftestDue 5 {}, .peerAbsent 4096] : List Instr).all (fun i => !i.wellFormed) = true := by decide +kernel

theorem test_bad_events_2 : (
  [.ptpFrameRx 20 {} 0 0, .ptpFrameRx 0 {} 20 0, .ptpMessageSend 20 .sync 0, .ptpMessageSend 0 .sync 65536, .irigbFrameRx { format := 8 } true none, .irigbFrameRx { second := 61 } true none, .teuEdge 16, .rtcAlarmFire 2
   , .vbatSample 65536, .resetRelease { refclk := 2 }, .resetRelease { link := some 8 }, .resetRelease { hang := some 6 }, .resetRelease { kat := 32 }, .railOutOfTolerance 14
   , .blockClockChangeDone 24, .dmaDescriptorDone 3 false, .sliceQuiesced 512, .sliceZeroingDone 512, .cycleStartEvent 4, .inputWindowEnd 4, .cycleBodyEnd 4 []
   , .cycleWatchdogExpiry 4, .controlCoreException 4, .fastSampleDeframed 4 [] 0 0, .filterOutputSample 64, .jesdLinkStateChange 4 .loss, .jesdAlignDone 4, .jesdNoSysref 4
   , .gatherWindowEnd 16, .capturePostComplete 16, .captureCommitDone 16, .autoTimeout 16, .locatorArrivalFound 32 0 0, .arrivalRecordRx (zeros 127) true, .partnerWaitExpiry 32
   , .synchrophasorFrameSend 64, .c37118CommandRx 64 0, .c37118CommandRx 0 65536, .c37118TcpConnection 64 true] : List Instr).all (fun i => !i.wellFormed) = true := by decide +kernel

theorem test_bad_events_3 : (
  [.ethFrameRx 20 (zeros 64) true, .ethFrameRx 0 [] true, .pauseFrameRx 20 0, .pauseFrameRx 0 65536, .pauseSend 20, .pauseResend 20, .txUnderrun 20, .startStepDecay 20
   , .portLinkChange 20 true, .nodePathTimeout 5 0, .nodePathTimeout 0 (2 ^ 48), .prpWindowExpiry 5, .eccError (.l1 24 0 true), .eccError (.l2 0 8 true), .eccError (.dram 0 (some (24, 0)) true)
   , .blockError 24 false, .dispatcherStall 24 0, .dieLinkError 8 false 0, .hubFatalError 65536 true true, .correctedErrorReport 8, .pauseHoldExpiry 20, .frameTransmitEnd 20
   , .slavePathLoss 20] : List Instr).all (fun i => !i.wellFormed) = true := by decide +kernel

theorem test_good_events :
    [Instr.itemDispatch 23 7, .selftestDue 4 {}, .registerWrite 65528 0, .dieLinkError 7 true 0, .ethFrameRx 19 (zeros 64) true, .arrivalRecordRx (zeros 128) true].all
      (fun i => i.wellFormed) = true := by decide +kernel

/-! ### Small tests of one step or one operation, against the spec's own figures -/

/-- What one command does to the hardware. -/
def after (i : Instr) (h : Hw) : Hw := match step { pending := [i], hw := h } with | .next t => t.hw | _ => h

/-- Status and reason of the newest reply that waits for the response ring, and the length of its payload. -/
def lastReply (h : Hw) : Option (Nat × Nat × Nat) := h.cmd.waiting.getLast?.map (fun r => (r.status, r.reason, r.payload.length))

/-- The pool of a VXL-4820 (R354's example). -/
theorem test_pool_4820 : poolSize { variant := 0x20 } = 350208 ∧ poolSize { variant := 0x80 } = 331776 := by decide +kernel

/-- C3.B1.4 is SOURCE 0x5104 and block C3.B1 is 0x51FF (the example of R25). -/
theorem test_source : cellSource 13 4 = 0x5104 ∧ cellSource 13 0xFF = 0x51FF ∧ targetOf 0x5104 = some (13, 4) := by decide +kernel

/-- EPOCH 7, RANK 1 is claim 0x0701 (chapter 1's example), one epoch above the highest seen. -/
theorem test_claim : (contest 0 { withPair { role := 2, epochSeen := 6 } with time := { servo := .locked }, cfg := { bloom := some { pair := some { pair9 with rank := 1 } } } }).pair.claim = 0x0701 := by
  decide +kernel

/-- The check value of CRC-32C. -/
theorem test_crc32c : crc32c [0x31, 0x32, 0x33, 0x34, 0x35, 0x36, 0x37, 0x38, 0x39] = 0xE3069283 := by decide +kernel

/-- Single precision: 1 + 2 = 3, 1 / 3 to nearest even, and the root of 2. -/
theorem test_single_precision :
    fAdd 0x3F800000 0x40000000 = 0x40400000 ∧ fDiv 0x3F800000 0x40400000 = 0x3EAAAAAB ∧ fSqrt 0x40000000 = 0x3FB504F3 := by decide +kernel

/-- Ones written to INT_STATUS clear, zeros leave (R496). -/
theorem test_int_status : (after (.intStatusWrite 0x02) { inMode .idle with cmd := { word := 4, intStatus := 0x1D#64 ||| 2#64 } }).cmd.intStatus &&& 0x1D#64 = 0x1D#64 := by
  decide +kernel

/-- MOD.RESET is not legal in SERVING: ST_STATE_REFUSED (0x0010) (R481). -/
theorem test_reset_refused : lastReply (after (.modReset adm (le 4 0)) (srv)) = some (0x0010, rcModStateIllegal, 0) := by decide +kernel

/-- EVR.MARK writes one record. -/
theorem test_mark : (after (.evrMark adm (zeros 48)) (inMode .idle)).evr.next = 2 := by decide +kernel

/-- BUDGET.SET takes 20.0 W and refuses 19.9 W (R291). -/
theorem test_budget_set :
    (after (.budgetSet adm (le 2 200 ++ zeros 2)) (inMode .idle)).fab.budget.budget = some 200
    ∧ (after (.budgetSet adm (le 2 199 ++ zeros 2)) (inMode .idle)).fab.budget.budget = none := by decide +kernel

/-- The third failed start leads to SNOWDROP at the next release of reset, with its reason (R521, R524). -/
theorem test_snowdrop :
    let h : Hw := { inMode .boot with rtc := { status := withBootCount 0 2 } }
    let g := resetRelease {} (failedStart 5 h)
    bootCount (failedStart 5 h).rtc.status = 3 ∧ g.mode = .snowdrop ∧ g.boot.snowReason = 5 := by decide +kernel

/-- TAMPER_N zeroises the store and leaves SERVING (R436). -/
theorem test_tamper :
    let g := after .tamper (withPair {})
    g.keys.zeroised = true ∧ g.mode = .idle := by decide +kernel

/-- A frame of 60 bytes without its check is counted as received; one of 59 is a runt (R344). -/
theorem test_frame_lengths :
    (portAt 0 (after (.ethFrameRx 0 (zeros 60) true) (withPort 0 { link := true }))).rxFrames = 1
    ∧ (portAt 0 (after (.ethFrameRx 0 (zeros 59) true) (withPort 0 { link := true }))).runt = 1 := by decide +kernel

/-- Two commands leave the queue in the order they entered. -/
theorem test_queue_order :
    (match step { pending := [.powerFail, .tamper], hw := srv } with | .next t => t.pending | _ => []) = [.tamper] := by decide +kernel

/-- Every reason lies in the range of its group (R507). -/
theorem test_reason_ranges : allReasons.all (fun e => reasonOf e.1 e.2) = true ∧ allReasons.all (fun e => e.2 != 0x1206) = true := by decide +kernel

end Sys2Proof.Tests
end

section
/-! The dispatcher's turn among the cells of a block (R23, R279, R280), its tick, and the ends of a clock change and of a window. -/
namespace Sys2Proof.Machine

variable {n c : Nat} {h : Hw}

/-! ### The cell in turn -/

/-- A cell in service has something to gain from the dispatcher: an item may run on it, and its slot is empty (R279), or every
slot of its block is taken and its own holds a lower class than that item's (R280). -/
def CellWants (n x : Nat) (h : Hw) : Prop :=
  x ∈ cellsInService n h ∧ ∃ k, pickClass n x h = some k
    ∧ (tfind (blockAt n h).slots x = none
      ∨ ∃ i, tfind (blockAt n h).slots x = some i ∧ k < i.desc.cls ∧ ∀ y ∈ cellsInService n h, (tfind (blockAt n h).slots y).isSome = true)

/-- The cell is the first, from the block's turn on, that has something to gain (R23, log 77). -/
def InTurn (n c : Nat) (h : Hw) : Prop :=
  ∃ j < 8, c = ((blockAt n h).cellTurn + j) % 8 ∧ CellWants n c h ∧ ∀ i < j, ¬CellWants n (((blockAt n h).cellTurn + i) % 8) h

theorem contains_and_slotWants_iff (n x : Nat) (h : Hw) :
    ((cellsInService n h).contains x && slotWants n x h) = true ↔ CellWants n x h := by
  unfold CellWants slotWants
  rw [Bool.and_eq_true, List.contains_iff_mem]
  refine and_congr_right fun _ => ?_
  cases slot : tfind (blockAt n h).slots x with
  | none => cases pickClass n x h <;> simp [slot]
  | some i => cases pickClass n x h <;> simp [slot, and_comm]

/-- The cells are asked from the block's turn on, and the first that wants is served. -/
theorem nextCell_eq_some_iff : nextCell n h = some c ↔ InTurn n c h := by
  simp only [nextCell, InTurn, List.find?_map, Option.map_eq_some_iff, List.find?_range_eq_some, List.mem_range, Function.comp_apply,
    Bool.not_eq_true', ← Bool.not_eq_true, contains_and_slotWants_iff]
  constructor
  · rintro ⟨j, ⟨wants, lt, before⟩, rfl⟩
    exact ⟨j, lt, rfl, wants, before⟩
  · rintro ⟨j, lt, rfl, wants, before⟩
    exact ⟨j, ⟨wants, lt, before⟩, rfl⟩

/-! ### ITEM_DISPATCH (R279, R280) -/

/-- A cell that is not in turn gets nothing. -/
theorem itemDispatch_of_not_inTurn (e : ¬InTurn n c h) : itemDispatch n c h = h :=
  if_pos (mt nextCell_eq_some_iff.1 e)

/-- The empty slot of the cell in turn is filled, and the turn passes on. -/
theorem itemDispatch_of_empty (e : InTurn n c h) (slot : tfind (blockAt n h).slots c = none) :
    itemDispatch n c h = fillSlot 2048 n c (putBlock n { blockAt n h with cellTurn := (c + 1) % 8 } h) := by
  have next : nextCell n h = some c := nextCell_eq_some_iff.2 e
  simp [itemDispatch, next, slot]

/-- The item in the slot of the cell in turn first goes back to the head of its list. -/
theorem itemDispatch_of_taken (e : InTurn n c h) {i : Item} (slot : tfind (blockAt n h).slots c = some i) :
    itemDispatch n c h = fillSlot 2048 n c (putBlock n { blockAt n h with
      cellTurn := (c + 1) % 8, slots := tdel (blockAt n h).slots c, ready := { i with front := true } :: (blockAt n h).ready
      takenBack := inc32 (blockAt n h).takenBack } h) := by
  have next : nextCell n h = some c := nextCell_eq_some_iff.2 e
  simp [itemDispatch, next, slot]

/-! ### DISPATCHER_TICK (R281, R286, R307) -/

/-- The level that is due, if one is, comes into force (R286). -/
def takeDue (h : Hw) : Hw := match h.fab.budget.due with
  | some (level, causes) => takeLevel level causes h
  | none => h

/-- Each block that is not at its target clock starts towards it (R284). -/
def retargetAll (h : Hw) : Hw := (List.range (blockCount h)).foldl (fun g n => retarget n g) h

/-- The due items of every delay list are released (R281). -/
def releaseAll (h : Hw) : Hw := (List.range (blockCount h)).foldl (fun g n => releaseDelayed n g) h

/-- A new voltage leaves the variant as it is. -/
@[simp] theorem setVolts_variant (die : Nat) (h : Hw) : (setVolts die h).variant = h.variant := by
  unfold setVolts
  dsimp only
  split
  · rfl
  · simp

/-- A clock that starts to change leaves the variant as it is. -/
@[simp] theorem retarget_variant (n : Nat) (h : Hw) : (retarget n h).variant = h.variant := by
  unfold retarget
  dsimp only
  split
  · rfl
  · simp

/-- The new clocks leave the number of blocks as it is, so the releases that follow go through the same blocks. -/
theorem blockCount_retargetAll (h : Hw) : blockCount (retargetAll h) = blockCount h := by
  have kept : (retargetAll h).variant = h.variant := foldl_keeps Hw.variant _ (fun g n => retarget_variant n g) _ h
  unfold blockCount computeDies
  rw [kept]

/-- A second tick in a period does nothing. -/
theorem dispatcherTick_of_same (e : h.time.now * 100000 / 2 ^ 64 = h.fab.lastTick) : dispatcherTick h = h := if_pos e

/-- The first tick in a period: tuned values, level, clocks, releases and completions (log 25), in this order. -/
theorem dispatcherTick_of_first (e : h.time.now * 100000 / 2 ^ 64 ≠ h.fab.lastTick) :
    dispatcherTick h = writeCompletions (releaseAll (retargetAll (takeDue (takeTuned
      { h with fab := { h.fab with lastTick := h.time.now * 100000 / 2 ^ 64 } })))) := by
  unfold releaseAll
  rw [blockCount_retargetAll]
  exact if_neg e

/-! ### BLOCK_CLOCK_CHANGE_DONE (R284) -/

/-- The block takes its new clock, and the die the voltage for it. -/
theorem clockDone_of_changing {t : Nat} (e : (blockAt n h).changing = some t) :
    clockDone n h = setVolts (n / 4) (putBlock n { blockAt n h with changing := none, now := t } h) := by
  simp [clockDone, e]

/-- Without a change under way nothing ends. -/
theorem clockDone_of_steady (e : (blockAt n h).changing = none) : clockDone n h = h := by
  simp [clockDone, e]

/-! ### C4_WINDOW_END (R289) -/

/-- A window of 1 ms that has ended keeps its cell times, and a new one starts. -/
theorem windowEnd_of_ended (e : nsUnits 1000000 ≤ h.time.mono - (blockAt n h).windowAt) :
    windowEnd n h = putBlock n { blockAt n h with
      lastBusy := (blockAt n h).busy
        + ((blockAt n h).running.map (fun r => h.time.mono - max r.2.since (blockAt n h).windowAt)).foldl (· + ·) 0
      lastC4 := c4Used n h, busy := 0, busyC4 := 0, windowAt := h.time.mono } h := if_neg (Nat.not_lt.2 e)

/-- A window that runs on is left alone. -/
theorem windowEnd_of_open (e : h.time.mono - (blockAt n h).windowAt < nsUnits 1000000) : windowEnd n h = h := if_pos e

/-! ### The statement -/

/-- Settles O40: the cell that the dispatcher serves is the one in turn, and the tick's releases go through as many blocks as there
were before its clock changes; every other clause is the equation of its own case. -/
theorem theDispatcherFillsAndTicks : Obligations.TheDispatcherFillsAndTicks := by
  refine ⟨?dispatch, ?tick, ?clock, ?window⟩
  case dispatch =>
    exact fun n c s => ⟨fun e => runsAll_lift rfl (itemDispatch_of_not_inTurn e),
      fun e slot => runsAll_lift rfl (itemDispatch_of_empty e slot),
      fun i e slot => runsAll_lift rfl (itemDispatch_of_taken e slot)⟩
  case tick =>
    exact fun s => ⟨fun e => runsAll_lift rfl (dispatcherTick_of_same e), fun e => runsAll_lift rfl (dispatcherTick_of_first e)⟩
  case clock =>
    exact fun n s => ⟨fun t e => runs_lift rfl (clockDone_of_changing e), fun e => runs_lift rfl (clockDone_of_steady e)⟩
  case window =>
    exact fun n s => ⟨fun e => runs_lift rfl (windowEnd_of_ended e), fun e => runs_lift rfl (windowEnd_of_open e)⟩

end Sys2Proof.Machine
end

section
/-! A step on an empty queue (R27, R30, R69, R549; log 2). -/
namespace Sys2Proof.Machine

variable {h : Hw}

/-- What 2 ns move in every TIME cycle: the two clocks, the recorder's queue and the phase of the oscillator. -/
def clocksMoved (h : Hw) : Hw :=
  { h with
    time := { h.time with now := if stationRuns h then h.time.now + h.time.inc else h.time.now, mono := h.time.mono + nsUnits 2 }
    evr := { h.evr with backlog := h.evr.backlog - 1 }
    rtc := { h.rtc with phase := (h.rtc.phase + 128) % edgeCycles } }

/-- While the phase stays within its period, the pulses that are over end and nothing else follows. -/
theorem timeCycle_of_phase_lt (e : h.rtc.phase + 128 < edgeCycles) : timeCycle h = endPulses (clocksMoved h) :=
  if_neg (Nat.not_le.2 e)

/-- When the phase reaches its period, an edge of the oscillator takes place after them. -/
theorem timeCycle_of_le_phase (e : edgeCycles ≤ h.rtc.phase + 128) : timeCycle h = rtcEdge (endPulses (clocksMoved h)) :=
  if_pos e

/-- A step on an empty queue settles what one TIME cycle leaves. -/
theorem step_of_empty (h : Hw) : step { pending := [], hw := h } = .next { pending := [], hw := settle (timeCycle h) } := rfl

/-- Settles O2: the statement's two cases are those of the phase in a TIME cycle. -/
theorem idleStepIsOneTimeCycle : Obligations.IdleStepIsOneTimeCycle := by
  refine fun h => ⟨fun within => ?_, fun wraps => ?_⟩
  · rw [step_of_empty, timeCycle_of_phase_lt within]
    rfl
  · rw [step_of_empty, timeCycle_of_le_phase wraps]
    rfl

end Sys2Proof.Machine
end

section
/-! Where the commands of the module itself complete: MOD.IDENTIFY to MOD.SESSION_CLOSE, and MOD.RESET (R36, R473, R498). -/
namespace Sys2Proof.Machine

variable {c : Call} {p : List Byte} {h : Hw}

/-! ### MOD.IDENTIFY and MOD.SET_STATE -/

/-- Outside SNOWDROP the level and the hash are those of the image that runs, and nothing is drawn. -/
theorem modIdentify_of_not_snowdrop (e : h.mode ≠ .snowdrop) :
    modIdentify h = .ok h (le 1 h.variant ++ le 1 0xB1 ++ le 2 (flashImage h.boot.running h).compat ++ le 2 h.moduleId ++ le 1 h.boot.running
      ++ zeros 1 ++ le 8 h.serial ++ slice (flashImage h.boot.running h).hash 0 16) := by
  have awake : (h.mode == .snowdrop) = false := beq_eq_false_iff_ne.2 e
  simp only [modIdentify, identifyBytes, stepping, awake, e, if_false, Bool.false_eq_true]

/-- The codes of MOD.SET_STATE name READY, SERVING and TEST (R498). -/
theorem targetMode_of_code {n : Nat} {m : ModState} (e : (n = 5 ∧ m = .ready) ∨ (n = 6 ∧ m = .serving) ∨ (n = 7 ∧ m = .test)) :
    targetMode n = some m := by
  obtain ⟨rfl, rfl⟩ | ⟨rfl, rfl⟩ | ⟨rfl, rfl⟩ := e <;> rfl

/-- A locked servo permits service (R36). -/
theorem mayServe_of_locked (e : h.time.servo = .locked) : mayServe h = true := by
  simp only [mayServe, e, beq_self_eq_true, Bool.true_or]

/-- The present state has no side effect; READY, or any target with the servo locked, is entered (R36). -/
theorem modSetState_of_target {m : ModState} (e : targetMode (u8 p 0) = some m) (q : m = .ready ∨ m = h.mode ∨ h.time.servo = .locked) :
    modSetState p h = done (if m = h.mode then h else changeState m 0 h) := by
  simp only [modSetState, e]
  split
  case isTrue => rfl
  case isFalse other =>
    have permitted : (inService m && !mayServe h) = false := by
      obtain rfl | same | locked := q
      · rfl
      · exact absurd same other
      · simp only [mayServe_of_locked locked, Bool.not_true, Bool.and_false]
    simp only [permitted, if_false, Bool.false_eq_true]

/-! ### Sessions (R473) -/

/-- The module's nonce for a session that is opened now. -/
def openNonce (h : Hw) : List Byte := randomBytes 32 (drawn h)

/-- The ephemeral secret of a session that is opened now. -/
def openSecret (h : Hw) : List Byte := randomBytes 66 (drawn (drawn h))

/-- The session that MOD.SESSION_OPEN adds for a principal. -/
def openedSession (c : Call) (p : List Byte) (who : PrincipalConfig) (h : Hw) : Session :=
  let n := freshSession { h with cmd := { h.cmd with sessions := liveSessions h } }
  { number := n, principal := u16 p 0, privilege := u8 p 2, scope := who.scope, via := c.via
    timeout := if u32 p 4 = 0 then 600 else u32 p 4, usedAt := h.time.mono
    key := slice (Config.hkdf (slice p 8 32 ++ openNonce h) (slice (Config.ecdh (openSecret h) (slice p 40 133)) 0 66) (sessionLabel ++ le 4 n) 64) 0 64 }

/-- A principal that may have the level it asks for gets a session while fewer than 32 live; the sessions that have ended go. -/
theorem modSessionOpen_of_room {who : PrincipalConfig} (known : principal (u16 p 0) h = some who) (level : u8 p 2 ≤ who.privilege)
    (timeout : u32 p 4 = 0 ∨ (10 ≤ u32 p 4 ∧ u32 p 4 ≤ 3600)) (room : (liveSessions h).length < 32) :
    modSessionOpen c p h = .ok { h with cmd := { h.cmd with sessions := liveSessions h ++ [openedSession c p who h] }, free := h.free + 3 }
      (le 4 (openedSession c p who h).number ++ zeros 4 ++ openNonce h ++ slice (Config.publicKey (openSecret h)) 0 133 ++ zeros 3) := by
  have inRange : ¬((if u32 p 4 = 0 then 600 else u32 p 4) < 10 ∨ 3600 < (if u32 p 4 = 0 then 600 else u32 p 4)) := by
    split <;> omega
  simp only [modSessionOpen, known]
  rw [if_neg (Nat.not_lt.2 level), if_neg inRange, if_neg (Nat.not_le.2 room)]
  rfl

/-- A session that lives is removed. -/
theorem modSessionClose_of_live (e : ((liveSessions h).any (fun v => v.number == (if u32 p 0 = 0 then c.hdr.session else u32 p 0))) = true) :
    modSessionClose c p h = done { h with cmd := { h.cmd with
      sessions := h.cmd.sessions.filter (fun v => v.number != (if u32 p 0 = 0 then c.hdr.session else u32 p 0)) } } :=
  if_pos e

/-! ### MOD.RESET (R498, R518) -/

/-- What MOD.RESET notes for the restart: that it is due, and the image to run once. -/
def resetNoted (p : List Byte) (h : Hw) : Hw :=
  { h with boot := { h.boot with resetDue := true, oneShot := if u8 p 0 = 1 then some (1 - h.boot.running) else h.boot.oneShot } }

/-- Outside SNOWDROP the boot-attempt counter stays. -/
theorem modReset_of_not_snowdrop (image : u8 p 0 ≤ 1) (e : h.mode ≠ .snowdrop) : modReset p h = done (resetNoted p h) := by
  have awake : (h.mode == .snowdrop) = false := beq_eq_false_iff_ne.2 e
  simp only [modReset, resetNoted, awake, Nat.not_lt.2 image, if_false, Bool.false_eq_true]

/-- A due reset takes the module to BOOT. -/
theorem bootIfDue_of_due (e : h.boot.resetDue = true) :
    bootIfDue h = enterBoot (saveEvents 1 (abortSwap rcCfgSwapState 0xFF 0xFF 0 (leaveState .boot h))) :=
  if_pos e

/-! ### The statement -/

/-- Settles O12: every clause is the equation of its command's own chapter, under the reply that ST_OK gives; MOD.RESET's reply keeps
the note that BOOT is due. -/
theorem modCommandsComplete : Obligations.ModCommandsComplete := by
  refine ⟨?identify, ?setState, ?sessionOpen, ?sessionClose, ?reset⟩
  case identify => exact fun c p s q e => runs_ok rfl q (modIdentify_of_not_snowdrop e)
  case setState => exact fun c p s m q target free => runsAll_ok rfl q (modSetState_of_target (targetMode_of_code target) free)
  case sessionOpen =>
    intro c p s who q known level timeout room
    exact ⟨openedSession c p who s.hw, openNonce s.hw, openSecret s.hw, rfl, rfl, rfl, rfl, rfl, rfl, rfl, by simp only [openNonce, randomBytes, List.length_map, List.length_range], rfl,
      runs_ok rfl q (modSessionOpen_of_room known level timeout room)⟩
  case sessionClose =>
    intro c p s q n live
    exact runs_ok rfl q (modSessionClose_of_live live)
  case reset =>
    intro c p s q image e
    have reply : runCmd cmdModReset c p s.hw = okReply cmdModReset c [] (resetNoted p s.hw) := runCmd_ok q (modReset_of_not_snowdrop image e)
    have due : (okReply cmdModReset c [] (resetNoted p s.hw)).boot.resetDue = true := by simp only [okReply, answer_frame, resetNoted]
    exact runsAll_lift (f := fun h => bootIfDue (runCmd cmdModReset c p h)) rfl ((congrArg bootIfDue reply).trans (bootIfDue_of_due due))

end Sys2Proof.Machine
end

section
/-! Where the TIME commands complete (R59 to R67). -/
namespace Sys2Proof.Machine

variable {p : List Byte} {h : Hw}

/-! ### The servo's states -/

/-- A servo state other than the present one is entered: its age and the count towards lock start anew (R33, R59). -/
theorem setServo_of_ne {v : Servo} (e : h.time.servo ≠ v) :
    setServo v h = { h with time := { h.time with
      servo := v, servoSince := h.time.mono, within := 0
      unlockedSince := if adrift v && !adrift h.time.servo then h.time.mono else h.time.unlockedSince } } :=
  if_neg e

/-- A state in which the servo follows a source leaves the time since which it was without one. -/
theorem setServo_of_not_adrift {v : Servo} (e : h.time.servo ≠ v) (follows : adrift v = false) :
    setServo v h = { h with time := { h.time with servo := v, servoSince := h.time.mono, within := 0 } } := by
  rw [setServo_of_ne e, follows]
  rfl

/-- The present state is not entered again. -/
theorem setServo_of_eq {v : Servo} (e : h.time.servo = v) : setServo v h = h := if_pos e

/-! ### TIME.SET and TIME.PROFILE (R61, R62) -/

/-- TIME.SET takes the first state of the servo that knows a time, SEEDED, where there was none. -/
def seededIfUnset (h : Hw) : Hw :=
  if h.time.servo = .unset then { h with time := { h.time with servo := .seeded, servoSince := h.time.mono, within := 0 } } else h

/-- Without a locked source station time steps to the value named, and the UTC offset is kept. -/
theorem timeSet_of_not_locked (acquiring : h.time.servo ≠ .acquiring) (locked : h.time.servo ≠ .locked) :
    timeSet p h = done (stepTime (u64 p 0 * 2 ^ 64 + u32 p 8 * 2 ^ 32) 1
      { seededIfUnset h with time := { (seededIfUnset h).time with utcSet := some (u16 p 12) } }) := by
  have free : sourceLocked h = false := by
    simp only [sourceLocked, beq_eq_false_iff_ne.2 acquiring, beq_eq_false_iff_ne.2 locked, Bool.or_self]
  have seeded : (if h.time.servo = .unset then setServo .seeded h else h) = seededIfUnset h := by
    unfold seededIfUnset
    split
    case isTrue unset => exact setServo_of_not_adrift (by rw [unset]; decide) rfl
    case isFalse => rfl
  simp only [timeSet, free, seeded]
  rfl

/-- Values within the ranges of R62 replace the live profile. -/
theorem timeProfile_of_inRange (profile : u8 p 0 ∈ [1, 2]) (clockType : u8 p 2 ≤ 1) (l1 : u8 p 3 ≤ 1) (stepMode : u8 p 4 ≤ 1)
    (preference : u8 p 5 ≤ 2) :
    timeProfile p h = done (applyL1 (u8 p 3 == 1) { h with time := { h.time with
      profile := u8 p 0, domain := u8 p 1, clockType := u8 p 2, l1sync := u8 p 3, stepMode := u8 p 4, preference := u8 p 5 } }) := by
  simp only [List.mem_cons, List.not_mem_nil, or_false] at profile
  exact if_neg (by omega)

/-! ### Time event units (R48 to R51, R63, R64) -/

/-- An idle unit whose configuration and target are free is armed for the command. -/
theorem timeTeuConfig_of_free (set : h.time.servo ≠ .unset) (idle : (tget h.time.teus (u8 p 0) {}).armed = false)
    (range : teuRange (teuOf p) (u8 p 2) = none) (ball : ballHolder (u8 p 1) (u8 p 0) h = none) (pin : u8 p 1 = 8 → h.mode = .serving) :
    timeTeuConfig p h = .ok (armTeu (teuOf p) 0xFFFF 0x0305 (u8 p 0) h) (zeros 8) := by
  have unitIdle : (tget h.time.teus (teuOf p).unit {}).armed = false := idle
  have noHolder : ballHolder (teuOf p).target (teuOf p).unit h = none := ball
  have pinFree : ¬((teuOf p).target = 8 ∧ h.mode ≠ .serving) := fun k => k.2 (pin k.1)
  simp only [timeTeuConfig, range, noHolder]
  rw [if_neg set, unitIdle, if_neg Bool.false_ne_true, if_neg pinFree]
  rfl

/-- A unit with its entry replaced. -/
def putTeu (k : Nat) (u : Teu) (h : Hw) : Hw := { h with time := { h.time with teus := tset h.time.teus k u } }

variable {k : Nat}

/-- A unit that is not armed stays as it is. -/
theorem stopTeu_of_idle (e : (tget h.time.teus k {}).armed = false) : stopTeu k h = h := if_pos e

/-- A unit with a pulse in progress stops when the pulse has ended. -/
theorem stopTeu_of_pulse (e : (tget h.time.teus k {}).armed = true) (pulse : (tget h.time.teus k {}).pulse ≠ none) :
    stopTeu k h = putTeu k { tget h.time.teus k {} with stopping := true } h :=
  (if_neg (Bool.not_eq_false _ ▸ e)).trans (if_pos (Option.isSome_iff_ne_none.2 pulse))

/-- Between pulses a unit disarms at once; this is what then becomes of its ball. -/
theorem stopTeu_of_rest (e : (tget h.time.teus k {}).armed = true) (rest : (tget h.time.teus k {}).pulse = none) :
    stopTeu k h = if ballTarget (tget h.time.teus k {}).cfg.target
      then emit (.ballIdle (tget h.time.teus k {}).cfg.target) (putTeu k { tget h.time.teus k {} with armed := false } h)
      else putTeu k { tget h.time.teus k {} with armed := false } h :=
  (if_neg (Bool.not_eq_false _ ▸ e)).trans (if_neg (by rw [rest]; decide))

/-- A unit that exists is stopped. -/
theorem cmdTimeTeuStop_body_of_inRange {c : Call} (unit : u8 p 0 ≤ 15) : cmdTimeTeuStop.body c p h = done (stopTeu (u8 p 0) h) :=
  if_neg (Nat.not_lt.2 unit)

/-! ### TIME.CAPTURE_READ, TIME.SERVO_SET and TIME.SET_INCREMENT (R32, R65 to R67) -/

/-- The oldest captures of an input that exists leave its queue, and its drops are counted anew. -/
theorem timeCaptureRead_of_inRange (input : u8 p 0 ≤ 5) (atLeastOne : 1 ≤ u8 p 1) (most : u8 p 1 ≤ 16) :
    timeCaptureRead p h = .ok
      { h with time := { h.time with captures := tset h.time.captures (u8 p 0) { tget h.time.captures (u8 p 0) {} with
        queue := (tget h.time.captures (u8 p 0) {}).queue.drop (u8 p 1), dropped := 0, dropFlag := false } } }
      (le 1 ((tget h.time.captures (u8 p 0) {}).queue.take (u8 p 1)).length ++ le 1 (flag (tget h.time.captures (u8 p 0) {}).dropFlag 0)
        ++ le 2 (min (tget h.time.captures (u8 p 0) {}).dropped 0xFFFF) ++ zeros 4
        ++ (((tget h.time.captures (u8 p 0) {}).queue.take (u8 p 1)).map captureBytes).flatten) :=
  if_neg (by omega)

/-- Stable gains with their limits in range come into force. -/
theorem timeServoSet_of_stable (slewMin : 1000 ≤ u32 p 8) (slewMax : u32 p 8 ≤ 500000) (drift : u16 p 12 ≠ 0)
    (gains : stable (f32 p 0) (f32 p 4) h.time = true) :
    timeServoSet p h = done { h with time := { h.time with kp := some (f32 p 0), ki := some (f32 p 4), slewPpb := u32 p 8, driftPs := u16 p 12 } } :=
  (if_neg (by omega)).trans (if_neg (Bool.not_eq_false _ ▸ gains))

/-- An increment in range, where no source decides it, is taken on entry to FALLBACK or within it, with the error bound that held. -/
theorem timeSetIncrement_of_inRange (least : incMin ≤ u64 p 0) (most : u64 p 0 ≤ incMax)
    (free : h.time.servo = .holdover ∨ h.time.servo = .fallback ∨ (h.time.servo = .seeded ∧ h.time.osfSinceBoot = false)) :
    timeSetIncrement p h = done { setServo .fallback h with time := { (setServo .fallback h).time with
      inc := u64 p 0, source := 0, recent := [], e0 := if h.time.servo = .fallback then h.time.e0 else errorBound h } } :=
  (if_pos free).trans (if_neg (by omega))

/-- FALLBACK is entered from HOLDOVER, where time without a source goes on, or from SEEDED, where it begins. -/
theorem timeSetIncrement_of_entry (least : incMin ≤ u64 p 0) (most : u64 p 0 ≤ incMax)
    (entry : h.time.servo = .holdover ∨ (h.time.servo = .seeded ∧ h.time.osfSinceBoot = false)) :
    timeSetIncrement p h = done { h with time := { h.time with
      servo := .fallback, servoSince := h.time.mono, within := 0, unlockedSince := if h.time.servo = .holdover then h.time.unlockedSince else h.time.mono
      inc := u64 p 0, source := 0, recent := [], e0 := errorBound h } } := by
  have other : h.time.servo ≠ .fallback := by rcases entry with e | ⟨e, -⟩ <;> rw [e] <;> decide
  have since : (if adrift .fallback && !adrift h.time.servo then h.time.mono else h.time.unlockedSince)
      = if h.time.servo = .holdover then h.time.unlockedSince else h.time.mono := by
    rcases entry with e | ⟨e, -⟩ <;> rw [e] <;> rfl
  rw [timeSetIncrement_of_inRange least most (entry.imp_right .inr), setServo_of_ne other, since, if_neg other]

/-- In FALLBACK the increment alone changes, and the source is none. -/
theorem timeSetIncrement_of_fallback (least : incMin ≤ u64 p 0) (most : u64 p 0 ≤ incMax) (e : h.time.servo = .fallback) :
    timeSetIncrement p h = done { h with time := { h.time with inc := u64 p 0, source := 0, recent := [] } } := by
  rw [timeSetIncrement_of_inRange least most (.inr (.inl e)), setServo_of_eq e, if_pos e]

/-! ### TIME.PORT_SET and TIME.IO_DELAY_SET (R66, R68) -/

/-- A PTP port takes its enables and corrections; L1Sync needs a capable port. -/
theorem timePortSet_of_capable (port : u8 p 0 ≤ 10) (capable : bit (u8 p 1) 1 = true → l1Capable (u8 p 0) h = true) :
    timePortSet p h = done { h with time := { h.time with
      ports := tset h.time.ports (u8 p 0) { tget h.time.ports (u8 p 0) {} with
        ptp := bit (u8 p 1) 0, l1sync := bit (u8 p 1) 1, l1Up := bit (u8 p 1) 1 && (tget h.time.ports (u8 p 0) {}).l1Up
        l1Disabled := bit (u8 p 1) 1 && (tget h.time.ports (u8 p 0) {}).l1Disabled
        delayAsymmetry := s32 p 4, ingress := s32 p 8, egress := s32 p 12 } } } := by
  have notEleven : ¬(u8 p 0 = 11 ∧ (bit (u8 p 1) 0 = true ∨ bit (u8 p 1) 1 = true)) := by omega
  have able : ¬(bit (u8 p 1) 1 = true ∧ l1Capable (u8 p 0) h = false) := fun k => Bool.false_ne_true (k.2.symm.trans (capable k.1))
  exact (if_neg notEleven).trans ((if_neg (Nat.not_lt.2 port)).trans (if_neg able))

/-- A delay within 20 ns of a timing ball is taken. -/
theorem timeIoDelaySet_of_inRange (ball : u8 p 0 ≤ 10) (least : -20000 ≤ s32 p 4) (most : s32 p 4 ≤ 20000) :
    timeIoDelaySet p h = done { h with time := { h.time with ioDelay := tset h.time.ioDelay (u8 p 0) (s32 p 4) } } :=
  if_neg (by omega)

/-! ### The statement -/

/-- Settles O18: every clause is the equation of its command's own chapter, under the reply that ST_OK gives. -/
theorem timeCommandsComplete : Obligations.TimeCommandsComplete := by
  refine fun c p s => ⟨?status, ?read, ?set, ?profile, ?teuConfig, ?teuStop, ?captureRead, ?servoSet, ?setIncrement, ?portSet, ?ioDelaySet⟩
  case status => exact fun q => runs_ok rfl q rfl
  case read => exact fun q => ⟨_, _, _, rfl, runs_ok rfl q rfl⟩
  case set => exact fun q acquiring locked => runsAll_ok rfl q (timeSet_of_not_locked acquiring locked)
  case profile =>
    exact fun q profile clockType l1 stepMode preference => runs_ok rfl q (timeProfile_of_inRange profile clockType l1 stepMode preference)
  case teuConfig => exact fun q set idle range ball pin => runs_ok rfl q (timeTeuConfig_of_free set idle range ball pin)
  case teuStop =>
    intro q unit u now
    have stops {g : Hw} (e : stopTeu (u8 p 0) s.hw = g) : Runs (.timeTeuStop c p) s (okReply cmdTimeTeuStop c [] g) :=
      runs_ok rfl q ((cmdTimeTeuStop_body_of_inRange unit).trans (congrArg done e))
    exact ⟨fun armed rest ball => stops ((stopTeu_of_rest armed rest).trans (if_pos ball)),
      fun armed rest ball => stops ((stopTeu_of_rest armed rest).trans (if_neg (Bool.eq_false_iff.1 ball))),
      fun armed pulse => stops (stopTeu_of_pulse armed pulse), fun idle => stops (stopTeu_of_idle idle)⟩
  case captureRead => exact fun q input atLeastOne most => runs_ok rfl q (timeCaptureRead_of_inRange input atLeastOne most)
  case servoSet => exact fun q slewMin slewMax drift gains => runs_ok rfl q (timeServoSet_of_stable slewMin slewMax drift gains)
  case setIncrement =>
    exact fun q least most => ⟨fun entry => runs_ok rfl q (timeSetIncrement_of_entry least most entry),
      fun e => runs_ok rfl q (timeSetIncrement_of_fallback least most e)⟩
  case portSet => exact fun q port capable => runs_ok rfl q (timePortSet_of_capable port capable)
  case ioDelaySet => exact fun q ball least most => runs_ok rfl q (timeIoDelaySet_of_inRange ball least most)

end Sys2Proof.Machine
end

section
/-! The servo's transitions: SERVO_MEASUREMENT, SERVE_EXIT_TIME_FAULT, FAULT_RE_STEP and SOURCE_LOSS (R31, R33 to R35, R43, R47, R55). -/
namespace Sys2Proof.Machine

variable {h : Hw} {m : Measurement} {theta : Int} {recent : List Int}

/-! ### Entries to FAULT and ACQUIRING (R34, R35) -/

/-- An offset beyond 1 ms. -/
theorem beyond_of_lt (e : 2 ^ 64 < theta.natAbs * 1000) : beyond theta = true := decide_eq_true e

/-- An offset within 1 ms. -/
theorem beyond_of_le (e : theta.natAbs * 1000 ≤ 2 ^ 64) : beyond theta = false := decide_eq_false (Nat.not_lt.2 e)

/-- Entry to FAULT forgets the measurements and asks for the exit to READY. -/
theorem enterFault_of_ne (e : h.time.servo ≠ .fault) :
    enterFault h = { h with time := { h.time with
      servo := .fault, servoSince := h.time.mono, within := 0, exitRequest := true, confirmed := none, recent := [] } } := by
  unfold enterFault
  rw [setServo_of_not_adrift e rfl]

/-- The first entry to ACQUIRING since boot steps station time by the offset. -/
theorem enterAcquiring_of_first (e : h.time.servo ≠ .acquiring) (first : h.time.firstLock = false) :
    enterAcquiring theta h = stepTime (h.time.now - theta).toNat 0 { h with time := { h.time with
      servo := .acquiring, servoSince := h.time.mono, within := 0, thetaSum := 0, theta := 0, firstLock := true, recent := [] } } := by
  unfold enterAcquiring
  rw [setServo_of_not_adrift e rfl]
  exact if_neg (Bool.eq_false_iff.1 first)

/-- A later entry corrects INC and does not step. -/
theorem enterAcquiring_of_later (e : h.time.servo ≠ .acquiring) (later : h.time.firstLock = true) :
    enterAcquiring theta h = discipline theta { h with time := { h.time with
      servo := .acquiring, servoSince := h.time.mono, within := 0, thetaSum := 0, theta := theta } } := by
  unfold enterAcquiring
  rw [setServo_of_not_adrift e rfl]
  exact if_pos later

/-! ### A measurement that the servo takes, by the state it finds (R31, R33) -/

/-- What every measurement that counts leaves: its source is the one in use, and its offset the newest. -/
def measured (m : Measurement) (theta : Int) (recent : List Int) (h : Hw) : Hw :=
  { h with time := { h.time with
    source := m.source, logTm := if m.source = 1 then m.logSync else 0, recent := recent, theta := theta, candidate := [] } }

/-- The bound of lock in ns: 10 on a slave port with L1Sync, else 100 (R33). -/
def lockBound (m : Measurement) (h : Hw) : Nat :=
  if (tget h.time.ports (h.time.slavePort.getD 0) {}).l1Up && m.source == 1 then 10 else 100

/-- In ACQUIRING INC is corrected, and the measurements in a row within the bound of lock are counted. -/
def lockCounted (m : Measurement) (theta : Int) (recent : List Int) (h : Hw) : Hw :=
  let g := discipline theta (measured m theta recent h)
  { g with time := { g.time with within := if theta.natAbs * 1000000000 ≤ lockBound m h * 2 ^ 64 then g.time.within + 1 else 0 } }

/-- Before a first source eight agreeing measurements enter ACQUIRING. -/
theorem servoTake_of_searching_agreed (e : h.time.servo ∈ [.unset, .seeded]) (agree : agreed recent = true) :
    servoTake m.source m.logSync theta recent h = enterAcquiring theta (measured m theta recent h) := by
  simp only [List.mem_cons, List.not_mem_nil, or_false] at e
  rcases e with e | e <;> simp only [servoTake, measured, e, agree, ↓reduceIte]

/-- Until then the measurements are kept. -/
theorem servoTake_of_searching_apart (e : h.time.servo ∈ [.unset, .seeded]) (apart : agreed recent = false) :
    servoTake m.source m.logSync theta recent h = measured m theta recent h := by
  simp only [List.mem_cons, List.not_mem_nil, or_false] at e
  rcases e with e | e <;> simp only [servoTake, measured, e, apart, Bool.false_eq_true, ↓reduceIte]

/-- Once a source has been followed, an offset beyond 1 ms is a fault. -/
theorem servoTake_of_beyond (e : h.time.servo ∈ [.acquiring, .locked, .holdover]) (far : 2 ^ 64 < theta.natAbs * 1000) :
    servoTake m.source m.logSync theta recent h = enterFault (measured m theta recent h) := by
  simp only [List.mem_cons, List.not_mem_nil, or_false] at e
  rcases e with e | e | e <;> simp only [servoTake, measured, e, beyond_of_lt far, ↓reduceIte]

/-- In HOLDOVER eight agreeing measurements within 1 ms enter ACQUIRING. -/
theorem servoTake_of_holdover_agreed (e : h.time.servo = .holdover) (near : theta.natAbs * 1000 ≤ 2 ^ 64) (agree : agreed recent = true) :
    servoTake m.source m.logSync theta recent h = enterAcquiring theta (measured m theta recent h) := by
  simp only [servoTake, measured, e, agree, beyond_of_le near, Bool.false_eq_true, ↓reduceIte]

/-- Until then HOLDOVER goes on. -/
theorem servoTake_of_holdover_apart (e : h.time.servo = .holdover) (near : theta.natAbs * 1000 ≤ 2 ^ 64) (apart : agreed recent = false) :
    servoTake m.source m.logSync theta recent h = measured m theta recent h := by
  simp only [servoTake, measured, e, apart, beyond_of_le near, Bool.false_eq_true, ↓reduceIte]

/-- In LOCKED an offset within 1 ms corrects INC. -/
theorem servoTake_of_locked (e : h.time.servo = .locked) (near : theta.natAbs * 1000 ≤ 2 ^ 64) :
    servoTake m.source m.logSync theta recent h = discipline theta (measured m theta recent h) := by
  simp only [servoTake, measured, e, beyond_of_le near, Bool.false_eq_true, ↓reduceIte]

/-- In ACQUIRING sixteen measurements in a row within the bound lock. -/
theorem servoTake_of_acquiring (e : h.time.servo = .acquiring) (near : theta.natAbs * 1000 ≤ 2 ^ 64) :
    servoTake m.source m.logSync theta recent h = if 16 ≤ (lockCounted m theta recent h).time.within
      then { setServo .locked (lockCounted m theta recent h) with time :=
        { (setServo .locked (lockCounted m theta recent h)).time with lockedOnce := true } }
      else lockCounted m theta recent h := by
  unfold lockCounted lockBound measured
  simp only [servoTake, e, beyond_of_le near, decide_eq_true_eq, Bool.false_eq_true, ↓reduceIte]

/-! ### Which measurements count (R33, R55, R62) -/

/-- A measurement of a source that may not be used changes nothing. -/
theorem servoMeasure_of_unusable (e : sourceUsable m.source h = false) : servoMeasure m h = h := if_pos e

/-- A measurement of the source in use follows those before it; while none is in use it is the first. -/
theorem servoMeasure_of_counting (usable : sourceUsable m.source h = true) (e : h.time.source = m.source ∨ h.time.source = 0) :
    servoMeasure m h = servoTake m.source m.logSync (corrected m h)
      (if h.time.source = m.source then (corrected m h :: h.time.recent).take 8 else [corrected m h]) h := by
  unfold servoMeasure
  dsimp only
  rw [if_neg (Bool.not_eq_false _ ▸ usable)]
  by_cases same : h.time.source = m.source
  · rw [if_pos same, if_pos same]
  · rw [if_neg same, if_neg same, if_pos (e.resolve_left same)]

/-- While another source is in use, one that does not rank above it changes nothing. -/
theorem servoMeasure_of_lower (usable : sourceUsable m.source h = true) (other : h.time.source ≠ m.source) (inUse : h.time.source ≠ 0)
    (lower : preferred m.source h = false) : servoMeasure m h = h :=
  (if_neg (Bool.not_eq_false _ ▸ usable)).trans ((if_neg other).trans ((if_neg inUse).trans (if_pos lower)))

/-- One that ranks above it is kept until eight agree. -/
theorem servoMeasure_of_higher_apart (usable : sourceUsable m.source h = true) (other : h.time.source ≠ m.source) (inUse : h.time.source ≠ 0)
    (higher : preferred m.source h = true) (apart : agreed ((corrected m h :: h.time.candidate).take 8) = false) :
    servoMeasure m h = { h with time := { h.time with candidate := (corrected m h :: h.time.candidate).take 8 } } :=
  (if_neg (Bool.not_eq_false _ ▸ usable)).trans ((if_neg other).trans ((if_neg inUse).trans ((if_neg (Bool.not_eq_false _ ▸ higher)).trans (if_neg (Bool.eq_false_iff.1 apart)))))

/-! ### The exit from service and the re-step (R35) -/

/-- The exit that FAULT has requested takes SERVING and TEST to READY. -/
theorem timeFaultExit_of_request (e : h.time.exitRequest = true) :
    timeFaultExit h = if h.mode = .serving ∨ h.mode = .test
      then changeState .ready 0x030B { h with time := { h.time with exitRequest := false } }
      else { h with time := { h.time with exitRequest := false } } := by
  unfold timeFaultExit
  rw [if_neg (Bool.not_eq_false _ ▸ e)]
  simp only [inService, Bool.or_eq_true, beq_iff_eq]

/-- In READY or IDLE the confirmed offset steps station time, and ACQUIRING begins. -/
theorem faultReStep_of_confirmed (e : h.time.servo = .fault) (offset : h.time.confirmed = some theta) (out : h.mode = .ready ∨ h.mode = .idle) :
    faultReStep h = stepTime (h.time.now - theta).toNat 2 { h with time := { h.time with
      servo := .acquiring, servoSince := h.time.mono, within := 0, confirmed := none, exitRequest := false, firstLock := true
      recent := [], theta := 0, thetaSum := 0 } } := by
  have entered := setServo_of_not_adrift (h := h) (v := .acquiring) (by rw [e]; decide) rfl
  simp only [faultReStep, e, offset, entered]
  exact if_pos out

/-! ### Loss of the source (R33, R47) -/

variable {b : Bool} {f : Hw → Hw}

/-- An event whose condition holds takes place. -/
theorem onlyIf_of_true (e : b = true) : onlyIf b f h = f h := if_pos e

/-- An event whose condition does not hold changes nothing (log 7). -/
theorem onlyIf_of_false (e : b = false) : onlyIf b f h = h := if_neg (Bool.eq_false_iff.1 e)

/-- A state that has lost the source it followed is in HOLDOVER, with INC frozen, and the error bound grows from its value now. -/
theorem sourceLost_of_following {g : Hw} (e : h.time.servo = .locked ∨ h.time.servo = .acquiring)
    (entered : freezeInc (setServo .holdover (noteLeap (noParent { h with time := { h.time with
      source := 0, recent := [], candidate := [], utcIrig := none, ppsAt := none, irigAt := none } }))) = g) :
    sourceLost h = { g with time := { g.time with e0 := errorBound h } } := by
  subst entered
  rcases e with e | e <;> (unfold sourceLost; simp only [e])

/-- SOURCE_LOSS takes place only where the source is silent. -/
theorem exec_sourceLoss (s : State) : exec .sourceLoss s = liftAll (fun h => onlyIf (sourceSilent h) sourceLost h) s := rfl

/-- What came last, if anything did, came at least `limit` ago. -/
theorem quiet_iff (last : Option Nat) (limit : Nat) : quiet last limit h = true ↔ ∀ t, last = some t → limit ≤ h.time.mono - t := by
  cases last with
  | none => simp only [quiet, reduceCtorEq, false_implies, implies_true]
  | some t => simp only [quiet, decide_eq_true_eq, Option.some.injEq, forall_eq']

/-- PTP is silent on the slave port, and in a PRP pair on its partner too; PPS and IRIG-B are silent for three seconds. -/
theorem sourceSilent_iff : sourceSilent h = true ↔
    (h.time.source = 1 ∧ ∀ p, h.time.slavePort = some p → portSilent p h = true ∧ (prpPort p h = true → portSilent (pairedPort p) h = true))
    ∨ (h.time.source = 2 ∧ ∀ t, (if h.time.ppsAt.isSome then h.time.ppsAt else h.time.irigAt) = some t → 3 * secUnit ≤ h.time.mono - t) := by
  unfold sourceSilent
  by_cases ptp : h.time.source = 1
  · cases port : h.time.slavePort with
    | none => simp only [ptp, ↓reduceIte, reduceCtorEq, false_implies, implies_true, and_true, true_or]
    | some p =>
      cases prp : prpPort p h <;>
        simp only [ptp, prp, ↓reduceIte, Bool.not_false, Bool.not_true, Bool.true_or, Bool.false_or, Bool.and_true, Bool.and_eq_true,
          Option.some.injEq, forall_eq', Bool.false_eq_true, false_implies, forall_const, and_true, true_and, Nat.reduceEqDiff, false_and, or_false]
  · by_cases irig : h.time.source = 2
    · simp only [irig, Nat.reduceEqDiff, ↓reduceIte, quiet_iff, false_and, true_and, false_or]
    · simp only [ptp, irig, ↓reduceIte, Bool.false_eq_true, false_and, or_self]

/-! ### The statement -/

/-- Settles O19: which measurements count is one question and what the servo makes of one that does, by its state, the other; the
remaining clauses are the equations of their events. -/
theorem servoTransitions : Obligations.ServoTransitions := by
  refine ⟨?measurement, ?exit, ?reStep, ?loss, ?noLoss, ?silent⟩
  case measurement =>
    intro m s t theta recent seen l1 within counted
    refine ⟨fun usable inUse => ?counts, fun e => runsAll_lift rfl (servoMeasure_of_unusable e), fun usable other inUse =>
      ⟨fun lower => runsAll_lift rfl (servoMeasure_of_lower usable other inUse lower),
        fun higher apart => runsAll_lift rfl (servoMeasure_of_higher_apart usable other inUse higher apart)⟩⟩
    case counts =>
      have takes {g : Hw} (e : servoTake m.source m.logSync theta recent s.hw = g) : RunsAll (.servoMeasurement m) s g :=
        runsAll_lift rfl ((servoMeasure_of_counting usable inUse).trans e)
      refine ⟨?firstEntry, ?searching, ?fault, ?reEntry, ?holdover, ?locked, ?acquiring, ?lock⟩
      case firstEntry =>
        intro e agree first
        have ne : t.servo ≠ .acquiring := fun k => absurd (k ▸ e) (by decide)
        exact takes ((servoTake_of_searching_agreed e agree).trans (enterAcquiring_of_first ne first))
      case searching => exact fun e apart => takes (servoTake_of_searching_apart e apart)
      case fault =>
        intro e far
        have ne : t.servo ≠ .fault := fun k => absurd (k ▸ e) (by decide)
        exact takes ((servoTake_of_beyond e far).trans (enterFault_of_ne ne))
      case reEntry =>
        intro e near agree later
        have ne : t.servo ≠ .acquiring := by rw [e]; decide
        exact takes ((servoTake_of_holdover_agreed e near agree).trans (enterAcquiring_of_later ne later))
      case holdover => exact fun e near apart => takes (servoTake_of_holdover_apart e near apart)
      case locked => exact fun e near => takes (servoTake_of_locked e near)
      case acquiring => exact fun e near few => takes ((servoTake_of_acquiring e near).trans (if_neg (Nat.not_le.2 few)))
      case lock => exact fun e near enough => takes ((servoTake_of_acquiring e near).trans (if_pos enough))
  case exit => exact fun s e => runsAll_lift rfl (timeFaultExit_of_request e)
  case reStep => exact fun s theta e offset out => runsAll_lift rfl (faultReStep_of_confirmed e offset out)
  case loss =>
    intro s silent e h
    exact runsAll_lift (exec_sourceLoss s) ((onlyIf_of_true silent).trans (sourceLost_of_following e rfl))
  case noLoss => exact fun s heard => runsAll_lift (exec_sourceLoss s) (onlyIf_of_false heard)
  case silent => exact fun h => sourceSilent_iff

end Sys2Proof.Machine
end

section
/-! Fine captures: TDC_EDGE_CAPTURE (R52, R53, R580). -/
namespace Sys2Proof.Machine

variable {input code num den : Nat} {falling : Bool} {h : Hw}

/-! ### An edge on PPS_IN -/

/-- An edge on PPS_IN is noted for the source, captured or not. -/
def ppsNoted (input : Nat) (h : Hw) : Hw :=
  if input = 4 then { h with time := { h.time with ppsAt := some h.time.mono } } else h

/-- A part of the state that the time of the last PPS edge is no part of stays with the note. -/
theorem ppsNoted_keeps {α : Type} (f : Hw → α) (k : f { h with time := { h.time with ppsAt := some h.time.mono } } = f h) :
    f (ppsNoted input h) = f h := by
  unfold ppsNoted
  split
  · exact k
  · rfl

/-! ### An edge and its time -/

/-- The captures of an input. -/
def captureInput (input : Nat) (h : Hw) : CaptureInput := tget h.time.captures input {}

/-- The fine count in ns: `code` steps of which `num / den` make 2 ns. -/
def fineNs (code num den : Nat) : Rat := if num = 0 then 0 else mkRat (code * den * 2) num

/-- Elapsed time of an edge in ns. -/
def edgeNs (code num den : Nat) (h : Hw) : Rat := (monoNs h.time.mono : Rat) - fineNs code num den

/-- Whole cycles of 2 ns, less the fine count. -/
theorem edgeNs_of_ne (e : num ≠ 0) : edgeNs code num den h = ((h.time.mono / 36893488147 * 2 : Nat) : Rat) - mkRat (code * den * 2) num := by
  rw [edgeNs, fineNs, if_neg e]
  rfl

/-- An edge comes less than `gap` ns after the last one captured. -/
def edgeNear (gap : Nat) (edge : Rat) (q : CaptureInput) : Bool :=
  match q.lastEdge with
  | some l => decide (edge - l < (gap : Rat))
  | none => false

theorem edgeNear_iff (gap : Nat) (edge : Rat) (q : CaptureInput) :
    edgeNear gap edge q = true ↔ ∃ l, q.lastEdge = some l ∧ edge - l < (gap : Rat) := by
  unfold edgeNear
  cases q.lastEdge with
  | none => simp only [Bool.false_eq_true, reduceCtorEq, false_and, exists_const]
  | some l => simp only [decide_eq_true_eq, Option.some.injEq, exists_eq_left']

/-- An edge that is not captured: it comes too close to the last one, or the queue is full (R52). -/
def EdgeDropped (edge : Rat) (q : CaptureInput) : Prop := edgeNear 20 edge q = true ∨ 16 ≤ q.queue.length

/-- How late a second edge is stamped: by a free part of 150 ps where KL-01 applies (R580). -/
def captureLate (edge : Rat) (q : CaptureInput) (h : Hw) : Rat :=
  if edgeNear 24 edge q then mkRat ((Config.freeNat h.free % (150 * 2 ^ 64 + 1) : Nat)) (10 ^ 12) else 0

/-- Fractions of one denominator are ordered as their numerators. -/
theorem mkRat_le_mkRat_of_le {a b : Int} {d : Nat} (e : a ≤ b) : mkRat a d ≤ mkRat b d := by
  rcases Nat.eq_zero_or_pos d with rfl | pos
  · simp only [Rat.mkRat_zero]
    exact Rat.le_refl
  · rw [Rat.mkRat_eq_div, Rat.mkRat_eq_div, Rat.div_def, Rat.div_def]
    exact Rat.mul_le_mul_of_nonneg_right (Rat.intCast_le_intCast.2 e) (Rat.le_of_lt (Rat.inv_pos.2 (Rat.natCast_pos.2 pos)))

/-- A fraction whose numerator is not negative is not negative. -/
theorem mkRat_nonneg_of_nonneg {a : Int} {d : Nat} (e : 0 ≤ a) : 0 ≤ mkRat a d := by
  rw [← Rat.zero_mkRat d]
  exact mkRat_le_mkRat_of_le e

/-- It is late, and by 150 ps at most. -/
theorem captureLate_bounds (edge : Rat) (q : CaptureInput) (h : Hw) :
    0 ≤ captureLate edge q h ∧ captureLate edge q h ≤ mkRat (150 * 2 ^ 64) (10 ^ 12) := by
  have most : Config.freeNat h.free % (150 * 2 ^ 64 + 1) ≤ 150 * 2 ^ 64 := Nat.le_of_lt_succ (Nat.mod_lt _ (by decide))
  unfold captureLate
  split
  · exact ⟨mkRat_nonneg_of_nonneg (Int.natCast_nonneg _), mkRat_le_mkRat_of_le (Int.ofNat_le.2 most)⟩
  · exact ⟨Rat.le_refl, mkRat_nonneg_of_nonneg (by decide)⟩

/-- The stamp of an edge: the present less the fine count and the input's delay, with what KL-01 adds. -/
def captureTime (input code num den : Nat) (late : Rat) (h : Hw) : Nat :=
  ((h.time.now : Rat) - fineNs code num den * mkRat (2 ^ 64) 1000000000
    - mkRat ((if input ≤ 4 then tget h.time.ioDelay input 0 else tget h.time.ioDelay 10 0) * 2 ^ 64) (10 ^ 12) + late).floor.toNat

/-- TRIG_IN and PPS_IN have the delay of their own index, SYSREF the last. -/
theorem captureTime_of_ne (late : Rat) (e : num ≠ 0) : captureTime input code num den late h =
    ((h.time.now : Rat) - mkRat (code * den * 2) num * mkRat (2 ^ 64) 1000000000
      - mkRat (tget h.time.ioDelay (if input ≤ 4 then input else 10) 0 * 2 ^ 64) (10 ^ 12) + late).floor.toNat := by
  simp only [captureTime, fineNs, e, if_false]
  split <;> rfl

/-! ### What becomes of an edge -/

/-- An input's captures replaced. -/
def putInput (input : Nat) (q : CaptureInput) (h : Hw) : Hw := { h with time := { h.time with captures := tset h.time.captures input q } }

/-- An input's queue with an edge captured at a time. -/
def captureKept (falling : Bool) (edge : Rat) (t cls : Nat) (q : CaptureInput) : CaptureInput :=
  { q with
    queue := q.queue ++ [{ sec := t / 2 ^ 64, frac40 := t / 2 ^ 24 % 2 ^ 40, edge := if falling then 1 else 0, cls := cls, sequence := q.sequence }]
    sequence := (q.sequence + 1) % 2 ^ 32, lastEdge := some edge }

/-- The note of an edge on PPS_IN leaves what the edge's capture depends on. -/
theorem ppsNoted_edge (input code num den : Nat) (h : Hw) :
    edgeNs code num den (ppsNoted input h) = edgeNs code num den h ∧ captureInput input (ppsNoted input h) = captureInput input h
    ∧ (∀ late, captureTime input code num den late (ppsNoted input h) = captureTime input code num den late h)
    ∧ (∀ edge q, captureLate edge q (ppsNoted input h) = captureLate edge q h)
    ∧ timeClass (ppsNoted input h) = timeClass h ∧ (ppsNoted input h).time.captures = h.time.captures :=
  ⟨ppsNoted_keeps _ rfl, ppsNoted_keeps _ rfl, fun _ => ppsNoted_keeps _ rfl, fun _ _ => ppsNoted_keeps _ rfl, ppsNoted_keeps _ rfl,
    ppsNoted_keeps (fun h => h.time.captures) rfl⟩

/-- A dropped edge is counted. -/
theorem captureEdge_of_dropped (e : EdgeDropped (edgeNs code num den h) (captureInput input h)) :
    captureEdge input falling code num den h =
      putInput input { captureInput input h with dropped := (captureInput input h).dropped + 1, dropFlag := true } (ppsNoted input h) := by
  obtain ⟨edge, queue, -⟩ := ppsNoted_edge input code num den h
  rw [← edge, ← queue] at e
  rw [← queue]
  exact if_pos e

/-- The free counter after an edge that is kept: its lateness under KL-01 is drawn. -/
theorem drawnIf_eq (near : Bool) (h : Hw) : (if near then drawn else id) h = { h with free := h.free + (if near then 1 else 0) } := by
  cases near <;> rfl

/-- Any other edge is stamped and kept, and one of a TRIG_IN ball goes to the trigger engine too. -/
theorem captureEdge_of_kept (e : ¬EdgeDropped (edgeNs code num den h) (captureInput input h)) :
    captureEdge input falling code num den h =
      let edge := edgeNs code num den h
      let q := captureInput input h
      let t := captureTime input code num den (captureLate edge q h) h
      let g := (if edgeNear 24 edge q then drawn else id) (putInput input (captureKept falling edge t (timeClass h) q) (ppsNoted input h))
      if input < 4 then launch { source := .input input falling, time := t / 2 ^ 24 } g else g := by
  obtain ⟨edge, queue, time, late, cls, -⟩ := ppsNoted_edge input code num den h
  rw [← edge, ← queue] at e
  simp only [← time, ← late, ← cls]
  rw [← edge, ← queue]
  exact if_neg e

/-- An input's captures replaced after the note of an edge on PPS_IN. -/
theorem putInput_ppsNoted (q : CaptureInput) : putInput input q (ppsNoted input h)
    = { ppsNoted input h with time := { (ppsNoted input h).time with captures := tset h.time.captures input q } } := by
  obtain ⟨-, -, -, -, -, captures⟩ := ppsNoted_edge input 0 0 0 h
  rw [putInput, captures]

end Sys2Proof.Machine
end

section
/-! The other timing events: TEU_EDGE, PTP_FRAME_RX, PTP_MESSAGE_SEND, SLAVE_PATH_LOSS, IRIGB_FRAME_RX and IRIGB_OUT_SECOND
(R37 to R43, R50, R51, R55, R56). -/
namespace Sys2Proof.Machine

variable {k port egress seq : Nat} {residence : Int} {m : PtpMessage} {h : Hw}

/-! ### TEU_EDGE (R50, R51) -/

/-- A unit that has fired does not fire again at the same station time. -/
theorem teuDue_fireTeu (k : Nat) (h : Hw) : teuDue (fireTeu k h) (tget (fireTeu k h).time.teus k {}) = false := by
  simp only [teuDue, fireTeu, emit, tget_tset_self, bne_self_eq_false, Bool.and_false, Bool.false_and]

/-! ### PTP_FRAME_RX (R37 to R44) -/

/-- A message on a port without PTP, or of another domain, changes nothing. -/
theorem ptpReceive_of_other (e : (tget h.time.ports port {}).ptp = false ∨ m.domain ≠ h.time.domain) :
    ptpReceive port m egress residence h = h := if_pos e

/-- The kinds that a transparent clock forwards are those that are no part of the peer-delay exchange. -/
theorem forwarded_kind_iff (kind : PtpKind) :
    (kind ≠ .pdelayReq ∧ kind ≠ .pdelayResp ∧ kind ≠ .pdelayRespFollowUp) ↔ kind ∈ [.announce, .sync, .followUp] := by
  cases kind <;> decide

/-- The report of a port that loses L1Sync leaves the slave port. -/
theorem evrOpen_if_slavePort {c : Prop} [Decidable c] (group source : Nat) (h : Hw) :
    (if c then evrOpen group source h else h).time.slavePort = h.time.slavePort := by
  split
  · simp only [evrOpen_frame]
  · rfl

/-- A message of the domain: the port's role and measurements, the report of L1Sync lost, the parent's end or its properties, the
answer to a peer-delay request, and the forwarding of a transparent clock, in this order. -/
theorem ptpReceive_of_domain (ptp : (tget h.time.ports port {}).ptp = true) (domain : m.domain = h.time.domain) :
    ptpReceive port m egress residence h =
      let q := tget h.time.ports port {}
      let r := hear port m q h
      let g : Hw := { h with time := { h.time with ports := tset h.time.ports port r } }
      let g := if r.l1Disabled = true ∧ q.l1Disabled = false then evrOpen 0x03 0x03FF g else g
      let g := if m.role ≠ 1 ∧ h.time.slavePort = some port then noParent g else g
      let g := if m.role = 1 ∧ m.kind = .announce then takeParent port m g else g
      let g := if m.kind = .pdelayReq then answerPdelay port m residence g else g
      if transparent port egress g = true ∧ m.kind ∈ [.announce, .sync, .followUp] then forwardPtp port egress residence m g else g := by
  have ours : ¬((tget h.time.ports port {}).ptp = false ∨ m.domain ≠ h.time.domain) :=
    not_or.2 ⟨Bool.not_eq_false _ ▸ ptp, not_not_intro domain⟩
  unfold ptpReceive
  dsimp only
  rw [if_neg ours]
  simp only [Bool.and_eq_true, Bool.not_eq_true', evrOpen_if_slavePort, forwarded_kind_iff]

/-- The offset that a port keeps is the one of a Follow_Up or a one-step Sync, with its corrections (R43). -/
theorem hear_offset {q : PtpPort} (e : m.kind = .followUp ∨ (m.kind = .sync ∧ m.twoStep = false)) :
    (hear port m q h).offset = some (m.measured + portFix q) := by
  rcases e with e | ⟨e, oneStep⟩
  · simp only [hear, e, BEq.rfl, Bool.or_true, ↓reduceIte]
  · simp only [hear, e, oneStep, BEq.rfl, Bool.not_false, Bool.and_self, Bool.true_or, ↓reduceIte]

/-! ### PTP_MESSAGE_SEND (R39, R41, R43) -/

variable {kind : PtpKind}

/-- A port without PTP sends nothing. -/
theorem ptpSend_of_no_ptp (e : (tget h.time.ports port {}).ptp = false) : ptpSend port kind seq h = h := if_pos e

/-- A port that is no master, or has no parent to follow, sends neither Sync nor Announce. -/
theorem ptpSend_of_no_master (e : (tget h.time.ports port {}).role ≠ 3 ∨ h.time.slavePort = none) (of : kind = .sync ∨ kind = .announce) :
    ptpSend port kind seq h = h := by
  have noMaster : ¬((tget h.time.ports port {}).role = 3 ∧ h.time.slavePort.isSome) := by
    rintro ⟨role, parent⟩
    rcases e with e | e
    · exact e role
    · exact absurd e (Option.isSome_iff_ne_none.1 parent)
  rcases of with rfl | rfl <;> simp only [ptpSend, noMaster, not_false_iff, if_true, if_false, ite_self]

/-- A master port in one-step operation sends its Sync with the stamp in it. -/
theorem ptpSend_sync_of_oneStep (ptp : (tget h.time.ports port {}).ptp = true) (role : (tget h.time.ports port {}).role = 3)
    (parent : h.time.slavePort ≠ none) (mode : h.time.stepMode = 0) :
    ptpSend port .sync seq h = emit (.ptp port
      { kind := .sync, sequence := seq, stamp := h.time.now + psUnits (tget h.time.ports port {}).egress, logInterval := h.time.logSync }) h := by
  simp only [ptpSend, ptp, role, Option.isSome_iff_ne_none.2 parent, mode, Bool.true_eq_false, and_self, not_true_eq_false, ↓reduceIte]

/-- In two-step operation the stamp follows it. -/
theorem ptpSend_sync_of_twoStep (ptp : (tget h.time.ports port {}).ptp = true) (role : (tget h.time.ports port {}).role = 3)
    (parent : h.time.slavePort ≠ none) (mode : h.time.stepMode = 1) :
    ptpSend port .sync seq h = emit (.ptp port
        { kind := .followUp, sequence := seq, stamp := h.time.now + psUnits (tget h.time.ports port {}).egress, logInterval := h.time.logSync })
      (emit (.ptp port { kind := .sync, sequence := seq, logInterval := h.time.logSync }) h) := by
  simp only [ptpSend, ptp, role, Option.isSome_iff_ne_none.2 parent, mode, Bool.true_eq_false, and_self, not_true_eq_false, Nat.reduceEqDiff, ↓reduceIte]

/-- Any PTP port sends its peer-delay requests. -/
theorem ptpSend_pdelayReq (ptp : (tget h.time.ports port {}).ptp = true) :
    ptpSend port .pdelayReq seq h = emit (.ptp port { kind := .pdelayReq, sequence := seq }) h :=
  if_neg (Bool.not_eq_false _ ▸ ptp)

/-! ### SLAVE_PATH_LOSS (R40) -/

/-- The passive slave of a PRP pair takes the slave's place. -/
theorem slavePathLoss_of_pair (le : port ≤ 9) (prp : (netPair (port / 2) h).mode = 0) (slave : (tget h.time.ports port {}).role = 1)
    (passive : (tget h.time.ports (pairedPort port) {}).role = 2) :
    slavePathLoss port h = { h with time := { h.time with
      ports := tset (tset h.time.ports port { tget h.time.ports port {} with role := 2 }) (pairedPort port)
        { tget h.time.ports (pairedPort port) {} with role := 1 }
      slavePort := some (pairedPort port) } } :=
  if_pos ⟨by simp only [prpPort, le, prp, decide_true, BEq.rfl, Bool.and_self], slave, passive⟩

/-! ### IRIGB_FRAME_RX (R55) -/

variable {format second : Nat} {ok : Bool} {utc : Option (Nat × Bool × Bool)}

/-- The formats without a second. -/
theorem not_irigFormat_iff : (format ≠ 2 ∧ format ≠ 3 ∧ format ≠ 6 ∧ format ≠ 7) ↔ format ∉ [2, 3, 6, 7] := by
  simp only [List.mem_cons, List.not_mem_nil, or_false]
  omega

/-- A frame of another format changes nothing. -/
theorem irigReceive_of_other (e : format ∉ [2, 3, 6, 7]) : irigReceive format second ok utc h = h :=
  if_pos (not_irigFormat_iff.2 e)

/-- A frame names its second, valid where parity passes and it follows the last one's. -/
theorem irigReceive_of_format (e : format ∈ [2, 3, 6, 7]) : irigReceive format second ok utc h =
    let valid := ok && (match h.time.irig with | some (x, _) => follows (leapNear h) x second | none => true)
    noteLeap { h with time := { h.time with
      irig := some (second, valid), irigAt := some h.time.mono
      utcIrig := if h.time.source = 2 then (if valid then utc else none) else h.time.utcIrig } } :=
  if_neg fun other => not_irigFormat_iff.1 other e

/-! ### The statement -/

/-- Settles O20: a captured edge's clause by the split of `captureEdge`; every other clause is the equation of its own event. -/
theorem timingEventsComplete : Obligations.TimingEventsComplete := by
  refine ⟨?capture, ?teu, ?receive, ?send, ?pathLoss, ?irig, ?irigOut⟩
  case capture =>
    intro input code num den falling s lt n h q edge close
    have isEdge : edgeNs code num den s.hw = edge := edgeNs_of_ne n
    have isClose (gap : Nat) : edgeNear gap edge q = true ↔ close gap := edgeNear_iff gap edge q
    have runs {g : Hw} (e : captureEdge input falling code num den s.hw = g) : Runs (.tdcEdgeCapture input falling code num den) s g :=
      runs_lift (f := fun h => onlyIf (input < 6) (captureEdge input falling code num den) h) rfl ((onlyIf_of_true (decide_eq_true lt)).trans e)
    refine ⟨fun far room => ?kept, fun e => ?dropped⟩
    case kept =>
      have stays : ¬EdgeDropped edge q := not_or.2 ⟨mt (isClose 20).1 far, Nat.not_le.2 room⟩
      obtain ⟨least, most⟩ := captureLate_bounds edge q s.hw
      have kept := captureEdge_of_kept (falling := falling) (isEdge ▸ stays : ¬EdgeDropped (edgeNs code num den s.hw) (captureInput input s.hw))
      simp only [isEdge, drawnIf_eq, putInput_ppsNoted, captureTime_of_ne _ n] at kept
      exact ⟨captureLate edge q s.hw, least, most, fun c => if_neg (mt (isClose 24).1 c), if edgeNear 24 edge q then 1 else 0,
        fun c => if_neg (mt (isClose 24).1 c), runs kept⟩
    case dropped =>
      have drops : EdgeDropped (edgeNs code num den s.hw) (captureInput input s.hw) := isEdge ▸ e.imp_left (isClose 20).2
      exact runs ((captureEdge_of_dropped drops).trans (putInput_ppsNoted _))
  case teu =>
    intro k s lt due
    exact ⟨runsAll_lift (f := fun h => onlyIf (decide (k < 16) && teuDue h (tget h.time.teus k {})) (fireTeu k) h) rfl
      (onlyIf_of_true (by simp only [lt, due, decide_true, Bool.and_self])), teuDue_fireTeu k s.hw⟩
  case receive =>
    intro port egress m residence s le leEgress q r
    have runs {g : Hw} (e : ptpReceive port m egress residence s.hw = g) : Runs (.ptpFrameRx port m egress residence) s g :=
      runs_lift (f := fun h => onlyIf (port ≤ 10 && egress ≤ 10) (ptpReceive port m egress residence) h) rfl
        ((onlyIf_of_true (by simp only [le, leEgress, decide_true, Bool.and_self])).trans e)
    exact ⟨fun ptp domain => runs (ptpReceive_of_domain ptp domain), fun e => runs (ptpReceive_of_other e), rfl, hear_offset⟩
  case send =>
    intro port seq s le q out
    have runs {kind : PtpKind} {g : Hw} (e : ptpSend port kind seq s.hw = g) : Runs (.ptpMessageSend port kind seq) s g :=
      runs_lift (f := fun h => onlyIf (port ≤ 10) (ptpSend port kind seq) h) rfl ((onlyIf_of_true (decide_eq_true le)).trans e)
    refine ⟨fun ptp => ⟨fun role parent => ⟨fun mode => ?oneStep, fun mode => ?twoStep⟩, fun e => ?noMaster, ?request⟩, fun e kind => ?noPtp⟩
    case oneStep => exact runs (ptpSend_sync_of_oneStep ptp role parent mode)
    case twoStep => exact runs (ptpSend_sync_of_twoStep ptp role parent mode)
    case noMaster => exact ⟨runs (ptpSend_of_no_master e (.inl rfl)), runs (ptpSend_of_no_master e (.inr rfl))⟩
    case request => exact runs (ptpSend_pdelayReq ptp)
    case noPtp => exact runs (ptpSend_of_no_ptp e)
  case pathLoss =>
    intro port s le other prp slave passive
    exact runs_lift (f := fun h => onlyIf (port ≤ 9) (slavePathLoss port) h) rfl
      ((onlyIf_of_true (decide_eq_true le)).trans (slavePathLoss_of_pair le prp slave passive))
  case irig =>
    exact fun format second ok utc s => ⟨fun e => runs_lift rfl (irigReceive_of_format e), fun e => runs_lift rfl (irigReceive_of_other e)⟩
  case irigOut => exact fun s => ⟨_, _, _, rfl, runs_lift rfl rfl⟩

end Sys2Proof.Machine
end

section
/-! Where the RTC commands complete, and what discipline refuses of them (R73, R77, R78, R80, R82, R84, R85, R87, R88, R586). -/
namespace Sys2Proof.Machine

variable {p : List Byte} {h : Hw}

/-! ### The clock under discipline (R88) -/

theorem rtcDisciplined_iff : rtcDisciplined h = true ↔ h.rtc.discipline = true ∧ (h.time.servo = .acquiring ∨ h.time.servo = .locked) := by
  simp only [rtcDisciplined, sourceLocked, Bool.and_eq_true, Bool.or_eq_true, beq_iff_eq]

/-- Under discipline RTC.SET is refused. -/
theorem rtcSet_of_disciplined (e : rtcDisciplined h = true) : rtcSet p h = no stStateRefused rcRtcDisciplined := if_pos e

/-- A shift by -32,768 counts is out of range, whatever keeps the clock. -/
theorem rtcShift_of_below (e : s16 p 0 < -32767) : rtcShift p h = no stBadParam rcRtcRange := if_pos e

/-- Under discipline a shift in range is refused. -/
theorem rtcShift_of_disciplined (range : -32767 ≤ s16 p 0) (e : rtcDisciplined h = true) :
    rtcShift p h = no stStateRefused rcRtcDisciplined :=
  (if_neg (Int.not_lt.2 range)).trans (if_pos e)

/-- Settles O23: RTC.SET asks for discipline first, RTC.SHIFT for its range and then for discipline; each answer is a refusal. -/
theorem disciplineKeepsTheClock : Obligations.DisciplineKeepsTheClock := by
  refine ⟨rfl, fun c p s on following => ?_⟩
  have disciplined : rtcDisciplined s.hw = true := rtcDisciplined_iff.2 ⟨on, following⟩
  have set : cmdRtcSet.body c p s.hw = no stStateRefused rcRtcDisciplined := rtcSet_of_disciplined disciplined
  have shift (range : -32767 ≤ s16 p 0) : cmdRtcShift.body c p s.hw = no stStateRefused rcRtcDisciplined :=
    rtcShift_of_disciplined range disciplined
  refine ⟨fun q => runs_refuse rfl q set, fun q range => runs_refuse rfl q (shift range), fun g pay => ⟨?setRefused, ?shiftRefused⟩⟩
  case setRefused => simp only [set, no, ne_eq, reduceCtorEq, not_false_eq_true]
  case shiftRefused =>
    by_cases range : -32767 ≤ s16 p 0
    · simp only [shift range, no, ne_eq, reduceCtorEq, not_false_eq_true]
    · have below : cmdRtcShift.body c p s.hw = no stBadParam rcRtcRange := rtcShift_of_below (Int.not_le.1 range)
      simp only [below, no, ne_eq, reduceCtorEq, not_false_eq_true]

/-! ### RTC.SET, RTC.SHIFT and RTC.CLEAR_OSF (R73, R84, R87) -/

/-- Without discipline and with a running oscillator the clock may be set and shifted (R88, R89). -/
def ClockFree (h : Hw) : Prop :=
  ¬(h.rtc.discipline = true ∧ (h.time.servo = .acquiring ∨ h.time.servo = .locked)) ∧ h.rtc.oscStopped = false

/-- A free clock passes both refusals that RTC.SET and RTC.SHIFT share. -/
theorem clockRefusals_of_free (e : ClockFree h) (r : CmdResult) :
    (if rtcDisciplined h then no stStateRefused rcRtcDisciplined else if h.rtc.oscStopped then no stStateRefused rcRtcOscStopped else r) = r := by
  obtain ⟨undisciplined, running⟩ := e
  rw [if_neg (mt rtcDisciplined_iff.1 undisciplined), running]
  exact if_neg Bool.false_ne_true

/-- RTC.SET drops a shift that waits, leaves its value for the next edge (log 62) and sets TIME_SET. -/
theorem rtcSet_of_free (e : ClockFree h) :
    rtcSet p h = done { h with rtc := { h.rtc with
      shift := none, writeStation := false, write := some (rtcUnpack (u64 p 0)), lastShift := none, status := withBit h.rtc.status aonTimeSet true } } :=
  clockRefusals_of_free e _

/-- RTC.SHIFT adds to the shift that waits for the next edge. -/
theorem rtcShift_of_free (range : -32767 ≤ s16 p 0) (e : ClockFree h) :
    rtcShift p h = done { h with rtc := { h.rtc with
      shift := some (h.rtc.shift.getD 0 + s16 p 0), lastShift := some (h.time.mono, h.rtc.shift.getD 0 + s16 p 0) } } :=
  (if_neg (Int.not_lt.2 range)).trans (clockRefusals_of_free e _)

/-- Once the time is set, OSF and its three causes are cleared. -/
theorem rtcClearOsf_of_timeSet (e : h.rtc.status.getLsbD aonTimeSet = true) :
    rtcClearOsf h = done { h with rtc := { h.rtc with
      status := withBit (withBit (withBit (withBit h.rtc.status aonCauseOsc false) aonCauseDip false) aonCauseFirst false) aonOsf false } } :=
  if_neg (Bool.not_eq_false _ ▸ e)

/-! ### RTC.CAPTURE (R82, R586) -/

/-- A shift accepted less than 2 ms ago and already applied, which KL-07 may still leave out of the value read. -/
def staleShift (h : Hw) : Option Int :=
  match h.rtc.lastShift with
  | some (t, d) => if decide (h.time.mono - t < nsUnits 2000000) ∧ h.rtc.shift = none ∧ Config.freeBit h.free then some d else none
  | none => none

/-- The count as RTC.CAPTURE reads it. -/
def capturedCount (h : Hw) : Nat :=
  match staleShift h with
  | some d => (((h.rtc.count : Int) - d) % (rtcWrap : Int)).toNat
  | none => h.rtc.count

/-- A shift that is left out was accepted less than 2 ms ago, and none waits. -/
theorem staleShift_eq_some {d : Int} (e : staleShift h = some d) :
    ∃ t, h.rtc.lastShift = some (t, d) ∧ h.time.mono - t < nsUnits 2000000 ∧ h.rtc.shift = none := by
  unfold staleShift at e
  split at e
  case h_1 t d' last =>
    obtain ⟨⟨recent, applied, -⟩, same⟩ := Option.ite_none_right_eq_some.1 e
    exact ⟨t, Option.some.inj same ▸ last, of_decide_eq_true recent, applied⟩
  case h_2 => simp only [reduceCtorEq] at e

/-- The value read is the count, or the count as it was before the last shift. -/
theorem capturedCount_cases (h : Hw) :
    capturedCount h = h.rtc.count
    ∨ ∃ t d, h.rtc.lastShift = some (t, d) ∧ h.time.mono - t < nsUnits 2000000 ∧ h.rtc.shift = none
        ∧ capturedCount h = (((h.rtc.count : Int) - d) % ((2 ^ 55 : Nat) : Int)).toNat := by
  unfold capturedCount
  cases stale : staleShift h with
  | none => exact .inl rfl
  | some d =>
    obtain ⟨t, last, recent, applied⟩ := staleShift_eq_some stale
    exact .inr ⟨t, d, last, recent, applied, rfl⟩

/-- While the oscillator runs the value is read with the station time of its edge, and one free value is drawn. -/
theorem rtcCapture_of_running (e : h.rtc.oscStopped = false) :
    rtcCapture h = .ok (drawn h) (le 8 (rtcPack (capturedCount h)) ++ timeBytes h.rtc.edgeAt ++ le 1 (timeClass h) ++ zeros 3) :=
  if_neg (Bool.eq_false_iff.1 e)

/-- The reply of RTC.CAPTURE, field by field. -/
theorem rtcCapture_bytes (n edge cls : Nat) :
    le 8 (rtcPack n) ++ timeBytes edge ++ le 1 cls ++ zeros 3
      = le 8 (n / 2 ^ 15 % 2 ^ 40 + n % 2 ^ 15 * 2 ^ 40) ++ le 8 (edge / 2 ^ 64) ++ le 4 (edge / 2 ^ 32 % 2 ^ 32) ++ le 1 cls ++ zeros 3 := by
  simp only [rtcPack, rtcSec, rtcFrac, timeBytes, secOf, fracOf, List.append_assoc]

/-! ### RTC.ALARM_SET, RTC.WAKE_SET, RTC.SQW_SET and RTC.DISCIPLINE_SET (R77, R78, R80, R87) -/

/-- An alarm replaced. -/
def putAlarm (a : Nat) (al : Alarm) (h : Hw) : Hw := { h with rtc := { h.rtc with alarms := tset h.rtc.alarms a al } }

/-- An alarm that exists takes its time, and fires at once if that has passed. -/
theorem rtcAlarmSet_of_inRange (a : u8 p 0 ≤ 1) :
    rtcAlarmSet p h =
      let g := putAlarm (u8 p 0) { armed := bit (u8 p 1) 0, at_ := rtcUnpack (u64 p 8) } h
      done (if alarmDue (u8 p 0) g then fireAlarm (u8 p 0) false g else g) :=
  if_neg (Nat.not_lt.2 a)

/-- A period in range counts from the present count, and multiples passed over under the old one are forgotten (log 64). -/
theorem rtcWakeSet_of_inRange (period : u32 p 0 ≤ 16588800) :
    rtcWakeSet p h = done { h with rtc := { h.rtc with wakeP := u32 p 0, wakeFrom := h.rtc.count, wakePassed := 0 } } :=
  if_neg (Nat.not_lt.2 period)

/-- A selection in range is taken, and the ball settles under it. -/
theorem rtcSqwSet_of_inRange (sel : u8 p 0 ≤ 3) :
    rtcSqwSet p h = done (settleSqw { h with rtc := { h.rtc with status := withSqwSel h.rtc.status (u8 p 0) } }) :=
  if_neg (Nat.not_lt.2 sel)

/-- An interval and an enable in range are taken. -/
theorem rtcDisciplineSet_of_inRange (least : 1 ≤ u16 p 0) (most : u16 p 0 ≤ 3600) (enable : u8 p 2 ≤ 1) :
    rtcDisciplineSet p h = done { h with rtc := { h.rtc with interval := u16 p 0, discipline := u8 p 2 == 1 } } :=
  if_neg (by omega)

/-! ### The statement -/

/-- Settles O21: every clause is the equation of its command's own chapter, under the reply that ST_OK gives; what RTC.CAPTURE reads
is a question of its own. -/
theorem rtcCommandsComplete : Obligations.RtcCommandsComplete := by
  refine fun c p s => ⟨?status, ?set, ?clearOsf, ?capture, ?shift, ?alarmSet, ?wakeSet, ?sqwSet, ?disciplineSet⟩
  case status => exact fun q => runs_ok rfl q rfl
  case set => exact fun q free => runs_ok rfl q (rtcSet_of_free free)
  case clearOsf => exact fun q timeSet => runs_ok rfl q (rtcClearOsf_of_timeSet timeSet)
  case capture =>
    intro q running
    refine ⟨capturedCount s.hw, capturedCount_cases s.hw, runs_ok rfl q ?_⟩
    rw [← rtcCapture_bytes]
    exact rtcCapture_of_running running
  case shift => exact fun q free range => runs_ok rfl q (rtcShift_of_free range free)
  case alarmSet => exact fun q a => runs_ok rfl q (rtcAlarmSet_of_inRange a)
  case wakeSet => exact fun q period => runs_ok rfl q (rtcWakeSet_of_inRange period)
  case sqwSet => exact fun q sel => runs_ok rfl q (rtcSqwSet_of_inRange sel)
  case disciplineSet => exact fun q least most enable => runs_ok rfl q (rtcDisciplineSet_of_inRange least most enable)

end Sys2Proof.Machine
end

section
/-! The always-on island: its firings, a discipline pass, OSF, its supply and the oscillator's edge (R69 to R74, R77 to R79, R82 to
R84, R522). -/
namespace Sys2Proof.Machine

variable {a i : Nat} {b : Bool} {h : Hw} {d : Int}

/-! ### Bits of AON_STATUS (R85) -/

/-- Every bit of a word after one of them is set or cleared. -/
theorem getLsbD_withBit {w i : Nat} (lt : i < w) (v : BitVec w) (b : Bool) (j : Nat) :
    (withBit v i b).getLsbD j = if j = i then b else v.getLsbD j := by
  cases b with
  | true =>
    simp only [withBit, ↓reduceIte, BitVec.getLsbD_or, ← BitVec.twoPow_eq, BitVec.getLsbD_twoPow, lt, decide_true, Bool.true_and]
    by_cases same : j = i
    · simp only [same, decide_true, Bool.or_true, ↓reduceIte]
    · simp only [same, Ne.symm same, decide_false, Bool.or_false, ↓reduceIte]
  | false =>
    simp only [withBit, Bool.false_eq_true, ↓reduceIte, BitVec.getLsbD_and, BitVec.getLsbD_not, ← BitVec.twoPow_eq, BitVec.getLsbD_twoPow,
      lt, decide_true, Bool.true_and]
    by_cases same : j = i
    · simp only [same, decide_true, Bool.not_true, Bool.and_false, ↓reduceIte]
    · simp only [same, Ne.symm same, decide_false, Bool.not_false, Bool.and_true, ↓reduceIte]
      by_cases inside : j < w
      · simp only [inside, decide_true, Bool.and_true]
      · simp only [BitVec.getLsbD_of_ge _ _ (Nat.not_lt.1 inside), Bool.false_and]

/-! ### Firings (R77, R78) -/

/-- A part of the island that neither the note for RETAIN nor WAKE_N is part of stays when a firing is noted and signalled. -/
theorem signalWake_noteFired_keeps {α : Type} (f : RtcState → α) (fired : ∀ r n, f { r with firedRetain := n } = f r)
    (low : ∀ r, f { r with wakeLow := true } = f r) : f (signalWake (noteFired i b h)).rtc = f h.rtc := by
  have noted : f (noteFired i b h).rtc = f h.rtc := by
    unfold noteFired
    split
    · exact fired _ _
    · rfl
  unfold signalWake
  split
  · exact noted
  · exact (low _).trans noted
  · simp only [evrOpen_frame]
    exact noted

/-- An alarm that fires without SKIPPED has FIRED set, and is disarmed. -/
theorem fireAlarm_fired (lt : a < 2) :
    (fireAlarm a false h).rtc.status.getLsbD (8 + a) = true ∧ (tget (fireAlarm a false h).rtc.alarms a {}).armed = false := by
  unfold fireAlarm
  rw [signalWake_noteFired_keeps RtcState.status (fun _ _ => rfl) (fun _ => rfl),
    signalWake_noteFired_keeps RtcState.alarms (fun _ _ => rfl) (fun _ => rfl)]
  have inside : aonAlm0Fired + a < 32 := by simp only [aonAlm0Fired]; omega
  refine ⟨?_, congrArg Alarm.armed (tget_tset_self ..)⟩
  exact (getLsbD_withBit inside h.rtc.status true _).trans (if_pos rfl)

/-- RTC_ALARM_FIRE takes place only where the alarm is due. -/
theorem exec_rtcAlarmFire (a : Nat) (s : State) : exec (.rtcAlarmFire a) s =
    lift (fun h => onlyIf (decide (a < 2) && alarmDue a h) (fireAlarm a false) h) s := rfl

/-- RTC_WAKE_FIRE takes place only where a multiple is due. -/
theorem exec_rtcWakeFire (s : State) : exec .rtcWakeFire s = lift (fun h => onlyIf (wakeDue h) fireWake h) s := rfl

/-- A fired wake has WAKE_FIRED set, and the multiples passed over are handled. -/
theorem fireWake_fired (h : Hw) : (fireWake h).rtc.status.getLsbD 10 = true ∧ (fireWake h).rtc.wakePassed = 0 := by
  unfold fireWake
  rw [signalWake_noteFired_keeps RtcState.status (fun _ _ => rfl) (fun _ => rfl),
    signalWake_noteFired_keeps RtcState.wakePassed (fun _ _ => rfl) (fun _ => rfl)]
  refine ⟨?_, rfl⟩
  dsimp only
  split <;> simp only [setAon, getLsbD_withBit, aonWakeFired, aonWakeSkipped, Nat.reduceLT, Nat.reduceEqDiff, ↓reduceIte]

/-! ### A discipline pass (R83) -/

/-- A pass sets TIME_SET and notes its time. -/
theorem disciplinePass_marks (h : Hw) :
    (disciplinePass h).rtc.status.getLsbD aonTimeSet = true ∧ (disciplinePass h).rtc.lastPass = some h.time.mono := by
  constructor
  · exact (getLsbD_withBit (by decide) _ true aonTimeSet).trans (if_pos rfl)
  · simp only [disciplinePass, markTimeSet, setAon]
    split
    · rfl
    · split <;> rfl

/-- The interval since the last pass, if there was one, is over. -/
def passDue (h : Hw) : Bool := match h.rtc.lastPass with | none => true | some t => decide (h.rtc.interval * secUnit ≤ h.time.mono - t)

theorem passDue_iff : passDue h = true ↔ ∀ t, h.rtc.lastPass = some t → h.rtc.interval * secUnit ≤ h.time.mono - t := by
  unfold passDue
  cases h.rtc.lastPass with
  | none => simp only [reduceCtorEq, false_implies, implies_true]
  | some t => simp only [decide_eq_true_eq, Option.some.injEq, forall_eq']

/-- RTC_DISCIPLINE_PASS takes place only while LOCKED with discipline on, when it is due and the oscillator runs. -/
theorem exec_rtcDisciplinePass (s : State) : exec .rtcDisciplinePass s =
    lift (fun h => onlyIf (h.time.servo = .locked && h.rtc.discipline && passDue h && !h.rtc.oscStopped) disciplinePass h) s := rfl

/-! ### The oscillator stops (R72, R73, R522) -/

/-- An oscillator that misses eight edges sets OSF, again where it was set already (log 63). -/
theorem exec_oscStop_true (s : State) : exec (.oscStop true) s =
    lift (fun h => setOsf aonCauseOsc { h with rtc := { h.rtc with oscStopped := true } }) s := rfl

/-- One that runs again leaves OSF as it is. -/
theorem exec_oscStop_false (s : State) : exec (.oscStop false) s =
    lift (fun h => { h with rtc := { h.rtc with oscStopped := false } }) s := rfl

/-! ### The island's supply (R70, R74) -/

/-- A supply or the hold-up has carried the rail all the time. -/
def RailCarried (h : Hw) : Prop :=
  h.rtc.railFell = false ∧ (h.rtc.vaon = true ∨ h.rtc.vbat = true ∨ ∃ t, h.rtc.holdup = some t ∧ h.time.mono - t < nsUnits 200000)

/-- The hold-up is not over while a supply is there, or for 200 µs. -/
theorem holdupOver_eq_false_iff :
    holdupOver h = false ↔ h.rtc.vaon = true ∨ h.rtc.vbat = true ∨ ∃ t, h.rtc.holdup = some t ∧ h.time.mono - t < nsUnits 200000 := by
  unfold holdupOver
  cases h.rtc.vaon with
  | true => simp only [Bool.not_true, Bool.false_and, true_or]
  | false =>
    cases h.rtc.vbat with
    | true => simp only [Bool.not_true, Bool.and_false, Bool.false_and, true_or, or_true]
    | false => cases h.rtc.holdup <;> simp

theorem railDown_iff : railDown h = true ↔ ¬RailCarried h := by
  have carried : railDown h = false ↔ RailCarried h := Bool.or_eq_false_iff.trans (and_congr_right fun _ => holdupOver_eq_false_iff)
  rw [← carried, Bool.not_eq_false]

/-- The rail can have fallen only where a supply comes back to a rail that nothing carried. -/
theorem noteSupply_railFell_iff (vaon vbat : Bool) :
    (noteSupply vaon vbat h).rtc.railFell = true ↔ ¬RailCarried h ∧ (vaon = true ∨ vbat = true) := by
  rw [← railDown_iff, and_comm]
  simp only [noteSupply, Bool.and_eq_true, Bool.or_eq_true]

/-- ISLAND_RAIL_DIP resets the island where the rail is down for 4 µs or longer. -/
theorem exec_islandRailDip (ns : Nat) (s : State) : exec (.islandRailDip ns) s =
    lift (fun h => onlyIf (railDown h && decide (4000 ≤ ns)) (islandReset aonCauseDip) h) s := rfl

/-- ISLAND_POWER_UP resets it where the rail is down. -/
theorem exec_islandPowerUp (s : State) : exec .islandPowerUp s =
    lift (fun h => onlyIf (railDown h) (islandReset aonCauseFirst) h) s := rfl

/-- VBAT_SAMPLE takes place only while VAON is there. -/
theorem exec_vbatSample (mv : Nat) (s : State) : exec (.vbatSample mv) s =
    lift (fun h => onlyIf h.rtc.vaon (fun h => setAon aonVbatLow (mv < 2100) { h with rtc := { h.rtc with vbatMv := min mv 0xFFFF } }) h) s := rfl

/-- AON_STATUS after the rail fell: its reset value with one cause, and the supply in use. -/
def resetStatus (cause : Nat) (vaon : Bool) : Word32 :=
  withBit (withBit (withBit ({} : RtcState).status aonCauseFirst false) cause true) aonSource (!vaon)

/-- The rail's fall leaves AON_STATUS at that value. -/
theorem islandReset_status (cause : Nat) (h : Hw) : (islandReset cause h).rtc.status = resetStatus cause h.rtc.vaon := rfl

/-- OSF and exactly the named cause, no TIME_SET and no boot attempt counted. -/
theorem resetStatus_bits : ∀ cause ∈ [aonCauseFirst, aonCauseDip, aonCauseOsc], ∀ vaon : Bool,
    (resetStatus cause vaon).getLsbD aonOsf = true
    ∧ (∀ i ∈ [aonCauseFirst, aonCauseDip, aonCauseOsc], (resetStatus cause vaon).getLsbD i = decide (i = cause))
    ∧ (resetStatus cause vaon).getLsbD aonTimeSet = false ∧ bootCount (resetStatus cause vaon) = 0 := by
  decide

/-! ### The oscillator's edge (R69, R79, R83, R84) -/

/-- The island's count, and the shift that waits for its next edge. -/
def countAndShift (r : RtcState) : Nat × Option Int := (r.count, r.shift)

/-- A fired alarm leaves the count and the shift that waits. -/
theorem countAndShift_fireAlarm (a : Nat) (skipped : Bool) (h : Hw) : countAndShift (fireAlarm a skipped h).rtc = countAndShift h.rtc := by
  unfold fireAlarm
  rw [signalWake_noteFired_keeps countAndShift (fun _ _ => rfl) (fun _ => rfl)]
  cases skipped <;> rfl

/-- They stay whether an alarm fires in a step or not. -/
theorem countAndShift_fireAlarm_if (fires : Bool) (a : Nat) (h : Hw) :
    countAndShift (if fires then fireAlarm a true h else h).rtc = countAndShift h.rtc := by
  split
  · exact countAndShift_fireAlarm a true h
  · rfl

/-- A step moves the count by its counts, round the wrap, and leaves the shift that waits. -/
theorem rtcStep_count_shift (valid : h.rtc.count < rtcWrap) :
    (rtcStep d h).rtc.count = ((h.rtc.count + d) % (rtcWrap : Int)).toNat ∧ (rtcStep d h).rtc.shift = h.rtc.shift := by
  refine Prod.mk.inj (?_ : countAndShift (rtcStep d h).rtc = (((h.rtc.count + d) % (rtcWrap : Int)).toNat, h.rtc.shift))
  unfold rtcStep
  split
  case isTrue still =>
    simp only [countAndShift, still, Int.add_zero, ← Int.natCast_emod, Int.toNat_natCast, Nat.mod_eq_of_lt valid]
  case isFalse =>
    dsimp only
    rw [countAndShift_fireAlarm_if, countAndShift_fireAlarm_if]
    split <;> rfl

/-- A step to a count sets it. -/
theorem rtcStepTo_count_shift {new : Nat} (valid : h.rtc.count < rtcWrap) (inRange : new < rtcWrap) :
    (rtcStepTo new h).rtc.count = new ∧ (rtcStepTo new h).rtc.shift = h.rtc.shift := by
  have reached : (h.rtc.count : Int) + ((new : Int) - h.rtc.count) = new := by omega
  obtain ⟨count, shift⟩ := rtcStep_count_shift (d := (new : Int) - h.rtc.count) valid
  rw [reached, ← Int.natCast_emod, Int.toNat_natCast, Nat.mod_eq_of_lt inRange] at count
  exact ⟨count, shift⟩

/-- The value that waits for the next edge: station time comes before one set by command. -/
def edgeValue (h : Hw) : Option Nat := if h.rtc.writeStation then some (stationCount h) else h.rtc.write

theorem edgeValue_of_station (e : h.rtc.writeStation = true) : edgeValue h = some (stationCount h) := if_pos e

theorem edgeValue_of_no_station (e : h.rtc.writeStation = false) : edgeValue h = h.rtc.write := if_neg (Bool.eq_false_iff.1 e)

/-- Nothing is left to write. -/
def writeTaken (h : Hw) : Hw := { h with rtc := { h.rtc with write := none, writeStation := false, lastShift := none } }

/-- No shift is left to apply. -/
def shiftTaken (h : Hw) : Hw := { h with rtc := { h.rtc with shift := none } }

/-- The value that waits, if one does, is written. -/
def valueApplied (h : Hw) : Hw :=
  match edgeValue h with
  | some v => rtcStepTo (v % rtcWrap) (writeTaken h)
  | none => h

/-- The shift that waits, if one does, is applied. -/
def shiftApplied (h : Hw) : Hw :=
  match h.rtc.shift with
  | some d => rtcStep d (shiftTaken h)
  | none => h

/-- An edge of a running oscillator ticks, writes and shifts, in this order. -/
theorem rtcEdge_of_running (running : h.rtc.oscStopped = false) : rtcEdge h = shiftApplied (valueApplied (rtcTick h)) :=
  if_neg (Bool.eq_false_iff.1 running)

/-- What waits for an edge is what waited before its tick. -/
theorem edgeValue_rtcTick (h : Hw) : edgeValue (rtcTick h) = edgeValue h := rfl

theorem valueApplied_of_none (e : edgeValue h = none) : valueApplied h = h := by unfold valueApplied; rw [e]

theorem shiftApplied_of_none (e : h.rtc.shift = none) : shiftApplied h = h := by unfold shiftApplied; rw [e]

/-- The count of an edge is within its 55 bits. -/
theorem rtcTick_count_lt (h : Hw) : (rtcTick h).rtc.count < rtcWrap := Nat.mod_lt _ (by decide)

/-- An edge for which neither a value nor a shift waits is a tick. -/
theorem rtcEdge_of_idle (running : h.rtc.oscStopped = false) (value : edgeValue h = none) (shift : h.rtc.shift = none) :
    rtcEdge h = rtcTick h := by
  have shift' : (rtcTick h).rtc.shift = none := shift
  rw [rtcEdge_of_running running, valueApplied_of_none ((edgeValue_rtcTick h).trans value), shiftApplied_of_none shift']

/-- An edge for which a value alone waits sets the count to it. -/
theorem rtcEdge_count_of_value {v : Nat} (running : h.rtc.oscStopped = false) (value : edgeValue h = some v) (shift : h.rtc.shift = none) :
    (rtcEdge h).rtc.count = v % rtcWrap := by
  have written : valueApplied (rtcTick h) = rtcStepTo (v % rtcWrap) (writeTaken (rtcTick h)) := by
    unfold valueApplied
    rw [(edgeValue_rtcTick h).trans value]
  obtain ⟨count, shift'⟩ := rtcStepTo_count_shift (h := writeTaken (rtcTick h)) (rtcTick_count_lt h) (Nat.mod_lt v (by decide : 0 < rtcWrap))
  rw [← written] at count shift'
  rw [rtcEdge_of_running running, shiftApplied_of_none (shift'.trans shift), count]

/-- An edge for which a shift alone waits moves the count of its tick by it. -/
theorem rtcEdge_count_of_shift (running : h.rtc.oscStopped = false) (value : edgeValue h = none) (shift : h.rtc.shift = some d) :
    (rtcEdge h).rtc.count = ((((h.rtc.count + 1) % rtcWrap : Nat) + d) % (rtcWrap : Int)).toNat := by
  have shifted : shiftApplied (rtcTick h) = rtcStep d (shiftTaken (rtcTick h)) := by
    have shift' : (rtcTick h).rtc.shift = some d := shift
    unfold shiftApplied
    rw [shift']
  rw [rtcEdge_of_running running, valueApplied_of_none ((edgeValue_rtcTick h).trans value), shifted]
  exact (rtcStep_count_shift (h := shiftTaken (rtcTick h)) (rtcTick_count_lt h)).1

/-! ### The statement -/

/-- Settles O22: a firing's record and its note for RETAIN leave the bits that tell of it, the rail is down where nothing carried it,
and an edge is a tick that a value or a shift may step from; every other clause is the equation of its event. -/
theorem islandEventsComplete : Obligations.IslandEventsComplete := by
  refine ⟨?alarm, ?wake, ?pass, ?oscStop, ?rail, ?reset, ?edge, ?battery⟩
  case alarm =>
    intro a s lt armed passed
    have due : (decide (a < 2) && alarmDue a s.hw) = true := by simp only [alarmDue, lt, armed, passed, decide_true, Bool.and_self]
    exact ⟨runs_lift (exec_rtcAlarmFire a s) (onlyIf_of_true due), fireAlarm_fired lt⟩
  case wake =>
    exact fun s due => ⟨runs_lift (exec_rtcWakeFire s) (onlyIf_of_true due), fireWake_fired s.hw⟩
  case pass =>
    intro s locked on running interval
    have due : (s.hw.time.servo = .locked && s.hw.rtc.discipline && passDue s.hw && !s.hw.rtc.oscStopped) = true := by
      simp only [locked, on, running, passDue_iff.2 interval, decide_true, Bool.not_false, Bool.and_self]
    exact ⟨runs_lift (exec_rtcDisciplinePass s) (onlyIf_of_true due), disciplinePass_marks s.hw⟩
  case oscStop => exact fun s => ⟨runs_lift (exec_oscStop_true s) rfl, runs_lift (exec_oscStop_false s) rfl⟩
  case rail =>
    intro ns s carried
    have down : railDown s.hw = true ↔ ¬carried := railDown_iff
    have up (c : carried) : railDown s.hw = false := Bool.eq_false_iff.2 fun e => down.1 e c
    refine ⟨fun long e => ?dip, fun e => ?noDip, fun e => runs_lift (exec_islandPowerUp s) (onlyIf_of_true (down.2 e)),
      fun e => runs_lift (exec_islandPowerUp s) (onlyIf_of_false (up e)), fun vaon vbat => noteSupply_railFell_iff vaon vbat⟩
    case dip =>
      exact runs_lift (exec_islandRailDip ns s) (onlyIf_of_true (by rw [down.2 e, decide_eq_true long, Bool.and_self]))
    case noDip =>
      refine runs_lift (exec_islandRailDip ns s) (onlyIf_of_false (Bool.and_eq_false_iff.2 ?_))
      exact e.symm.imp up fun short => decide_eq_false (Nat.not_le.2 short)
  case reset =>
    intro cause h e g
    obtain ⟨osf, causes, timeSet, boots⟩ := resetStatus_bits cause e h.rtc.vaon
    rw [← islandReset_status] at osf timeSet boots
    simp only [← islandReset_status] at causes
    exact ⟨rfl, osf, causes, timeSet, boots, rfl, rfl, rfl⟩
  case edge =>
    intro h running
    refine ⟨fun write station shift => ?idle, fun station shift => ?station, fun v station write shift => ?value, fun d station write shift => ?shift⟩
    case idle => exact rtcEdge_of_idle running ((edgeValue_of_no_station station).trans write) shift
    case station => exact (rtcEdge_count_of_value running (edgeValue_of_station station) shift).trans (Nat.mod_mod _ _)
    case value => exact rtcEdge_count_of_value running ((edgeValue_of_no_station station).trans write) shift
    case shift => exact rtcEdge_count_of_shift running ((edgeValue_of_no_station station).trans write) shift
  case battery =>
    exact fun mv s vaon => runs_lift (exec_vbatSample mv s) (onlyIf_of_true vaon)

end Sys2Proof.Machine
end

section
/-! Where the INGEST commands complete (R110, R113 to R118). -/
namespace Sys2Proof.Machine

variable {p : List Byte} {h : Hw} {d : StreamConfig}

/-- The counters of a stream are zeroed on demand, after they are read. -/
theorem ingestStreamStatus_of_defined (e : subscription (u16 p 0) h = some d) :
    ingestStreamStatus p h = .ok
      (if bit (u8 p 2) 0 then putStream (u16 p 0) (clearStream (streamAt (u16 p 0) h)) h else h)
      (streamStatusBytes (u16 p 0) (streamAt (u16 p 0) h)) := by
  simp only [ingestStreamStatus, e]

/-- A stream that the Bloom does not define is refused. -/
theorem ingestStreamStatus_of_undefined (e : subscription (u16 p 0) h = none) : ingestStreamStatus p h = no stBadParam rcIngestNoStream := by
  simp only [ingestStreamStatus, e]

/-- The counters of a process-bus port are zeroed on demand, after they are read; the window of its limit goes on. -/
theorem ingestPortCounters_of_inRange {q : IngestPort} (port : u8 p 0 ≤ 7) (e : tget h.ing.ports (u8 p 0) {} = q) :
    ingestPortCounters p h = .ok
      (if bit (u8 p 1) 0 then putIngestPort (u8 p 0) { second := q.second, inSecond := q.inSecond } h else h)
      (le 8 q.seen ++ le 4 q.unmatched ++ le 4 q.overrun ++ le 4 q.authFail ++ le 4 q.wrongPort ++ zeros 8) := by
  subst e
  exact if_neg (Nat.not_lt.2 port)

/-- A settled row in the ring is read from the slot named on; slots past its width are zero. -/
theorem ingestRowRead_of_settled {r : Row} (atLeastOne : 1 ≤ u16 p 10) (most : u16 p 10 ≤ 1024) (e : settledRow (u64 p 0) h = some r) :
    ingestRowRead p h = .ok h (rowHeader r ++ ((List.range (u16 p 10)).map (fun j =>
      slotBytes (if u16 p 8 + j < r.width then tget r.slots (u16 p 8 + j) {} else {}))).flatten) := by
  have inRange : ¬(u16 p 10 = 0 ∨ 1024 < u16 p 10) := by omega
  simp only [ingestRowRead, inRange, if_false, e]

/-- A request to block or unblock a defined stream is noted for the next row. -/
theorem ingestBlock_of_defined (e : subscription (u16 p 0) h = some d) (request : u8 p 2 ≤ 1) :
    ingestBlock p h = done (putStream (u16 p 0) { streamAt (u16 p 0) h with blockReq := some (u8 p 2 == 1) } h) := by
  simp only [ingestBlock, e, Nat.not_lt.2 request, if_false]

/-- The use of simulated streams is noted for the next row. -/
theorem cmdIngestSimSet_body_of_inRange {c : Call} (accept : u8 p 0 ≤ 1) :
    cmdIngestSimSet.body c p h = done { h with ing := { h.ing with simReq := some (u8 p 0 == 1) } } :=
  if_neg (Nat.not_lt.2 accept)

/-- Values in range for a defined stream are added at a row above every open one. -/
theorem ingestStreamTune_of_inRange (e : subscription (u16 p 0) h = some d) (horizon : u8 p 2 ≤ 3) (hold : u8 p 3 ≤ 8)
    (latency : u32 p 4 ≤ 2000000 ∨ u32 p 4 = 0xFFFFFFFF) (unopened : ∀ r ∈ h.ing.open_, r.k < u64 p 8) :
    ingestStreamTune p h = done (putStream (u16 p 0) { settleTunes (streamAt (u16 p 0) h) with
      tuned := true, tune := (settleTunes (streamAt (u16 p 0) h)).tune ++ [(u64 p 8, u8 p 2, u8 p 3, u32 p 4)] } h) := by
  have inRange : ¬(3 < u8 p 2 ∨ 8 < u8 p 3 ∨ (2000000 < u32 p 4 ∧ u32 p 4 ≠ 0xFFFFFFFF)) := by omega
  have inTime : h.ing.open_.any (fun r => u64 p 8 ≤ r.k) = false :=
    List.any_eq_false.2 fun r mem => by simpa only [decide_eq_true_eq, Nat.not_le] using unopened r mem
  simp only [ingestStreamTune, e, inRange, inTime, if_false, Bool.false_eq_true]

/-! ### The statement -/

/-- Settles O24: every clause is the equation of its command's own chapter, under the reply that ST_OK gives, or under the refusal of a
stream that the Bloom does not define. -/
theorem ingestCommandsComplete : Obligations.IngestCommandsComplete := by
  refine fun c p s => ⟨?status, ?stream, ?noStream, ?port, ?row, ?block, ?sim, ?tune⟩
  case status => exact fun q => runs_ok rfl q rfl
  case stream =>
    intro q defined
    obtain ⟨d, e⟩ := Option.isSome_iff_exists.1 defined
    exact runs_ok rfl q (ingestStreamStatus_of_defined e)
  case noStream => exact fun q e => runs_refuse rfl q (ingestStreamStatus_of_undefined e)
  case port => exact fun q port => runs_ok rfl q (ingestPortCounters_of_inRange port rfl)
  case row => exact fun r q atLeastOne most e => runs_ok rfl q (ingestRowRead_of_settled atLeastOne most e)
  case block =>
    intro q defined request
    obtain ⟨d, e⟩ := Option.isSome_iff_exists.1 defined
    exact runs_ok rfl q (ingestBlock_of_defined e request)
  case sim => exact fun q accept => runs_ok rfl q (cmdIngestSimSet_body_of_inRange accept)
  case tune =>
    intro q defined horizon hold latency unopened
    obtain ⟨d, e⟩ := Option.isSome_iff_exists.1 defined
    exact runs_ok rfl q (ingestStreamTune_of_inRange e horizon hold latency unopened)

end Sys2Proof.Machine
end

section
/-! Rows that open at their moment, close at their horizons and settle (R98, R103 to R106, R489). -/
namespace Sys2Proof.Machine

variable {n k : Nat} {h : Hw}

/-! ### ROW_OPEN (R98) -/

/-- At its moment a row opens with those below it. -/
theorem openAtDue_of_due (unopened : h.ing.nextOpen ≤ k) (due : openDue k h = true) : openAtDue k h = openTo k none h :=
  if_pos ⟨unopened, due⟩

/-- An open row does not open again, and none opens before its moment. -/
theorem openAtDue_of_not (e : k < h.ing.nextOpen ∨ openDue k h = false) : openAtDue k h = h :=
  if_neg fun ⟨unopened, due⟩ => e.elim (Nat.not_lt.2 unopened) (Bool.eq_false_iff.1 · due)

/-- An instant before the change-over that has not opened is one of the replaced Bloom. -/
theorem oldToOpen_of_within {o : OldBloom} (e : h.cfg.old = some o) (unopened : o.nextOpen ≤ k) (before : k < o.endK) : oldToOpen k h = true := by
  simp only [oldToOpen, e, unopened, before, decide_true, Bool.and_true]

/-- Where ingest does not run, no row opens. -/
theorem rowOpen_of_stopped (e : ingestRuns h = false) : rowOpen k h = h := if_neg (Bool.eq_false_iff.1 e)

/-- A row of the Bloom in force. -/
theorem rowOpen_of_present (runs : ingestRuns h = true) (e : oldToOpen k h = false) :
    rowOpen k h = settleAll false (advanceAll (openAtDue k h)) := by
  simp only [rowOpen, runs, e, if_true, if_false, Bool.false_eq_true]

/-- A row of the replaced Bloom opens on its behalf. -/
theorem rowOpen_of_old (runs : ingestRuns h = true) (e : oldToOpen k h = true) :
    rowOpen k h = settleAll false (advanceAll (inOld (openAtDue k) h)) := by
  simp only [rowOpen, runs, e, if_true]

/-! ### HORIZON_EXPIRY (R103, R104) -/

variable {c : StreamConfig} {r : Row}

/-- An undecided part whose horizon has passed is substituted. -/
theorem expireAt_of_passed (stream : subscription n h = some c) (row : openRow k h = some r) (bloom : r.bloomSeq = h.cfg.bloomSeq)
    (undecided : tfind r.parts n = none) (passed : horizonAt c (streamAt n h) (fGrid h) k < exact h.time.now) :
    expireAt n k h = substitute n c k h := by
  simp only [expireAt, stream, row, bloom, undecided, passed, and_self, if_true]

/-- Before its horizon a part stays open, and a decided part stays as it is. -/
theorem expireAt_of_not (stream : subscription n h = some c) (row : openRow k h = some r)
    (e : exact h.time.now ≤ horizonAt c (streamAt n h) (fGrid h) k ∨ (tfind r.parts n).isSome) : expireAt n k h = h := by
  have kept : ¬(r.bloomSeq = h.cfg.bloomSeq ∧ tfind r.parts n = none ∧ horizonAt c (streamAt n h) (fGrid h) k < exact h.time.now) := by
    rintro ⟨-, undecided, passed⟩
    exact e.elim (Nat.not_le.2 passed) fun decided => Option.isSome_iff_ne_none.1 decided undecided
  simp only [expireAt, stream, row, kept, if_false]

/-- Where ingest does not run, nothing is substituted. -/
theorem horizonExpiry_of_stopped (e : ingestRuns h = false) : horizonExpiry n k h = h := if_neg (Bool.eq_false_iff.1 e)

/-- The horizon of a row of the Bloom in force. -/
theorem horizonExpiry_of_present (runs : ingestRuns h = true) (e : oldOpen k h = false) :
    horizonExpiry n k h = settleAll true (advanceAll (expireAt n k h)) := by
  simp only [horizonExpiry, runs, e, if_true, if_false, Bool.false_eq_true]

/-- The horizon of a row of the replaced Bloom. -/
theorem horizonExpiry_of_old (runs : ingestRuns h = true) (e : oldOpen k h = true) :
    horizonExpiry n k h = settleAll true (advanceAll (inOld (expireAt n k) h)) := by
  simp only [horizonExpiry, runs, e, if_true]

/-! ### Settling (R98, R105) -/

variable {hz : Bool}

/-- Passing rows on changes the rows handed over and the next to settle, or nothing. -/
theorem handOn_cases (h : Hw) :
    handOn h = h ∨ ∃ rows next, handOn h = { h with ing := { h.ing with handoff := rows, nextSettle := next } } :=
  (Decidable.em _).imp (fun held => if_pos held) fun free => ⟨_, _, if_neg free⟩

/-- Passing rows on leaves the open rows, the last settled and the configuration as they are. -/
theorem handOn_frame (h : Hw) :
    (handOn h).ing.open_ = h.ing.open_ ∧ (handOn h).ing.lastSettled = h.ing.lastSettled ∧ (handOn h).cfg = h.cfg := by
  obtain e | ⟨rows, next, e⟩ := handOn_cases h
  · rw [e]
    exact ⟨rfl, rfl, rfl⟩
  · rw [e]
    exact ⟨rfl, rfl, rfl⟩

/-- With no complete row nothing settles. -/
theorem settleRows_of_none_due (e : h.ing.open_.filter (due? h) = []) : settleRows hz h = h := if_pos e

/-- Complete rows leave the open ones, and the highest of them and of the ring's is the last settled. -/
theorem settleRows_of_due (e : h.ing.open_.filter (due? h) ≠ []) :
    (settleRows hz h).ing.open_ = h.ing.open_.filter (fun r => !due? h r)
    ∧ (settleRows hz h).ing.lastSettled = (h.ing.open_.filter (due? h)).foldl (fun m r => max m r.k) (gridTop h) := by
  simp only [settleRows, e, if_false, handOn_frame, and_self]

/-- Settling leaves the configuration alone. -/
theorem settleRows_cfg (hz : Bool) (h : Hw) : (settleRows hz h).cfg = h.cfg := by
  by_cases e : h.ing.open_.filter (due? h) = []
  · rw [settleRows_of_none_due e]
  · simp only [settleRows, e, if_false, handOn_frame]

/-- Without a replaced Bloom the rows of the one in force settle alone. -/
theorem settleAll_of_no_old (e : h.cfg.old = none) : settleAll hz h = settleRows hz h :=
  inOld_none _ _ (by rw [settleRows_cfg, e])

/-! ### The statement -/

/-- Settles O26: each event acts under the Bloom whose instant it is, and its clauses are the cases of that Bloom's own effect. -/
theorem rowsOpenAndSettle : Obligations.RowsOpenAndSettle := by
  refine ⟨?opening, ?stopped, ?horizon, fun hz h => settleRows_of_due⟩
  case opening =>
    intro k s runs end_
    have present {g : Hw} (force : oldToOpen k s.hw = false) (e : openAtDue k s.hw = g) : end_ g :=
      runsAll_lift rfl (e ▸ rowOpen_of_present runs force)
    exact ⟨fun force unopened due => present force (openAtDue_of_due unopened due), fun force e => present force (openAtDue_of_not e),
      fun o old unopened before _ => runsAll_lift rfl (rowOpen_of_old runs (oldToOpen_of_within old unopened before))⟩
  case stopped =>
    exact fun k s e => ⟨runsAll_lift rfl (rowOpen_of_stopped e), fun n => runsAll_lift rfl (horizonExpiry_of_stopped e)⟩
  case horizon =>
    intro n k s runs end_
    refine ⟨fun force c r stream row bloom => ?present, fun old => runsAll_lift rfl (horizonExpiry_of_old runs old)⟩
    have present {g : Hw} (e : expireAt n k s.hw = g) : end_ g := runsAll_lift rfl (e ▸ horizonExpiry_of_present runs force)
    exact ⟨fun undecided passed => present (expireAt_of_passed stream row bloom undecided passed),
      fun e => present (expireAt_of_not stream row e)⟩

end Sys2Proof.Machine
end

section
/-! What an arriving sampled-value frame does (R90, R93 to R97, R489). -/
namespace Sys2Proof.Machine

variable {port n : Nat} {f : SvFrame} {c : StreamConfig} {h : Hw}

/-! ### The port's counters and its limit (R93) -/

/-- A process-bus port that has counted one more frame, in the station second in which it comes (log 19). -/
def countedPort (port : Nat) (h : Hw) : IngestPort :=
  let q := tget h.ing.ports port {}
  { q with seen := q.seen + 1, second := secOf h.time.now, inSecond := if q.second = secOf h.time.now then q.inSecond + 1 else 1 }

/-- Where ingest does not run, and on a port that is no process-bus port, a frame changes nothing. -/
theorem svFrame_of_stopped (e : ingestRuns h = false ∨ 8 ≤ port) : svFrame port f h = h := if_pos e

/-- What remains of a frame on a process-bus port while ingest runs: the limit, then the checks. -/
theorem svFrame_of_running (runs : ingestRuns h = true) (bus : port < 8) :
    svFrame port f h = if 2000000 < (countedPort port h).inSecond
      then putIngestPort port { countedPort port h with overrun := inc32 (countedPort port h).overrun } h
      else settleAll false (advanceAll (acceptFrame port f (countedPort port h) h)) :=
  if_neg fun e => e.elim (fun stopped => Bool.false_ne_true (stopped.symm.trans runs)) (Nat.not_le.2 bus)

/-- A frame past the limit is counted and dropped. -/
theorem svFrame_of_overrun (runs : ingestRuns h = true) (bus : port < 8) (beyond : 2000000 < (countedPort port h).inSecond) :
    svFrame port f h = putIngestPort port { countedPort port h with overrun := inc32 (countedPort port h).overrun } h :=
  (svFrame_of_running runs bus).trans (if_pos beyond)

/-- A frame within the limit is checked, and rows that are then complete settle. -/
theorem svFrame_of_within (runs : ingestRuns h = true) (bus : port < 8) (within : (countedPort port h).inSecond ≤ 2000000) :
    svFrame port f h = settleAll false (advanceAll (acceptFrame port f (countedPort port h) h)) :=
  (svFrame_of_running runs bus).trans (if_neg (Nat.not_lt.2 within))

/-! ### The stream that a frame matches (check 1 of R93, R489) -/

variable {q : IngestPort}

/-- A frame of a stream of the Bloom in force. -/
theorem acceptFrame_of_matching (e : matching f h = some (c, n)) :
    acceptFrame port f q h = feedOld port f (takeFrame port f c n (putIngestPort port q h)) := by
  simp only [acceptFrame, e]

/-- A frame of a stream of the replaced Bloom, for an instant still undecided. -/
theorem acceptFrame_of_old {o : OldBloom} (other : matching f h = none)
    (e : (oldMatch f h).filter (fun e => oldNeeds f e.1 e.2.1 e.2.2 h) = some (o, c, n)) :
    acceptFrame port f q h = inOld (takeFrame port f c n) (putIngestPort port q h) := by
  simp only [acceptFrame, other, e]

/-- A frame of neither. -/
theorem acceptFrame_of_unmatched (other : matching f h = none) (e : (oldMatch f h).filter (fun e => oldNeeds f e.1 e.2.1 e.2.2 h) = none) :
    acceptFrame port f q h = putIngestPort port { q with unmatched := inc32 q.unmatched } h := by
  simp only [acceptFrame, other, e]

/-- Without a replaced Bloom a frame matches none of its streams. -/
theorem feedOld_of_no_old (e : h.cfg.old = none) : feedOld port f h = h := by
  simp only [feedOld, oldMatch, e, Option.bind_none]

/-! ### Checks 2 to 7 of R93 -/

/-- A port outside the stream's ports counts in the port and in the stream. -/
theorem takeFrame_of_wrongPort (e : portMatch c port = false) (counters : tget h.ing.ports port {} = q) :
    takeFrame port f c n h = putIngestPort port { q with wrongPort := inc32 q.wrongPort }
      (putStream n { streamAt n h with wrongPort := inc32 (streamAt n h).wrongPort } h) := by
  subst counters
  exact if_pos e

/-- A malformed frame counts in the stream. -/
theorem takeFrame_of_malformed (ports : portMatch c port = true) (e : wellFormedFrame c f = false) :
    takeFrame port f c n h = putStream n { streamAt n h with malformed := inc32 (streamAt n h).malformed } h := by
  simp only [takeFrame, ports, e, Bool.true_eq_false, if_false, if_true]

/-- A frame of another configuration revision counts in the stream. -/
theorem takeFrame_of_confRev (ports : portMatch c port = true) (formed : wellFormedFrame c f = true) (e : f.confRev ≠ c.confRev) :
    takeFrame port f c n h = putStream n { streamAt n h with confRev := inc32 (streamAt n h).confRev } h := by
  simp only [takeFrame, ports, formed, Bool.true_eq_false, if_false, if_pos e]

/-- A frame that passes checks 2 to 5, with the AUTH flags and the key that check 5 gives (R94). -/
structure Verified (port : Nat) (f : SvFrame) (c : StreamConfig) (flags : Nat) (succ : Bool) (h : Hw) : Prop where
  ports : portMatch c port = true
  formed : wellFormedFrame c f = true
  confRev : f.confRev = c.confRev
  auth : authVerdict c f h = (none, flags, succ)

/-- What a stream notes of a frame whose samples it takes: smpSynch of the last ASDU, the simulation bit and the key (R90, R94, R108). -/
def noteFrame (f : SvFrame) (flags : Nat) (succ : Bool) (st : Stream) : Stream :=
  { st with
    lastSynch := synchOf (match f.asdus.getLast? with | some a => a.smpSynch | none => 2)
    anyFrame := true
    simUse := st.simUse || f.sim
    underSuccessor := if flags = 8 then succ else st.underSuccessor }

variable {flags : Nat} {succ : Bool}

/-- Checks 6 and 7 of a verified frame, and the delivery of its samples. -/
theorem takeFrame_of_verified (v : Verified port f c flags succ h) :
    takeFrame port f c n h =
      if simDrops (streamAt n h) f h then putStream n { streamAt n h with simDrop := inc32 (streamAt n h).simDrop } h
      else if (streamAt n h).blocked ∨ streamShut n h then putStream n { streamAt n h with blockedDrop := inc32 (streamAt n h).blockedDrop } h
      else f.asdus.foldl (fun g a => takeAsdu n c port (flags + flag f.sim 0) a g)
        (putStream n (noteFrame f flags succ (streamAt n (noteLatency n c f h))) (noteLatency n c f h)) := by
  obtain ⟨ports, formed, confRev, auth⟩ := v
  simp only [takeFrame, ports, formed, confRev, auth, Bool.true_eq_false, ne_eq, not_true_eq_false, if_false]
  rfl

/-- Check 6: a frame whose simulation bit does not fit is dropped and counted (R108). -/
theorem takeFrame_of_simDrops (v : Verified port f c flags succ h) (e : simDrops (streamAt n h) f h = true) :
    takeFrame port f c n h = putStream n { streamAt n h with simDrop := inc32 (streamAt n h).simDrop } h :=
  (takeFrame_of_verified v).trans (if_pos e)

/-- Check 7: a frame of a blocked stream, or of one behind a closed gate, is dropped and counted (R110, R411). -/
theorem takeFrame_of_blocked (v : Verified port f c flags succ h) (kept : simDrops (streamAt n h) f h = false)
    (e : (streamAt n h).blocked = true ∨ streamShut n h = true) :
    takeFrame port f c n h = putStream n { streamAt n h with blockedDrop := inc32 (streamAt n h).blockedDrop } h :=
  (takeFrame_of_verified v).trans ((if_neg (Bool.eq_false_iff.1 kept)).trans (if_pos e))

/-- A frame that passes every check delivers the samples of its ASDUs in their order. -/
theorem takeFrame_of_passed (v : Verified port f c flags succ h) (kept : simDrops (streamAt n h) f h = false)
    (unblocked : (streamAt n h).blocked = false) (gateOpen : streamShut n h = false) :
    takeFrame port f c n h = f.asdus.foldl (fun g a => takeAsdu n c port (flags + flag f.sim 0) a g)
      (putStream n (noteFrame f flags succ (streamAt n (noteLatency n c f h))) (noteLatency n c f h)) := by
  have admitted : ¬((streamAt n h).blocked = true ∨ streamShut n h = true) :=
    not_or.2 ⟨Bool.eq_false_iff.1 unblocked, Bool.eq_false_iff.1 gateOpen⟩
  exact (takeFrame_of_verified v).trans ((if_neg (Bool.eq_false_iff.1 kept)).trans (if_neg admitted))

/-! ### The statement -/

/-- Settles O25: within the port's limit a frame goes to the stream it matches, and the clauses are the outcomes of the checks of that
stream, in their order. -/
theorem framesAreCheckedAndCounted : Obligations.FramesAreCheckedAndCounted := by
  refine fun port f s => ⟨?stopped, ?overrun, ?unmatched, ?noOld, ?matched⟩
  case stopped => exact fun e => runsAll_lift rfl (svFrame_of_stopped e)
  case overrun => exact fun running bus beyond => runsAll_lift rfl (svFrame_of_overrun running bus beyond)
  case unmatched =>
    intro running bus within other end_ old
    have accepts {g : Hw} (e : acceptFrame port f (countedPort port s.hw) s.hw = g) : end_ g :=
      runsAll_lift rfl (e ▸ svFrame_of_within running bus within)
    exact ⟨fun e => accepts (acceptFrame_of_unmatched other e), fun o c n e => accepts (acceptFrame_of_old other e)⟩
  case noOld => exact fun g e => ⟨feedOld_of_no_old e, settleAll_of_no_old e⟩
  case matched =>
    intro c n running bus within found g st runs
    have takes {x : Hw} (e : takeFrame port f c n g = x) : runs x := by
      refine runsAll_lift rfl ((svFrame_of_within running bus within).trans ?_)
      rw [acceptFrame_of_matching found, ← e]
      rfl
    refine ⟨fun ports => takes (takeFrame_of_wrongPort ports (tget_tset_self ..)), fun ports e => takes (takeFrame_of_malformed ports e),
      fun ports formed e => takes (takeFrame_of_confRev ports formed e), fun flags succ ports formed confRev auth => ?verified⟩
    have v : Verified port f c flags succ g := ⟨ports, formed, confRev, auth⟩
    exact ⟨fun e => takes (takeFrame_of_simDrops v e), fun kept e => takes (takeFrame_of_blocked v kept e),
      fun kept unblocked gateOpen => takes (takeFrame_of_passed v kept unblocked gateOpen)⟩

end Sys2Proof.Machine
end

section
/-! Where the LOOP commands complete, and what a loop that the Bloom does not define answers (R137 to R143). -/
namespace Sys2Proof.Machine

variable {p : List Byte} {h : Hw} {i : LoopInst}

/-- The status of a loop, whose counters are zeroed on demand after they are read. -/
theorem loopStatus_of_defined (e : definedLoop (u16 p 0) h = some i) :
    loopStatus p h = .ok (putLoop (u16 p 0) (if bit (u8 p 2) 0 then { i with coasts := 0, lockLosses := 0, gated := 0 } else i) h)
      (loopStatusBytes (u16 p 0) i h) := by
  simp only [loopStatus, e]

/-- A basic profile's values are noted. -/
theorem loopProfile_of_inRange (e : definedLoop (u16 p 0) h = some i) (least : 1 ≤ u8 p 2) (most : u8 p 2 ≤ 3) :
    loopProfile p h = done (putLoop (u16 p 0) (tuneLoop (applyProfile (u8 p 2) (fGrid h)) i) h) := by
  have inRange : ¬(u8 p 2 = 0 ∨ 3 < u8 p 2) := by omega
  simp only [loopProfile, e, inRange, if_false]

/-- A reset of one loop is noted. -/
theorem loopReset_of_defined (one : u16 p 0 ≠ 0xFFFF) (e : definedLoop (u16 p 0) h = some i) :
    loopReset p h = done (putLoop (u16 p 0) { i with resetReq := true } h) := by
  simp only [loopReset, one, if_false, e]

/-- A reset of every defined loop is noted. -/
theorem loopReset_of_all (all : u16 p 0 = 0xFFFF) :
    loopReset p h = done { h with loop := { h.loop with insts := tmap h.loop.insts (fun _ i => if i.defined then { i with resetReq := true } else i) } } :=
  if_pos all

/-- The taps of a channel's memory are read from the one named on, wrapped at the memory's length. -/
theorem loopMemoryRead_of_inRange {m : LoopMemory} (e : definedLoop (u16 p 0) h = some i) (member : memoryOf i (u16 p 2) = some m)
    (atLeastOne : 1 ≤ u16 p 6) (most : u16 p 6 ≤ 1024) (first : u16 p 4 < i.params.taps) :
    loopMemoryRead p h = .ok h
      (le 2 (u16 p 0) ++ le 2 (u16 p 2) ++ le 2 i.params.taps ++ le 1 (if m.init ∧ loopWindow (loopGrid i h) i.params ≤ m.learned then 1 else 0)
        ++ zeros 1 ++ le 8 i.u ++ ((List.range (u16 p 6)).map (fun j => leF (m.taps.getD ((u16 p 4 + j) % i.params.taps) 0#32))).flatten) := by
  have inRange : ¬(u16 p 6 = 0 ∨ 1024 < u16 p 6 ∨ i.params.taps ≤ u16 p 4) := by omega
  simp only [loopMemoryRead, e, member, inRange, if_false]

/-- The taps that a loop has, or is to have, with its number. -/
def comingTaps (e : Nat × LoopInst) : Nat × Nat := (e.1, (comingParams e.2).taps)

/-- The defined loops besides one. -/
def otherLoops (n : Nat) (h : Hw) : List (Nat × LoopInst) := h.loop.insts.filter (fun e => e.2.defined && e.1 != n)

/-- A set of values that is in range, stable and fits the pool is noted. -/
theorem loopTune_of_sound {q : LoopParams} (e : definedLoop (u16 p 0) h = some i) (asked : tunedParams p (comingParams i) = q)
    (range : loopRange q = true) (limits : loopLimits q = true) (stable : loopStable q = true) (taps : loopTaps q = true)
    (fits : loopWords (streamsOf h) ((u16 p 0, q.taps) :: (otherLoops (u16 p 0) h).map comingTaps) ≤ loopPool) :
    loopTune p h = done (putLoop (u16 p 0) (tuneLoop (tunedParams p) i) h) := by
  unfold otherLoops comingTaps at fits
  simp only [loopTune, e, asked, range, limits, stable, taps, Bool.true_eq_false, or_self, if_false, Nat.not_lt.2 fits]

/-! ### A loop that the Bloom does not define -/

section
variable (e : definedLoop (u16 p 0) h = none)
include e

theorem loopStatus_of_undefined : loopStatus p h = no stBadParam rcLoopNoInstance := by simp only [loopStatus, e]

theorem loopProfile_of_undefined : loopProfile p h = no stBadParam rcLoopNoInstance := by simp only [loopProfile, e]

theorem loopReset_of_undefined (one : u16 p 0 ≠ 0xFFFF) : loopReset p h = no stBadParam rcLoopNoInstance := by
  simp only [loopReset, one, if_false, e]

theorem loopMemoryRead_of_undefined : loopMemoryRead p h = no stBadParam rcLoopNoInstance := by simp only [loopMemoryRead, e]

theorem loopTune_of_undefined : loopTune p h = no stBadParam rcLoopNoInstance := by simp only [loopTune, e]
end

/-! ### The statement -/

/-- Settles O27: every clause is the equation of its command's own chapter, under the reply that ST_OK gives, or under the refusal of an
loop that the Bloom does not define. -/
theorem loopCommandsComplete : Obligations.LoopCommandsComplete := by
  refine fun c p s => ⟨fun i e => ⟨?status, ?profile, ?reset, ?memory, ?tune⟩, ?resetAll, ?undefined⟩
  case status => exact fun q => runs_ok rfl q (loopStatus_of_defined e)
  case profile => exact fun q least most => runs_ok rfl q (loopProfile_of_inRange e least most)
  case reset => exact fun q one => runs_ok rfl q (loopReset_of_defined one e)
  case memory => exact fun m q member atLeastOne most first => runs_ok rfl q (loopMemoryRead_of_inRange e member atLeastOne most first)
  case tune => exact fun q range limits stable taps fits => runs_ok rfl q (loopTune_of_sound e rfl range limits stable taps fits)
  case resetAll => exact fun q all => runs_ok rfl q (loopReset_of_all all)
  case undefined =>
    exact fun e one => ⟨fun q => runs_refuse rfl q (loopStatus_of_undefined e), fun q => runs_refuse rfl q (loopProfile_of_undefined e),
      fun q => runs_refuse rfl q (loopReset_of_undefined e one), fun q => runs_refuse rfl q (loopMemoryRead_of_undefined e),
      fun q => runs_refuse rfl q (loopTune_of_undefined e)⟩

end Sys2Proof.Machine
end

section
/-! The order in which a tracking loop steps settled rows (R126, R128, R136, R489). -/
namespace Sys2Proof.Machine

variable {n k w new : Nat} {r : Row} {h : Hw} {i : LoopInst}

/-! ### What a step leaves alone, and the instants after it -/

/-- All that the choice of a loop's next row reads: the Bloom, the rows of ingest, and the loop's instants. -/
def loopInstants (n : Nat) (h : Hw) : CfgState × IngestState × Nat × Nat :=
  (h.cfg, h.ing, (tget h.loop.insts n {}).u, (tget h.loop.insts n {}).from_)

theorem loopInstants_putLoop : loopInstants n (putLoop n i h) = (h.cfg, h.ing, i.u, i.from_) := by
  simp only [loopInstants, putLoop, tget_tset_self]

/-- A change of state leaves them as they were. -/
theorem loopInstants_loopMove : loopInstants n (loopMove n new h) = loopInstants n h := by
  unfold loopMove loopInstants
  dsimp only
  split
  · simp only [tget_tset_self]
    split <;> rfl
  · simp only [evr_frame, tget_tset_self]

/-- The entry to ACQUIRING takes the place of the step of its instant (R132). -/
theorem loopInstants_loopInit (det : Nat) : loopInstants n (loopInit n k w det h) = (h.cfg, h.ing, k, k + 1) :=
  loopInstants_loopMove.trans loopInstants_putLoop

/-- After the law's step the instant is the newest, and the next one the first to step (R126). -/
theorem loopLaw_instants : (loopLaw k w r h i).1.u = k ∧ (loopLaw k w r h i).1.from_ = k + 1 := by
  unfold loopLaw
  dsimp only
  constructor
  · rw [apply_ite LoopInst.u, ite_self]
  · rw [apply_ite LoopInst.from_, ite_self]

/-- The transitions after a step leave the instants as they were (R131). -/
theorem loopInstants_loopTransition (coast : Bool) : loopInstants n (loopTransition n w coast h) = loopInstants n h := by
  unfold loopTransition
  dsimp only
  split <;> simp only [apply_ite (loopInstants n), loopInstants_loopMove, loopInstants_putLoop, putLoop_part, ite_self] <;> rfl

/-- The state in which a loop takes its step at an instant: new values and a reset have applied (R138, R141). -/
def loopReady (n k : Nat) (h : Hw) : Hw :=
  let i := newValues k (tget h.loop.insts n {})
  if i.resetReq then loopMove n 1 (putLoop n { i with resetReq := false } h) else putLoop n { i with resetReq := false } h

theorem loopReady_frame (n k : Nat) (h : Hw) : (loopReady n k h).cfg = h.cfg ∧ (loopReady n k h).ing = h.ing := by
  have e : loopInstants n (loopReady n k h) = loopInstants n (putLoop n (newValues k (tget h.loop.insts n {})) h) := by
    unfold loopReady
    simp only [apply_ite (loopInstants n), loopInstants_loopMove, loopInstants_putLoop, ite_self]
  exact ⟨congrArg Prod.fst e, congrArg (fun e => e.2.1) e⟩

/-- At a row a loop enters ACQUIRING, or the law takes its step and the transitions follow (R126, R131, R132). -/
theorem loopStepAt_cases (n k : Nat) (r : Row) (h : Hw) : ∃ w i,
    (∃ det, loopStepAt n k r h = loopInit n k w det (putLoop n i (loopReady n k h)))
    ∨ loopStepAt n k r h = loopTransition n w (loopLaw k w r (loopReady n k h) i).2 (putLoop n (loopLaw k w r (loopReady n k h) i).1 (loopReady n k h)) := by
  unfold loopStepAt
  dsimp only
  split
  · exact ⟨_, _, .inl ⟨_, rfl⟩⟩
  · exact ⟨_, _, .inr rfl⟩

/-- Whichever step a loop takes at a row, the row's instant is then its newest and the next one its first to step (R128). -/
theorem loopInstants_loopStepAt (n k : Nat) (r : Row) (h : Hw) : loopInstants n (loopStepAt n k r h) = (h.cfg, h.ing, k, k + 1) := by
  obtain ⟨cfg, ing⟩ := loopReady_frame n k h
  obtain ⟨w, i, ⟨det, e⟩ | e⟩ := loopStepAt_cases n k r h
  · simp only [e, loopInstants_loopInit, putLoop_part, cfg, ing]
  · simp only [e, loopInstants_loopTransition, loopInstants_putLoop, loopLaw_instants, cfg, ing]

/-! ### The next row -/

/-- The rows passed on, on the present grid, that a loop has not stepped (R105, R128). -/
def pendingRows (i : LoopInst) (h : Hw) : List Row :=
  h.ing.ring.filter (fun r => r.f = fGrid h ∧ i.from_ ≤ r.k ∧ r.k < h.ing.nextSettle)

theorem mem_pendingRows {x : Row} : x ∈ pendingRows i h ↔ x ∈ h.ing.ring ∧ x.f = fGrid h ∧ i.from_ ≤ x.k ∧ x.k < h.ing.nextSettle := by
  simp only [pendingRows, List.mem_filter, decide_eq_true_eq]

/-- The older of the oldest row so far, where there is one, and the next row of the ring. -/
def older : Option Row → Row → Option Row
  | some b, r => if r.k < b.k then some r else some b
  | none, r => some r

theorem older_some (b r : Row) : older (some b) r = some (minOn Row.k b r) := by
  by_cases less : r.k < b.k
  · simp only [older, minOn, if_pos less, if_neg (Nat.not_le.2 less)]
  · simp only [older, minOn, if_neg less, if_pos (Nat.not_lt.1 less)]

theorem foldl_older_some (l : List Row) (b : Row) : l.foldl older (some b) = some (l.foldl (minOn Row.k) b) := by
  induction l generalizing b with
  | nil => rfl
  | cons r l ih => rw [List.foldl_cons, List.foldl_cons, older_some, ih]

theorem foldl_older_none (l : List Row) : l.foldl older none = l.minOn? Row.k := by
  cases l with
  | nil => rfl
  | cons r l => exact foldl_older_some l r

/-- The next row is the oldest of them. -/
theorem nextLoopRow_eq_minOn? : nextLoopRow i h = (pendingRows i h).minOn? Row.k := by
  rw [← foldl_older_none, pendingRows, List.foldl_filter, nextLoopRow]
  congr 1
  funext best r
  have passed : (r.f ≠ fGrid h ∨ r.k < i.from_ ∨ h.ing.nextSettle ≤ r.k) ↔ ¬(r.f = fGrid h ∧ i.from_ ≤ r.k ∧ r.k < h.ing.nextSettle) := by
    omega
  cases best <;> simp only [passed, ite_not, decide_eq_true_eq] <;> rfl

theorem nextLoopRow_mem (e : nextLoopRow i h = some r) : r ∈ pendingRows i h :=
  List.minOn?_mem (nextLoopRow_eq_minOn?.symm.trans e)

theorem nextLoopRow_oldest (e : nextLoopRow i h = some r) {x : Row} (mem : x ∈ pendingRows i h) : r.k ≤ x.k := by
  have least := List.apply_get_minOn?_le_of_mem (f := Row.k) mem
  simpa only [← nextLoopRow_eq_minOn?, e, Option.get_some] using least

theorem nextLoopRow_of_no_pending (e : pendingRows i h = []) : nextLoopRow i h = none := by
  rw [nextLoopRow_eq_minOn?, e, List.minOn?_nil]

/-! ### Every row that is pending -/

/-- The rows that a loop, by its number, has still to step. -/
def pendingOf (n : Nat) (h : Hw) : List Row := pendingRows (tget h.loop.insts n {}) h

/-- After a step the rows at and below its instant are no longer pending. -/
theorem pendingOf_loopStepAt (first : (tget h.loop.insts n {}).from_ ≤ k) :
    pendingOf n (loopStepAt n k r h) = (pendingOf n h).filter (fun x => k + 1 ≤ x.k) := by
  obtain ⟨cfg, ing, -, next⟩ := by simpa only [loopInstants, Prod.mk.injEq] using loopInstants_loopStepAt n k r h
  have grid : fGrid (loopStepAt n k r h) = fGrid h := by rw [fGrid, fGrid, cfg]
  simp only [pendingOf, pendingRows, grid, ing, next, List.filter_filter]
  refine List.filter_congr fun x _ => ?_
  rw [← Bool.decide_and, decide_eq_decide]
  omega

/-- A step leaves fewer rows to step. -/
theorem pendingOf_loopStepAt_lt (e : nextLoopRow (tget h.loop.insts n {}) h = some r) :
    (pendingOf n (loopStepAt n r.k r h)).length < (pendingOf n h).length := by
  have mem := nextLoopRow_mem e
  obtain ⟨-, -, first, -⟩ := mem_pendingRows.1 mem
  rw [pendingOf_loopStepAt first]
  exact List.length_filter_lt_length_iff_exists.2 ⟨r, mem, by simp only [decide_eq_true_eq]; omega⟩

/-- As many steps as there are rows pending leave none (R136). -/
theorem nextLoopRow_loopRunAll {fuel : Nat} (enough : (pendingOf n h).length ≤ fuel) :
    nextLoopRow (tget (loopRunAll fuel n h).loop.insts n {}) (loopRunAll fuel n h) = none := by
  induction fuel generalizing h with
  | zero => exact nextLoopRow_of_no_pending (List.length_eq_zero_iff.1 (Nat.le_zero.1 enough))
  | succ fuel ih =>
    unfold loopRunAll
    split
    next r e => exact ih (Nat.le_of_lt_succ (Nat.lt_of_lt_of_le (pendingOf_loopStepAt_lt e) enough))
    next e => exact e

/-! ### LOOP_STEP (R128, R489) -/

/-- A loop on the present grid acts under the Bloom in force. -/
theorem onLoopGrid_of_present {f : Hw → Hw} (e : (tget h.loop.insts n {}).grid = 0) : onLoopGrid n f h = f h := if_pos e

/-- A loop with rows of a grid that has ended acts under the Bloom that was in force. -/
theorem onLoopGrid_of_ended {f : Hw → Hw} (e : (tget h.loop.insts n {}).grid ≠ 0) : onLoopGrid n f h = inOld f h := if_neg e

theorem loopNext_of_some (e : nextLoopRow (tget h.loop.insts n {}) h = some r) : loopNext n h = loopStepAt n r.k r h := by
  simp only [loopNext, e]

theorem loopNext_of_none (e : nextLoopRow (tget h.loop.insts n {}) h = none) : loopNext n h = h := by
  simp only [loopNext, e]

/-- A loop that is not defined, and one under a time event unit, takes no step of its own. -/
theorem loopStep_of_idle (e : (tget h.loop.insts n {}).defined = false ∨ (tget h.loop.insts n {}).params.source.isSome) : loopStep n h = h :=
  if_pos e

/-- A loop on GRID takes its next step. -/
theorem loopStep_of_grid (defined : (tget h.loop.insts n {}).defined = true) (source : (tget h.loop.insts n {}).params.source = none) :
    loopStep n h = onLoopGrid n (loopNext n) h := by
  simp only [loopStep, defined, source, Bool.true_eq_false, Option.isSome_none, Bool.false_eq_true, or_self, if_false]

/-! ### An edge, and its absence (R136) -/

/-- An edge of the unit leaves no row of the present grid pending. -/
theorem nextLoopRow_loopEdge (defined : (tget h.loop.insts n {}).defined = true) (grid : (tget h.loop.insts n {}).grid = 0)
    (ring : h.ing.ring.length ≤ 4096) : nextLoopRow (tget (loopEdge n h).loop.insts n {}) (loopEdge n h) = none := by
  have runs : loopEdge n h = loopRunAll 4096 n h := (if_pos defined).trans (onLoopGrid_of_present grid)
  rw [runs]
  exact nextLoopRow_loopRunAll (Nat.le_trans (List.length_filter_le _ _) ring)

theorem loopFallback_of_undefined (e : (tget h.loop.insts n {}).defined = false) : loopFallback n h = h := if_pos (.inl e)

/-- A loop under a time event unit waits for its edge. -/
theorem loopFallback_of_source {t : Nat} (defined : (tget h.loop.insts n {}).defined = true)
    (source : (tget h.loop.insts n {}).params.source = some t) : loopFallback n h = onLoopGrid n (fallBack n) h := by
  simp only [loopFallback, defined, source, Bool.true_eq_false, reduceCtorEq, or_self, if_false]

/-- The station time at which a row settled. -/
def settledAt (r : Row) : Nat := (r.settled.map (fun e => e.1)).getD 0

/-- A loop that has waited 10 ms steps every pending row and goes back to GRID. -/
theorem fallBack_of_due (e : nextLoopRow (tget h.loop.insts n {}) h = some r) (due : settledAt r + nsUnits 10000000 ≤ h.time.now) :
    fallBack n h = evr 0x0711 (0x0700 + n) (loopPayload 0 0 (onGrid (tget (loopRunAll 4096 n h).loop.insts n {})) (loopRunAll 4096 n h))
      (putLoop n (onGrid (tget (loopRunAll 4096 n h).loop.insts n {})) (loopRunAll 4096 n h)) := by
  unfold settledAt at due
  simp only [fallBack, e, due, if_true]

/-- Until 10 ms have passed it goes on waiting. -/
theorem fallBack_of_early (e : nextLoopRow (tget h.loop.insts n {}) h = some r) (early : h.time.now < settledAt r + nsUnits 10000000) :
    fallBack n h = h := by
  unfold settledAt at early
  simp only [fallBack, e, Nat.not_le.2 early, if_false]

/-- Back on GRID no values that wait bring the unit back. -/
theorem onGrid_source (i : LoopInst) : (onGrid i).params.source = none ∧ (onGrid i).fallback = true
    ∧ (∀ e, (onGrid i).swapNext = some e → e.2.source = none) ∧ (∀ q, (onGrid i).next = some q → q.source = none) := by
  refine ⟨rfl, rfl, fun e swap => ?_, fun q next => ?_⟩
  · obtain ⟨_, _, rfl⟩ := Option.map_eq_some_iff.1 swap
    rfl
  · obtain ⟨_, _, rfl⟩ := Option.map_eq_some_iff.1 next
    rfl

/-! ### The statement -/

/-- Settles O28: the next row is the oldest of those pending, a step at it takes it and all below it from them, and so an edge, which
steps as many rows as the ring can hold, leaves none. -/
theorem loopStepsInRowOrder : Obligations.LoopStepsInRowOrder := by
  refine fun n s => ⟨?undefined, ?ended, ?noRow, ?row, ?unit⟩
  case undefined => exact fun e => ⟨runs_lift rfl (loopStep_of_idle (.inl e)), runs_lift rfl (loopFallback_of_undefined e)⟩
  case ended => exact fun defined source grid => runs_lift rfl ((loopStep_of_grid defined source).trans (onLoopGrid_of_ended grid))
  case noRow =>
    exact fun defined source grid e => runs_lift rfl
      ((loopStep_of_grid defined source).trans ((onLoopGrid_of_present grid).trans (loopNext_of_none e)))
  case row =>
    intro r defined source grid e
    obtain ⟨inRing, present, first, passed⟩ := mem_pendingRows.1 (nextLoopRow_mem e)
    obtain ⟨-, -, newest, next⟩ := by simpa only [loopInstants, Prod.mk.injEq] using loopInstants_loopStepAt n r.k r s.hw
    exact ⟨runs_lift rfl ((loopStep_of_grid defined source).trans ((onLoopGrid_of_present grid).trans (loopNext_of_some e))),
      inRing, present, first, passed, fun x mem present first passed => nextLoopRow_oldest e (mem_pendingRows.2 ⟨mem, present, first, passed⟩),
      newest, next⟩
  case unit =>
    intro t defined source
    have waits {g : Hw} (grid : (tget s.hw.loop.insts n {}).grid = 0) (e : fallBack n s.hw = g) : Runs (.loopTeuFallback n) s g :=
      runs_lift rfl ((loopFallback_of_source defined source).trans ((onLoopGrid_of_present grid).trans e))
    refine ⟨runs_lift rfl (loopStep_of_idle (.inr (Option.isSome_of_eq_some source))), nextLoopRow_loopEdge defined,
      fun r grid e => ⟨fun due => ?_, fun early => waits grid (fallBack_of_early e early)⟩⟩
    obtain ⟨source, fallback, swap, next⟩ := onGrid_source (tget (loopRunAll 4096 n s.hw).loop.insts n {})
    exact ⟨source, fallback, swap, next, waits grid (fallBack_of_due e due)⟩

end Sys2Proof.Machine
end

section
/-! An item of a cell from its slot to its end, and the draining of the entry that it decided (R156, R160, R161, R163, R271, R280, R282,
R283). -/
namespace Sys2Proof.Machine

variable {n c e : Nat} {h : Hw} {i : Item} {r : Run} {x : Entry}

/-! ### SPEC_LINES_DRAINED (R156) -/

/-- An entry that is FREE has nothing to drain. -/
theorem drainEntry_of_free (free : tfind h.spec.entries e = none) : drainEntry e h = h := by
  unfold drainEntry; rw [free]

/-- An entry that is not RESOLVED keeps its lines. -/
theorem drainEntry_of_unresolved (entry : tfind h.spec.entries e = some x) (state : x.state ≠ 4) : drainEntry e h = h := by
  unfold drainEntry; rw [entry]; exact if_pos state

/-- The lines of a rerun, which are to be committed (R155, R156). -/
def settledLines (x : Entry) : List SpecLine := x.lines.filter (fun l => !l.spec)

/-- How many lines of a speculative run are to be discarded. -/
def discardedLines (x : Entry) : Nat := x.lines.length - (settledLines x).length

/-- Committed memory with the settled lines that lie in the slice's memory (R156, R302). -/
def commitSettled (x : Entry) (h : Hw) : Hw :=
  ((settledLines x).filter (fun l => ownsLine x.slice l h)).foldl (fun g l => commitLine l g) h

/-- A RESOLVED entry commits and discards its lines, records its outcome and is FREE; stages that waited for it leave. -/
theorem drainEntry_of_resolved (entry : tfind h.spec.entries e = some x) (state : x.state = 4) :
    let g := outcomeRecord e x (x.discarded + discardedLines x)
      (countSpec x.slice (fun y => { y with discarded := sat32 (y.discarded + discardedLines x) }) (commitSettled x h))
    drainEntry e h = dropOldStages { g with spec := { g.spec with entries := tdel g.spec.entries e } } := by
  unfold drainEntry; rw [entry]; exact if_neg (not_not_intro state)

/-! ### ITEM_START (R280, R283, R289) -/

/-- The cell is idle and in service, and the level does not withhold the item in its slot. -/
structure MayStart (n c : Nat) (i : Item) (h : Hw) : Prop where
  slot : tfind (blockAt n h).slots c = some i
  idle : tfind (blockAt n h).running c = none
  service : c ∈ cellsInService n h
  level : i.desc.cls = 4 → levelAllows n i h = true

/-- The item asks to be dropped late (DEADLINE_DROP), and it is late. -/
abbrev DropsLate (i : Item) (h : Hw) : Prop := bit i.desc.flags 2 = true ∧ pastDeadline i h = true

/-- The item has left the slot and runs on the cell, under the ASID of its slice and with its row window (R273, R299). -/
def startOnCell (n c : Nat) (i : Item) (h : Hw) : Hw :=
  putBlock n { blockAt n h with
    slots := tdel (blockAt n h).slots c
    running := tset (blockAt n h).running c { item := i, since := h.time.mono, asid := (sliceAt i.slice h).cfg.asid, view := itemView i h }
    lastImage := tset (blockAt n h).lastImage c (i.slice, i.desc.image), dispatched := inc32 (blockAt n h).dispatched
    emptySince := tset (blockAt n h).emptySince c h.time.mono } h

/-- The ledger entry of a run names its cell: that of the speculative run or that of the rerun (R180). -/
def noteCell (n c e : Nat) (h : Hw) : Hw :=
  if e = 0xFFFF then h
  else putEntry e (if (entryAt e h).state = 1 then { entryAt e h with specCell := cellSource n c }
    else { entryAt e h with rerunCell := some (cellSource n c) }) h

/-- An empty slot starts nothing. -/
theorem itemStart_of_empty (slot : tfind (blockAt n h).slots c = none) : itemStart n c h = h := by
  unfold itemStart; simp only [slot]

/-- What may start is dropped if it drops late; else it starts, and a late start is a miss. -/
theorem itemStart_of_mayStart (m : MayStart n c i h) :
    itemStart n c h = if DropsLate i h
      then deadlineMiss n i (putBlock n { blockAt n h with
        slots := tdel (blockAt n h).slots c, emptySince := tset (blockAt n h).emptySince c h.time.mono } h)
      else if pastDeadline i (noteCell n c i.ledger (startOnCell n c i h))
        then deadlineMiss n i (noteCell n c i.ledger (startOnCell n c i h)) else noteCell n c i.ledger (startOnCell n c i h) := by
  obtain ⟨slot, idle, service, level⟩ := m
  have ready : ¬((tfind (blockAt n h).running c).isSome = true ∨ (cellsInService n h).contains c = false) := by simp [idle, service]
  have allowed : ¬(i.desc.cls = 4 ∧ levelAllows n i h = false) := fun k => Bool.false_ne_true (k.2.symm.trans (level k.1))
  unfold itemStart
  simp only [slot, if_neg ready, if_neg allowed]
  rfl

/-! ### ITEM_COMPLETE (R158, R160, R161) -/

/-- A cell that runs nothing completes nothing. -/
theorem itemComplete_of_idle (idle : tfind (blockAt n h).running c = none) : itemComplete n c h = h := by
  unfold itemComplete; rw [idle]

/-- On such a cell no self-test ends either. -/
theorem probeOf_of_idle (idle : tfind (blockAt n h).running c = none) : probeOf n c h = none := by
  unfold probeOf; rw [idle]; rfl

/-- A rerun's code that its action table does not hold. -/
abbrev BadCode (x : Entry) (code : Nat) : Prop := code ≠ 0 ∧ (actionOf x.item.actions code).isNone = true

/-- An item that leaves its cell leaves the fault counters as they are. -/
theorem retire_fault (n c : Nat) (h : Hw) : (retire n c h).fault = h.fault := by
  unfold retire; dsimp only; split
  · rfl
  · simp

section
variable (run : tfind (blockAt n h).running c = some r)
include run

/-- A run without a ledger entry gives its code to the publisher. -/
theorem itemComplete_of_plain (plain : r.item.ledger = 0xFFFF) : itemComplete n c h = completePlain n c r (retire n c h) := by
  unfold itemComplete; rw [run]; exact if_pos plain

/-- A speculative run decides its entry, if that is still SPECULATING. -/
theorem itemComplete_of_spec (entry : r.item.ledger ≠ 0xFFFF) (spec : bit r.item.desc.flags 0 = true) :
    itemComplete n c h = if (entryAt r.item.ledger (retire n c h)).state = 1
      then decideSpec r.item.ledger r.code (retire n c h) else retire n c h := by
  unfold itemComplete; rw [run]; exact (if_neg entry).trans (if_pos spec)

/-- A rerun whose entry is no longer RERUNNING settles nothing. -/
theorem itemComplete_of_settled (entry : r.item.ledger ≠ 0xFFFF) (rerun : bit r.item.desc.flags 0 = false)
    (state : (entryAt r.item.ledger (retire n c h)).state ≠ 3) : itemComplete n c h = retire n c h := by
  unfold itemComplete; rw [run]; exact (if_neg entry).trans ((if_neg (Bool.eq_false_iff.1 rerun)).trans (if_neg state))

/-- A rerun settles its entry: on its code, or on none where the code is outside the table, which is counted. -/
theorem itemComplete_of_rerun (entry : r.item.ledger ≠ 0xFFFF) (rerun : bit r.item.desc.flags 0 = false)
    (found : entryAt r.item.ledger (retire n c h) = x) (state : x.state = 3) :
    itemComplete n c h = resolveSettled r.item.ledger (if BadCode x r.code then 0 else r.code)
      (if BadCode x r.code
        then countSpec x.slice (fun y => { y with badCode := inc32 y.badCode }) (putEntry r.item.ledger { x with badCode := true } (retire n c h))
        else retire n c h) := by
  subst found
  unfold itemComplete; rw [run]; exact (if_neg entry).trans ((if_neg (Bool.eq_false_iff.1 rerun)).trans (if_pos state))

/-! ### CORE_EXCEPTION (R271) -/

/-- An exception takes the item off its cell and fails it, with kind 5. -/
theorem coreException_of_running : coreException n c h
    = failItem n c 5 r { retire n c h with fault := { (retire n c h).fault with exceptions := inc32 (retire n c h).fault.exceptions } } := by
  unfold coreException; rw [run, retire_fault]

/-! ### RUN_TIME_OVERRUN (R282) -/

/-- A run within its class's limit goes on. -/
theorem runTimeOverrun_of_within (within : h.time.mono - r.since < nsUnits (1000 * (blockAt n h).limits.getD r.item.desc.cls 0)) :
    runTimeOverrun n c h = h := by
  unfold runTimeOverrun; simp only [run]; exact if_pos within
end

/-- A cell that runs nothing has no exception. -/
theorem coreException_of_idle (idle : tfind (blockAt n h).running c = none) : coreException n c h = h := by
  unfold coreException; rw [idle]

/-- A cell that runs nothing overruns nothing. -/
theorem runTimeOverrun_of_idle (idle : tfind (blockAt n h).running c = none) : runTimeOverrun n c h = h := by
  unfold runTimeOverrun; simp only [idle]

/-- A run beyond its limit is off its cell, counted and recorded with CODE 0x0B11. -/
def overrunEnded (n c : Nat) (r : Run) (h : Hw) : Hw :=
  let g := retire n c h
  let g := putBlock n { blockAt n g with overrun := inc32 (blockAt n g).overrun } g
  evrSlice 0x0B11 (cellSource n c) r.item.slice (fabricPayload r.item.desc.cls r.item.desc.image 0 r.item.desc.k g) g

/-- What the end of an overrun makes of the ledger entry: a SPECULATING one is ABORTED_EFFECT, a RERUNNING one FAULTED without lines to
be committed, and any other is left. -/
theorem runTimeOverrun_of_beyond (run : tfind (blockAt n h).running c = some r)
    (beyond : nsUnits (1000 * (blockAt n h).limits.getD r.item.desc.cls 0) ≤ h.time.mono - r.since) :
    runTimeOverrun n c h = if r.item.ledger = 0xFFFF then overrunEnded n c r h
      else if (entryAt r.item.ledger (overrunEnded n c r h)).state = 1 then resolveOther r.item.ledger 6 false (overrunEnded n c r h)
      else if (entryAt r.item.ledger (overrunEnded n c r h)).state = 3
        then faultEntry r.item.ledger (cellSource n c) (dropLines r.item.ledger (overrunEnded n c r h))
      else overrunEnded n c r h := by
  unfold runTimeOverrun; simp only [run]; exact if_neg (Nat.not_lt.2 beyond)

/-! ### The statement -/

/-- A completion runs to the item's end, and then to that of the cell's self-test where it was one (R390). -/
theorem runsAll_itemComplete {s : State} {g : Hw} (b : itemComplete n c s.hw = g) :
    RunsAll (.itemComplete n c) s (probeEnd n c (probeOf n c s.hw) g) :=
  runsAll_lift (f := fun h => probeEnd n c (probeOf n c h) (itemComplete n c h)) rfl (congrArg (probeEnd n c (probeOf n c s.hw)) b)

/-- On a cell that runs nothing none of the three ends of a run does anything. -/
theorem runEnds_of_idle {s : State} (idle : tfind (blockAt n s.hw).running c = none) :
    RunsAll (.itemComplete n c) s s.hw ∧ RunsAll (.coreException n c) s s.hw ∧ RunsAll (.runTimeOverrun n c) s s.hw := by
  have completes := runsAll_itemComplete (itemComplete_of_idle idle)
  rw [probeOf_of_idle idle] at completes
  exact ⟨completes, runsAll_lift rfl (coreException_of_idle idle), runsAll_lift rfl (runTimeOverrun_of_idle idle)⟩

/-- Settles O39: a start turns on whether the item drops late, a completion on the kind of its run and the state of its entry, and an
overrun on that state alone; each clause is the equation of its case. -/
theorem itemsRunToTheirEnd : Obligations.ItemsRunToTheirEnd := by
  refine ⟨fun e s => ⟨fun free => runsAll_lift rfl (drainEntry_of_free free), fun x entry =>
    ⟨fun state => runsAll_lift rfl (drainEntry_of_unresolved entry state), fun state => runsAll_lift rfl (drainEntry_of_resolved entry state)⟩⟩,
    fun n c s => ⟨?start, fun slot => runsAll_lift rfl (itemStart_of_empty slot), ?run, runEnds_of_idle⟩⟩
  case start =>
    intro i slot idle service level
    have started := itemStart_of_mayStart ⟨slot, idle, service, level⟩
    exact ⟨fun late => runsAll_lift rfl (started.trans (if_pos late)), fun late => runsAll_lift rfl (started.trans (if_neg late))⟩
  case run =>
    intro r run
    refine ⟨?plain, ?spec, ?rerun, ?badCode, ?gone, runsAll_lift rfl (coreException_of_running run), ?beyond,
      fun within => runsAll_lift rfl (runTimeOverrun_of_within run within)⟩
    case plain => exact fun plain => runsAll_itemComplete (itemComplete_of_plain run plain)
    case spec => exact fun entry spec state => runsAll_itemComplete ((itemComplete_of_spec run entry spec).trans (if_pos state))
    case rerun =>
      intro entry rerun state known
      have good : ¬BadCode (entryAt r.item.ledger (retire n c s.hw)) r.code := by
        rintro ⟨other, bad⟩
        exact known.elim other (by simp [Option.isNone_iff_eq_none.1 bad])
      have settles := itemComplete_of_rerun run entry rerun rfl state
      rw [if_neg good, if_neg good] at settles
      exact runsAll_itemComplete settles
    case badCode =>
      intro entry rerun state other unlisted
      have bad : BadCode (entryAt r.item.ledger (retire n c s.hw)) r.code := ⟨other, Option.isNone_iff_eq_none.2 unlisted⟩
      have settles := itemComplete_of_rerun run entry rerun rfl state
      rw [if_pos bad, if_pos bad] at settles
      exact runsAll_itemComplete settles
    case gone =>
      intro entry state
      cases spec : bit r.item.desc.flags 0 with
      | true => exact runsAll_itemComplete ((itemComplete_of_spec run entry spec).trans (if_neg (by simpa [spec] using state)))
      | false => exact runsAll_itemComplete (itemComplete_of_settled run entry spec (by simpa [spec] using state))
    case beyond =>
      intro beyond
      have ended := runTimeOverrun_of_beyond run beyond
      exact ⟨fun plain => runsAll_lift rfl (ended.trans (if_pos plain)),
        fun entry state => runsAll_lift rfl (ended.trans ((if_neg entry).trans (if_pos state))),
        fun entry state => runsAll_lift rfl (ended.trans ((if_neg entry).trans
          ((if_neg fun one => absurd (one.symm.trans state) (by decide)).trans (if_pos state))))⟩

end Sys2Proof.Machine
end

section
/-! The runtime calls and the stores of a cell's item (R152, R154, R158, R272, R274 to R276, R299, R305, R306, R310, R547). -/
namespace Sys2Proof.Machine

variable {n c sl a : Nat} {h : Hw} {r : Run}

/-! ### A cell that runs nothing -/

/-- It makes no outbound call. -/
theorem outbound_of_idle (f : Run → Nat → Hw → Hw) (idle : tfind (blockAt n h).running c = none) : outbound n c f h = h := by
  unfold outbound; rw [idle]

/-- It makes no decision. -/
theorem ecallDecide_of_idle (code : Nat) (idle : tfind (blockAt n h).running c = none) : ecallDecide n c code h = h := by
  unfold ecallDecide; simp only [idle]

/-- It asks for no time. -/
theorem ecallTime_of_idle (idle : tfind (blockAt n h).running c = none) : ecallTime n c h = h :=
  if_neg (by simp [idle])

/-- It stores nothing. -/
theorem itemStore_of_idle (a mask : Nat) (data : List Byte) (idle : tfind (blockAt n h).running c = none) : itemStore n c a mask data h = h := by
  unfold itemStore; rw [idle]

/-! ### Calls of any run (R158, R274) -/

section
variable (run : tfind (blockAt n h).running c = some r)
include run

/-- A decision replaces the run's code. -/
theorem ecallDecide_of_running (code : Nat) : ecallDecide n c code h = ecallReturn n c 0 0
    (putBlock n { blockAt n h with running := tset (blockAt n h).running c { r with code := code % 65536 } } h) := by
  unfold ecallDecide; simp only [run]

/-- The time is station time. -/
theorem ecallTime_of_running : ecallTime n c h = ecallReturn n c (secOf h.time.now) (fracOf h.time.now) h :=
  if_pos (by simp [run])

/-! ### Outbound calls (R154, R310) -/

/-- A speculative run that calls out is aborted as ABORTED_EFFECT. -/
theorem outbound_of_spec (f : Run → Nat → Hw → Hw) (spec : bit r.item.desc.flags 0 = true) :
    outbound n c f h = resolveOther r.item.ledger 6 false (retire n c h) := by
  unfold outbound; rw [run]; exact if_pos spec

/-- Without a slice that runs the call is answered with QUIESCED. -/
theorem outbound_of_quiesced (f : Run → Nat → Hw → Hw) (effective : bit r.item.desc.flags 0 = false)
    (quiesced : ∀ sl, sliceOfAsid r.asid h = some sl → (sliceAt sl h).state ≠ 1) : outbound n c f h = ecallReturn n c 3 0 h := by
  have resting : (sliceOfAsid r.asid h).filter (fun s => (sliceAt s h).state == 1) = none :=
    Option.filter_eq_none_iff.2 fun sl found => by simpa using quiesced sl found
  unfold outbound; rw [run]; simp only [effective, resting, Bool.false_eq_true, if_false]
end

/-- A run that is not speculative is on the cell, for a slice that runs: what it calls for takes effect. -/
structure CallsFor (n c : Nat) (r : Run) (sl : Nat) (h : Hw) : Prop where
  run : tfind (blockAt n h).running c = some r
  effective : bit r.item.desc.flags 0 = false
  slice : sliceOfAsid r.asid h = some sl
  running : (sliceAt sl h).state = 1

/-- Its call is made for that slice (R299). -/
theorem outbound_of_callsFor (f : Run → Nat → Hw → Hw) (k : CallsFor n c r sl h) : outbound n c f h = f r sl h := by
  obtain ⟨run, effective, slice, running⟩ := k
  have found : (sliceOfAsid r.asid h).filter (fun s => (sliceAt s h).state == 1) = some sl :=
    Option.filter_eq_some_iff.2 ⟨slice, by simp [running]⟩
  unfold outbound; rw [run]; simp only [effective, found, Bool.false_eq_true, if_false]

/-- Bytes of which some are not mapped make a call malformed (log 107). -/
theorem withBytes_of_unmapped {len : Nat} (f : List Byte → Hw → Hw) (read : sliceRead r sl a len h = none) :
    withBytes n c a len r sl f h = ecallReturn n c 4 0 h := by
  unfold withBytes; rw [read]

/-- Bytes that are mapped are handed to the call; what the slice has not written there is free. -/
theorem withBytes_of_mapped {len : Nat} {bs : List Byte} (f : List Byte → Hw → Hw) (read : sliceRead r sl a len h = some bs) :
    withBytes n c a len r sl f h = f bs (drawn h) := by
  unfold withBytes; rw [read]

/-! ### EVR (R274, R547) -/

/-- A CODE outside 0x8000 to 0xFFFF is not the slice's. -/
theorem ecallEvr_of_outside (k : CallsFor n c r sl h) {code : Nat} (outside : code < 0x8000 ∨ 0xFFFF < code) :
    ecallEvr n c code a h = ecallReturn n c 5 0 h := (outbound_of_callsFor _ k).trans (if_pos outside)

/-- With a CODE of its own the slice writes a record of the 48 bytes, if they are mapped. -/
theorem ecallEvr_of_inRange (k : CallsFor n c r sl h) {code : Nat} (least : 0x8000 ≤ code) (most : code ≤ 0xFFFF) :
    ecallEvr n c code a h = withBytes n c a 48 r sl (fun bs g => ecallReturn n c 0 0 (evrSlice code (cellSource n c) sl bs g)) h :=
  (outbound_of_callsFor _ k).trans (if_neg (by omega))

/-! ### SUBMIT (R275 to R277, R305) -/

/-- Reserved bytes fail their check when one of them is not zero. -/
theorem all_zero_eq_false_iff (l : List Byte) : l.all (fun z => z == 0#8) = false ↔ ¬∀ z ∈ l, z = 0#8 := by
  rw [← Bool.not_eq_true, List.all_eq_true]; simp only [beq_iff_eq]

/-- A work descriptor as R275 wants it, of a class within the table. -/
abbrev SoundWork (d : Descriptor) (bs : List Byte) : Prop :=
  d.cls ≤ 4 ∧ d.flags % 4 = 0 ∧ d.flags < 32 ∧ (∀ z ∈ bs.drop 58, z = 0#8) ∧ 0x10000 ≤ d.entry ∧ d.entry ≤ 0x3FFFFFFF

/-- The checks of form that SUBMIT makes (R275) are those of soundness. -/
theorem malformedWork_iff (d : Descriptor) (bs : List Byte) :
    (4 < d.cls ∨ d.flags % 4 ≠ 0 ∨ 32 ≤ d.flags ∨ (bs.drop 58).all (fun z => z == 0#8) = false ∨ d.entry < 0x10000 ∨ 0x3FFFFFFF < d.entry)
      ↔ ¬SoundWork d bs := by
  simp only [SoundWork, all_zero_eq_false_iff, Decidable.not_and_iff_or_not, Nat.not_le, Nat.not_lt]

/-- What SUBMIT does with the 64 bytes that it has read. -/
abbrev submitBytes (n c sl : Nat) (bs : List Byte) : Hw → Hw := submit n c sl (workDescriptor bs) ((bs.drop 58).all (fun z => z == 0#8))

variable {bs : List Byte}

/-- Classes 0 and 1 are the module's own. -/
theorem submit_of_reserved_class (cls : (workDescriptor bs).cls ≤ 1) : submitBytes n c sl bs h = ecallReturn n c 5 0 h := if_pos cls

/-- A malformed descriptor is submitted by nobody. -/
theorem submit_of_malformed (cls : 1 < (workDescriptor bs).cls) (bad : ¬SoundWork (workDescriptor bs) bs) :
    submitBytes n c sl bs h = ecallReturn n c 4 0 h :=
  (if_neg (Nat.not_le.2 cls)).trans (if_pos ((malformedWork_iff _ _).2 bad))

/-- The item of a submission: flag bit 3, which RED asks of class 3 (R289), stays for that class alone (R275). -/
def submittedItem (d : Descriptor) (sl : Nat) (h : Hw) : Item :=
  { desc := { d with flags := if d.cls = 3 then d.flags else d.flags &&& 0x14 }, slice := sl
    generation := (fillBuckets (sliceAt sl h) h.time.mono).generation, sequence := tget h.fab.sequences sl 0 }

/-- The slice has paid for an item, and the next has the next sequence number. -/
def chargeItem (sl : Nat) (h : Hw) : Hw :=
  let y := fillBuckets (sliceAt sl h) h.time.mono
  let q := putSlice sl { y with items := y.items - 2 ^ 64 } h
  { q with fab := { q.fab with sequences := tset q.fab.sequences sl ((tget h.fab.sequences sl 0 + 1) % 2 ^ 32) } }

/-- Beyond its rate a slice submits nothing. -/
theorem submit_of_limited (cls : 1 < (workDescriptor bs).cls) (sound : SoundWork (workDescriptor bs) bs)
    (limited : (fillBuckets (sliceAt sl h) h.time.mono).items < 2 ^ 64) :
    submitBytes n c sl bs h = ecallReturn n c 2 0 (putSlice sl { fillBuckets (sliceAt sl h) h.time.mono with
      itemsLimited := inc32 (fillBuckets (sliceAt sl h) h.time.mono).itemsLimited } h) :=
  (if_neg (Nat.not_le.2 cls)).trans ((if_neg (mt (malformedWork_iff _ _).1 (not_not_intro sound))).trans (if_pos limited))

/-- Within its rate an item without a release time goes to its ready list, if there is room. -/
theorem submit_of_immediate (cls : 1 < (workDescriptor bs).cls) (sound : SoundWork (workDescriptor bs) bs)
    (paid : 2 ^ 64 ≤ (fillBuckets (sliceAt sl h) h.time.mono).items) (release : (workDescriptor bs).release = 0) :
    submitBytes n c sl bs h = if listRoom (hintBlock (workDescriptor bs).affinity n h) (workDescriptor bs).cls h = false
      then ecallReturn n c 1 0 h
      else ecallReturn n c 0 0
        (pushReady (hintBlock (workDescriptor bs).affinity n h) (submittedItem (workDescriptor bs) sl h) (chargeItem sl h)) := by
  have prompt : ¬((workDescriptor bs).release ≠ 0 ∧ wordReached (timeWord h.time.now) (workDescriptor bs).release = false) :=
    fun k => k.1 release
  have formed := mt (malformedWork_iff _ _).1 (not_not_intro sound)
  refine (if_neg (Nat.not_le.2 cls)).trans ((if_neg formed).trans ((if_neg (Nat.not_lt.2 paid)).trans ?_))
  simp only [if_neg prompt]
  rfl

/-! ### DMA (R302, R304 to R306) -/

/-- A transfer from memory to memory as R306 wants it, within the slice's data (R302). -/
abbrev SoundCopy (d : DmaDesc) (bs : List Byte) (y : SliceInst) : Prop :=
  1 ≤ d.length ∧ d.length ≤ 1048576 ∧ d.flags < 2 ∧ (∀ z ∈ bs.drop 28, z = 0#8)
    ∧ inData d.source d.length y = true ∧ inData d.destination d.length y = true

/-- The checks of form that DMA makes of a transfer between memories (R306) are those of soundness. -/
theorem malformedCopy_iff {d : DmaDesc} (y : SliceInst) (engine : d.engine = 0) :
    (d.length = 0 ∨ 1048576 < d.length ∨ 2 < d.engine ∨ 2 ≤ d.flags ∨ (bs.drop 28).all (fun z => z == 0#8) = false
      ∨ (inData d.source d.length y && inData d.destination d.length y) = false) ↔ ¬SoundCopy d bs y := by
  simp only [SoundCopy, all_zero_eq_false_iff, Decidable.not_and_iff_or_not, Nat.not_le, Nat.not_lt, engine, Nat.lt_one_iff, Nat.not_lt_zero, false_or,
    Bool.and_eq_false_iff, Bool.not_eq_true]

/-- An engine above 2 does not exist. -/
theorem dmaCall_of_no_engine {d : DmaDesc} {reservedOk : Bool} (engine : 2 < d.engine) : dmaCall n c sl d reservedOk h = ecallReturn n c 4 0 h :=
  if_pos (.inr (.inr (.inl engine)))

/-- A malformed transfer is posted by nobody. -/
theorem dmaCall_of_malformed {d : DmaDesc} (engine : d.engine = 0) (bad : ¬SoundCopy d bs (fillBuckets (sliceAt sl h) h.time.mono)) :
    dmaCall n c sl d ((bs.drop 28).all (fun z => z == 0#8)) h = ecallReturn n c 4 0 h := by
  have malformed := (malformedCopy_iff _ engine).2 bad
  obtain ⟨_⟩ := d
  subst engine
  exact if_pos malformed

/-- A sound transfer is posted where the slice may use the engine and its rate allows it. -/
theorem dmaCall_of_sound {d : DmaDesc} (engine : d.engine = 0) (sound : SoundCopy d bs (fillBuckets (sliceAt sl h) h.time.mono)) :
    let y := fillBuckets (sliceAt sl h) h.time.mono
    dmaCall n c sl d ((bs.drop 28).all (fun z => z == 0#8)) h = if bit y.cfg.engines 0 = false then ecallReturn n c 5 0 h
      else if y.recBytes < 0 then ecallReturn n c 2 0 (putSlice sl { y with bytesLimited := inc32 y.bytesLimited } h)
      else ecallReturn n c 0 0 (enqueueDma { d with slice := sl, generation := y.generation, posted := h.time.mono }
        (putSlice sl { y with recBytes := y.recBytes - ((d.length * 2 ^ 64 : Nat) : Int) } h)) := by
  have formed := mt (malformedCopy_iff _ engine).1 (not_not_intro sound)
  obtain ⟨_⟩ := d
  subst engine
  simp only [dmaCall, if_true]
  exact if_neg formed

/-! ### SPEC_STORE (R152, R155, R272) -/

/-- A store outside the slice's data is a page fault, an exception on the cell. -/
theorem itemStore_of_outside (mask : Nat) (data : List Byte) (run : tfind (blockAt n h).running c = some r)
    (outside : ∀ sl, sliceOfAsid r.asid h = some sl → inData (a / 64 * 64) 64 (sliceAt sl h) = false) :
    itemStore n c a mask data h = coreException n c h := by
  have unmapped : (sliceOfAsid r.asid h).filter (fun s => inData (a / 64 * 64) 64 (sliceAt s h)) = none :=
    Option.filter_eq_none_iff.2 fun sl found => Bool.eq_false_iff.1 (outside sl found)
  unfold itemStore; rw [run]; simp only [unmapped]

/-- A store within it is committed at once, or kept with the entry of the run. -/
theorem itemStore_of_inside (mask : Nat) (data : List Byte) (run : tfind (blockAt n h).running c = some r)
    (slice : sliceOfAsid r.asid h = some sl) (inside : inData (a / 64 * 64) 64 (sliceAt sl h) = true) :
    itemStore n c a mask data h = if r.item.ledger = 0xFFFF
        then commitLine { addr := physical sl (a / 64 * 64) h, spec := false, mask := mask % 2 ^ 64, data := data } h
      else if bit r.item.desc.flags 0 = true then specStore r.item.ledger (physical sl (a / 64 * 64) h) (mask % 2 ^ 64) data h
      else rerunStore r.item.ledger (physical sl (a / 64 * 64) h) (mask % 2 ^ 64) data h := by
  have found : (sliceOfAsid r.asid h).filter (fun s => inData (a / 64 * 64) 64 (sliceAt s h)) = some sl :=
    Option.filter_eq_some_iff.2 ⟨slice, inside⟩
  unfold itemStore; rw [run]; simp only [found]

/-! ### The statement -/

/-- Settles O42: what the run is decides whether an outbound call is made, and the bytes that it names what it answers. -/
theorem runtimeCallsAnswer : Obligations.RuntimeCallsAnswer := by
  refine fun n c s => ⟨?idle, fun r run => ⟨fun code => runsAll_lift rfl (ecallDecide_of_running run code),
    runsAll_lift rfl (ecallTime_of_running run), ?spec, ?quiesced, ?calls, ?store⟩⟩
  case idle =>
    exact fun idle => ⟨fun code => runsAll_lift rfl (ecallDecide_of_idle code idle), runsAll_lift rfl (ecallTime_of_idle idle),
      fun code a => runsAll_lift rfl (outbound_of_idle _ idle),
      fun a => ⟨runsAll_lift rfl (outbound_of_idle _ idle), runsAll_lift rfl (outbound_of_idle _ idle)⟩,
      fun a m data => runsAll_lift rfl (itemStore_of_idle a m data idle)⟩
  case spec =>
    exact fun spec => ⟨fun code a => runsAll_lift rfl (outbound_of_spec run _ spec),
      fun a => ⟨runsAll_lift rfl (outbound_of_spec run _ spec), runsAll_lift rfl (outbound_of_spec run _ spec)⟩⟩
  case quiesced =>
    exact fun effective rests => ⟨fun code a => runsAll_lift rfl (outbound_of_quiesced run _ effective rests),
      fun a => ⟨runsAll_lift rfl (outbound_of_quiesced run _ effective rests), runsAll_lift rfl (outbound_of_quiesced run _ effective rests)⟩⟩
  case calls =>
    intro sl effective slice running
    have k : CallsFor n c r sl s.hw := ⟨run, effective, slice, running⟩
    refine ⟨?evr, fun code a outside => runsAll_lift rfl (ecallEvr_of_outside k outside), ?evrUnmapped,
      fun a read => runsAll_lift rfl ((outbound_of_callsFor _ k).trans (withBytes_of_unmapped _ read)),
      fun a read => runsAll_lift rfl ((outbound_of_callsFor _ k).trans (withBytes_of_unmapped _ read)), ?submit, ?dma⟩
    case evr =>
      exact fun code a bs least most read => runsAll_lift rfl ((ecallEvr_of_inRange k least most).trans (withBytes_of_mapped _ read))
    case evrUnmapped =>
      exact fun code a least most read => runsAll_lift rfl ((ecallEvr_of_inRange k least most).trans (withBytes_of_unmapped _ read))
    case submit =>
      intro a bs read
      have submits {g : Hw} (e : submitBytes n c sl bs (drawn s.hw) = g) : RunsAll (.ecallSubmit n c a) s g :=
        runsAll_lift rfl ((outbound_of_callsFor _ k).trans ((withBytes_of_mapped _ read).trans e))
      exact ⟨fun cls => submits (submit_of_reserved_class cls), fun cls bad => submits (submit_of_malformed cls bad),
        fun cls sound limited => submits (submit_of_limited cls sound limited),
        fun cls sound paid release full => submits ((submit_of_immediate (h := drawn s.hw) cls sound paid release).trans (if_pos full)),
        fun cls sound paid release room => submits ((submit_of_immediate (h := drawn s.hw) cls sound paid release).trans
          (if_neg ((Bool.not_eq_false _).mpr room)))⟩
    case dma =>
      intro a bs read
      have transfers {g : Hw} (e : dmaCall n c sl (dmaDescriptor bs) ((bs.drop 28).all (fun z => z == 0#8)) (drawn s.hw) = g) :
          RunsAll (.ecallDma n c a) s g :=
        runsAll_lift rfl ((outbound_of_callsFor _ k).trans ((withBytes_of_mapped _ read).trans e))
      exact ⟨fun engine bad => transfers (dmaCall_of_malformed engine bad), fun engine => transfers (dmaCall_of_no_engine engine),
        fun engine sound barred => transfers ((dmaCall_of_sound (h := drawn s.hw) engine sound).trans (if_pos barred)),
        fun engine sound allowed limited => transfers ((dmaCall_of_sound (h := drawn s.hw) engine sound).trans
          ((if_neg ((Bool.not_eq_false _).mpr allowed)).trans (if_pos limited))),
        fun engine sound allowed paid => transfers ((dmaCall_of_sound (h := drawn s.hw) engine sound).trans
          ((if_neg ((Bool.not_eq_false _).mpr allowed)).trans (if_neg (Int.not_lt.2 paid))))⟩
  case store =>
    refine fun a m data => ⟨fun outside => runsAll_lift rfl (itemStore_of_outside m data run outside), fun sl slice inside => ?_⟩
    have stores := itemStore_of_inside m data run slice inside
    exact ⟨fun plain => runsAll_lift rfl (stores.trans (if_pos plain)),
      fun entry spec => runsAll_lift rfl (stores.trans ((if_neg entry).trans (if_pos spec))),
      fun entry rerun => runsAll_lift rfl (stores.trans ((if_neg entry).trans (if_neg (Bool.eq_false_iff.1 rerun))))⟩

end Sys2Proof.Machine
end

section
/-! Where the FABRIC, BUDGET and SPEC commands complete (R177 to R179, R287, R291 to R295). -/
namespace Sys2Proof.Machine

variable {c : Call} {p : List Byte} {h : Hw}

/-! ### FABRIC commands (R291, R292, R294) -/

/-- A block that exists is reported; its flag clears its six counters. -/
theorem fabricStatus_of_inRange (die : u8 p 0 ≤ 5) (block : u8 p 1 ≤ 3) :
    fabricStatus p h = .ok (if bit (u8 p 2) 0 then putBlock (4 * u8 p 0 + u8 p 1) { blockAt (4 * u8 p 0 + u8 p 1) h with
      dispatched := 0, overrun := 0, missed := 0, full := 0, affinity := 0, takenBack := 0 } h else h) (fabricStatusBytes (4 * u8 p 0 + u8 p 1) h) :=
  if_neg (by omega)

/-- None of the blocks that a command names is a protection block. -/
theorem anyProtect_eq_false {l : List Nat} (free : ∀ n ∈ l, protectBlock n h = false) : ¬l.any (fun n => protectBlock n h) = true := by
  rw [List.any_eq_true]
  rintro ⟨n, named, protect⟩
  exact Bool.false_ne_true ((free n named).symm.trans protect)

/-- The values that a block is to take at the next tick, set by a command (R291, R294). -/
def tuneBlock (f : Nat × Nat × List Nat → Nat × Nat × List Nat) (g : Hw) (n : Nat) : Hw :=
  putBlock n { blockAt n g with next := some (f (tunedOf (blockAt n g))), tuned := true } g

/-- The clock of a profile, in MHz (R291). -/
def profileClock (profile : Nat) : Nat := if profile = 1 then 2200 else if profile = 2 then 1600 else 1000

/-- A profile in range asks the blocks named for its clock, unless a protection block is among them. -/
theorem fabricProfile_of_inRange (die : u8 p 0 ≤ 5) (block : u8 p 1 ≤ 3 ∨ u8 p 1 = 0xFF) (least : 1 ≤ u8 p 2) (most : u8 p 2 ≤ 3) :
    fabricProfile p h = if (selectBlocks (u8 p 0) (u8 p 1)).any (fun n => protectBlock n h) then no stBadParam rcFabricProtectClock
      else done ((selectBlocks (u8 p 0) (u8 p 1)).foldl (tuneBlock fun t => (t.1, profileClock (u8 p 2), t.2.2)) h) := by
  have clock : (match u8 p 2 with | 1 => 2200 | 2 => 1600 | _ => 1000) = profileClock (u8 p 2) := by
    unfold profileClock; split <;> simp_all
  unfold fabricProfile tuneBlock
  rw [← clock]
  exact (if_neg (by omega)).trans (if_neg (by omega))

/-- The run-time limits that FABRIC.TUNE gives. -/
def tunedLimits (p : List Byte) : List Nat := (List.range 5).map (fun i => u32 p (8 + 4 * i))

/-- Values in range are kept for the blocks named, 0 leaving one as it is; 0xFF takes the protection cells away. -/
theorem fabricTune_of_inRange (die : u8 p 0 ≤ 5) (block : u8 p 1 ≤ 3 ∨ u8 p 1 = 0xFF) (cells : u8 p 2 ≤ 4 ∨ u8 p 2 = 0xFF)
    (clock : u16 p 4 = 0 ∨ (400 ≤ u16 p 4 ∧ u16 p 4 ≤ 2200 ∧ u16 p 4 % 100 = 0
      ∧ ∀ n ∈ selectBlocks (u8 p 0) (u8 p 1), protectBlock n h = false))
    (limits : ∀ e ∈ (tunedLimits p).zipIdx, e.1 = 0 ∨ limitRange e.2 e.1 = true) :
    fabricTune p h = done ((selectBlocks (u8 p 0) (u8 p 1)).foldl (tuneBlock fun t =>
      (if u8 p 2 = 0 then t.1 else if u8 p 2 = 0xFF then 0 else u8 p 2, if u16 p 4 = 0 then t.2.1 else u16 p 4,
        List.zipWith (fun new old => if new = 0 then old else new) (tunedLimits p) t.2.2)) h) := by
  have within : ¬((tunedLimits p).zipIdx.any (fun e => e.1 != 0 && !limitRange e.2 e.1) = true) := by
    rw [List.any_eq_true]
    rintro ⟨e, listed, beyond⟩
    rcases limits e listed with zero | range
    · simp [zero] at beyond
    · simp [range] at beyond
  have allowed : ¬(u16 p 4 ≠ 0 ∧ (selectBlocks (u8 p 0) (u8 p 1)).any (fun n => protectBlock n h) = true) := by
    rintro ⟨given, protect⟩
    obtain ⟨-, -, -, free⟩ := clock.resolve_left given
    exact anyProtect_eq_false free protect
  have inRange : ¬((4 < u8 p 2 ∧ u8 p 2 ≠ 0xFF) ∨ (u16 p 4 ≠ 0 ∧ (u16 p 4 < 400 ∨ 2200 < u16 p 4 ∨ u16 p 4 % 100 ≠ 0))
      ∨ (tunedLimits p).zipIdx.any (fun e => e.1 != 0 && !limitRange e.2 e.1) = true) := by
    rintro (k | k | k)
    · omega
    · rcases clock with zero | ⟨least, most, step, -⟩
      · exact k.1 zero
      · omega
    · exact within k
  exact (if_neg (by omega)).trans ((if_neg inRange).trans (if_neg allowed))

/-! ### BUDGET commands (R287, R293, R295) -/

/-- A budget within 20.0 W and the variant's most is set. -/
theorem cmdBudgetSet_body_of_inRange (least : 200 ≤ u16 p 0) (most : u16 p 0 ≤ maxPower h) :
    cmdBudgetSet.body c p h = done { h with fab := { h.fab with budget := { h.fab.budget with budget := some (u16 p 0) } } } :=
  if_neg (by omega)

/-- A floor that is a level is set, and asked for. -/
theorem cmdBudgetForce_body_of_inRange (floor : u8 p 0 ≤ 2) :
    cmdBudgetForce.body c p h = done (askLevel { h with fab := { h.fab with budget := { h.fab.budget with floor := u8 p 0 } } }) :=
  if_neg (Nat.not_lt.2 floor)

/-! ### SPEC commands (R177 to R179) -/

/-- A slice of the Bloom, or the module, is reported; its flag clears its counters. -/
theorem specStatus_of_defined (e : u16 p 0 = 0xFFFF ∨ sliceDefined (u16 p 0) h = true) :
    specStatus p h = .ok (if bit (u8 p 2) 0 then { h with spec := { h.spec with
      counters := tset h.spec.counters (u16 p 0) (clearedSpec (u16 p 0) h) } } else h) (specStatusBytes (u16 p 0) h) :=
  if_neg fun k => Bool.false_ne_true (k.2.symm.trans (e.resolve_left k.1))

/-- A slice that runs has its values changed, in force and in those that wait (log 26). -/
theorem specChange_of_running {n : Nat} (f : SliceConfig → SliceConfig) (defined : sliceDefined n h = true) (running : (sliceAt n h).state = 1) :
    specChange n f h = done (putSlice n { sliceAt n h with cfg := f (sliceAt n h).cfg, next := (sliceAt n h).next.map f } h) :=
  (if_neg ((Bool.not_eq_false _).mpr defined)).trans (if_neg (not_not_intro running))

/-- One that does not run is refused. -/
theorem specChange_of_resting {n : Nat} (f : SliceConfig → SliceConfig) (defined : sliceDefined n h = true) (resting : (sliceAt n h).state ≠ 1) :
    specChange n f h = no stStateRefused rcSpecQuiesced :=
  (if_neg ((Bool.not_eq_false _).mpr defined)).trans (if_pos resting)

/-- A mode of the table is set. -/
theorem cmdSpecSet_body_of_inRange (mode : u8 p 2 ≤ 2) :
    cmdSpecSet.body c p h = specChange (u16 p 0) (fun k => { k with specMode := u8 p 2 }) h :=
  if_neg (Nat.not_lt.2 mode)

/-- Limits in range are set, 0 keeping one. -/
theorem cmdSpecTune_body_of_inRange (depth : u8 p 2 ≤ 3) (lines : u16 p 4 = 0 ∨ (16 ≤ u16 p 4 ∧ u16 p 4 ≤ 1024))
    (margin : u16 p 6 = 0 ∨ (10 ≤ u16 p 6 ∧ u16 p 6 ≤ 500)) :
    cmdSpecTune.body c p h = specChange (u16 p 0) (fun k => { k with
      depthCap := if u8 p 2 = 0 then k.depthCap else u8 p 2, lineCap := if u16 p 4 = 0 then k.lineCap else u16 p 4
      margin := if u16 p 6 = 0 then k.margin else u16 p 6 }) h :=
  if_neg (by omega)

/-! ### The statement -/

/-- Settles O38: every clause is the equation of its command's own chapter, under the reply that ST_OK gives, or under the refusal of
a protection block's clock and of a slice that rests. -/
theorem fabricBudgetAndSpecCommandsComplete : Obligations.FabricBudgetAndSpecCommandsComplete := by
  refine fun c p s => ⟨?fabricStatus, ?fabricProfile, ?fabricTune, ?budgetStatus, ?budgetSet, ?budgetThresholds, ?budgetForce, ?specStatus,
    ?specSet, ?specTune, ?specResting⟩
  case fabricStatus => exact fun q die block => runs_ok rfl q (fabricStatus_of_inRange die block)
  case fabricProfile =>
    intro q die block least most
    have profile := fabricProfile_of_inRange (h := s.hw) die block least most
    exact ⟨fun free => runs_ok rfl q (profile.trans (if_neg (anyProtect_eq_false free))),
      fun protect => runs_refuse rfl q (profile.trans (if_pos (List.any_eq_true.2 protect)))⟩
  case fabricTune =>
    exact fun q die block cells clock limits => runs_ok rfl q (fabricTune_of_inRange die block cells clock limits)
  case budgetStatus => exact fun q => runs_ok rfl q rfl
  case budgetSet => exact fun q least most => runs_ok rfl q (cmdBudgetSet_body_of_inRange least most)
  case budgetThresholds => exact fun q ordered => runs_ok rfl q (if_pos ordered)
  case budgetForce => exact fun q floor => runs_ok rfl q (cmdBudgetForce_body_of_inRange floor)
  case specStatus => exact fun q defined => runs_ok rfl q (specStatus_of_defined defined)
  case specSet =>
    exact fun q mode defined running => runs_ok rfl q ((cmdSpecSet_body_of_inRange mode).trans (specChange_of_running _ defined running))
  case specTune =>
    exact fun q depth lines margin defined running =>
      runs_ok rfl q ((cmdSpecTune_body_of_inRange depth lines margin).trans (specChange_of_running _ defined running))
  case specResting =>
    exact fun defined resting q mode => runs_refuse rfl q ((cmdSpecSet_body_of_inRange mode).trans (specChange_of_resting _ defined resting))

end Sys2Proof.Machine
end

section
/-! The publisher's timers: deadlines of primed channels and repetitions, and the frames that these put out (R166, R168, R170, R171, R181,
R223, R260). -/
namespace Sys2Proof.Machine

variable {h : Hw}

/-! ### PRIME_DEADLINE_EXPIRY (R168, R181) -/

/-- The channel is PRIMED and its deadline has come. -/
abbrev PrimeDue (k : Chan) (h : Hw) : Prop := k.state = 1 ∧ k.deadline ≤ h.time.now

/-- A channel whose PRIME is due opens, is counted and recorded; any other stays. -/
theorem primeExpiry_of_stage {stage : Nat} (ch : Nat) {x : StageOut} (found : tfind h.spec.stages stage = some x) :
    let k := tget x.chans ch {}
    primeExpiry stage ch h = if PrimeDue k h
      then evrSlice 0x0611 0x0B00 k.primeSlice (le 2 stage ++ le 1 ch ++ zeros 1 ++ le 4 k.cseq ++ le 8 k.k)
        (countSpec k.primeSlice (fun y => { y with primeExpired := inc32 y.primeExpired })
          (putStage { x with chans := tset x.chans ch { k with state := 0, primers := [] } } h))
      else h := by
  unfold primeExpiry; rw [found]

/-! ### GOOSE_REPETITION (R171, R223, R260) -/

/-- A stage's repetition is due: the module publishes, the stage has published, and the time since its change is over. -/
abbrev StageDue (x : StageOut) (h : Hw) : Prop :=
  publishes h = true ∧ x.live = true ∧ nsUnits (1000 * repetitionUs x.repeats) ≤ h.time.mono - x.changedMono

/-- A stage whose repetition is due sends its last frame with the next sqNum. -/
theorem gooseRepetition_of_stage {stage : Nat} {x : StageOut} (found : tfind h.spec.stages stage = some x) :
    gooseRepetition stage h = if StageDue x h
      then sendCgo { x with sqNum := x.sqNum + 1, repeats := x.repeats + 1 } (putStage { x with sqNum := x.sqNum + 1, repeats := x.repeats + 1 } h)
      else h := by
  unfold gooseRepetition; rw [found]

/-- The repetition of a message is due when its time has come. -/
theorem repeatDue_iff (x : GooseSend) (h : Hw) :
    repeatDue x h = true ↔ x.at_ + nsUnits (1000 * crossRepeatUs x.repeats) ≤ h.time.mono := decide_eq_true_iff

/-- A trigger group's repetition is due: its time has come while the chains run, the module does not dissent, and the group's key is
usable. -/
abbrev GroupDue (g : Nat) (x : GooseSend) (h : Hw) : Prop :=
  chainsRun h = true ∧ h.const.dissenting = false ∧ groupKeyUsable g h = true ∧ x.at_ + nsUnits (1000 * crossRepeatUs x.repeats) ≤ h.time.mono

/-- A trigger group whose repetition is due sends its last message with the next sqNum. -/
theorem crossRepetition_of_group {g : Nat} {x : GooseSend} (found : tfind h.acq.sends g = some x) :
    crossRepetition g h = if GroupDue g x h then sendGroup g (repeated x) h else h := by
  unfold crossRepetition; rw [found]; simp only [repeatDue_iff]

/-- A line's repetition is due: its time has come while the chains run. -/
abbrev LineDue (x : GooseSend) (h : Hw) : Prop := chainsRun h = true ∧ x.at_ + nsUnits (1000 * crossRepeatUs x.repeats) ≤ h.time.mono

/-- A line whose repetition is due sends its last message with the next sqNum. -/
theorem arrivalRepetition_of_line {n : Nat} {y : Line} {x : GooseSend} (found : tfind h.phasor.lines n = some y) (sent : y.send = some x) :
    arrivalRepetition n h = if LineDue x h then sendArrival n (repeated x) h else h := by
  unfold arrivalRepetition; rw [found, Option.bind_some, sent]; simp only [repeatDue_iff]

/-- The control blocks of the pair, the constellation and the station are not repeated by these timers. -/
theorem gooseRepeat_of_other {sender : GooseSender} (other : sender ∈ [GooseSender.heartbeat, .beacon, .station]) (n : Nat) :
    gooseRepeat sender n h = h := by
  simp only [List.mem_cons, List.not_mem_nil, or_false] at other
  rcases other with rfl | rfl | rfl <;> rfl

/-! ### Frames (R166, R170, R171) -/

/-- A stage without an identity in the Bloom before sends one frame. -/
theorem sendCgo_of_no_old {x : StageOut} (e : x.old = none) : sendCgo x h = sendGoose x.cfg.key (stageGoose x h) h := by
  unfold sendCgo; rw [e]

/-- A stage that had another identity there sends a second frame under it. -/
theorem sendCgo_of_old {x : StageOut} {c : StageConfig} (e : x.old = some c) :
    let g := sendGoose x.cfg.key (stageGoose x h) h
    sendCgo x h = sendGoose c.key (stageGoose { x with cfg := c } g) g := by
  unfold sendCgo; rw [e]

/-- Under a usable key a frame leaves, authenticated, with the quality of its time and the test bit. -/
theorem sendGoose_of_usable {key : Nat} (f : Goose) (usable : keyUsable key h = true) :
    sendGoose (some key) f h = emit (.goose (authenticate key { f with quality := timeQuality h, test := h.mode == .test } h)) h := if_pos usable

/-- Under a key that is not usable none leaves. -/
theorem sendGoose_of_unusable {key : Nat} (f : Goose) (unusable : keyUsable key h = false) : sendGoose (some key) f h = h :=
  if_neg (Bool.eq_false_iff.1 unusable)

/-! ### The statement -/

/-- Settles O43: each timer turns on whether it is due, a stage's frames on its identity in the Bloom before, and a frame on its key. -/
theorem publisherTimersFire : Obligations.PublisherTimersFire := by
  refine ⟨?prime, ?stage, ?group, ?line, fun s sender other n => runs_lift rfl (gooseRepeat_of_other other n), ?cgo, ?goose⟩
  case prime =>
    intro stage ch s x found
    have expires := primeExpiry_of_stage ch found
    exact ⟨fun due => runs_lift rfl (expires.trans (if_pos due)), fun early => runs_lift rfl (expires.trans (if_neg early))⟩
  case stage =>
    intro stage s x found
    have repeats := gooseRepetition_of_stage found
    exact ⟨fun due => runs_lift rfl (repeats.trans (if_pos due)), fun early => runs_lift rfl (repeats.trans (if_neg early))⟩
  case group =>
    intro g s x found
    have repeats := crossRepetition_of_group found
    exact ⟨fun due => runs_lift rfl (repeats.trans (if_pos due)), fun early => runs_lift rfl (repeats.trans (if_neg early))⟩
  case line =>
    intro n s y x found sent
    have repeats := arrivalRepetition_of_line found sent
    exact ⟨fun due => runs_lift rfl (repeats.trans (if_pos due)), fun early => runs_lift rfl (repeats.trans (if_neg early))⟩
  case cgo => exact fun x h => ⟨sendCgo_of_no_old, fun c e => sendCgo_of_old e⟩
  case goose => exact fun key f h => ⟨sendGoose_of_usable f, sendGoose_of_unusable f, rfl⟩

end Sys2Proof.Machine
end

section
/-! An output of a filter chain: it enters the ring, and then its comparators look at it (R190, R199 to R201). -/
namespace Sys2Proof.Machine

variable {n : Nat} {h : Hw} {o : FiltOut} {rest : List FiltOut}

/-- A chain whose oldest formed output has entered its ring (R190, R199). -/
def ringed (o : FiltOut) (rest : List FiltOut) (x : Chain) : Chain :=
  { x with
    formed := rest, ring := (o :: x.ring).take (x.cfg.ringSize / 48), newest := x.newest + 1
    questionable := if bit o.flags 1 then inc32 x.questionable else x.questionable }

/-- Both comparators of every channel look at an output, channel after channel (R200, R201). -/
def compareAll (n : Nat) (o : FiltOut) (h : Hw) : Hw :=
  (List.range o.values.length).foldl (fun g ch =>
    compareOne n ch 1 o.time (o.values.getD ch 0#32) (compareOne n ch 0 o.time (o.values.getD ch 0#32) g)) h

/-- A chain to which an output is the last good one (R200). -/
def sawGood (o : FiltOut) (x : Chain) : Chain := { x with lastGood := o.values.zipIdx.map (fun e => (e.2, o.time, e.1)) }

/-- Without a formed output nothing happens. -/
theorem filterOutput_of_none (e : (chainAt n h).formed = []) : filterOutput n h = h := by
  simp only [filterOutput, e]

/-- The oldest formed output enters the ring, and a good one goes on to the comparators. -/
theorem filterOutput_of_formed (e : (chainAt n h).formed = o :: rest) :
    filterOutput n h =
      let g := putChain n (ringed o rest (chainAt n h)) h
      if o.flags % 4 ≠ 0 then g else putChain n (sawGood o (chainAt n (compareAll n o g))) (compareAll n o g) := by
  simp only [filterOutput, e]
  rfl

/-- The ring never holds more entries than its size has room for (R199). -/
theorem ringed_length_le (o : FiltOut) (rest : List FiltOut) (x : Chain) : (ringed o rest x).ring.length ≤ x.cfg.ringSize / 48 :=
  List.length_take_le ..

/-- Settles O30: what enters the ring is the same for every formed output, and its flags alone say whether comparators look at it. -/
theorem filterOutputsAreKeptAndCompared : Obligations.FilterOutputsAreKeptAndCompared := by
  refine fun n s => ⟨fun none => runsAll_lift rfl (filterOutput_of_none none), fun o rest formed => ⟨?flagged, ?good, ringed_length_le ..⟩⟩
  case flagged => exact fun flagged => runsAll_lift rfl ((filterOutput_of_formed formed).trans (if_pos flagged))
  case good => exact fun good => runsAll_lift rfl ((filterOutput_of_formed formed).trans (if_neg (not_not_intro good)))

end Sys2Proof.Machine
end

section
/-! The commands that need a stopped chain, and what they answer for any other (R194). -/
namespace Sys2Proof.Machine

variable {n : Nat} {h g : Hw} {x : Chain} {f : Chain → CmdResult} {pay : List Byte}

/-- A command on a defined chain sees that chain. -/
theorem onChain_of_defined (e : tfind h.filt.chains n = some x) : onChain n f h = f x := by simp only [onChain, e]

/-- A command that needs a stopped chain goes on for one. -/
theorem whileStopped_of_stopped (e : tfind h.filt.chains n = some x) (stopped : x.state = 0) : whileStopped n f h = f x :=
  (onChain_of_defined e).trans (if_neg (not_not_intro stopped))

/-- For a chain in any other state it is refused, with that state. -/
theorem whileStopped_of_busy (e : tfind h.filt.chains n = some x) (busy : x.state ≠ 0) :
    whileStopped n f h = .refuse stBusy rcFiltNotStopped (le 1 x.state) :=
  (onChain_of_defined e).trans (if_pos busy)

/-- It is accepted for no chain but one that is defined and stopped. -/
theorem stopped_of_whileStopped_eq_ok (accepted : whileStopped n f h = .ok g pay) : ∃ x : Chain, tfind h.filt.chains n = some x ∧ x.state = 0 := by
  cases e : tfind h.filt.chains n with
  | none => simp only [whileStopped, onChain, e, no, reduceCtorEq] at accepted
  | some x =>
    refine ⟨x, rfl, Decidable.byContradiction fun busy => ?_⟩
    rw [whileStopped_of_busy e busy] at accepted
    cases accepted

/-- Settles O31: each of the three commands is one that needs a stopped chain, and a refusal only answers. -/
theorem runningChainsAreNotRestructured : Obligations.RunningChainsAreNotRestructured := by
  refine ⟨rfl, rfl, ?refused, ?accepted, ?unchanged⟩
  case refused =>
    exact fun c p s x e busy => ⟨fun q => runs_refuse rfl q (whileStopped_of_busy e busy), fun q => runs_refuse rfl q (whileStopped_of_busy e busy),
      fun q => runs_refuse rfl q (whileStopped_of_busy e busy)⟩
  case accepted =>
    intro m c p h g pay restructures ok
    simp only [List.mem_cons, List.not_mem_nil, or_false] at restructures
    obtain rfl | rfl | rfl := restructures <;> exact stopped_of_whileStopped_eq_ok ok
  case unchanged =>
    intro m c st rc pay h
    simp only [refusal, answer_frame, and_self]

end Sys2Proof.Machine
end

section
/-! Where the FILT commands complete (R194, R195, R197, R203 to R208). -/
namespace Sys2Proof.Machine

variable {c : Call} {p : List Byte} {h : Hw} {x : Chain}

/-! ### FILT.STATUS, FILT.START and FILT.STOP (R191, R195, R197, R204, R208) -/

/-- The status of a chain, whose counters are zeroed on demand after they are read. -/
theorem filtStatus_of_defined (e : tfind h.filt.chains (u8 p 0) = some x) :
    filtStatus p h = .ok
      (if bit (u8 p 1) 0 then putChain (u8 p 0) { x with asserts := 0, withheld := 0, questionable := 0, suspensions := 0 } h else h)
      (filtStatusBytes (u8 p 0) x h) :=
  onChain_of_defined e

/-- A chain that has started already stays as it is. -/
theorem filtStart_of_started (e : tfind h.filt.chains (u8 p 0) = some x) (started : x.state ≠ 0) : filtStart p h = done h :=
  (onChain_of_defined e).trans (if_pos started)

/-- The chains that would run together with one that starts, with their input rates (R197). -/
def startedWith (n : Nat) (h : Hw) : List (ChainConfig × Nat) :=
  (h.filt.chains.filter (fun e => e.2.state != 0 || e.1 == n)).map (fun e => (e.2.cfg, chainRate e.2.cfg h))

/-- A stopped chain with stages, live sources and every coefficient starts where the engine can carry it. -/
theorem filtStart_of_stopped (e : tfind h.filt.chains (u8 p 0) = some x) (stopped : x.state = 0) (stages : x.cfg.stages ≠ [])
    (sources : x.cfg.fast = true → ∀ i ∈ x.cfg.inputs, chanEnabled i h = true) (coefs : coefsOk x.cfg.stages = true)
    (loads : loadsOk (startedWith (u8 p 0) h) = true) : filtStart p h = done (startChain (u8 p 0) h) := by
  have present : ¬(x.cfg.fast = true ∧ x.cfg.inputs.any (fun i => !chanEnabled i h) = true) := by
    rintro ⟨fast, absent⟩
    obtain ⟨i, mem, off⟩ := List.any_eq_true.1 absent
    simp only [sources fast i mem, Bool.not_true, Bool.false_eq_true] at off
  unfold startedWith at loads
  simp only [filtStart, onChain_of_defined e, stopped, stages, present, coefs, loads, ne_eq, not_true_eq_false, Bool.true_eq_false, if_false]

/-- A chain is moved to STOPPED. -/
theorem cmdFiltStop_body_of_defined (e : tfind h.filt.chains (u8 p 0) = some x) :
    cmdFiltStop.body c p h = done (moveChain (u8 p 0) 0 h) :=
  onChain_of_defined e

/-! ### New stages (R195) -/

/-- A chain with stages set by command. -/
def restaged (x : Chain) (l : List FiltStage) : Chain := { x with cfg := { x.cfg with stages := l }, tuned := true }

/-- A cascade with a stage set: in the place of the one there, or after the last. -/
def setStage (l : List FiltStage) (i : Nat) (st : FiltStage) : List FiltStage := l.take i ++ [st] ++ l.drop (i + 1)

/-- The words of the coefficient pool in use, were these the stages of a chain. -/
def usedWords (n : Nat) (l : List FiltStage) (h : Hw) : Nat :=
  (h.filt.chains.filter (fun e => e.1 != n)).foldl (fun a e => a + poolWords e.2.cfg.stages) (poolWords l)

/-- Stages for which the pool has room are installed. -/
theorem setStages_of_room {n : Nat} {l : List FiltStage} (room : usedWords n l h ≤ 32768) :
    setStages n x l h = done (putChain n (restaged x l) h) :=
  if_neg (Nat.not_lt.2 room)

/-! ### FILT.PROFILE (R205) -/

/-- The stages of the profiles for sampled channels, 1 and 2. -/
def fastProfile (prof : Nat) : List FiltStage :=
  [if prof = 1 then { kind := 1, order := 4, decimation := 5 } else { kind := 1, order := 5, decimation := 125 }, { kind := 2, decimation := 2, taps := 23 }]

/-- The grid instants in one nominal period of the first input of a chain, rounded to the nearest. -/
def periodTaps (x : Chain) (h : Hw) : Nat :=
  (fGrid h + slotNominal (x.cfg.inputs.headD 0) h / 2) / slotNominal (x.cfg.inputs.headD 0) h

/-- The stage of the profile for rows, 3: the mean over some taps. -/
def rowProfile (taps : Nat) : List FiltStage :=
  [{ kind := 3, taps := taps, coefs := (List.range taps).map (fun i => (i, fOfFrac 1 taps)) }]

/-- A stopped chain of sampled channels takes profile 1 or 2. -/
theorem filtProfile_of_fast (e : tfind h.filt.chains (u8 p 0) = some x) (stopped : x.state = 0) (prof : u8 p 1 = 1 ∨ u8 p 1 = 2)
    (fast : x.cfg.fast = true) (room : usedWords (u8 p 0) (fastProfile (u8 p 1)) h ≤ 32768) :
    filtProfile p h = done (putChain (u8 p 0) (restaged x (fastProfile (u8 p 1))) h) := by
  have inRange : ¬(u8 p 1 = 0 ∨ 3 < u8 p 1) := by omega
  have notRows : u8 p 1 ≠ 3 := by omega
  rw [← setStages_of_room room]
  simp only [filtProfile, whileStopped_of_stopped e stopped, inRange, fast, notRows, Bool.true_eq_false, and_false, false_and, or_self, if_false]
  rfl

/-- A stopped chain of rows takes profile 3. -/
theorem filtProfile_of_rows (e : tfind h.filt.chains (u8 p 0) = some x) (stopped : x.state = 0) (prof : u8 p 1 = 3)
    (rows : x.cfg.fast = false) (taps : periodTaps x h ≤ 256) (room : usedWords (u8 p 0) (rowProfile (periodTaps x h)) h ≤ 32768) :
    filtProfile p h = done (putChain (u8 p 0) (restaged x (rowProfile (periodTaps x h))) h) := by
  have within := Nat.not_lt.2 taps
  rw [← setStages_of_room room]
  unfold periodTaps at within
  simp only [filtProfile, whileStopped_of_stopped e stopped, prof, rows, within, Nat.reduceLeDiff, Nat.reduceEqDiff, Nat.lt_irrefl,
    Bool.false_eq_true, and_false, false_and, or_self, if_false, if_true]
  rfl

/-! ### FILT.STAGE_SET and FILT.COEF_LOAD (R184, R185, R206) -/

/-- The stage that FILT.STAGE_SET names; a half-band always halves. -/
def namedStage (p : List Byte) : FiltStage :=
  { kind := u8 p 2, order := u8 p 3, decimation := if u8 p 2 = 2 then 2 else u16 p 4, taps := u16 p 6, delay := f32 p 8 }

/-- Type 0, with all else zero, ends a stopped chain's cascade before the stage named. -/
theorem filtStageSet_of_cut (e : tfind h.filt.chains (u8 p 0) = some x) (stopped : x.state = 0) (stage : u8 p 1 ≤ 7)
    (cut : u8 p 2 = 0 ∧ u8 p 3 = 0 ∧ u16 p 4 = 0 ∧ u16 p 6 = 0 ∧ f32 p 8 = 0#32) :
    filtStageSet p h = done (putChain (u8 p 0) (restaged x (x.cfg.stages.take (u8 p 1))) h) := by
  obtain ⟨kind, order, decimation, taps, delay⟩ := cut
  simp only [filtStageSet, whileStopped_of_stopped e stopped, Nat.not_lt.2 stage, kind, order, decimation, taps, delay, Nat.not_lt_zero, ne_eq,
    not_true_eq_false, or_self, if_false, if_true]
  rfl

/-- The parameters that do not apply to the type of a stage are zero (R206). -/
def Shaped (p : List Byte) : Prop :=
  (u8 p 2 = 1 ∧ u16 p 6 = 0 ∧ f32 p 8 = 0#32) ∨ (u8 p 2 = 2 ∧ u8 p 3 = 0 ∧ u16 p 4 = 0 ∧ f32 p 8 = 0#32) ∨ (u8 p 2 = 3 ∧ u8 p 3 = 0)

/-- A stage in range that leaves a sound cascade is set in a stopped chain, or appended to it. -/
theorem filtStageSet_of_shaped (e : tfind h.filt.chains (u8 p 0) = some x) (stopped : x.state = 0) (stage : u8 p 1 ≤ 7) (shaped : Shaped p)
    (range : stageRange (namedStage p) = true) (place : u8 p 1 ≤ x.cfg.stages.length)
    (cascade : cascadeOk x.cfg.fast (setStage x.cfg.stages (u8 p 1) (namedStage p)) = true)
    (inputs : inputsOk x.cfg.fast x.cfg.inputs (rateNow h) (8 * (streamsOf h).length) = true)
    (room : usedWords (u8 p 0) (setStage x.cfg.stages (u8 p 1) (namedStage p)) h ≤ 32768) :
    filtStageSet p h = done (putChain (u8 p 0) (restaged x (setStage x.cfg.stages (u8 p 1) (namedStage p))) h) := by
  unfold Shaped at shaped
  have inRange : ¬(7 < u8 p 1 ∨ 3 < u8 p 2) := by omega
  have notCut : u8 p 2 ≠ 0 := by omega
  have zeroElsewhere : ¬((u8 p 2 = 1 ∧ (u16 p 6 ≠ 0 ∨ f32 p 8 ≠ 0#32)) ∨ (u8 p 2 = 2 ∧ (u8 p 3 ≠ 0 ∨ u16 p 4 ≠ 0 ∨ f32 p 8 ≠ 0#32))
      ∨ (u8 p 2 = 3 ∧ u8 p 3 ≠ 0)) := by
    obtain ⟨kind, taps, delay⟩ | ⟨kind, order, decimation, delay⟩ | ⟨kind, order⟩ := shaped
    · simp only [kind, taps, delay, ne_eq, not_true_eq_false, Nat.reduceEqDiff, false_and, and_false, or_self, not_false_eq_true]
    · simp only [kind, order, decimation, delay, ne_eq, not_true_eq_false, Nat.reduceEqDiff, false_and, and_false, or_self, not_false_eq_true]
    · simp only [kind, order, ne_eq, not_true_eq_false, Nat.reduceEqDiff, false_and, and_false, or_self, not_false_eq_true]
  rw [← setStages_of_room room]
  unfold setStage namedStage at cascade
  unfold namedStage at range
  simp only [filtStageSet, whileStopped_of_stopped e stopped, inRange, notCut, zeroElsewhere, range, Nat.not_lt.2 place, cascade, inputs,
    Bool.true_eq_false, or_self, if_false]
  rfl

/-- An FIR stage with the coefficients that FILT.COEF_LOAD carries. -/
def loadedStage (p : List Byte) (st : FiltStage) : FiltStage :=
  { st with coefs := (List.range (u16 p 4)).foldl (fun t j => tset t (u16 p 2 + j) (f32 p (8 + 4 * j))) st.coefs }

/-- Coefficients of taps that an FIR stage of a stopped chain has are stored there. -/
theorem filtCoefLoad_of_inRange {st : FiltStage} (e : tfind h.filt.chains (u8 p 0) = some x) (stopped : x.state = 0)
    (stage : x.cfg.stages[u8 p 1]? = some st) (kind : st.kind = 3) (atLeastOne : 1 ≤ u16 p 4) (most : u16 p 4 ≤ 256)
    (taps : u16 p 2 + u16 p 4 ≤ st.taps) :
    filtCoefLoad p h = done (putChain (u8 p 0) (restaged x (setStage x.cfg.stages (u8 p 1) (loadedStage p st))) h) := by
  have inRange : ¬(st.kind ≠ 3 ∨ u16 p 4 = 0 ∨ 256 < u16 p 4 ∨ st.taps < u16 p 2 + u16 p 4) := by omega
  simp only [filtCoefLoad, whileStopped_of_stopped e stopped, stage, inRange, if_false]
  rfl

/-! ### FILT.THRESHOLD_SET and FILT.READ (R199, R203, R207) -/

/-- A comparator with its values set by FILT.THRESHOLD_SET: a change of mode makes it idle. -/
def thresholded (p : List Byte) (k : Comparator) : Comparator :=
  { k with mode := u8 p 3, level := f32 p 4, hysteresis := f32 p 8, holdoffMs := u16 p 12, asserted := k.asserted && k.mode == u8 p 3 }

/-- A comparator of a channel of a chain is set. -/
theorem filtThresholdSet_of_inRange (e : tfind h.filt.chains (u8 p 0) = some x) (channel : u8 p 1 < x.cfg.inputs.length)
    (comparator : u8 p 2 ≤ 1) (mode : u8 p 3 ≤ 3) (holdoff : u16 p 12 ≤ 1000) (hysteresis : fLe 0#32 (f32 p 8) = true) :
    filtThresholdSet p h = done (putChain (u8 p 0) { x with
      comparators := tset x.comparators (2 * u8 p 1 + u8 p 2) (thresholded p (tget x.comparators (2 * u8 p 1 + u8 p 2) {})) } h) := by
  simp only [filtThresholdSet, onChain_of_defined e, Nat.not_le.2 channel, Nat.not_lt.2 comparator, Nat.not_lt.2 mode, Nat.not_lt.2 holdoff,
    hysteresis, Bool.true_eq_false, or_self, if_false]
  rfl

/-- Up to 64 entries that are still in the ring are read, by their numbers. -/
theorem filtRead_of_inRange (e : tfind h.filt.chains (u8 p 0) = some x) (atLeastOne : 1 ≤ u32 p 12) (most : u32 p 12 ≤ 64)
    (oldest : x.newest + 1 - x.ring.length ≤ u32 p 8) (newest : u32 p 8 + u32 p 12 ≤ x.newest + 1) :
    filtRead p h = .ok h (le 4 (x.newest + 1 - x.ring.length) ++ le 4 x.newest ++ zeros 8
      ++ (List.range (u32 p 12)).flatMap (fun i => filtEntry (x.ring.getD (x.newest - (u32 p 8 + i)) {}))) := by
  have inRange : ¬(u32 p 12 = 0 ∨ 64 < u32 p 12 ∨ u32 p 8 < x.newest + 1 - x.ring.length ∨ x.newest + 1 < u32 p 8 + u32 p 12) := by omega
  exact (onChain_of_defined e).trans (if_neg inRange)

/-! ### The statement -/

/-- Settles O29: every clause is the equation of its command's own chapter, under the reply that ST_OK gives. -/
theorem filtCommandsComplete : Obligations.FiltCommandsComplete := by
  refine fun c p s x e => ⟨?status, ?start, ?stop, ?profile, ?stageSet, ?coefLoad, ?thresholdSet, ?read⟩
  case status => exact fun q => runs_ok rfl q (filtStatus_of_defined e)
  case start =>
    exact fun q => ⟨fun started => runs_ok rfl q (filtStart_of_started e started),
      fun stopped stages sources coefs loads => runs_ok rfl q (filtStart_of_stopped e stopped stages sources coefs loads)⟩
  case stop => exact fun q => runs_ok rfl q (cmdFiltStop_body_of_defined e)
  case profile =>
    exact fun q stopped => ⟨fun prof fast room => runs_ok rfl q (filtProfile_of_fast e stopped prof fast room),
      fun prof rows taps room => runs_ok rfl q (filtProfile_of_rows e stopped prof rows taps room)⟩
  case stageSet =>
    exact fun q stopped stage => ⟨fun cut => runs_ok rfl q (filtStageSet_of_cut e stopped stage cut),
      fun shaped range place cascade inputs room => runs_ok rfl q (filtStageSet_of_shaped e stopped stage shaped range place cascade inputs room)⟩
  case coefLoad =>
    exact fun st q stopped stage kind atLeastOne most taps => runs_ok rfl q (filtCoefLoad_of_inRange e stopped stage kind atLeastOne most taps)
  case thresholdSet =>
    exact fun q channel comparator mode holdoff hysteresis =>
      runs_ok rfl q (filtThresholdSet_of_inRange e channel comparator mode holdoff hysteresis)
  case read =>
    exact fun q atLeastOne most oldest newest => runs_ok rfl q (filtRead_of_inRange e atLeastOne most oldest newest)

end Sys2Proof.Machine
end

section
/-! How a converter link climbs from DOWN to DATA, and what takes it back (R213, R214, R584). -/
namespace Sys2Proof.Machine

variable {l : Nat} {h : Hw}

/-! ### A link's move (R191, R213, R228) -/

/-- A chain that changes its state leaves the engine alone. -/
theorem moveChain_acq (n new : Nat) (h : Hw) : (moveChain n new h).acq = h.acq := by
  by_cases there : (chainAt n h).state = new
  · simp only [moveChain, there, if_true]
  · simp only [moveChain, there, if_false, filtRecord, evr_frame, putChain]

/-- The chains that follow the links leave the engine alone. -/
@[simp] theorem followLinks_acq (h : Hw) : (followLinks h).acq = h.acq := by
  refine foldl_keeps Hw.acq _ (fun g e => ?_) _ _
  dsimp only
  split
  · exact moveChain_acq ..
  · split
    · exact moveChain_acq ..
    · rfl

/-- Links are read from the engine's own part of the state. -/
theorem linkAt_of_links_eq {g : Hw} (e : g.acq.links = h.acq.links) : linkAt l g = linkAt l h := by simp only [linkAt, e]

/-- A record of the engine leaves the engine alone. -/
@[simp] theorem acqRecord_acq (code source n old new rec t : Nat) (h : Hw) : (acqRecord code source n old new rec t h).acq = h.acq := by
  simp only [acqRecord, evr_frame]

/-- A link in that state does not move. -/
theorem moveLink_of_eq {new : Nat} (there : (linkAt l h).state = new) : moveLink l new h = h := if_pos there

/-- A link as it enters a state. -/
def entered (new : Nat) (h : Hw) (x : LinkInst) : LinkInst := { x with state := new, since := h.time.mono, reported := false }

/-- A move to another state changes that one link: its record, and what chains and captures make of it, leave the links alone. -/
theorem moveLink_links {new : Nat} (elsewhere : (linkAt l h).state ≠ new) :
    (moveLink l new h).acq.links = (putLink l (entered new h (linkAt l h)) h).acq.links := by
  simp only [moveLink, elsewhere, if_false, followLinks_acq]
  split
  · simp only [truncateFor, acqRecord_acq, entered]
  · simp only [acqRecord_acq, entered]

/-- A link moved to another state is in it. -/
theorem linkAt_moveLink_state {new : Nat} (elsewhere : (linkAt l h).state ≠ new) : (linkAt l (moveLink l new h)).state = new := by
  rw [linkAt_of_links_eq (moveLink_links elsewhere), linkAt_putLink_self, entered]

/-! ### JESD_LINK_STATE_CHANGE (R213) -/

/-- Sync headers lock a defined link that is DOWN. -/
theorem linkReport_headerLock (defined : (linkAt l h).cfg.lanes ≠ 0) :
    linkReport l .headerLock h = if (linkAt l h).state = 0 then moveLink l 1 h else h := if_neg defined

/-- Extended multiblocks lock a defined link whose headers are locked, and its skew is taken. -/
theorem linkReport_blockLock (skew : Nat) (defined : (linkAt l h).cfg.lanes ≠ 0) :
    linkReport l (.blockLock skew) h =
      if (linkAt l h).state = 1 then moveLink l 2 (putLink l { linkAt l h with skew := skew } h) else h := if_neg defined

/-- A loss takes a defined link DOWN from any state. -/
theorem linkReport_loss (defined : (linkAt l h).cfg.lanes ≠ 0) : linkReport l .loss h = moveLink l 0 h := if_neg defined

/-! ### JESD_SYSREF_EDGE (R213, R214, R584) -/

variable {nominal captured : Nat} {far : List Nat}

/-- An edge that a time event unit has given sets the loopback residual and reaches every link. -/
theorem sysrefEdge_of_fired (fired : sysrefFired nominal h = true) :
    sysrefEdge nominal captured far h = [0, 1, 2, 3].foldl (fun h l => sysrefAt nominal far l h)
      { h with acq := { h.acq with delta := (captured : Int) - nominal } } := if_pos fired

/-- Any other edge does nothing. -/
theorem sysrefEdge_of_unfired (unfired : sysrefFired nominal h = false) : sysrefEdge nominal captured far h = h :=
  if_neg (Bool.eq_false_iff.1 unfired)

/-- A link in EMB_LOCK aligns to the edge. -/
theorem sysrefAt_of_embLock (locked : (linkAt l h).state = 2) :
    sysrefAt nominal far l h = moveLink l 3 (putLink l { linkAt l h with aligned := nominal, shift := 0 } h) := if_pos locked

/-- An edge does nothing to a link that has no EMB_LOCK yet, nor to one past it whose boundary it meets. -/
theorem sysrefAt_of_met (met : (linkAt l h).state ≤ 1 ∨ ((linkAt l h).state ≠ 2 ∧ l ∉ far)) : sysrefAt nominal far l h = h := by
  have notLocked : (linkAt l h).state ≠ 2 := by omega
  have notSlipped : ¬(((linkAt l h).state = 3 ∨ (linkAt l h).state = 4) ∧ far.contains l = true) := by
    rintro ⟨past, out⟩
    obtain early | ⟨_, inPlace⟩ := met
    · omega
    · exact inPlace (List.contains_iff_mem.1 out)
  exact (if_neg notLocked).trans (if_neg notSlipped)

/-- A link with the edge counted that fell out of its place. -/
def slipped (x : LinkInst) : LinkInst := { x with phaseErrors := inc32 x.phaseErrors }

/-- An edge out of its place is counted by a link in DATA; with realign 1 the link aligns anew, through DOWN under KL-05. -/
theorem sysrefAt_of_slipped (data : (linkAt l h).state = 4) (out : l ∈ far) :
    let x := linkAt l h
    sysrefAt nominal far l h =
      if x.cfg.realign = true then
        if realignDown x.cfg = true then moveLink l 0 (putLink l (slipped x) h)
        else moveLink l 3 (putLink l { slipped x with aligned := nominal, shift := 0, realigns := inc32 x.realigns } h)
      else putLink l (slipped x) h := by
  have notLocked : (linkAt l h).state ≠ 2 := by omega
  exact (if_neg notLocked).trans ((if_pos ⟨.inr data, List.contains_iff_mem.2 out⟩).trans
    (ite_congr (propext (and_iff_right data)) (fun _ => rfl) fun _ => rfl))

/-! ### JESD_ALIGN_DONE and JESD_NO_SYSREF (R213) -/

/-- RBD octets have passed since the boundary that a link aligned to. -/
abbrev AlignDue (x : LinkInst) (h : Hw) : Prop :=
  ((alignSample x * x.cfg.octets + x.cfg.rbd * x.cfg.samples : Nat) : Int) * 2 ^ 64 ≤ ((h.time.now : Int) - x.shift) * x.cfg.octets * x.cfg.fs

/-- An aligning link enters DATA when its octets have passed; its first sample is that of the boundary. -/
theorem alignDone_of_aligning (aligning : (linkAt l h).state = 3) :
    alignDone l h = if AlignDue (linkAt l h) h
      then moveLink l 4 (putLink l { linkAt l h with next := alignSample (linkAt l h) - (linkAt l h).cfg.latency } h) else h := by
  simp only [alignDone, aligning, true_and]

/-- A link that has been in EMB_LOCK for 2 s is reported once. -/
theorem noSysref_of_overdue (locked : (linkAt l h).state = 2) (overdue : (linkAt l h).since + 2 * secUnit ≤ h.time.mono) :
    noSysref l h = if (linkAt l h).reported = false
      then acqRecord 0x0914 0x09FF l 0 0 0 (to40 h.time.now) (putLink l { linkAt l h with reported := true } h) else h := by
  simp only [noSysref, locked, overdue, true_and, and_true]

/-! ### The statement -/

/-- Settles O33: each event turns on the state in which it finds the link, and a link that moves is then in the state it moved to. -/
theorem linksClimbInOrder : Obligations.LinksClimbInOrder := by
  refine ⟨?report, ?edge, fun nominal far l h => ⟨sysrefAt_of_embLock, sysrefAt_of_met, ?counted, ?realigned⟩, ?align, ?absent,
    fun l new h => linkAt_moveLink_state⟩
  case report =>
    intro l s defined
    have header := linkReport_headerLock defined
    have block := fun k => linkReport_blockLock k defined
    have loss := linkReport_loss defined
    exact ⟨fun down => runs_lift rfl (header.trans (if_pos down)), fun up => runs_lift rfl (header.trans (if_neg up)),
      fun k locked => runs_lift rfl ((block k).trans (if_pos locked)), fun k unlocked => runs_lift rfl ((block k).trans (if_neg unlocked)),
      runs_lift rfl loss, fun down => runs_lift rfl (loss.trans (moveLink_of_eq down))⟩
  case edge =>
    exact fun nominal captured far s => ⟨fun fired => runs_lift rfl (sysrefEdge_of_fired fired),
      fun unfired => runs_lift rfl (sysrefEdge_of_unfired unfired)⟩
  case counted =>
    exact fun data out fixed => (sysrefAt_of_slipped data out).trans (if_neg (Bool.eq_false_iff.1 fixed))
  case realigned =>
    intro data out realign
    have anew := (sysrefAt_of_slipped (nominal := nominal) data out).trans (if_pos realign)
    exact ⟨fun down => anew.trans (if_pos down), fun direct => anew.trans (if_neg (Bool.eq_false_iff.1 direct))⟩
  case align =>
    intro l s aligning
    have done := alignDone_of_aligning aligning
    exact ⟨fun due => runs_lift rfl (done.trans (if_pos due)), fun early => runs_lift rfl (done.trans (if_neg early))⟩
  case absent =>
    intro l s locked overdue
    have reports := noSysref_of_overdue locked overdue
    exact ⟨fun new => runs_lift rfl (reports.trans (if_pos new)),
      fun old => runs_lift rfl (reports.trans (if_neg (by rw [old]; exact Bool.noConfusion)))⟩

end Sys2Proof.Machine
end

section
/-! Samples and triggers of the wavefront captures: FAST_SAMPLE_DEFRAMED, TRIGGER_ARRIVAL, AUTO_TIMEOUT and CROSS_TRIGGER_RX (R214 to R216,
R219, R222 to R226, R229). -/
namespace Sys2Proof.Machine

variable {l n : Nat} {h : Hw} {t : Trigger}

/-! ### FAST_SAMPLE_DEFRAMED (R214 to R216) -/

/-- The values of a link's enabled converters, with their numbers. -/
def enabledValues (x : LinkInst) (vals : List (Int × Bool)) : List ((Int × Bool) × Nat) := vals.zipIdx.filter (fun e => bit x.cfg.enable e.2)

/-- The code that a value is stored as: an invalid one as -32,768, any other within the range above it. -/
def storedCode (v : Int × Bool) : Int := if v.2 then -32768 else if v.1 ≤ -32768 then -32767 else if 32767 < v.1 then 32767 else v.1

/-- The sample of a link that its converters' values make. -/
def deframed (x : LinkInst) (vals : List (Int × Bool)) : FastSample :=
  { n := x.next, codes := vals.zipIdx.map (fun e => if bit x.cfg.enable e.2 then storedCode e.1 else 0)
    clipped := ((enabledValues x vals).filter (fun e => !e.1.2 && e.1.1 ≤ -32768)).map (fun e => e.2) }

/-- A link that has brought a sample: it is in the ring while the ring has segments, and the index and the counters go on. -/
def brought (x : LinkInst) (vals : List (Int × Bool)) (crc hdr : Nat) (h : Hw) : LinkInst :=
  { x with
    next := x.next + 1, ring := if h.acq.segments = 0 then [] else (deframed x vals :: x.ring).take (ringDepth x h.acq.segments h)
    crcErrors := sat32 (x.crcErrors + crc), headerErrors := sat32 (x.headerErrors + hdr)
    invalid := sat32 (x.invalid + ((enabledValues x vals).filter (fun e => e.1.2)).length) }

/-- Every capture that collects takes a sample of a link. -/
def collectAll (l fs : Nat) (d : FastSample) (h : Hw) : Hw :=
  { h with acq := { h.acq with captures := tmap h.acq.captures (fun _ c => collect l fs d c) } }

/-- A sample of a link in DATA enters the ring and the records, lets held triggers go, and feeds the fast chains. -/
theorem fastSample_of_data {crc hdr : Nat} {vals : List (Int × Bool)} (data : (retake (linkAt l h)).state = 4)
    (whole : vals.length = (retake (linkAt l h)).cfg.converters) :
    let x := retake (linkAt l h)
    let g := collectAll l x.cfg.fs (deframed x vals) (putLink l (brought x vals crc hdr h) h)
    fastSample l vals crc hdr h =
      feedFast x.next ((enabledValues x vals).map (fun e => (chanBase l g.acq.links + e.2, storedCode e.1))) (takeHeld g) := by
  have delivers : ¬((retake (linkAt l h)).state ≠ 4 ∨ vals.length ≠ (retake (linkAt l h)).cfg.converters) := by omega
  exact if_neg delivers

/-- A sample of any other link is nothing. -/
theorem fastSample_of_not_data {crc hdr : Nat} {vals : List (Int × Bool)}
    (stray : (retake (linkAt l h)).state ≠ 4 ∨ vals.length ≠ (retake (linkAt l h)).cfg.converters) : fastSample l vals crc hdr h = h :=
  if_pos stray

/-! ### TRIGGER_ARRIVAL (R219, R222, R224 to R226) -/

/-- A trigger on its way leaves the list and reaches the captures. -/
theorem triggerArrival_of_inFlight {j : Nat} (e : h.acq.inFlight[j]? = some t) :
    triggerArrival j h = triggerAll t { h with acq := { h.acq with inFlight := h.acq.inFlight.eraseIdx j } } := by
  simp only [triggerArrival, e]

/-- A capture that runs and selects a trigger discards it, holds it or takes it, by how far its time lies ahead. -/
theorem triggerAt_of_selected (runs : (captureAt n h).state ≠ 0) (selected : selects n (captureAt n h).cfg t.source = true) :
    let c := captureAt n h
    triggerAt n t h =
      if to40 h.time.now + 2 ^ 40 < t.time then putCapture n { c with future := inc32 c.future } h
      else if to40 h.time.now < t.time then putCapture n { c with held := c.held ++ [t] } h
      else takeTrigger n t h := by
  have reached : ¬((captureAt n h).state = 0 ∨ selects n (captureAt n h).cfg t.source = false) := by
    simp only [runs, selected, Bool.true_eq_false, or_self, not_false_eq_true]
  exact if_neg reached

/-- A capture as it takes its trigger. -/
def triggeredBy (n : Nat) (t : Trigger) (h : Hw) (c : Capture) : Capture :=
  { c with
    state := 2, trigger := t, cls := timeClass h, errorNs := errorNs h, accepted := h.time.mono, secondary := [], more := 0, samples := []
    truncated := (captureLinks c h).any (fun l => cutShort t.time c.cfg.post l h), triggers := inc32 c.triggers
    forced := if t.source = .timeout n then inc32 c.forced else c.forced }

/-- An armed capture with links takes a trigger whose samples exist. -/
theorem takeTrigger_of_armed (armed : (captureAt n h).state = 1) (links : captureLinks (captureAt n h) h ≠ [])
    (samples : ∀ l ∈ captureLinks (captureAt n h) h, sampleThere t.time l h = true) :
    takeTrigger n t h = putCapture n (triggeredBy n t h (captureAt n h)) h := by
  have ready : ¬(captureLinks (captureAt n h) h = [] ∨ (captureLinks (captureAt n h) h).any (fun l => !sampleThere t.time l h) = true) := by
    rintro (none | missing)
    · exact links none
    · obtain ⟨l, mem, absent⟩ := List.any_eq_true.1 missing
      simp only [samples l mem, Bool.not_true, Bool.false_eq_true] at absent
  have notStopped : (captureAt n h).state ≠ 0 := by omega
  exact (if_neg notStopped).trans ((if_pos armed).trans (if_neg ready))

/-- The trigger precedes the one that a gathering capture has, and comes within its gather window. -/
abbrev Precedes (t : Trigger) (c : Capture) (h : Hw) : Prop := t.time < c.trigger.time ∧ h.time.mono < c.accepted + nsUnits (c.cfg.gatherUs * 1000)

/-- A capture that has its trigger takes any further one as secondary, but an earlier one within its gather window becomes the trigger. -/
theorem takeTrigger_of_triggered (triggered : 2 ≤ (captureAt n h).state) :
    let c := captureAt n h
    takeTrigger n t h =
      if c.state = 2 ∧ Precedes t c h
      then putCapture n { addSecondary c.trigger.time c with trigger := t, cls := timeClass h, errorNs := errorNs h } h
      else putCapture n (addSecondary t.time c) h := by
  have notStopped : (captureAt n h).state ≠ 0 := by omega
  have notArmed : (captureAt n h).state ≠ 1 := by omega
  exact (if_neg notStopped).trans (if_neg notArmed)

/-! ### AUTO_TIMEOUT (R229) -/

/-- An armed AUTO capture whose timeout is over forces a trigger, which RED withholds. -/
theorem autoTimeout_of_due {since : Nat} (armed : (captureAt n h).state = 1) (auto : (captureAt n h).cfg.mode = 1)
    (from_ : (captureAt n h).since = some since) (due : since + nsUnits ((captureAt n h).cfg.timeoutMs * 1000000) ≤ h.time.mono) :
    let x := captureAt n h
    autoTimeout n h =
      if h.fab.budget.level = 2 then putCapture n { x with since := none, forcedSuspended := inc32 x.forcedSuspended } h
      else triggerAt n { source := .timeout n, time := to40 h.time.now } (putCapture n { x with since := some h.time.mono } h) := by
  have elapsed : ¬((captureAt n h).state ≠ 1 ∨ (captureAt n h).cfg.mode ≠ 1
      ∨ h.time.mono < since + nsUnits ((captureAt n h).cfg.timeoutMs * 1000000)) := by
    omega
  simp only [autoTimeout, from_]
  exact if_neg elapsed

/-! ### CROSS_TRIGGER_RX (R223, R411) -/

/-- A group's gate is shut: its sender's, or any while no constellation is defined. -/
def groupShut (m : CrossMessage) (h : Hw) : Bool :=
  match boundPeer (fun b => b.groups) m.group h with | some p => gateClosed p h | none => (constOf h).isNone

/-- The checks of a cross-trigger message but the one for its repetitions (R223). -/
structure CrossPasses (m : CrossMessage) (h : Hw) : Prop where
  runs : chainsRun h = true
  authentic : m.authentic = true
  key : groupKeyUsable m.group h = true
  version : m.version = 1
  agrees : h.const.dissenting = false
  senderAgrees : bit m.flags 1 = false
  sameTest : bit m.flags 0 = (h.mode == .test)
  gate : groupShut m h = false

/-- The sender of a message and its group, as the sequences acted on are listed. -/
def crossId (m : CrossMessage) : Nat := m.moduleId * 256 + m.group

/-- The message cannot be believed in its time: its sender is suspect, or without a usable time, or this module is in doubt of it. -/
def crossLate (m : CrossMessage) (h : Hw) : Bool :=
  bit m.flags 2 || m.cls == 6 || m.cls == 7
    || (match boundPeer (fun b => b.groups) m.group h with | some p => suspectEither p h | none => false)

/-- The trigger that a message gives: at its own time, or at its arrival. -/
def crossTrigger (m : CrossMessage) (h : Hw) : Trigger :=
  { source := .cross m.group, time := if crossLate m h then to40 h.time.now else m.sec * 2 ^ 40 + m.frac40 % 2 ^ 40, suspect := crossLate m h }

/-- A message whose sequence has been acted on is not acted on again. -/
theorem crossRx_of_seen {m : CrossMessage} (seen : m.sequence ∈ tget h.acq.seen (crossId m) []) : crossRx m h = h :=
  if_pos (.inr (.inr (.inr (.inr (.inr (.inr (.inr (.inr (List.contains_iff_mem.2 seen)))))))))

/-- A new message that passes the checks sets its trigger on its way, and its sequence is remembered. -/
theorem crossRx_of_passes {m : CrossMessage} (passes : CrossPasses m h) (new : m.sequence ∉ tget h.acq.seen (crossId m) []) :
    crossRx m h = launch (crossTrigger m h)
      { h with acq := { h.acq with seen := tset h.acq.seen (crossId m) (m.sequence :: tget h.acq.seen (crossId m) []) } } := by
  refine if_neg ?_
  rintro (idle | forged | unusable | version | dissents | senderDissents | test | shut | seen)
  · exact Bool.false_ne_true (idle.symm.trans passes.runs)
  · exact Bool.false_ne_true (forged.symm.trans passes.authentic)
  · exact Bool.false_ne_true (unusable.symm.trans passes.key)
  · exact version passes.version
  · exact Bool.false_ne_true (passes.agrees.symm.trans dissents)
  · exact Bool.false_ne_true (passes.senderAgrees.symm.trans senderDissents)
  · exact test passes.sameTest
  · exact Bool.false_ne_true (passes.gate.symm.trans shut)
  · exact new (List.contains_iff_mem.1 seen)

end Sys2Proof.Machine
end

section
/-! A capture that has its trigger gathers, collects and commits: GATHER_WINDOW_END, CAPTURE_POST_COMPLETE and CAPTURE_COMMIT_DONE (R224 to
R228, R230, R233). -/
namespace Sys2Proof.Machine

variable {n : Nat} {h : Hw}

/-! ### GATHER_WINDOW_END (R225, R227) -/

/-- A capture whose trigger point is final under the present loopback residual. -/
def pointed (h : Hw) (x : Capture) : Capture := { x with state := 3, delta := h.acq.delta }

/-- The samples of a capture's window that the ring holds of a link. -/
def ringWindow (c : Capture) (h : Hw) (l : Nat) : List FastSample :=
  let nt := triggerIndex c (linkAt l h).cfg.fs
  sampleRunAt c.truncated nt ((linkAt l h).ring.filter (fun d => nt - c.cfg.pre ≤ d.n && d.n < nt + c.cfg.post))

/-- A capture that has copied its window from the ring. -/
def windowed (c : Capture) (h : Hw) : Capture := { c with samples := (captureLinks c h).map (fun l => (l, ringWindow c h l)) }

/-- When the gather window of a capture has ended, its trigger point is final, and a cross-trigger may leave. -/
theorem gatherEnd_of_ended (gathering : (captureAt n h).state = 2)
    (ended : (captureAt n h).accepted + nsUnits ((captureAt n h).cfg.gatherUs * 1000) ≤ h.time.mono) :
    let c := windowed (pointed h (captureAt n h)) h
    gatherEnd n h = sendCross c (putCapture n c h) := by
  have elapsed : ¬((captureAt n h).state ≠ 2 ∨ h.time.mono < (captureAt n h).accepted + nsUnits ((captureAt n h).cfg.gatherUs * 1000)) := by omega
  exact if_neg elapsed

/-- Before its end nothing happens. -/
theorem gatherEnd_of_open (early : h.time.mono < (captureAt n h).accepted + nsUnits ((captureAt n h).cfg.gatherUs * 1000)) : gatherEnd n h = h :=
  if_pos (.inr early)

/-! ### CAPTURE_POST_COMPLETE (R224, R228, R230) -/

/-- Every link of a record has brought its last post-trigger sample, or the record is truncated. -/
abbrev Collected (x : Capture) (h : Hw) : Prop :=
  x.truncated = true ∨ ∀ e ∈ x.samples, triggerIndex x (linkAt e.1 h).cfg.fs + x.cfg.post ≤ (linkAt e.1 h).next

/-- A capture that goes to COMMIT with its record. -/
def builtOf (n : Nat) (h : Hw) (x : Capture) : Capture :=
  { x with
    state := 4, built := (buildRecord n x h).1, found := (buildRecord n x h).2, samples := []
    preShort := bit (u16 (buildRecord n x h).1.header 38) 1 }

/-- A record is built when it has been collected. -/
theorem postComplete_of_collecting (collecting : (captureAt n h).state = 3) :
    postComplete n h = if Collected (captureAt n h) h then putCapture n (builtOf n h (captureAt n h)) h else h := by
  refine ite_congr (propext ?_) (fun _ => rfl) fun _ => rfl
  simp only [collecting, true_and, List.all_eq_true, decide_eq_true_eq]

/-! ### CAPTURE_COMMIT_DONE (R226, R227, R230, R233) -/

/-- The record of a capture as it is committed: with its number and the secondary triggers that came until then. -/
def committed (x : Capture) (h : Hw) : CapRecord :=
  { x.built with number := h.acq.nextRecord, header := le 4 h.acq.nextRecord ++ (withSecondaries x x.built.time x.built.header).drop 4 }

/-- A capture with what its record found counted. -/
def countedFor (x : Capture) : Capture :=
  { x with
    untested := sat32 (x.untested + x.found.untested), shorts := if x.preShort then inc32 x.shorts else x.shorts
    maskFailures := if x.found.failing ≠ 0 then inc32 x.maskFailures else x.maskFailures }

/-- What the store keeps to make room for a record. -/
def roomFor (r : CapRecord) (h : Hw) : Option (List CapRecord) :=
  makeRoom (h.acq.records.length + 1) (recordBytes r) (acqSection h).storeBytes h.acq.records

/-- Without room the record is dropped, counted and reported. -/
theorem commitDone_of_no_room (committing : (captureAt n h).state = 4) (none : roomFor (committed (captureAt n h) h) h = none) :
    let x := captureAt n h
    let r := committed x h
    commitDone n h = afterCommit n r.number
      (acqRecord 0x0913 0x09FF n 0 0 r.number r.time (putCapture n { countedFor x with noSpace := inc32 (countedFor x).noSpace } h)) := by
  refine (if_neg (not_not_intro committing)).trans ?_
  simp only [roomFor, committed] at none
  simp only [none]
  rfl

/-- A record enters the store as the newest, locked where its capture locks each one and the limit allows it. -/
def stored (r : CapRecord) (lockEach : Bool) (l : List CapRecord) (n : Nat) (h : Hw) : Hw :=
  { h with
    acq := { h.acq with
      records := { r with locked := lockEach && lockedBytes l + recordBytes r ≤ (acqSection h).storeBytes / 2 } :: l
      nextRecord := (h.acq.nextRecord + 1) % 2 ^ 32 }
    fab := { h.fab with events := h.fab.events ++ [.capture n] } }

/-- With room the record enters the store, is reported, and the locators look at it. -/
theorem commitDone_of_room {l : List CapRecord} (committing : (captureAt n h).state = 4)
    (room : roomFor (committed (captureAt n h) h) h = some l) :
    let x := captureAt n h
    let r := committed x h
    commitDone n h = afterCommit n r.number (dispatchLocators r (acqRecord 0x0911 0x09FF n 0 0 r.number r.time
      (stored r x.cfg.lockEach l n (putCapture n { countedFor x with records := inc32 (countedFor x).records, last := r.number } h)))) := by
  refine (if_neg (not_not_intro committing)).trans ?_
  simp only [roomFor, committed] at room
  simp only [room]
  rfl

/-! ### The statement -/

/-- Settles O34: each event turns on the state in which it finds the capture and on the one condition of its rule; a trigger is taken by
that state, and a cross-trigger message by its checks and its sequence. -/
theorem capturesGatherCollectAndCommit : Obligations.CapturesGatherCollectAndCommit := by
  refine ⟨?sample, fun j t s e => runs_lift rfl (triggerArrival_of_inFlight e), ?reach, ?take, ?gather, ?collect, ?commit, ?auto, ?cross⟩
  case sample =>
    exact fun l crc hdr vals s => ⟨fun data whole => runs_lift rfl (fastSample_of_data data whole),
      fun stray => runs_lift rfl (fastSample_of_not_data stray)⟩
  case reach =>
    intro n t h runs selected
    have reaches := triggerAt_of_selected runs selected
    exact ⟨fun far => reaches.trans (if_pos far),
      fun ahead near => reaches.trans ((if_neg (Nat.not_lt.2 near)).trans (if_pos ahead)),
      fun come => reaches.trans ((if_neg (by omega)).trans (if_neg (Nat.not_lt.2 come)))⟩
  case take =>
    intro n t h
    refine ⟨takeTrigger_of_armed, fun gathering open_ earlier => ?_, fun gathering later => ?_, fun final => ?_⟩
    · exact (takeTrigger_of_triggered (Nat.le_of_eq gathering.symm)).trans (if_pos ⟨gathering, earlier, open_⟩)
    · have secondary : ¬((captureAt n h).state = 2 ∧ Precedes t (captureAt n h) h) := by rintro ⟨_, earlier, open_⟩; omega
      exact (takeTrigger_of_triggered (Nat.le_of_eq gathering.symm)).trans (if_neg secondary)
    · have secondary : ¬((captureAt n h).state = 2 ∧ Precedes t (captureAt n h) h) := by rintro ⟨gathering, _⟩; omega
      exact (takeTrigger_of_triggered (by omega)).trans (if_neg secondary)
  case gather =>
    exact fun n s gathering => ⟨fun ended => runs_lift rfl (gatherEnd_of_ended gathering ended),
      fun early => runs_lift rfl (gatherEnd_of_open early)⟩
  case collect =>
    intro n s collecting
    have builds := postComplete_of_collecting collecting
    exact ⟨fun complete => runs_lift rfl (builds.trans (if_pos complete)), fun open_ => runs_lift rfl (builds.trans (if_neg open_))⟩
  case commit =>
    exact fun n s committing => ⟨fun none => runsAll_lift rfl (commitDone_of_no_room committing none),
      fun l room => runsAll_lift rfl (commitDone_of_room committing room)⟩
  case auto =>
    refine fun n since s armed auto from_ due => ?_
    have forces := autoTimeout_of_due armed auto from_ due
    exact ⟨fun red => runs_lift rfl (forces.trans (if_pos red)), fun level => runs_lift rfl (forces.trans (if_neg level))⟩
  case cross =>
    refine fun m s runs authentic key version agrees senderAgrees sameTest gate => ?_
    have unshut : groupShut m s.hw = false := by
      unfold groupShut
      split
      next found => simpa only [found] using gate
      next found => simpa only [found, Option.isNone_eq_false_iff] using gate
    exact ⟨fun seen => runs_lift rfl (crossRx_of_seen seen),
      fun new => runs_lift rfl (crossRx_of_passes ⟨runs, authentic, key, version, agrees, senderAgrees, sameTest, unshut⟩ new)⟩

end Sys2Proof.Machine
end

section
/-! Where the ACQ commands complete (R217, R218, R231, R232, R236 to R240). -/
namespace Sys2Proof.Machine

variable {c : Call} {p : List Byte} {h : Hw} {x : Capture} {n : Nat}

/-! ### ACQ.STATUS and ACQ.LINK_STATUS (R241) -/

/-- A command on a defined capture sees that capture. -/
theorem onCapture_of_defined {f : Capture → CmdResult} (e : tfind h.acq.captures n = some x) : onCapture n f h = f x := by
  simp only [onCapture, e]

/-- The status of a capture, whose nine counters are zeroed on demand after they are read. -/
theorem acqStatus_of_defined (e : tfind h.acq.captures (u8 p 0) = some x) :
    acqStatus p h = .ok
      (if bit (u8 p 1) 0 then putCapture (u8 p 0) { x with
        records := 0, triggers := 0, secondaries := 0, forced := 0, forcedSuspended := 0, noSpace := 0, shorts := 0, maskFailures := 0, future := 0 } h
      else h)
      (acqStatusBytes (u8 p 0) x h) :=
  onCapture_of_defined e

/-- The status of a defined link. -/
theorem acqLinkStatus_of_defined {x : LinkInst} (e : tfind h.acq.links (u8 p 0) = some x) :
    acqLinkStatus p h = .ok h (le 1 (u8 p 0) ++ le 1 x.state ++ le 1 x.cfg.lanes ++ le 1 (flag x.cfg.realign 0) ++ le 4 x.crcErrors
      ++ le 4 x.headerErrors ++ le 4 x.phaseErrors ++ le 4 x.realigns ++ leInt 4 (deltaPs h.acq.delta) ++ le 2 x.skew ++ zeros 2 ++ le 4 x.invalid) := by
  simp only [acqLinkStatus, e]

/-! ### ACQ.ARM and ACQ.STOP (R217, R218, R231, R236) -/

/-- The captures that a command names: one, or with 0xFF all that are defined. -/
def namedCaptures (n : Nat) (h : Hw) : List Nat := if n = 0xFF then h.acq.captures.map (fun e => e.1) else [n]

/-- The captures named that an ACQ.ARM has to arm. -/
def dueCaptures (n : Nat) (h : Hw) : List Nat := (namedCaptures n h).filter (fun j => (captureAt j h).state == 0)

/-- None of the captures named is undefined. -/
theorem not_any_isNone (defined : ∀ j ∈ namedCaptures n h, (tfind h.acq.captures j).isSome) :
    ¬(namedCaptures n h).any (fun j => (tfind h.acq.captures j).isNone) = true := by
  rw [List.any_eq_true]
  rintro ⟨j, mem, absent⟩
  have present := defined j mem
  rw [Option.isNone_iff_eq_none.1 absent] at present
  cases present

/-- With none of the captures named stopped, ACQ.ARM does nothing. -/
theorem acqArm_of_none_due (defined : ∀ j ∈ namedCaptures (u8 p 0) h, (tfind h.acq.captures j).isSome) (due : dueCaptures (u8 p 0) h = []) :
    acqArm p c h = .ok h (zeros 8) :=
  (if_neg (not_any_isNone defined)).trans (if_pos due)

/-- With segments free and room in the ring, each stopped capture named is armed. -/
theorem acqArm_of_due (defined : ∀ j ∈ namedCaptures (u8 p 0) h, (tfind h.acq.captures j).isSome) (due : dueCaptures (u8 p 0) h ≠ [])
    (segments : segmentsFree h = true) (fits : ∀ j ∈ dueCaptures (u8 p 0) h, fitsRing (captureAt j h) (wantSegments h) h = true) :
    acqArm p c h = .ok ((dueCaptures (u8 p 0) h).foldl (fun g j => armCapture (c.hdr.slice, j) j g) h) (zeros 8) := by
  have allFit : ¬(dueCaptures (u8 p 0) h).any (fun j => !fitsRing (captureAt j h) (wantSegments h) h) = true := by
    rw [List.any_eq_true]
    rintro ⟨j, mem, tooLong⟩
    simp only [fits j mem, Bool.not_true, Bool.false_eq_true] at tooLong
  have free : ¬segmentsFree h = false := by simp only [segments, Bool.true_eq_false, not_false_eq_true]
  exact (if_neg (not_any_isNone defined)).trans ((if_neg due).trans ((if_neg free).trans (if_neg allFit)))

/-- A stopped capture is armed; the first one claims the ring for its holder. -/
theorem armCapture_of_stopped (holder : Nat × Nat) (stopped : (captureAt n h).state = 0) :
    armCapture holder n h =
      putCapture n { captureAt n h with state := 1, since := some h.time.mono, byViolation := false, stopDue := false }
        { h with acq := { h.acq with holder := if h.acq.segments = 0 then holder else h.acq.holder, segments := wantSegments h } } :=
  if_neg (not_not_intro stopped)

/-- Each capture named is stopped, as with abandon where the command says so. -/
theorem acqStop_of_defined (defined : ∀ j ∈ namedCaptures (u8 p 0) h, (tfind h.acq.captures j).isSome) :
    acqStop p h = done ((namedCaptures (u8 p 0) h).foldl (fun g j => stopBy (bit (u8 p 1) 0) j g) h) :=
  if_neg (not_any_isNone defined)

/-! ### ACQ.TRIGGER (R222, R236) -/

/-- The time of an ACQ.TRIGGER: the one that it gives, or the present. -/
def commandedTime (p : List Byte) (h : Hw) : Nat := if u64 p 8 = 0 ∧ u64 p 16 = 0 then to40 h.time.now else u64 p 8 * 2 ^ 40 + u64 p 16

/-- A trigger that is not older than the ring sets out for the capture named, or for all. -/
theorem acqTrigger_of_inRing (defined : u8 p 0 = 0xFF ∨ (tfind h.acq.captures (u8 p 0)).isSome) (fraction : u64 p 16 < 2 ^ 40)
    (inRing : ∀ o, ringOldest h = some o → o ≤ commandedTime p h) :
    acqTrigger p h = done (launch { source := .command (if u8 p 0 = 0xFF then none else some (u8 p 0)), time := commandedTime p h } h) := by
  have named : ¬(u8 p 0 ≠ 0xFF ∧ (tfind h.acq.captures (u8 p 0)).isNone = true) := by
    rintro ⟨one, absent⟩
    obtain all | present := defined
    · exact one all
    · rw [Option.isNone_iff_eq_none.1 absent] at present
      cases present
  have young : ¬(ringOldest h).elim false (fun o => commandedTime p h < o) = true := by
    cases oldest : ringOldest h with
    | none => exact Bool.false_ne_true
    | some o => exact fun old => Nat.not_lt.2 (inRing o oldest) (of_decide_eq_true old)
  exact (if_neg named).trans ((if_neg (Nat.not_le.2 fraction)).trans (if_neg young))

/-! ### ACQ.RECORD_READ and ACQ.RECORD_LOCK (R233, R236) -/

/-- The record of the store that a command names. -/
def namedRecord (p : List Byte) (h : Hw) : Option CapRecord := h.acq.records.find? (fun r => r.number == u32 p 0)

/-- Up to 16,384 bytes of a record are read with its header. -/
theorem acqRecordRead_of_inRange {r : CapRecord} (e : namedRecord p h = some r) (most : u32 p 8 ≤ 16384)
    (within : u32 p 4 + u32 p 8 ≤ r.data.length) :
    acqRecordRead p h = .ok h (headerOf r ++ slice r.data (u32 p 4) (u32 p 8)) := by
  have inRange : ¬(16384 < u32 p 8 ∨ r.data.length < u32 p 4 + u32 p 8) := by omega
  unfold namedRecord at e
  simp only [acqRecordRead, e, inRange, if_false]

/-- A record is unlocked, or locked while the locked ones take half the store at most. -/
theorem acqRecordLock_of_room {r : CapRecord} (e : namedRecord p h = some r) (request : u8 p 4 ≤ 1)
    (room : u8 p 4 = 0 ∨ r.locked = true ∨ lockedBytes h.acq.records + recordBytes r ≤ (acqSection h).storeBytes / 2) :
    acqRecordLock p h = done { h with acq := { h.acq with
      records := h.acq.records.map (fun x => if x.number = r.number then { x with locked := u8 p 4 == 1 } else x) } } := by
  have withinLimit : ¬((u8 p 4 == 1) = true ∧ r.locked = false ∧ (acqSection h).storeBytes / 2 < lockedBytes h.acq.records + recordBytes r) := by
    rintro ⟨lock, unlocked, beyond⟩
    obtain release | locked | fits := room
    · rw [release] at lock
      exact absurd lock (by decide)
    · exact Bool.false_ne_true (unlocked.symm.trans locked)
    · omega
  unfold namedRecord at e
  simp only [acqRecordLock, e, Nat.not_lt.2 request, withinLimit, if_false]

/-! ### A change of a capture's definition, and ACQ.PROFILE (R232, R237) -/

variable {f : Capture → CmdResult}

/-- A command that needs a stopped capture goes on for one. -/
theorem stoppedCapture_of_stopped (e : tfind h.acq.captures n = some x) (stopped : x.state = 0) : stoppedCapture n f h = f x :=
  (onCapture_of_defined e).trans (if_neg (not_not_intro stopped))

/-- For a capture that runs it is refused. -/
theorem stoppedCapture_of_running (e : tfind h.acq.captures n = some x) (running : x.state ≠ 0) :
    stoppedCapture n f h = .refuse stBusy rcAcqNotStopped [] :=
  (onCapture_of_defined e).trans (if_pos running)

/-- The fast channels that are enabled, in rising order. -/
def enabledChannels (h : Hw) : List Nat := (List.range 32).filter (fun j => chanEnabled j h)

/-- A capture with the values of a profile, for every enabled channel; its times in ms at the rate of the first of them. -/
def profiled (x : Capture) (mode pre post gather timeout : Nat) (j : Nat) (h : Hw) : Capture :=
  { x with
    tuned := true
    cfg := { x.cfg with
      mode := mode, channels := (enabledChannels h).foldl (fun a j => a + 2 ^ j) 0, pre := pre * chanRate j h / 1000
      post := post * chanRate j h / 1000, gatherUs := gather, timeoutMs := timeout } }

/-- While a channel is enabled, a stopped capture takes one of the three profiles of R237. -/
theorem acqProfile_of_enabled {j : Nat} (e : tfind h.acq.captures (u8 p 0) = some x) (stopped : x.state = 0)
    (first : (enabledChannels h).head? = some j) :
    (u8 p 1 = 1 → acqProfile p h = done (putCapture (u8 p 0) (profiled x 0 2 8 1000 x.cfg.timeoutMs j h) h))
    ∧ (u8 p 1 = 2 → acqProfile p h = done (putCapture (u8 p 0) (profiled x 0 5 10 2000 x.cfg.timeoutMs j h) h))
    ∧ (u8 p 1 = 3 → acqProfile p h = done (putCapture (u8 p 0) (profiled x 1 1 1 0 1000 j h) h)) := by
  unfold enabledChannels at first
  refine ⟨fun prof => ?_, fun prof => ?_, fun prof => ?_⟩ <;>
    · simp only [acqProfile, stoppedCapture_of_stopped e stopped, first, prof]
      rfl

/-! ### ACQ.CAPTURE_SET (R238) -/

/-- A field of one byte is below 256. -/
theorem u8_lt (p : List Byte) (o : Nat) : u8 p o < 256 := by
  unfold u8 fld
  cases p.drop o with
  | nil => exact Nat.zero_lt_succ 255
  | cons b _ => exact b.isLt

/-- The definition that ACQ.CAPTURE_SET carries; the masks stay. -/
def captureOf (p : List Byte) (masks : Tbl MaskTest) : CaptureConfig := {
  mode := u8 p 1, stopOnViolation := bit (u8 p 2) 0, sendCross := bit (u8 p 2) 1, lockEach := bit (u8 p 2) 2, autoarm := bit (u8 p 2) 3
  trigIn := u8 p 3 % 16, falling := u8 p 3 / 16, channels := u32 p 4, pre := u32 p 8, post := u32 p 12, timeoutMs := u32 p 16
  gatherUs := u16 p 20, owner := u16 p 22, sendGroup := u8 p 24, groups := (List.range (u8 p 25)).map (fun j => u8 p (26 + j))
  selectors := [u16 p 32, u16 p 34, u16 p 36, u16 p 38], decisionSlice := u16 p 40, decisionFn := u16 p 42, decisionCode := u16 p 44, masks := masks }

/-- The ranges of R238 for the definition that ACQ.CAPTURE_SET carries. -/
structure CaptureInRange (p : List Byte) (h : Hw) : Prop where
  mode : u8 p 1 ≤ 2
  channels : ∀ j < 32, bit (u32 p 4) j = true → chanEnabled j h = true
  post : 1 ≤ u32 p 12
  timeout : 1 ≤ u32 p 16 ∧ u32 p 16 ≤ 60000
  gather : u16 p 20 ≤ 2000
  owner : u16 p 22 ≤ 511
  groups : u8 p 25 ≤ 4
  decision : u16 p 40 ≤ 511 ∨ u16 p 40 = 0xFFFF
  selectors : ∀ x ∈ [u16 p 32, u16 p 34, u16 p 36, u16 p 38], x &&& 0x7C00 = 0

/-- A definition in those ranges passes the check. -/
theorem captureOk_of_inRange (range : CaptureInRange p h) (masks : Tbl MaskTest) :
    captureOk (fun j => chanEnabled j h) (captureOf p masks) = true := by
  obtain ⟨mode, channels, post, timeout, gather, owner, groups, decision, selectors⟩ := range
  have enabled : (List.range 32).all (fun j => !bit (u32 p 4) j || chanEnabled j h) = true := by
    refine List.all_eq_true.2 fun j mem => ?_
    have live := channels j (List.mem_range.1 mem)
    cases used : bit (u32 p 4) j with
    | false => rfl
    | true => exact live used
  have sends := Nat.le_of_lt_succ (u8_lt p 24)
  have members : ((List.range (u8 p 25)).map (fun j => u8 p (26 + j))).all (fun g => g ≤ 255) = true := by
    simp only [List.all_map, List.all_eq_true, Function.comp_apply, decide_eq_true_eq]
    exact fun j _ => Nat.le_of_lt_succ (u8_lt p (26 + j))
  have unused : [u16 p 32, u16 p 34, u16 p 36, u16 p 38].all (fun x => x &&& 0x7C00 == 0) = true :=
    List.all_eq_true.2 fun x mem => beq_iff_eq.2 (selectors x mem)
  have few : ((List.range (u8 p 25)).map (fun j => u8 p (26 + j))).length ≤ 4 := by rwa [List.length_map, List.length_range]
  simp only [captureOk, Bool.and_eq_true, Bool.or_eq_true, decide_eq_true_eq, beq_iff_eq, and_assoc]
  exact ⟨mode, enabled, post, timeout.1, timeout.2, gather, owner, sends, few, members, decision, unused⟩

/-- A stopped capture takes the definition, and one that the Bloom does not define is defined (log 32). -/
theorem acqCaptureSet_of_inRange (number : u8 p 0 ≤ 15) (stopped : (captureAt (u8 p 0) h).state = 0) (range : CaptureInRange p h) :
    acqCaptureSet p h = done (putCapture (u8 p 0)
      { captureAt (u8 p 0) h with tuned := true, cfg := captureOf p (captureAt (u8 p 0) h).cfg.masks } h) := by
  have inRange : ¬(4 < u8 p 25 ∨ captureOk (fun j => chanEnabled j h) (captureOf p (captureAt (u8 p 0) h).cfg.masks) = false) := by
    rw [captureOk_of_inRange range]
    exact not_or.2 ⟨Nat.not_lt.2 range.groups, Bool.noConfusion⟩
  simp only [acqCaptureSet, Nat.min_eq_right range.groups]
  exact (if_neg (Nat.not_lt.2 number)).trans ((if_neg (not_not_intro stopped)).trans (if_neg inRange))

/-! ### ACQ.MASK_SET (R230, R239) -/

/-- The mask test that ACQ.MASK_SET carries. -/
def maskTestOf (p : List Byte) : MaskTest :=
  { channel := u8 p 2, enabled := bit (u8 p 3) 0, upper := readVertices p 8 (u8 p 4), lower := readVertices p (8 + 8 * u8 p 4) (u8 p 5) }

/-- 2 to 32 vertices in rising order are an envelope. -/
theorem envelopeOk_readVertices {o k : Nat} (least : 2 ≤ k) (most : k ≤ 32) (rising : risingTimes (readVertices p o k) = true) :
    envelopeOk (readVertices p o k) = true := by
  have length : (readVertices p o k).length = k := by simp only [readVertices, List.length_map, List.length_range]
  simp only [envelopeOk, length, least, most, rising, decide_true, Bool.and_self]

/-- A test of an enabled channel between two envelopes is sound. -/
theorem maskOk_maskTestOf (channel : chanEnabled (u8 p 2) h = true) (upper : envelopeOk (maskTestOf p).upper = true)
    (lower : envelopeOk (maskTestOf p).lower = true) : maskOk (fun j => chanEnabled j h) (maskTestOf p) = true :=
  Bool.and_eq_true_iff.2 ⟨Bool.and_eq_true_iff.2 ⟨channel, upper⟩, lower⟩

/-- The vertices of all masks, were these the masks of a capture. -/
def usedVertices (n : Nat) (masks : Tbl MaskTest) (h : Hw) : Nat :=
  (h.acq.captures.filter (fun e => e.1 != n)).foldl (fun a e => a + vertexCount e.2.cfg.masks) (vertexCount masks)

/-- A stopped capture takes a sound mask test for which vertices are left. -/
theorem acqMaskSet_of_sound (e : tfind h.acq.captures (u8 p 0) = some x) (stopped : x.state = 0) (test : u8 p 1 ≤ 15) (request : u8 p 3 ≤ 1)
    (sound : maskOk (fun j => chanEnabled j h) (maskTestOf p) = true)
    (room : usedVertices (u8 p 0) (tset x.cfg.masks (u8 p 1) (maskTestOf p)) h ≤ 2048) :
    acqMaskSet p h = done (putCapture (u8 p 0)
      { x with cfg := { x.cfg with masks := tset x.cfg.masks (u8 p 1) (maskTestOf p) }, tuned := true } h) := by
  have inRange : ¬(15 < u8 p 1 ∨ 1 < u8 p 3 ∨ maskOk (fun j => chanEnabled j h) (maskTestOf p) = false
      ∨ 2048 < usedVertices (u8 p 0) (tset x.cfg.masks (u8 p 1) (maskTestOf p)) h) := by
    rw [sound]
    exact not_or.2 ⟨Nat.not_lt.2 test, not_or.2 ⟨Nat.not_lt.2 request, not_or.2 ⟨Bool.noConfusion, Nat.not_lt.2 room⟩⟩⟩
  exact (stoppedCapture_of_stopped e stopped).trans (if_neg inRange)

/-! ### ACQ.LINK_SET (R212, R240) -/

/-- The parameters that ACQ.LINK_SET carries; the unit that gives SYSREF stays. -/
def linkOf (p : List Byte) (h : Hw) : LinkConfig := {
  lanes := u8 p 1, first := u8 p 2, converters := u8 p 3, octets := u8 p 4, samples := u8 p 5, blocks := u8 p 6, rbd := u8 p 7
  fs := u32 p 8, latency := u16 p 12, realign := bit (u8 p 14) 0, enable := u32 p 16, teu := (linkAt (u8 p 0) h).cfg.teu }

/-- The operands of ACQ.LINK_SET are in range before the link rules are looked at. -/
theorem linkSet_inRange (link : u8 p 0 ≤ 3) (request : u8 p 14 ≤ 1) (latency : u16 p 12 ≤ 4095) :
    ¬(3 < u8 p 0 ∨ 1 < u8 p 14 ∨ 4095 < (linkOf p h).latency) :=
  not_or.2 ⟨Nat.not_lt.2 link, not_or.2 ⟨Nat.not_lt.2 request, Nat.not_lt.2 latency⟩⟩

/-- With no lanes a link goes DOWN and is removed. -/
theorem acqLinkSet_of_no_lanes (link : u8 p 0 ≤ 3) (request : u8 p 14 ≤ 1) (latency : u16 p 12 ≤ 4095) (none : (linkOf p h).lanes = 0) :
    let g := moveLink (u8 p 0) 0 h
    acqLinkSet p h = done (followLinks { g with acq := { g.acq with links := tdel g.acq.links (u8 p 0) } }) :=
  (if_neg (linkSet_inRange link request latency)).trans (if_pos none)

/-- With lanes that its rules and the other links allow a link goes DOWN and takes the parameters, and its ring is empty (log 84). -/
theorem acqLinkSet_of_lanes (link : u8 p 0 ≤ 3) (request : u8 p 14 ≤ 1) (latency : u16 p 12 ≤ 4095) (lanes : (linkOf p h).lanes ≠ 0)
    (sound : linksOk (linkOf p h :: (h.acq.links.filter (fun e => e.1 != u8 p 0)).map (fun e => e.2.cfg)) (sysrefPeriod h) = true) :
    let g := moveLink (u8 p 0) 0 h
    acqLinkSet p h = done (followLinks (putLink (u8 p 0) { linkAt (u8 p 0) g with cfg := linkOf p h, ring := [] } g)) :=
  (if_neg (linkSet_inRange link request latency)).trans ((if_neg lanes).trans (if_neg (ne_false_of_eq_true sound)))

/-! ### The statement -/

/-- Settles O32: every clause is the equation of its command's own chapter, under the reply that ST_OK gives; a capture that runs is refused
before its chapter looks at anything else. -/
theorem acqCommandsComplete : Obligations.AcqCommandsComplete := by
  refine fun c p s => ⟨fun x q e => runs_ok rfl q (acqStatus_of_defined e), fun x q e => runs_ok rfl q (acqLinkStatus_of_defined e), ?arm,
    fun holder j g stopped => armCapture_of_stopped holder stopped, fun q defined => runs_ok rfl q (acqStop_of_defined defined), ?trigger,
    fun r q e most within => runs_ok rfl q (acqRecordRead_of_inRange e most within),
    fun r q e request room => runs_ok rfl q (acqRecordLock_of_room e request room), ?profile, ?captureSet, ?maskSet, ?linkSet, ?busy⟩
  case arm =>
    exact fun q defined => ⟨fun due => runs_ok rfl q (acqArm_of_none_due defined due),
      fun due segments fits => runs_ok rfl q (acqArm_of_due defined due segments fits)⟩
  case trigger => exact fun q defined fraction inRing => runs_ok rfl q (acqTrigger_of_inRing defined fraction inRing)
  case profile =>
    intro x j q e stopped first
    obtain ⟨one, two, three⟩ := acqProfile_of_enabled e stopped first
    exact ⟨fun prof => runs_ok rfl q (one prof), fun prof => runs_ok rfl q (two prof), fun prof => runs_ok rfl q (three prof)⟩
  case captureSet =>
    exact fun q number stopped mode _ channels post atLeastOne most gather owner groups decision selectors =>
      runs_ok rfl q (acqCaptureSet_of_inRange number stopped ⟨mode, channels, post, ⟨atLeastOne, most⟩, gather, owner, groups, decision, selectors⟩)
  case maskSet =>
    intro x q e stopped u d m masks test channel request upper2 upper32 lower2 lower32 upper lower room
    have sound := maskOk_maskTestOf channel (envelopeOk_readVertices upper2 upper32 upper) (envelopeOk_readVertices lower2 lower32 lower)
    exact runs_ok rfl q (acqMaskSet_of_sound e stopped test request sound room)
  case linkSet =>
    exact fun q link request latency => ⟨fun none => runs_ok rfl q (acqLinkSet_of_no_lanes link request latency none),
      fun lanes sound => runs_ok rfl q (acqLinkSet_of_lanes link request latency lanes sound)⟩
  case busy =>
    exact fun x e running => ⟨fun q => runs_refuse rfl q (stoppedCapture_of_running e running),
      fun q => runs_refuse rfl q (stoppedCapture_of_running e running)⟩

end Sys2Proof.Machine
end

section
/-! Arrivals of a line's locator, and the records of its partner: LOCATOR_ARRIVAL_FOUND, PARTNER_WAIT_EXPIRY, ARRIVAL_RECORD_RX and
HELD_RECORD_EXPIRY (R257, R260, R261, R263, R264). -/
namespace Sys2Proof.Machine

variable {n rec source : Nat} {h : Hw} {x : Line} {r : CapRecord}

/-! ### Records on the wire (R260) -/

/-- A line's record leaves in the frame of its control block, and is kept for its repetitions. -/
theorem sendArrival_of_line (t : GooseSend) (found : tfind h.phasor.lines n = some x) :
    sendArrival n t h = sendGoose x.cfg.key (lineGoose n x.cfg t) (putLocator n { x with send := some t } h) := by
  simp only [sendArrival, found]

/-- A GOOSE frame leaves the constellation as it is. -/
@[simp] theorem sendGoose_const (key : Option Nat) (f : Goose) (h : Hw) : (sendGoose key f h).const = h.const := by
  cases key with
  | none => rfl
  | some k =>
    cases usable : keyUsable k h with
    | true => rw [sendGoose_of_usable f usable]; rfl
    | false => rw [sendGoose_of_unusable f usable]

/-- So does a record that leaves. -/
@[simp] theorem sendArrival_const (n : Nat) (t : GooseSend) (h : Hw) : (sendArrival n t h).const = h.const := by
  cases found : tfind h.phasor.lines n with
  | none => simp only [sendArrival, found]
  | some x => rw [sendArrival_of_line t found, sendGoose_const]; rfl

/-! ### LOCATOR_ARRIVAL_FOUND (R257, R263, R264) -/

/-- There is nothing to look at: no cell of that SOURCE code runs the locator's item, or the line has looked at the record before. -/
abbrev NothingToLookAt (n rec source : Nat) (x : Line) (h : Hw) : Prop :=
  (∀ b ∈ h.fab.blocks, ∀ e ∈ b.2.running, cellSource b.1 e.1 = source → e.2.item.locator ≠ some (n, rec)) ∨ rec ∈ x.done

theorem nothingToLookAt_iff :
    (locatorRuns n rec source h = false ∨ x.done.contains rec = true) ↔ NothingToLookAt n rec source x h := by
  unfold NothingToLookAt locatorRuns
  rw [List.contains_iff_mem]
  simp only [← Bool.not_eq_true, List.any_eq_true, Bool.and_eq_true, beq_iff_eq, not_exists, not_and, ne_eq]

/-- The arrival of a record in which no edge is found: its inception is the record's time. -/
def edgelessArrival (rec source : Nat) (x : Line) (r : CapRecord) (h : Hw) : Arrival :=
  judgeImpedance h {
    time := r.time, found := false, at_ := h.time.mono, record := rec, source := source, cfg := x.cfg, cls := r.cls, errorNs := r.errorNs }

/-- The arrival of an edge, with the single-ended candidates of the later peaks (R258). -/
def edgeArrival (rec source : Nat) (x : Line) (r : CapRecord) (t amp : Rat) (neg : Bool) (later : List Rat) (h : Hw) : Arrival :=
  judgeImpedance h {
    time := (t * (2 ^ 40 : Nat)).floor.toNat, at_ := h.time.mono, record := rec, source := source, cfg := x.cfg, cls := r.cls, errorNs := r.errorNs
    candidates := later.map (fun u => fOfRat (fRat x.cfg.velocity * (u - t) * 1000000 / 2)), negative := neg, amplitude := fOfRat amp }

/-- A line that has looked at a record and keeps its arrival. -/
def lookedAt (rec : Nat) (a : Arrival) (x : Line) : Line := { x with arrivals := a :: x.arrivals, done := rec :: x.done }

/-- A line that has found an edge in it. -/
def foundIn (rec : Nat) (a : Arrival) (x : Line) : Line := { lookedAt rec a x with found := inc32 x.found }

/-- The record of an arrival for the partner, with its MAC (R260). -/
def sealedRecord (n : Nat) (y : Line) (a : Arrival) (q : Nat × Nat) (h : Hw) : List Byte :=
  arrivalRecord n y a q h ++ slice (Config.hmac (macValue (y.cfg.key.getD 0) h) (arrivalRecord n y a q h)) 0 32

/-- The message that carries it. -/
def arrivalSend (n : Nat) (y : Line) (a : Arrival) (q : Nat × Nat) (h : Hw) : GooseSend :=
  { sequence := (y.sequence + 1) % 2 ^ 32, at_ := h.time.mono, changedAt := h.time.now, payload := sealedRecord n y a q h }

/-- The line that has sent it. -/
def sentBy (n : Nat) (y : Line) (a : Arrival) (q : Nat × Nat) (h : Hw) : Line :=
  { y with
    sequence := (y.sequence + 1) % 2 ^ 32, sentRecords := tset y.sentRecords y.sequence (sealedRecord n y a q h)
    send := some (arrivalSend n y a q h) }

/-- The hardware after it. -/
def sentArrival (n : Nat) (y : Line) (a : Arrival) (q : Nat × Nat) (h : Hw) : Hw :=
  sendArrival n (arrivalSend n y a q h) (putLocator n (sentBy n y a q h) (drawn h))

/-- Sending it leaves the constellation as it is. -/
@[simp] theorem sentArrival_const (n : Nat) (y : Line) (a : Arrival) (q : Nat × Nat) (h : Hw) : (sentArrival n y a q h).const = h.const :=
  sendArrival_const ..

/-- The held record that an arrival pairs with; a module that is DISSENTING or TIME-SUSPECT takes none (R264). -/
def heldFor (a : Arrival) (x : Line) (h : Hw) : Option (List Byte × Nat) :=
  if h.const.dissenting || h.const.suspect then none else x.held.find? (fun e => pairMatches a e.1)

/-- There is none where the module takes none, or where none matches. -/
theorem heldFor_eq_none {a : Arrival}
    (e : h.const.dissenting = true ∨ h.const.suspect = true ∨ ∀ e ∈ x.held, pairMatches a e.1 = false) : heldFor a x h = none := by
  unfold heldFor
  obtain dissenting | suspect | unmatched := e
  · rw [dissenting, Bool.true_or, if_pos rfl]
  · rw [suspect, Bool.or_true, if_pos rfl]
  · rw [List.find?_eq_none.2 fun e mem => Bool.eq_false_iff.1 (unmatched e mem), ite_self]

/-- In any other module it is the first that matches. -/
theorem heldFor_of_sound (a : Arrival) (x : Line) (dissenting : h.const.dissenting = false) (suspect : h.const.suspect = false) :
    heldFor a x h = x.held.find? (fun e => pairMatches a e.1) := by
  unfold heldFor
  rw [dissenting, suspect, Bool.or_false, if_neg Bool.false_ne_true]

section
variable (line : tfind h.phasor.lines n = some x) (record : h.acq.records.find? (fun r => r.number == rec) = some r)
include line record

/-- With nothing to look at nothing happens. -/
theorem arrivalFound_of_nothing (nothing : NothingToLookAt n rec source x h) : arrivalFound n rec source h = h := by
  simp only [arrivalFound, line, record]
  exact if_pos (nothingToLookAt_iff.2 nothing)

/-- Without an edge the result is published at once. -/
theorem arrivalFound_of_edgeless (new : ¬NothingToLookAt n rec source x h) (edgeless : findArrival x.cfg r h = none) :
    let a := edgelessArrival rec source x r h
    arrivalFound n rec source h = publishResult n a none 0 (putLocator n (lookedAt rec a x) (drawn h)) := by
  have looks := mt nothingToLookAt_iff.1 new
  simp only [arrivalFound, line, record, looks, if_false, edgeless, Option.isNone_none, if_true]
  split <;> rfl

variable {t amp : Rat} {neg : Bool} {later : List Rat} (new : ¬NothingToLookAt n rec source x h)
  (edge : findArrival x.cfg r h = some (t, amp, neg, later))
include new edge

/-- Without a partner so is that of an edge. -/
theorem arrivalFound_of_alone (alone : linePartner x = none) :
    let a := edgeArrival rec source x r t amp neg later h
    arrivalFound n rec source h = publishResult n a none 0 (putLocator n (foundIn rec a x) (drawn h)) := by
  have looks := mt nothingToLookAt_iff.1 new
  unfold linePartner at alone
  simp only [arrivalFound, line, record, looks, if_false, edge, linePartner, alone]
  rfl

/-- With one the edge's record is sent, and pairs with a held record that matches. -/
theorem arrivalFound_of_partner {q : Nat × Nat} (partner : linePartner x = some q) :
    let a := edgeArrival rec source x r t amp neg later h
    let y := foundIn rec a x
    let g := sentArrival n y a q h
    arrivalFound n rec source h = match heldFor a x g with
      | some (b, _) => acceptRecord n a b (putLocator n { sentBy n y a q h with held := x.held.filter (fun d => d.1 != b) } g)
      | none => g := by
  have looks := mt nothingToLookAt_iff.1 new
  unfold linePartner at partner
  simp only [arrivalFound, line, record, looks, if_false, edge, linePartner, partner, Option.isNone_some, Bool.false_eq_true]
  rfl

/-- Where no held record pairs with it, that is all. -/
theorem arrivalFound_of_unpaired {q : Nat × Nat} (partner : linePartner x = some q) :
    let a := edgeArrival rec source x r t amp neg later h
    (h.const.dissenting = true ∨ h.const.suspect = true ∨ ∀ e ∈ x.held, pairMatches a e.1 = false) →
      arrivalFound n rec source h = sentArrival n (foundIn rec a x) a q h := by
  intro a e
  have kept := sentArrival_const n (foundIn rec a x) a q h
  have unpaired : heldFor a x (sentArrival n (foundIn rec a x) a q h) = none := heldFor_eq_none (by rwa [kept])
  exact (arrivalFound_of_partner line record new edge partner).trans (by rw [unpaired])

/-- A held record that pairs with it is held no longer. -/
theorem arrivalFound_of_paired {q : Nat × Nat} {d : List Byte × Nat} (partner : linePartner x = some q)
    (dissenting : h.const.dissenting = false) (suspect : h.const.suspect = false) :
    let a := edgeArrival rec source x r t amp neg later h
    let y := foundIn rec a x
    let g := sentArrival n y a q h
    x.held.find? (fun e => pairMatches a e.1) = some d →
      arrivalFound n rec source h =
        acceptRecord n a d.1 (putLocator n { sentBy n y a q h with held := x.held.filter (fun e => e.1 != d.1) } g) := by
  intro a y g e
  have kept : g.const = h.const := sentArrival_const ..
  have paired : heldFor a x g = some d := (heldFor_of_sound a x (by rwa [kept]) (by rwa [kept])).trans e
  exact (arrivalFound_of_partner line record new edge partner).trans (by rw [paired])
end

/-! ### PARTNER_WAIT_EXPIRY (R263) -/

/-- The unpublished arrivals of a line whose wait is over. -/
def waitOver (x : Line) (h : Hw) : List Arrival :=
  x.arrivals.filter (fun a => a.result.isNone && a.at_ + nsUnits (a.cfg.waitMs * 1000000) ≤ h.time.mono)

/-- The oldest of them is published alone. -/
theorem partnerWait_of_over {a : Arrival} (line : tfind h.phasor.lines n = some x) (e : (waitOver x h).getLast? = some a) :
    partnerWait n h = publishResult n a none 4 h := by
  unfold waitOver at e
  simp only [partnerWait, line, e]

/-- While every arrival waits nothing is. -/
theorem partnerWait_of_waiting (line : tfind h.phasor.lines n = some x) (e : waitOver x h = []) : partnerWait n h = h := by
  unfold waitOver at e
  simp only [partnerWait, line, e, List.getLast?_nil]

/-! ### ARRIVAL_RECORD_RX (R261) -/

/-- A partner's record that passes its checks is taken. -/
theorem arrivalRx_of_passes {b : List Byte} {authentic : Bool} {l : Nat} (e : recordCheck b authentic h = (l, 0)) :
    arrivalRx b authentic h = takeRecord l b h := by
  simp only [arrivalRx, e]

/-- One that fails a check is counted with it. -/
theorem arrivalRx_of_fails {b : List Byte} {authentic : Bool} {l k : Nat} (e : recordCheck b authentic h = (l, k)) (fails : k ≠ 0) :
    arrivalRx b authentic h = rejectRecord l k h := by
  cases k with
  | zero => exact absurd rfl fails
  | succ k => simp only [arrivalRx, e]

/-! ### HELD_RECORD_EXPIRY (R261) -/

/-- The partner's records that a line has held for 60 s. -/
def heldOut (x : Line) (h : Hw) : List (List Byte × Nat) := x.held.filter (fun e => e.2 + 60 * secUnit ≤ h.time.mono)

/-- The first of them is dropped, as check 9. -/
theorem heldExpiry_of_out {d : List Byte × Nat} (line : tfind h.phasor.lines n = some x) (e : (heldOut x h).head? = some d) :
    heldExpiry n h = rejectRecord n 9 (putLocator n { x with held := x.held.filter (fun y => y != d) } h) := by
  unfold heldOut at e
  simp only [heldExpiry, line, e]

/-- Before that none is. -/
theorem heldExpiry_of_young (line : tfind h.phasor.lines n = some x) (e : heldOut x h = []) : heldExpiry n h = h := by
  unfold heldOut at e
  simp only [heldExpiry, line, e, List.head?_nil]

/-! ### The statement -/

/-- Settles O37: a look at a record ends with its result or with its record on the wire, and in the second case on the held record that
pairs with it; sending leaves the module's verdict on itself as it was, so that the pairing may be read before or after it. -/
theorem arrivalsArePairedOrPublished : Obligations.ArrivalsArePairedOrPublished := by
  refine ⟨?found, fun n t x h line => sendArrival_of_line t line, ?wait, ?received, ?held⟩
  case found =>
    intro n rec source s x r h line record skip
    refine ⟨fun nothing => runs_lift rfl (arrivalFound_of_nothing line record nothing),
      fun new edgeless => runs_lift rfl (arrivalFound_of_edgeless line record new edgeless), fun t amp neg later new edge => ⟨?alone, ?partner⟩⟩
    case alone => exact fun alone => runs_lift rfl (arrivalFound_of_alone line record new edge alone)
    case partner =>
      exact fun q partner => ⟨fun none => runs_lift rfl (arrivalFound_of_unpaired line record new edge partner none),
        fun e dissenting suspect pairs => runs_lift rfl (arrivalFound_of_paired line record new edge partner dissenting suspect pairs)⟩
  case wait =>
    exact fun n s x line => ⟨fun a due => runs_lift rfl (partnerWait_of_over line due),
      fun waiting => runs_lift rfl (partnerWait_of_waiting line waiting)⟩
  case received =>
    exact fun b authentic l k s e => ⟨fun passes => runs_lift rfl (arrivalRx_of_passes (passes ▸ e)),
      fun fails => runs_lift rfl (arrivalRx_of_fails e fails)⟩
  case held =>
    exact fun n s x line => ⟨fun d out => runs_lift rfl (heldExpiry_of_out line out), fun young => runs_lift rfl (heldExpiry_of_young line young)⟩

end Sys2Proof.Machine
end

section
/-! Where the PHASOR and LOC commands complete (R247, R261, R266 to R269). -/
namespace Sys2Proof.Machine

variable {c : Call} {p : List Byte} {h g : Hw} {n : Nat}

/-! ### PHASOR commands (R247, R266 to R268) -/

/-- A command on a defined stream sees that stream. -/
theorem onSynchro_of_defined {f : Synchro → CmdResult} {x : Synchro} (e : tfind h.phasor.streams n = some x) : onSynchro n f h = f x := by
  simp only [onSynchro, e]

/-- On any other it is refused. -/
theorem onSynchro_of_undefined {f : Synchro → CmdResult} (e : tfind h.phasor.streams n = none) :
    onSynchro n f h = no stBadParam rcPhasorNoStream := by
  simp only [onSynchro, e]

/-- The status of a stream as PHASOR.STATUS gives it (R267). -/
def synchroStatusBytes (n : Nat) (x : Synchro) (h : Hw) : List Byte :=
  le 1 n ++ le 1 (synchroState x) ++ le 1 x.cfg.cls ++ le 1 (flag x.cfg.extended 0 + flag (changePending x.cfg h) 1 + flag x.client 2) ++ le 2 x.cfg.rate
    ++ le 2 x.cfg.idcode ++ le 4 x.sent ++ le 4 x.modified ++ le 4 x.errors ++ le 4 x.commands ++ le 4 x.ignored ++ le 4 x.latencyMax

section
variable {x : Synchro} (e : tfind h.phasor.streams (u8 p 0) = some x)
include e

/-- The status of a stream, whose counters are zeroed on demand after they are read. -/
theorem phasorStatus_of_defined :
    phasorStatus p h = .ok
      (if bit (u8 p 1) 0 then putSynchro (u8 p 0) { x with sent := 0, modified := 0, errors := 0, commands := 0, ignored := 0, latencyMax := 0 } h
      else h)
      (synchroStatusBytes (u8 p 0) x h) :=
  onSynchro_of_defined e

/-- A stream is enabled or disabled, to go on from the newest reporting time (log 88). -/
theorem phasorStreamSet_of_inRange (enable : u8 p 1 ≤ 1) :
    phasorStreamSet p h = done (putSynchro (u8 p 0) { x with enabled := u8 p 1 == 1, fresh := true } h) :=
  (onSynchro_of_defined e).trans (if_neg (Nat.not_lt.2 enable))

/-- The tuned parameters of a stream. -/
def tunedSynchro (p : List Byte) (k : SynchroConfig) : SynchroConfig := { k with cls := u8 p 1, rate := u16 p 2, extended := bit (u8 p 4) 0 }

/-- Only a disabled stream is tuned. -/
theorem phasorTune_of_enabled (enabled : x.enabled = true) : phasorTune p h = no stBusy rcPhasorNotStopped :=
  (onSynchro_of_defined e).trans (if_pos enabled)

/-- The phasors per second of a stream with new parameters and of all others. -/
def totalLoad (n : Nat) (k : SynchroConfig) (h : Hw) : Nat :=
  (h.phasor.streams.filter (fun e => e.1 != n)).foldl (fun a e => a + synchroLoad e.2.cfg) (synchroLoad k)

/-- It takes a rate and a class that its blocks allow, within the capacity. -/
theorem phasorTune_of_disabled (disabled : x.enabled = false)
    (rates : ∀ b ∈ x.cfg.blocks, rateOk (slotNominal b.freq.1 h) (u16 p 2) (u8 p 1) (bit (u8 p 4) 0) = true)
    (fits : totalLoad (u8 p 0) (tunedSynchro p x.cfg) h ≤ 491520) :
    phasorTune p h = done (putSynchro (u8 p 0) { x with cfg := tunedSynchro p x.cfg, last := none } h) := by
  have allowed : ¬x.cfg.blocks.any (fun b => !rateOk (slotNominal b.freq.1 h) (u16 p 2) (u8 p 1) (bit (u8 p 4) 0)) = true := by
    rw [List.any_eq_true]
    rintro ⟨b, mem, bad⟩
    rw [rates b mem] at bad
    exact Bool.false_ne_true bad
  exact (onSynchro_of_defined e).trans ((if_neg (ne_true_of_eq_false disabled)).trans ((if_neg allowed).trans (if_neg (Nat.not_lt.2 fits))))
end

/-- The entries of an instant that the ring holds, from the one asked for on. -/
theorem phasorRead_of_inRange {r : PhasorRow} (e : h.phasor.ring.find? (fun r => r.k == u64 p 0) = some r) (least : 1 ≤ u16 p 10)
    (most : u16 p 10 ≤ 1024) (within : u16 p 8 + u16 p 10 ≤ r.width) :
    phasorRead p h = .ok h (le 8 (u64 p 0) ++ le 2 r.width ++ le 2 (u16 p 10) ++ zeros 4
      ++ (List.range (u16 p 10)).flatMap (fun j => phasorBytes (tget r.entries (u16 p 8 + j) {}))) := by
  have inRange : ¬(u16 p 10 = 0 ∨ 1024 < u16 p 10 ∨ r.width < u16 p 8 + u16 p 10) := by omega
  simp only [phasorRead, e, inRange, if_false]

/-! ### LOC commands (R266 to R268) -/

/-- A command on a defined line sees that line. -/
theorem onLine_of_defined {f : Line → CmdResult} {x : Line} (e : tfind h.phasor.lines n = some x) : onLine n f h = f x := by
  simp only [onLine, e]

/-- The status of a line as LOC.STATUS gives it (R267). -/
def lineStatusBytes (n : Nat) (x : Line) (h : Hw) : List Byte :=
  le 1 n ++ le 1 (flag (linePartner x).isSome 0 + flag x.lastRejected 1 + flag (h.const.dissenting || h.const.suspect) 2)
    ++ le 2 (((linePartner x).map (fun q => q.1)).getD 0xFFFF) ++ le 4 x.found ++ le 4 x.accepted ++ le 4 x.rejected ++ le 4 x.published
    ++ le 4 x.revisions ++ le 4 (if x.nextResult = 0 then 0xFFFFFFFF else x.nextResult - 1) ++ zeros 4

/-- The result that a command names by its number, or the newest. -/
def namedResult (p : List Byte) (x : Line) : Option LocResult :=
  if u32 p 4 = 0xFFFFFFFF then x.results.head? else x.results.find? (fun r => r.number == u32 p 4)

/-- The record that a command names by the sequence number under which it was sent, or the last. -/
def namedSent (p : List Byte) (x : Line) : Option (List Byte) :=
  if u32 p 4 = 0xFFFFFFFF then x.sentRecords.getLast?.map (fun e => e.2) else tfind x.sentRecords (u32 p 4)

/-- The delay that a parameter gives, or the one that it keeps. -/
def delayOr (p : List Byte) (o : Nat) (d : Int) : Int := if u32 p o = 0x80000000 then d else s32 p o

/-- The parameters of a line with the values that LOC.LINE_SET gives (R268). -/
def lineSetTo (p : List Byte) (k : LineConfig) : LineConfig := { k with
  waitMs := if u16 p 2 = 0 then k.waitMs else u16 p 2
  velocity := if u32 p 4 = 0 then k.velocity else f32 p 4
  length := if u32 p 8 = 0 then k.length else f32 p 8
  delays := [delayOr p 12 (k.delays.getD 0 0), delayOr p 16 (k.delays.getD 1 0), delayOr p 20 (k.delays.getD 2 0)] }

section
variable {x : Line} (e : tfind h.phasor.lines (u8 p 0) = some x)
include e

/-- The status of a line, whose five counters are zeroed on demand after they are read. -/
theorem locStatus_of_defined :
    locStatus p h = .ok
      (if bit (u8 p 1) 0 then putLocator (u8 p 0) { x with found := 0, accepted := 0, rejected := 0, published := 0, revisions := 0 } h else h)
      (lineStatusBytes (u8 p 0) x h) :=
  onLine_of_defined e

/-- A result that the line has is read. -/
theorem locResultRead_of_named {r : LocResult} (named : namedResult p x = some r) : locResultRead p h = .ok h (resultBytes (u8 p 0) r) := by
  unfold namedResult at named
  exact (onLine_of_defined e).trans (by simp only [named])

/-- So is a record that it has sent. -/
theorem locArrivalRead_of_named {b : List Byte} (named : namedSent p x = some b) : locArrivalRead p h = .ok h b := by
  unfold namedSent at named
  exact (onLine_of_defined e).trans (by simp only [named])

/-- Values within their ranges are set. -/
theorem locLineSet_of_inRange (range : lineOk (lineSetTo p x.cfg) h = true) :
    locLineSet p h = done (putLocator (u8 p 0) { x with cfg := lineSetTo p x.cfg, usePartner := bit (u8 p 1) 0 } h) :=
  (onLine_of_defined e).trans (if_neg (ne_false_of_eq_true range))

/-- Others are refused. -/
theorem locLineSet_of_outOfRange (range : lineOk (lineSetTo p x.cfg) h = false) : locLineSet p h = no stBadParam rcLocParamRange :=
  (onLine_of_defined e).trans (if_pos range)
end

/-! ### LOC.ARRIVAL_SUBMIT (R261, R269) -/

/-- A record that passes the checks is taken. -/
theorem locArrivalSubmit_of_passes {l : Nat} (e : recordCheck p c.crypto.signed h = (l, 0)) : locArrivalSubmit c p h = done (takeRecord l p h) := by
  simp only [locArrivalSubmit, e]

/-- The status and the reason of a record that fails a check. -/
def submitRefusal (k : Nat) : Nat × Nat :=
  if k = 1 ∨ k = 3 then (stBadParam, rcLocMalformed)
  else if k = 2 then (stAuthFailed, rcLocAuth)
  else if k = 8 then (stReplay, rcLocDuplicate)
  else (stDenied, rcLocPartnerRefused)

/-- A record that fails a check is counted with it and refused. -/
theorem locArrivalSubmit_of_fails {l k : Nat} (e : recordCheck p c.crypto.signed h = (l, k)) (fails : k ≠ 0) :
    locArrivalSubmit c p h = .refuseIn (rejectRecord l k h) (submitRefusal k).1 (submitRefusal k).2 [] := by
  cases k with
  | zero => exact absurd rfl fails
  | succ k =>
    simp only [locArrivalSubmit, e, submitRefusal]
    split
    · rfl
    · split
      · rfl
      · split <;> rfl

/-- A command lifted to states that its chapter refuses and counts. -/
theorem runs_refuseIn {m : Cmd} {i : Instr} {s : State} {st rc : Nat} {pay : List Byte} (e : exec i s = lift (runCmd m c p) s) (q : Passes m c p s)
    (b : m.body c p s.hw = .refuseIn g st rc pay) : Runs i s (refusal m c st rc pay g) := runs_lift e (runCmd_refuseIn q b)

/-- LOC.ARRIVAL_SUBMIT of a record that fails a check. -/
theorem runs_locArrivalSubmit_of_fails {s : State} {l k st rc : Nat} (q : Passes cmdLocArrivalSubmit c p s)
    (e : recordCheck p c.crypto.signed s.hw = (l, k)) (fails : k ≠ 0) (refused : submitRefusal k = (st, rc)) :
    Runs (.locArrivalSubmit c p) s (refusal cmdLocArrivalSubmit c st rc [] (rejectRecord l k s.hw)) :=
  runs_refuseIn rfl q ((locArrivalSubmit_of_fails e fails).trans (by rw [refused]))

/-! ### The statement -/

/-- Settles O35: every clause is the equation of its command's own chapter, under the reply that ST_OK gives or under the refusal; the check
that a submitted record fails gives its status and reason. -/
theorem phasorAndLocCommandsComplete : Obligations.PhasorAndLocCommandsComplete := by
  refine fun c p s => ⟨fun x e => ⟨fun q => runs_ok rfl q (phasorStatus_of_defined e),
    fun q enable => runs_ok rfl q (phasorStreamSet_of_inRange e enable), ?tune⟩, ?read, ?undefined, fun x e => ⟨?status, ?result, ?sent, ?lineSet⟩, ?submit⟩
  case tune =>
    exact fun q => ⟨fun enabled => runs_refuse rfl q (phasorTune_of_enabled e enabled),
      fun disabled rates fits => runs_ok rfl q (phasorTune_of_disabled e disabled rates fits)⟩
  case read => exact fun r q e least most within => runs_ok rfl q (phasorRead_of_inRange e least most within)
  case undefined =>
    exact fun e => ⟨fun q => runs_refuse rfl q (onSynchro_of_undefined e), fun q => runs_refuse rfl q (onSynchro_of_undefined e),
      fun q => runs_refuse rfl q (onSynchro_of_undefined e)⟩
  case status => exact fun q => runs_ok rfl q (locStatus_of_defined e)
  case result => exact fun r q named => runs_ok rfl q (locResultRead_of_named e named)
  case sent => exact fun b q named => runs_ok rfl q (locArrivalRead_of_named e named)
  case lineSet =>
    exact fun q => ⟨fun range => runs_ok rfl q (locLineSet_of_inRange e range), fun range => runs_refuse rfl q (locLineSet_of_outOfRange e range)⟩
  case submit =>
    intro l k q e
    refine ⟨fun passes => runs_ok rfl q (locArrivalSubmit_of_passes (passes ▸ e)), fun malformed => ?_, fun auth => ?_, fun least most => ?_,
      fun duplicate => ?_⟩
    · exact runs_locArrivalSubmit_of_fails q e (by omega) (if_pos malformed)
    · exact runs_locArrivalSubmit_of_fails q e (by omega) (by rw [auth]; rfl)
    · have others : ¬(k = 1 ∨ k = 3) ∧ k ≠ 2 ∧ k ≠ 8 := by omega
      obtain ⟨form, auth, new⟩ := others
      exact runs_locArrivalSubmit_of_fails q e (by omega) ((if_neg form).trans ((if_neg auth).trans (if_neg new)))
    · exact runs_locArrivalSubmit_of_fails q e (by omega) (by rw [duplicate]; rfl)

end Sys2Proof.Machine
end

section
/-! A synchrophasor stream: SYNCHROPHASOR_FRAME_SEND, C37118_COMMAND_RX and C37118_TCP_CONNECTION (R251 to R253). -/
namespace Sys2Proof.Machine

variable {n j cmd : Nat} {h : Hw} {x : Synchro}

/-! ### SYNCHROPHASOR_FRAME_SEND (R251, R252) -/

/-- The streamer keeps no row of an instant. -/
theorem any_row_eq_false_iff (k : Nat) (h : Hw) : h.phasor.rows.any (fun r => r.k == k) = false ↔ ∀ r ∈ h.phasor.rows, r.k ≠ k := by
  simp only [List.any_eq_false, beq_iff_eq, ne_eq]

/-- The instants from one reporting time of a stream to the next. -/
def reportGap (x : Synchro) (h : Hw) : Nat := fGrid h / x.cfg.rate

/-- The instants after a reporting time that a frame of the stream needs. -/
def reportTail (x : Synchro) (h : Hw) : Nat := (x.cfg.blocks.map (fun b => blockTail x.cfg b h)).foldl max 0

/-- The newest reporting time whose instants have settled. -/
def newestReport (x : Synchro) (h : Hw) : Nat := (h.ing.nextSettle - 1 - reportTail x h) / reportGap x h

/-- A stream that has sent nothing starts at the newest reporting time. -/
theorem nextReport_of_none (first : x.last = none) : nextReport x (reportGap x h) (reportTail x h) h = newestReport x h := by
  simp only [nextReport, newestReport, first]

/-- One that has sent goes on after its last, and from the newest on where it starts again or the rows of the next are gone (logs 28, 88). -/
theorem nextReport_of_some {l : Nat} (sent : x.last = some l) :
    nextReport x (reportGap x h) (reportTail x h) h =
      if x.fresh = true ∨ ∀ r ∈ h.phasor.rows, r.k ≠ (l + 1) * reportGap x h + reportTail x h then max (newestReport x h) (l + 1) else l + 1 := by
  simp only [nextReport, newestReport, sent, any_row_eq_false_iff]

/-- The stream sends, and the rows that its frame of reporting time j needs have settled and are kept. -/
abbrev ReadyToSend (j : Nat) (x : Synchro) (h : Hw) : Prop :=
  let k := j * reportGap x h + reportTail x h
  (h.mode = .serving ∨ h.mode = .test) ∧ synchroState x = 2 ∧ k < h.ing.nextSettle ∧ ∃ r ∈ h.phasor.rows, r.k = k

theorem not_readyToSend_iff : ¬ReadyToSend j x h ↔
    (h.mode ≠ .serving ∧ h.mode ≠ .test) ∨ synchroState x ≠ 2 ∨ h.ing.nextSettle ≤ j * reportGap x h + reportTail x h
      ∨ h.phasor.rows.any (fun r => r.k == j * reportGap x h + reportTail x h) = false := by
  simp only [ReadyToSend, Classical.not_and_iff_not_or_not, not_or, Nat.not_lt, ← Bool.not_eq_true, List.any_eq_true, beq_iff_eq, ne_eq]

/-- The blocks of the frame of reporting time j. -/
def reportBlocks (j : Nat) (x : Synchro) (h : Hw) : List PmuData :=
  x.cfg.blocks.zipIdx.map (fun e => pmuData x.cfg e.1 e.2 (j * reportGap x h) h)

/-- That frame, with the time scale and the leap bits of its reporting time. -/
def reportFrame (n j : Nat) (x : Synchro) (h : Hw) : Out :=
  let k := j * reportGap x h
  let u := utcAt (k / fGrid h) h
  .synchro n (k / fGrid h - u.1) (k % fGrid h * (9600000 / fGrid h)) (flag u.2.1 0 + flag u.2.2 1) (messageQuality (timeClass h)) (reportBlocks j x h)

/-- The stream that has sent it. -/
def reported (j : Nat) (x : Synchro) (h : Hw) : Synchro :=
  { x with
    last := some j, fresh := false, sent := inc32 x.sent
    latencyMax := max x.latencyMax (sat32 ((h.time.now - instantTime (fGrid h) (j * reportGap x h)) * 1000000000 / 2 ^ 64))
    modified := if (reportBlocks j x h).any (fun b => bit b.stat 9) then inc32 x.modified else x.modified
    errors := if (reportBlocks j x h).any (fun b => 2 ^ 14 ≤ b.stat) then inc32 x.errors else x.errors }

/-- A stream that is ready sends the frame that is next; any other sends nothing. -/
theorem synchroSend_of_stream (found : tfind h.phasor.streams n = some x) (next : nextReport x (reportGap x h) (reportTail x h) h = j) :
    synchroSend n h = if ReadyToSend j x h then emit (reportFrame n j x h) (drawn (putSynchro n (reported j x h) h)) else h := by
  unfold reportGap reportTail at next
  simp only [synchroSend, found, next]
  by_cases ready : ReadyToSend j x h
  · exact (if_neg (mt not_readyToSend_iff.2 (Classical.not_not.2 ready))).trans (if_pos ready).symm
  · exact (if_pos (not_readyToSend_iff.1 ready)).trans (if_neg ready).symm

/-! ### C37118_COMMAND_RX (R252, R253) -/

/-- A stream takes commands: it is enabled, and on TCP it has a client. -/
abbrev TakesCommands (x : Synchro) : Prop := x.enabled = true ∧ (x.cfg.transport = 1 ∨ x.client = true)

theorem not_takesCommands_iff : ¬TakesCommands x ↔ x.enabled = false ∨ (x.cfg.transport ≠ 1 ∧ x.client = false) := by
  simp only [TakesCommands, Classical.not_and_iff_not_or_not, not_or, Bool.not_eq_true, ne_eq]

/-- A stream that has counted a command. -/
def commanded (x : Synchro) : Synchro := { x with commands := inc32 x.commands }

/-- No command is taken by any other. -/
theorem synchroCommand_of_shut (found : tfind h.phasor.streams n = some x) (shut : ¬TakesCommands x) : synchroCommand n cmd h = h := by
  simp only [synchroCommand, found]
  exact if_pos (not_takesCommands_iff.1 shut)

section
variable (found : tfind h.phasor.streams n = some x) (takes : TakesCommands x)
include found takes

/-- A command that it takes is told by its number. -/
theorem synchroCommand_of_taken :
    synchroCommand n cmd h =
      if cmd = 0 ∨ 6 < cmd then putSynchro n { commanded x with ignored := inc32 x.ignored } h
      else if cmd ≤ 2 then putSynchro n { commanded x with data := cmd == 2, fresh := true } h
      else if h.mode = .serving ∨ h.mode = .test then emit (.synchroConfig (synchroFrame n cmd x.cfg h)) (putSynchro n (commanded x) h)
      else putSynchro n (commanded x) h := by
  have open_ : ¬(x.enabled = false ∨ (x.cfg.transport ≠ 1 ∧ x.client = false)) := mt not_takesCommands_iff.2 (Classical.not_not.2 takes)
  simp only [synchroCommand, found]
  exact if_neg open_

/-- Numbers that R252 does not give are counted as ignored. -/
theorem synchroCommand_of_unknown (unknown : cmd = 0 ∨ 6 < cmd) :
    synchroCommand n cmd h = putSynchro n { commanded x with ignored := inc32 x.ignored } h :=
  (synchroCommand_of_taken found takes).trans (if_pos unknown)

/-- 1 stops and 2 starts the data. -/
theorem synchroCommand_of_onOff (onOff : cmd = 1 ∨ cmd = 2) :
    synchroCommand n cmd h = putSynchro n { commanded x with data := cmd == 2, fresh := true } h := by
  have known : ¬(cmd = 0 ∨ 6 < cmd) := by omega
  have switches : cmd ≤ 2 := by omega
  exact (synchroCommand_of_taken found takes).trans ((if_neg known).trans (if_pos switches))

/-- 3 to 6 ask for a frame, which leaves in SERVING and TEST. -/
theorem synchroCommand_of_frame (least : 3 ≤ cmd) (most : cmd ≤ 6) :
    synchroCommand n cmd h =
      if h.mode = .serving ∨ h.mode = .test then emit (.synchroConfig (synchroFrame n cmd x.cfg h)) (putSynchro n (commanded x) h)
      else putSynchro n (commanded x) h := by
  have known : ¬(cmd = 0 ∨ 6 < cmd) := by omega
  have asks : ¬cmd ≤ 2 := by omega
  exact (synchroCommand_of_taken found takes).trans ((if_neg known).trans (if_neg asks))
end

/-! ### C37118_TCP_CONNECTION (R252) -/

section
variable (found : tfind h.phasor.streams n = some x)
include found

/-- The first client of an enabled stream connects. -/
theorem synchroConnection_of_first (tcp : x.cfg.transport ≠ 1) (first : x.client = false) (enabled : x.enabled = true) :
    synchroConnection n true h = putSynchro n { x with client := true } h := by
  simp only [synchroConnection, found, tcp, first, enabled, Bool.true_eq_false, Bool.false_eq_true, and_false, or_self, if_false, if_true]

/-- A second one, or one of a disabled stream, is turned away. -/
theorem synchroConnection_of_refused (refused : x.client = true ∨ x.enabled = false) : synchroConnection n true h = h := by
  simp only [synchroConnection, found]
  exact if_pos (.inr ⟨trivial, refused⟩)

/-- A close ends the data. -/
theorem synchroConnection_of_close (tcp : x.cfg.transport ≠ 1) :
    synchroConnection n false h = putSynchro n { x with client := false, data := false, fresh := true } h := by
  simp only [synchroConnection, found, tcp, Bool.false_eq_true, false_and, or_self, if_false]
end

/-! ### The statement -/

/-- Settles O36: the frame to be sent is told from what the stream has sent and which rows are kept, and whether it leaves from the mode, the
stream's state and its rows; commands and connections turn on whether the stream takes any. -/
theorem synchrophasorStreamsRun : Obligations.SynchrophasorStreamsRun := by
  intro n s x h found c f per tail newest j k ready
  have next : nextReport x (reportGap x h) (reportTail x h) h = j := by
    cases last : x.last with
    | none => exact (nextReport_of_none last).trans (by simp only [j, last]; rfl)
    | some l => exact (nextReport_of_some last).trans (by simp only [j, last]; rfl)
  have sends := synchroSend_of_stream found next
  refine ⟨fun e => runs_lift rfl (sends.trans (if_pos e)), fun e => runs_lift rfl (sends.trans (if_neg e)), ?command, ?connection⟩
  case command =>
    exact fun cmd => ⟨fun takes unknown => runs_lift rfl (synchroCommand_of_unknown found takes unknown),
      fun takes onOff => runs_lift rfl (synchroCommand_of_onOff found takes onOff),
      fun takes least most sends => runs_lift rfl ((synchroCommand_of_frame found takes least most).trans (if_pos sends)),
      fun takes least most serving test => runs_lift rfl ((synchroCommand_of_frame found takes least most).trans (if_neg (not_or.2 ⟨serving, test⟩))),
      fun shut => runs_lift rfl (synchroCommand_of_shut found shut)⟩
  case connection =>
    exact fun tcp => ⟨fun first enabled => runs_lift rfl (synchroConnection_of_first found tcp first enabled),
      fun refused => runs_lift rfl (synchroConnection_of_refused found refused), runs_lift rfl (synchroConnection_of_close found tcp)⟩

end Sys2Proof.Machine
end

section
/-! DRAM as what its addresses read: runs of bytes, and the one form of every content (R272, R300; log 9). -/
namespace Sys2Proof.Machine

variable {m m' : List (Nat × Byte)} {a : Nat}

/-! ### Runs of bytes -/

/-- A run of bytes reads as it was put, and every other byte as before. -/
theorem memRead_memPut (bs : List Byte) (a y : Nat) (wf : Memory.wf m = true) :
    memRead (memPut m a bs) y = if a ≤ y ∧ y < a + bs.length then bs.getD (y - a) 0 else memRead m y := by
  induction bs generalizing m a with
  | nil => exact (if_neg (by simp only [List.length_nil]; omega)).symm
  | cons b bs ih =>
    rw [memPut, ih _ (memWrite_wf m a b wf), memRead_memWrite m a y b wf, List.length_cons]
    rcases Nat.lt_trichotomy y a with before | rfl | after
    · rw [if_neg (by omega), if_neg (by omega), if_neg (by omega)]
    · rw [if_neg (by omega), if_pos rfl, if_pos (by omega), Nat.sub_self]; rfl
    · have next : y - a = y - (a + 1) + 1 := by omega
      rw [if_neg (by omega : ¬y = a), next, List.getD_cons_succ]
      exact if_congr (by omega) rfl rfl

/-! ### The one form of a content -/

/-- In the canonical form a byte is listed at an address exactly where it is what the address reads, and not zero. -/
theorem mem_iff_memRead (wf : Memory.wf m = true) (b : Byte) : (a, b) ∈ m ↔ memRead m a = b ∧ b ≠ 0#8 := by
  induction m with
  | nil => exact iff_of_false List.not_mem_nil fun ⟨reads, listed⟩ => listed reads.symm
  | cons e r ih =>
    obtain ⟨rising, nonzero⟩ := (wf_iff _).1 wf
    obtain ⟨above, below⟩ := List.pairwise_cons.1 rising
    obtain ⟨head, listed⟩ := List.forall_mem_cons.1 nonzero
    obtain ⟨c, d⟩ := e
    rw [List.mem_cons, memRead]
    by_cases at_ : c = a
    · subst at_
      have once : (c, b) ∉ r := fun again => Nat.lt_irrefl c (above _ again)
      rw [if_pos rfl, or_iff_left once, Prod.mk.injEq]
      exact ⟨fun ⟨_, same⟩ => ⟨same.symm, same ▸ head⟩, fun ⟨same, _⟩ => ⟨rfl, same.symm⟩⟩
    · have other : (a, b) ≠ (c, d) := fun same => at_ (Prod.mk.inj same).1.symm
      rw [if_neg at_, or_iff_right other, ih ((wf_iff r).2 ⟨below, listed⟩)]

/-- In the canonical form no pair is listed twice. -/
theorem wf_nodup (wf : Memory.wf m = true) : m.Nodup :=
  ((wf_iff m).1 wf).1.imp fun lt same => Nat.ne_of_lt lt (congrArg Prod.fst same)

/-- Two memories in the canonical form that read alike list the same bytes, and both in rising order: they are the same data. -/
theorem eq_of_memRead_eq (wf : Memory.wf m = true) (wf' : Memory.wf m' = true) (alike : ∀ a, memRead m a = memRead m' a) : m = m' := by
  have bytes : m.Perm m' := (List.perm_ext_iff_of_nodup (wf_nodup wf) (wf_nodup wf')).2 fun ⟨a, b⟩ => by
    rw [mem_iff_memRead wf, mem_iff_memRead wf', alike]
  exact bytes.eq_of_pairwise (fun _ _ _ _ lt gt => absurd gt (Nat.lt_asymm lt)) ((wf_iff m).1 wf).1 ((wf_iff m').1 wf').1

/-! ### The statement -/

/-- Settles O46: each operation's form is a law of memory, what it reads is that of the bytes it writes, and what a memory reads at every
address is all that its canonical form holds. -/
theorem dramKeepsItsForm : Obligations.DramKeepsItsForm := by
  refine ⟨reset_mem_wf, fun m wf => ⟨?byte, ?run, fun a n => memZero_wf m a n wf, fun m' => eq_of_memRead_eq wf⟩⟩
  case byte =>
    exact fun a v => ⟨memWrite_wf m a v wf, (memRead_memWrite m a a v wf).trans (if_pos rfl),
      fun b other => (memRead_memWrite m a b v wf).trans (if_neg other)⟩
  case run =>
    refine fun a bs => ⟨memPut_wf bs m a wf, fun j inside => ?_, fun b outside => ?_⟩
    · rw [memRead_memPut bs a (a + j) wf, if_pos (by omega), Nat.add_sub_cancel_left]
    · rw [memRead_memPut bs a b wf, if_neg (by omega)]

end Sys2Proof.Machine
end

section
/-! The budget level: what a sample measures and asks for (R285, R287), and how a level comes into force (R164, R286, R288). -/
namespace Sys2Proof.Machine

variable {h : Hw} {temps : List (Nat × Option Int)} {rails : List (Nat × Nat × Nat)}

/-! ### BUDGET_SAMPLE (R285) -/

/-- The states in which samples are taken. -/
def TakesSamples (h : Hw) : Prop := h.mode = .idle ∨ h.mode = .ready ∨ h.mode = .serving ∨ h.mode = .test

/-- A sample's rails that the variant monitors. -/
def monitoredRails (rails : List (Nat × Nat × Nat)) (h : Hw) : List (Nat × Nat × Nat) := rails.filter (fun r => (railLimit r.1 h).isSome)

/-- The monitored rails at or above a percentage of their limits, as a mask. -/
def railsAt (pct : Nat) (rails : List (Nat × Nat × Nat)) (h : Hw) : Nat :=
  ((monitoredRails rails h).map (fun r => if pct * (railLimit r.1 h).getD 0 ≤ 100 * r.2.1 then 2 ^ r.1 else 0)).foldl (· + ·) 0

/-- The power of the monitored rails, µW. -/
def railPower (rails : List (Nat × Nat × Nat)) (h : Hw) : Nat := ((monitoredRails rails h).map (fun r => r.2.1 * r.2.2)).foldl (· + ·) 0

/-- A sample's temperature of each region whose sensor counts. -/
def regionTemps (temps : List (Nat × Option Int)) (h : Hw) : Tbl (Option Int) :=
  (sensorRegions h).map (fun r => (r, ((temps.find? (fun t => t.1 == r)).map (fun t => t.2)).getD none))

/-- What the budget keeps of a sample itself. -/
def keepSample (temps : List (Nat × Option Int)) (rails : List (Nat × Nat × Nat)) (h : Hw) : Hw :=
  { h with fab := { h.fab with budget := { h.fab.budget with
    sensed := regionTemps temps h, power := (railPower rails h :: h.fab.budget.power).take 10, rails90 := railsAt 90 rails h
    rails95 := railsAt 95 rails h, sampledAt := some h.time.mono } } }

/-- The time from which an exit condition holds. -/
def heldSince (met : Bool) (t : Option Nat) (h : Hw) : Option Nat := if met then some (t.getD h.time.mono) else none

/-- The counters and holds of the entry and exit conditions. -/
def countConditions (h : Hw) : Hw :=
  { h with fab := { h.fab with budget := { h.fab.budget with
    powerMax := max h.fab.budget.powerMax (meanPower h)
    redCount := if levelCauses 1 1 true h ≠ 0 then h.fab.budget.redCount + 1 else 0
    amberCount := if levelCauses 0 0 false h ≠ 0 then h.fab.budget.amberCount + 1 else 0
    redExit := if h.fab.budget.computed = 2 then heldSince (redExitMet h) h.fab.budget.redExit h else none
    amberExit := if h.fab.budget.computed = 1 then heldSince (amberExitMet h) h.fab.budget.amberExit h else none } } }

/-- A newly computed level starts its holds anew. -/
def changeComputed (h : Hw) : Hw :=
  if computeLevel h = h.fab.budget.computed then h
  else { h with fab := { h.fab with budget := { h.fab.budget with computed := computeLevel h, redExit := none, amberExit := none } } }

/-- A sample is not taken in any other state. -/
theorem budgetSample_of_refused (off : ¬TakesSamples h) : budgetSample temps rails h = h :=
  if_pos (by simpa only [TakesSamples, not_or] using off)

/-- A sample that is taken is kept, counted and judged, and a level is asked for, in this order. -/
theorem budgetSample_of_taken (on : TakesSamples h) :
    budgetSample temps rails h = askLevel (changeComputed (countConditions (keepSample temps rails (accrueLevel h)))) :=
  if_neg (by simpa only [TakesSamples, ne_eq, not_and_or, not_not] using on)

/-- The level in force, the floor, and the time, powers and temperatures of the samples. -/
def budgetMeasured (h : Hw) : Nat × Nat × Option Nat × List Nat × Tbl (Option Int) :=
  (h.fab.budget.level, h.fab.budget.floor, h.fab.budget.sampledAt, h.fab.budget.power, h.fab.budget.sensed)

theorem budgetMeasured_askLevel (h : Hw) : budgetMeasured (askLevel h) = budgetMeasured h := rfl

theorem budgetMeasured_changeComputed (h : Hw) : budgetMeasured (changeComputed h) = budgetMeasured h := by
  unfold changeComputed
  split <;> rfl

theorem budgetMeasured_countConditions (h : Hw) : budgetMeasured (countConditions h) = budgetMeasured h := rfl

theorem budgetMeasured_keepSample (h : Hw) : budgetMeasured (keepSample temps rails (accrueLevel h)) =
    (h.fab.budget.level, h.fab.budget.floor, some h.time.mono, (railPower rails h :: h.fab.budget.power).take 10, regionTemps temps h) := rfl

/-- Of a sample's stages only the keeping touches any of these, and neither level nor floor. -/
theorem budgetMeasured_budgetSample (on : TakesSamples h) : budgetMeasured (budgetSample temps rails h) =
    (h.fab.budget.level, h.fab.budget.floor, some h.time.mono, (railPower rails h :: h.fab.budget.power).take 10, regionTemps temps h) := by
  rw [budgetSample_of_taken on, budgetMeasured_askLevel, budgetMeasured_changeComputed, budgetMeasured_countConditions,
    budgetMeasured_keepSample]

/-! ### The level at a tick (R286) -/

/-- Taking an item out of its block leaves the budget. -/
theorem removeItem_budget (n e : Nat) (h : Hw) : (removeItem n e h).fab.budget = h.fab.budget := rfl

/-- An entry's outcome concerns the ledger. -/
theorem fixOutcome_fab (e o sent : Nat) (h : Hw) : (fixOutcome e o sent h).fab = h.fab := by
  unfold fixOutcome
  dsimp only
  split <;> rfl

/-- A cancelled entry leaves the budget. -/
theorem cancelEntry_budget (e o sent : Nat) (h : Hw) : (cancelEntry e o sent h).fab.budget = h.fab.budget := by
  unfold cancelEntry
  dsimp only
  rw [fixOutcome_fab]
  split <;> split <;> exact removeItem_budget ..

/-- So does an entry cancelled without a RESCIND. -/
theorem resolveOther_budget (e o : Nat) (h : Hw) : (resolveOther e o false h).fab.budget = h.fab.budget := cancelEntry_budget ..

/-- The timeouts that start again are those of captures. -/
theorem restartTimeouts_fab (old lv : Nat) (h : Hw) : (restartTimeouts old lv h).fab = h.fab := by
  unfold restartTimeouts
  split <;> rfl

/-- Items that go back to their lists leave the budget. -/
theorem returnSlots_budget (n : Nat) (h : Hw) : (returnSlots n h).fab.budget = h.fab.budget := by
  refine foldl_keeps (fun g : Hw => g.fab.budget) _ (fun g e => ?_) _ h
  dsimp only
  split <;> rfl

/-- The level's own entries of the budget, once the time at the old level is counted. -/
def withLevel (lv causes : Nat) (h : Hw) : Hw :=
  { accrueLevel h with fab := { h.fab with budget := { (accrueLevel h).fab.budget with
    level := lv, causes := causes, due := none, changes := inc32 h.fab.budget.changes, changedAt := h.time.now } } }

/-- At RED the runs that still speculate, or have decided within the tick, are cancelled (R164, R582). -/
def cancelAtRed (lv : Nat) (h : Hw) : Hw :=
  if lv = 2 then
    (h.spec.entries.filter (fun e => e.2.state == 1 || (e.2.state == 2 && e.2.decidedAt * 100000 / 2 ^ 64 == h.fab.lastTick))).foldl
      (fun h e => resolveOther e.1 8 false h) h
  else h

/-- Those runs leave the budget. -/
theorem cancelAtRed_budget (lv : Nat) (h : Hw) : (cancelAtRed lv h).fab.budget = h.fab.budget := by
  unfold cancelAtRed
  split
  · refine foldl_keeps (fun g : Hw => g.fab.budget) _ (fun g e => ?_) _ h
    exact resolveOther_budget e.1 8 g
  · rfl

/-- A level that comes into force: the budget's entries, the record, the captures' timeouts, the runs and the slots, in this order. -/
theorem takeLevel_eq (lv causes : Nat) (h : Hw) : ∃ (bytes : List Byte) (blocks : List Nat), takeLevel lv causes h =
    blocks.foldl (fun g n => returnSlots n g)
      (cancelAtRed lv (restartTimeouts h.fab.budget.level lv (evr 0x0B10 0x0F01 bytes (withLevel lv causes h)))) :=
  ⟨_, _, rfl⟩

/-- Only the first of them touches the budget. -/
theorem takeLevel_budget (lv causes : Nat) (h : Hw) : (takeLevel lv causes h).fab.budget = (withLevel lv causes h).fab.budget := by
  obtain ⟨bytes, blocks, stages⟩ := takeLevel_eq lv causes h
  obtain ⟨-, -, -, -, -, -, -, -, -, -, -, -, -, recordFab, -⟩ := evr_frame 0x0B10 0x0F01 bytes (withLevel lv causes h)
  calc (takeLevel lv causes h).fab.budget
    _ = (cancelAtRed lv (restartTimeouts h.fab.budget.level lv (evr 0x0B10 0x0F01 bytes (withLevel lv causes h)))).fab.budget := by
      rw [stages]
      exact foldl_keeps (fun g : Hw => g.fab.budget) _ (fun g n => returnSlots_budget n g) _ _
    _ = (withLevel lv causes h).fab.budget := by
      rw [cancelAtRed_budget, restartTimeouts_fab, recordFab]

/-! ### The statement -/

/-- Settles O41: a sample turns on whether the state takes any, and touches neither level nor floor in either case; the level that a tick
takes is what is left in the budget. -/
theorem samplesAskAndTicksTakeTheLevel : Obligations.SamplesAskAndTicksTakeTheLevel := by
  refine ⟨fun temps rails s => ?sample, fun level causes h => ?level⟩
  case sample =>
    refine ⟨runsAll_lift rfl rfl, ?_⟩
    by_cases on : TakesSamples s.hw
    · have kept := budgetMeasured_budgetSample (temps := temps) (rails := rails) on
      obtain ⟨level, floor, time, power, sensed⟩ := by simpa only [budgetMeasured, Prod.mk.injEq] using kept
      exact ⟨level, floor, fun off => absurd on off, fun _ => ⟨time, power, sensed⟩⟩
    · have same := budgetSample_of_refused (temps := temps) (rails := rails) on
      exact ⟨by rw [same], by rw [same], fun _ => same, fun taken => absurd taken on⟩
  case level =>
    intro g
    have entries : g.fab.budget = (withLevel level causes h).fab.budget := takeLevel_budget level causes h
    rw [entries]
    exact ⟨rfl, rfl, rfl, rfl⟩

end Sys2Proof.Machine
end

section
/-! Slices that come to rest and are zeroed, and the transfers of the shared engines (R302, R304 to R308, R310 to R313). -/
namespace Sys2Proof.Machine

variable {h : Hw} {n : Nat} {d : DmaDesc} {fault : Bool}

/-! ### SLICE_QUIESCED and SLICE_ZEROING_DONE (R311 to R313) -/

/-- A slice that waits to come to rest and has. -/
theorem sliceQuiesced_of_quiescent (notModule : n ≠ 0) (quiescing : (sliceAt n h).state = 2) (rests : quiescent n h = true) :
    let g := putSlice n { sliceAt n h with state := 3, quiesces := inc32 (sliceAt n h).quiesces } h
    sliceQuiesced n h = complete (.quiesce n) stOk 0 [] (evrSlice 0x0C10 0x0000 n (slicePayload n g) g) :=
  if_neg (by simp [notModule, quiescing, rests])

/-- One that has not goes on as it was. -/
theorem sliceQuiesced_of_busy (busy : quiescent n h = false) : sliceQuiesced n h = h := if_pos (.inr (.inr busy))

/-- The DRAM of a slice whose zeroing ends (R313). -/
def zeroedSlice (n : Nat) (h : Hw) : List (Nat × Byte) := memZero h.fab.dram (sliceAt n h).cfg.base (sliceAt n h).cfg.size

/-- The end of zeroing completes the reset, with the slice's memory zeroed. -/
theorem zeroingDone_of_zeroing (zeroing : (sliceAt n h).zeroing = true) :
    let q := putSlice n { sliceAt n h with zeroing := false } h
    let g := { q with fab := { q.fab with dram := zeroedSlice n h } }
    zeroingDone n h = complete (.sliceReset n) stOk 0 [] (evrSlice 0x0C11 0x0000 n (slicePayload n g) g) :=
  if_neg ((Bool.not_eq_false _).mpr zeroing)

/-! ### An engine lets go of its descriptor (R302, R304) -/

/-- The slice still has the generation with which a descriptor was accepted, and the memory that its engine reads and writes. -/
abbrev SoundTransfer (d : DmaDesc) (x : SliceInst) : Prop :=
  d.generation = x.generation ∧ (d.engine = 2 ∨ inData d.source d.length x = true) ∧ (d.engine = 1 ∨ inData d.destination d.length x = true)

section
variable {count : Nat} {move : Hw → Hw}

/-- A sound transfer that did not fail is done. -/
theorem letGo_of_sound (sound : SoundTransfer d (sliceAt d.slice h)) : letGo d false count move h = postCompletion d 0 count (move h) := by
  refine if_neg ?_
  rintro (failed | other | outside)
  · exact Bool.false_ne_true failed
  · exact other sound.1
  · exact outside sound.2

/-- Any other moves nothing and is a FAULT. -/
theorem letGo_of_failed (failed : fault = true ∨ ¬SoundTransfer d (sliceAt d.slice h)) : letGo d fault count move h = postCompletion d 2 0 h := by
  refine if_pos ?_
  rcases failed with failed | unsound
  · exact .inl failed
  · exact .inr (Decidable.not_and_iff_or_not.1 unsound)
end

/-! ### Bytes that a transfer moves -/

/-- What is read of memory is as long as it was asked for. -/
@[simp] theorem length_memGet (m : List (Nat × Byte)) (a k : Nat) : (memGet m a k).length = k := by
  rw [memGet, List.length_map, List.length_range]

/-- Its bytes are those of memory. -/
theorem getD_memGet (m : List (Nat × Byte)) (a : Nat) {j k : Nat} (inside : j < k) : (memGet m a k).getD j 0 = memRead m (a + j) := by
  rw [List.getD_eq_getElem _ _ (by rwa [length_memGet])]
  simp only [memGet, List.getElem_map, List.getElem_range]

/-- A copy gives the destination the bytes that the source had, even where the two overlap, and leaves every other byte. -/
theorem memRead_copy {m : List (Nat × Byte)} (wf : Memory.wf m = true) (src dst k y : Nat) :
    memRead (memPut m dst (memGet m src k)) y = if dst ≤ y ∧ y < dst + k then memRead m (src + (y - dst)) else memRead m y := by
  rw [memRead_memPut _ _ _ wf, length_memGet]
  split
  next inside => exact getD_memGet m src (by omega)
  next => rfl

/-! ### DMA_DESCRIPTOR_DONE (R305, R307) -/

/-- An engine that lets go of its descriptor answers by whether the transfer is sound and did not fail. -/
theorem runs_letGo {engine count : Nat} {move : Hw → Hw} {s : State} (lets : ∀ {fault}, dmaDone engine fault s.hw = letGo d fault count move h) :
    (SoundTransfer d (sliceAt d.slice h) → Runs (.dmaDescriptorDone engine false) s (postCompletion d 0 count (move h)))
    ∧ (¬SoundTransfer d (sliceAt d.slice h) → Runs (.dmaDescriptorDone engine false) s (postCompletion d 2 0 h))
    ∧ Runs (.dmaDescriptorDone engine true) s (postCompletion d 2 0 h) :=
  ⟨fun sound => runs_lift rfl (lets.trans (letGo_of_sound sound)), fun unsound => runs_lift rfl (lets.trans (letGo_of_failed (.inr unsound))),
    runs_lift rfl (lets.trans (letGo_of_failed (.inl rfl)))⟩

/-- The recorder engine has let go of its oldest descriptor. -/
def recorderNext (rest : List DmaDesc) (h : Hw) : Hw := { h with slc := { h.slc with recQueue := rest, recSince := h.time.mono } }

/-- The network engine's sending side has. -/
def senderNext (rest : List DmaDesc) (h : Hw) : Hw := { h with slc := { h.slc with netQueue := rest, netSince := h.time.mono } }

/-- Its receiving side has let go of a buffer and the frame for it. -/
def receiverNext (f : RxFrame) (d : DmaDesc) (h : Hw) : Hw :=
  { h with slc := { h.slc with rxQueue := h.slc.rxQueue.erase d, rxFrames := h.slc.rxFrames.erase f, rxSince := h.time.mono } }

/-- The recorder engine moves its oldest descriptor's bytes, once the slice's rate allows. -/
theorem dmaDone_recorder {rest : List DmaDesc} (queue : h.slc.recQueue = d :: rest) :
    dmaDone 0 fault h = if h.time.mono - h.slc.recSince < paceTime (sliceAt d.slice h).cfg.recRate d.length then h
      else letGo d fault d.length (fun g => dmaWrite d (dmaRead d g) g) (recorderNext rest h) := by
  simp only [dmaDone, queue]; rfl

/-- The network engine sends them. -/
theorem dmaDone_sender {rest : List DmaDesc} (queue : h.slc.netQueue = d :: rest) :
    dmaDone 1 fault h = if h.time.mono - h.slc.netSince < paceTime (sliceAt d.slice h).cfg.netRate d.length then h
      else letGo d fault d.length (fun g => netTransmit d.slice ((sliceDie d.slice g).getD 0) (dmaRead d g) g) (senderNext rest h) := by
  simp only [dmaDone, queue]; rfl

section
variable {f : RxFrame} (next : rxNext h = some (f, d))
include next

/-- A frame for another generation of the slice is discarded, and counted as stale. -/
theorem dmaDone_receiver_of_stale (stale : f.generation ≠ (sliceAt d.slice h).generation) :
    dmaDone 2 fault h = putSlice d.slice { sliceAt d.slice h with stale := inc32 (sliceAt d.slice h).stale }
      { h with slc := { h.slc with rxFrames := h.slc.rxFrames.erase f } } := by
  simp only [dmaDone, next]; exact if_pos stale

/-- A frame for the present one is stored in its buffer, once the slice's rate allows. -/
theorem dmaDone_receiver_of_current (current : f.generation = (sliceAt d.slice h).generation) :
    dmaDone 2 fault h =
      if h.time.mono - max h.slc.rxSince (max f.since d.posted) < paceTime (sliceAt d.slice h).cfg.netRate (f.bytes.take d.length).length then h
      else letGo d fault (f.bytes.take d.length).length (dmaWrite d (f.bytes.take d.length)) (receiverNext f d h) := by
  simp only [dmaDone, next]; exact if_neg (not_not_intro current)
end

/-- Without a descriptor the recorder engine does nothing. -/
theorem dmaDone_recorder_of_empty (queue : h.slc.recQueue = []) : dmaDone 0 fault h = h := by simp only [dmaDone, queue]

/-- Nor does the network engine's sending side. -/
theorem dmaDone_sender_of_empty (queue : h.slc.netQueue = []) : dmaDone 1 fault h = h := by simp only [dmaDone, queue]

/-- Its receiving side needs a frame with a buffer as well. -/
theorem dmaDone_receiver_of_none (next : rxNext h = none) : dmaDone 2 fault h = h := by simp only [dmaDone, next]

/-! ### The statement -/

/-- Settles O45: an engine waits out the pace of its slice's rate and then lets go of its descriptor, which moves the bytes of a sound
transfer and of no other. -/
theorem slicesRestAndEnginesMove : Obligations.SlicesRestAndEnginesMove := by
  refine ⟨?quiesced, ?zeroed, ?recorder, ?sender, ?receiver, fun fault s => ⟨fun queue => runs_lift rfl (dmaDone_recorder_of_empty queue),
    fun queue => runs_lift rfl (dmaDone_sender_of_empty queue), fun next => runs_lift rfl (dmaDone_receiver_of_none next)⟩⟩
  case quiesced =>
    exact fun n s notModule quiescing => ⟨fun rests => runs_lift rfl (sliceQuiesced_of_quiescent notModule quiescing rests),
      fun busy => runs_lift rfl (sliceQuiesced_of_busy busy)⟩
  case zeroed =>
    exact fun n s zeroing => ⟨runs_lift rfl (zeroingDone_of_zeroing zeroing),
      fun a least most => (memRead_memZero ..).trans (if_pos ⟨least, most⟩), fun a outside => (memRead_memZero ..).trans (if_neg (by omega))⟩
  case recorder =>
    intro d rest s queue
    have paced {fault : Bool} := dmaDone_recorder (fault := fault) queue
    refine ⟨fun early fault => runs_lift rfl (paced.trans (if_pos early)), fun due => (runs_letGo (paced.trans (if_neg (Nat.not_lt.2 due))) :),
      fun wf a => ⟨fun outside => (memRead_copy wf ..).trans (if_neg (by omega)), fun j inside => ?_⟩⟩
    exact (memRead_copy wf ..).trans ((if_pos (by omega)).trans (by rw [Nat.add_sub_cancel_left]))
  case sender =>
    intro d rest s queue
    have paced {fault : Bool} := dmaDone_sender (fault := fault) queue
    exact ⟨fun early fault => runs_lift rfl (paced.trans (if_pos early)), fun due => (runs_letGo (paced.trans (if_neg (Nat.not_lt.2 due))) :)⟩
  case receiver =>
    intro f d fault s next
    refine ⟨fun stale => runs_lift rfl (dmaDone_receiver_of_stale next stale),
      fun current early => runs_lift rfl ((dmaDone_receiver_of_current next current).trans (if_pos (Nat.not_le.1 early))),
      fun current due worked sound => ?_, fun current due failed => ?_⟩
    all_goals have lets := (dmaDone_receiver_of_current (fault := fault) next current).trans (if_neg (Nat.not_lt.2 due))
    · subst worked
      exact runs_lift rfl (lets.trans (letGo_of_sound sound))
    · exact runs_lift rfl (lets.trans (letGo_of_failed failed))

end Sys2Proof.Machine
end

section
/-! Where the SLICE commands complete (R298, R308, R310, R312 to R316). -/
namespace Sys2Proof.Machine

variable {c : Call} {p : List Byte} {h : Hw} {n : Nat}

/-! ### The manager's authority (R298, R314) -/

/-- A session of the manager names slice 0 or every slice. -/
abbrev IsManager (c : Call) : Prop := c.hdr.slice = 0 ∨ c.hdr.slice = 0xFFFF

/-- The manager commands a slice that the Bloom defines. -/
abbrev Manages (c : Call) (n : Nat) (h : Hw) : Prop := IsManager c ∧ 1 ≤ n ∧ n ≤ 511 ∧ sliceDefined n h = true

section
variable {f : SliceInst → CmdResult}

/-- A session of another slice is denied. -/
theorem managed_of_other (other : ¬IsManager c) : managed c n f h = no stDenied rcSliceNotManager := if_pos (not_or.1 other)

/-- Slice 0 is the module's own. -/
theorem managed_of_module (manager : IsManager c) (zero : n = 0) : managed c n f h = no stDenied rcSliceModule :=
  (if_neg (by omega)).trans (if_pos zero)

/-- What the manager asks of a defined slice is up to that slice. -/
theorem managed_of_manages (manages : Manages c n h) : managed c n f h = f (sliceAt n h) := by
  obtain ⟨manager, least, most, defined⟩ := manages
  have known : ¬(511 < n ∨ sliceDefined n h = false) := not_or.2 ⟨Nat.not_lt.2 most, (Bool.not_eq_false _).mpr defined⟩
  exact (if_neg (by omega)).trans ((if_neg (by omega)).trans (if_neg known))
end

/-! ### SLICE.STATUS (R314, R315) -/

/-- Slice 0 and a defined slice show their entry; the flag zeroes the counters after they are read. -/
theorem sliceStatus_of_defined (reads : IsManager c ∨ c.hdr.slice = u16 p 0) (most : u16 p 0 ≤ 511)
    (defined : u16 p 0 = 0 ∨ sliceDefined (u16 p 0) h = true) :
    sliceStatus c p h = .ok (if bit (u8 p 2) 0 then putSlice (u16 p 0) (clearSlice (sliceAt (u16 p 0) h)) h else h) (sliceStatusBytes (u16 p 0) h) := by
  have shown : ¬(511 < u16 p 0 ∨ (u16 p 0 ≠ 0 ∧ sliceDefined (u16 p 0) h = false)) :=
    not_or.2 ⟨Nat.not_lt.2 most, fun ⟨named, undefined⟩ => Bool.false_ne_true (undefined.symm.trans (defined.resolve_left named))⟩
  exact (if_neg (by omega)).trans (if_neg shown)

/-! ### SLICE.QUIESCE, SLICE.RESUME and SLICE.RESET (R308, R310, R312, R313) -/

/-- A slice that neither quiesces nor is being zeroed keeps no command of the manager waiting. -/
theorem not_slice_busy {x : SliceInst} (still : x.state ≠ 2) (zeroed : x.zeroing = false) : ¬(x.state = 2 ∨ x.zeroing = true) :=
  not_or.2 ⟨still, Bool.eq_false_iff.1 zeroed⟩

/-- A slice that has been reset: the next generation, no counters but its resets, empty buckets, and its memory to be zeroed (log 91). -/
def resetSlice (x : SliceInst) (mono : Nat) : SliceInst :=
  { clearSlice x with
    generation := nextGeneration x.generation, zeroing := true, resetSince := true, resuming := false, resets := inc32 x.resets, completion := 0
    items := 0, recBytes := 0, netBytes := 0, filledAt := mono }

/-- SLICE.RESET from a session of another slice is denied. -/
theorem sliceReset_of_other (other : ¬IsManager c) : sliceReset c p h = no stDenied rcSliceNotManager := by
  simp only [sliceReset, managed_of_other other]

/-- Slice 0 is not reset. -/
theorem sliceReset_of_module (manager : IsManager c) (zero : u16 p 0 = 0) : sliceReset c p h = no stDenied rcSliceModule := by
  simp only [sliceReset, managed_of_module manager zero]

section
variable (manages : Manages c (u16 p 0) h)
include manages

/-- Only a running slice has anything to quiesce. -/
theorem sliceQuiesce_of_manages :
    sliceQuiesce c p h = if (sliceAt (u16 p 0) h).state = 1 then .accepted (quiesceSlice (u16 p 0) h) (.quiesce (u16 p 0)) else done h := by
  simp only [sliceQuiesce, managed_of_manages manages]

/-- A slice resumes unless it runs, quiesces or is being zeroed. -/
theorem sliceResume_of_manages :
    sliceResume c p h = if (sliceAt (u16 p 0) h).state = 1 then done h
      else if (sliceAt (u16 p 0) h).state = 2 ∨ (sliceAt (u16 p 0) h).zeroing = true then no stBusy rcSliceQuiescing
      else done (putSlice (u16 p 0) { sliceAt (u16 p 0) h with resuming := true } h) := by
  simp only [sliceResume, managed_of_manages manages]

/-- Only a slice at rest is reset. -/
theorem sliceReset_of_manages :
    sliceReset c p h = if (sliceAt (u16 p 0) h).state = 1 then no stNotQuiesced rcSliceNotQuiesced
      else if (sliceAt (u16 p 0) h).state = 2 ∨ (sliceAt (u16 p 0) h).zeroing = true then no stBusy rcSliceQuiescing
      else .accepted (putSlice (u16 p 0) (resetSlice (sliceAt (u16 p 0) h) h.time.mono) h) (.sliceReset (u16 p 0)) := by
  simp only [sliceReset, managed_of_manages manages]; rfl
end

/-! ### SLICE.PROFILE and SLICE.LIMITS (R316) -/

/-- The limits that a profile of the table sets (R316). -/
def profileLimits : Nat → SliceConfig → SliceConfig
  | 1, x => { x with weight := 4, itemRate := 20000, recRate := 100, netRate := 10 }
  | 2, x => { x with weight := 16, itemRate := 100000, recRate := 1000, netRate := 100 }
  | _, x => { x with weight := 64, itemRate := 500000, recRate := 4000, netRate := 1000 }

section
variable (manages : Manages c (u16 p 0) h)
include manages

/-- The limits of a profile of the table are noted. -/
theorem sliceProfile_of_inRange {k : Nat} (named : u8 p 2 = k) (least : 1 ≤ k) (most : k ≤ 3) :
    sliceProfile c p h = setLimits (u16 p 0) (profileLimits k) (sliceAt (u16 p 0) h) h := by
  simp only [sliceProfile, managed_of_manages manages, named]
  clear named
  interval_cases k <;> rfl

/-- Limits within the machine's own are noted, 0 keeping one. -/
theorem sliceLimits_of_inRange (items : u32 p 4 ≤ 10000000) (recorder : u32 p 8 ≤ 16000) (network : u32 p 12 ≤ 2500) :
    sliceLimits c p h = setLimits (u16 p 0) (fun k => { k with
      weight := keepOr (u8 p 2) 0 k.weight, engines := keepOr (u8 p 3) 0 k.engines, itemRate := keepOr (u32 p 4) 0 k.itemRate
      recRate := keepOr (u32 p 8) 0 k.recRate, netRate := keepOr (u32 p 12) 0 k.netRate, burst := keepOr (u16 p 16) 0 k.burst })
      (sliceAt (u16 p 0) h) h := by
  simp only [sliceLimits, managed_of_manages manages]
  exact if_neg (by omega)
end

/-! ### The statement -/

/-- Settles O44: the session decides whether the slice is asked at all, and the slice's state what it answers. -/
theorem sliceCommandsComplete : Obligations.SliceCommandsComplete := by
  refine fun c p s => ⟨?status, ?quiesce, ?resume, ?reset, ?profile, ?limits, fun other q => runs_refuse rfl q (sliceReset_of_other other),
    fun manager zero q => runs_refuse rfl q (sliceReset_of_module manager zero)⟩
  case status => exact fun q reads most defined => runs_ok rfl q (sliceStatus_of_defined reads most defined)
  case quiesce =>
    intro q manages
    have answers := sliceQuiesce_of_manages manages
    exact ⟨fun running => runs_accepted rfl q (answers.trans (if_pos running)), fun resting => runs_ok rfl q (answers.trans (if_neg resting))⟩
  case resume =>
    intro q manages
    have answers := sliceResume_of_manages manages
    exact ⟨fun running => runs_ok rfl q (answers.trans (if_pos running)),
      fun resting still zeroed => runs_ok rfl q (answers.trans ((if_neg resting).trans (if_neg (not_slice_busy still zeroed)))),
      fun quiescing => runs_refuse rfl q (answers.trans ((if_neg (by omega)).trans (if_pos (.inl quiescing))))⟩
  case reset =>
    intro q manages
    have answers := sliceReset_of_manages manages
    exact ⟨fun running => runs_refuse rfl q (answers.trans (if_pos running)),
      fun resting still zeroed => runs_accepted rfl q (answers.trans ((if_neg resting).trans (if_neg (not_slice_busy still zeroed))))⟩
  case profile =>
    intro q manages
    exact ⟨fun first => runs_ok rfl q (sliceProfile_of_inRange manages first (by decide) (by decide)),
      fun second => runs_ok rfl q (sliceProfile_of_inRange manages second (by decide) (by decide)),
      fun third => runs_ok rfl q (sliceProfile_of_inRange manages third (by decide) (by decide))⟩
  case limits => exact fun q manages _ items recorder network => runs_ok rfl q (sliceLimits_of_inRange manages items recorder network)

end Sys2Proof.Machine
end

section
/-! What every step does: it takes the front of the queue, answers a next state, and settles it (R475, R478, R480, R494, R80, R81). -/
namespace Sys2Proof.Machine

/-- Settles O1: a queue with a command at its front is the second case of `step`. -/
theorem stepRunsTheFront : Obligations.StepRunsTheFront := fun _ _ _ => rfl

/-- Settles O4: the state that a step answers is a settled one. -/
theorem everyStepPublishesTheStateWord : Obligations.EveryStepPublishesTheStateWord := by
  intro s t stepped
  obtain ⟨h, settles⟩ := step_settles s
  obtain rfl : _ = t := Host.Outcome.next.inj (settles.symm.trans stepped)
  exact ⟨settle_word h, settle_ball h⟩

/-- A run goes on from the state that its first step answers. -/
theorem run_succ_of_step (M : Host.Core) {s t : M.State} (n : Nat) (e : M.step s = .next t) : M.run (n + 1) s = M.run n t := by
  simp only [Host.Core.run, e]

/-- Each step of a run takes one command, so as many steps as the queue is long leave it empty. -/
theorem run_empties (n : Nat) (s : State) (short : s.pending.length ≤ n) : ∃ t : State, Sys2Proof.core.run n s = .next t ∧ t.pending = [] := by
  induction n generalizing s with
  | zero => exact ⟨s, rfl, List.length_eq_zero_iff.1 (Nat.le_zero.1 short)⟩
  | succ n ih =>
    obtain ⟨h, settles⟩ := step_settles s
    rw [run_succ_of_step Sys2Proof.core n settles]
    exact ih _ (by rw [List.length_tail]; omega)

/-- Settles O3: what a step leaves of the queue, and by induction what a run leaves of it. -/
theorem theQueueIsWorkedOff : Obligations.TheQueueIsWorkedOff := by
  refine ⟨fun s => ?_, run_empties⟩
  obtain ⟨h, settles⟩ := step_settles s
  exact ⟨_, settles, rfl⟩

/-! ### What carries a reply -/

/-- `h` with what carries replies taken from `g`: the published word and its sequence, INT_STATUS, RSP_PROD, the replies that wait, and
what has left the module. -/
def repliesOf (g h : Hw) : Hw :=
  { h with
    cmd := { h.cmd with word := g.cmd.word, wordSeq := g.cmd.wordSeq, intStatus := g.cmd.intStatus,
                        rspRing := { h.cmd.rspRing with prod := g.cmd.rspRing.prod }, waiting := g.cmd.waiting }
    out := g.out }

/-- `g` differs from `h` in what carries replies alone. -/
def OnlyReplies (h g : Hw) : Prop := g = repliesOf g h

theorem OnlyReplies.trans {h g k : Hw} (a : OnlyReplies h g) (b : OnlyReplies g k) : OnlyReplies h k :=
  calc k = repliesOf k g := b
    _ = repliesOf k (repliesOf g h) := congrArg (repliesOf k) a
    _ = repliesOf k h := rfl

theorem onlyReplies_setIrq (i : Nat) (h : Hw) : OnlyReplies h (setIrq i h) := by
  unfold setIrq; dsimp only; split <;> rfl

theorem onlyReplies_publish (h : Hw) : OnlyReplies h (publish h) := by
  unfold publish
  split
  · rfl
  · have shown : OnlyReplies h { h with cmd := { h.cmd with word := stateWord h, wordSeq := (h.cmd.wordSeq + 1) % 2 ^ 32 } } := rfl
    exact shown.trans (onlyReplies_setIrq _ _)

theorem onlyReplies_postRsp (r : Reply) (h : Hw) : OnlyReplies h (postRsp r h) := by
  have written : OnlyReplies h { h with
    cmd := { h.cmd with rspRing := { h.cmd.rspRing with prod := (h.cmd.rspRing.prod + 1) % 2 ^ 32 } }
    out := .reply .pcie (some (h.cmd.rspRing.prod % ringSlots h.cmd.rspRing)) r :: h.out } := rfl
  exact written.trans (onlyReplies_setIrq _ _)

theorem onlyReplies_sendReply (via : Transport) (r : Reply) (h : Hw) : OnlyReplies h (sendReply via r h) := by
  cases via with
  | pcie =>
    simp only [sendReply]
    split
    · exact onlyReplies_postRsp r h
    · rfl
  | _ => rfl

theorem onlyReplies_answer (c : Call) (mask st rc : Nat) (pay : List Byte) (h : Hw) : OnlyReplies h (answer c mask st rc pay h) :=
  (onlyReplies_publish h).trans (onlyReplies_sendReply _ _ _)

/-! ### What settles a step -/

/-- `h` with what settling touches taken from `g`: the published word and its sequence, INT_STATUS, the ball SQW_TRIGOUT3, the switch,
the free values and what has left the module. -/
def settledOf (g h : Hw) : Hw :=
  { h with
    cmd := { h.cmd with word := g.cmd.word, wordSeq := g.cmd.wordSeq, intStatus := g.cmd.intStatus }
    rtc := { h.rtc with sqwOwner := g.rtc.sqwOwner, sqwLowUntil := g.rtc.sqwLowUntil, sqwBall := g.rtc.sqwBall }
    net := g.net, free := g.free, out := g.out }

/-- `g` differs from `h` in what settling touches alone. -/
def OnlySettled (h g : Hw) : Prop := g = settledOf g h

theorem OnlySettled.trans {h g k : Hw} (a : OnlySettled h g) (b : OnlySettled g k) : OnlySettled h k :=
  calc k = settledOf k g := b
    _ = settledOf k (settledOf g h) := congrArg (settledOf k) a
    _ = settledOf k h := rfl

/-- Frames that go to the switch leave every other unit as it is. -/
theorem onlySettled_carry (h : Hw) : OnlySettled h (carry h) := by
  have frame := carry_frame h
  revert frame
  unfold OnlySettled settledOf
  generalize carry h = g
  cases g
  simp only [Hw.mk.injEq]
  intro frame
  simp only [frame, and_self]

theorem onlySettled_settleSqw (h : Hw) : OnlySettled h (settleSqw h) := by
  unfold settleSqw driveTrigOut3 settleOwner
  dsimp only
  split <;> split <;> rfl

theorem onlySettled_publish (h : Hw) : OnlySettled h (publish h) := by
  unfold publish setIrq
  split
  · rfl
  · dsimp only; split <;> rfl

/-- Settles O6: a reply is published and sent, a settling carries frames, settles the ball and publishes; each part leaves the rest. -/
theorem repliesAndSettlingFrame : Obligations.RepliesAndSettlingFrame :=
  ⟨onlyReplies_answer, fun h => (onlySettled_carry h).trans ((onlySettled_settleSqw _).trans (onlySettled_publish _))⟩

/-- Settles O7: a command that the gate refuses only answers, and an answer touches what carries replies alone. -/
theorem gateRefusalsHaveNoEffect : Obligations.GateRefusalsHaveNoEffect := by
  intro m c p h st rc e
  have refused : runCmd m c p h = answer c m.row.mask st rc [] h := runCmd_gate e
  exact ⟨refused, refused ▸ onlyReplies_answer c m.row.mask st rc [] h⟩

end Sys2Proof.Machine
end

section
/-! A packet on its way to its command: authentication, sequence and authority (R467, R469, R470, R473, R474, R477), and the end of
connections and sessions (R361, R473, R476). -/
namespace Sys2Proof.Machine

variable {via : Transport} {x : Packet} {a : Authority} {h : Hw} {st rc : Nat}

/-! ### TLS connections and idle sessions (R361, R473, R476) -/

/-- A connection on port 11, or on a pair 4 that the Bloom opens to TLS, is accepted while fewer than 8 are open. -/
theorem tlsOpen_of_room {n : Nat} {on11 : Bool} (live : transportsLive h = true)
    (allowed : on11 = true ∨ ∃ b, h.cfg.bloom = some b ∧ b.net.tlsPair4 = true) (room : h.cmd.tls.length < 8) (new : ∀ t ∈ h.cmd.tls, t.number ≠ n) :
    tlsOpen n on11 h = { h with cmd := { h.cmd with tls := h.cmd.tls ++ [{ number := n, onPort11 := on11 }] } } := by
  have open4 : (on11 || (h.cfg.bloom.map (fun b => b.net.tlsPair4)).getD false) = true := by
    obtain rfl | ⟨b, bloom, pair4⟩ := allowed
    · rfl
    · simp [bloom, pair4]
  have unused : h.cmd.tls.any (fun t => t.number == n) = false := by simpa using new
  unfold tlsOpen
  dsimp only
  rw [if_pos]
  simp only [live, open4, room, unused, decide_true, Bool.not_false, Bool.and_self]

/-- Settles O15: the close and the idle timeout keep the sessions that their filters name. -/
theorem connectionsAndSessionsEnd : Obligations.ConnectionsAndSessionsEnd := by
  refine ⟨fun n on11 s live allowed room new => runs_lift rfl (tlsOpen_of_room live allowed room new), fun n s => runs_lift rfl rfl,
    fun n s => runs_lift rfl (congrArg (fun l => { s.hw with cmd := { s.hw.cmd with sessions := l } }) (List.filter_congr fun v _ => ?_))⟩
  exact (Bool.not_and _ _).symm

/-! ### Step 2: authentication (R467, R469, R470, R473, R477) -/

/-- What authentication on the pairing link can give: the partner's authority at READ, for a packet that verifies. -/
theorem authPairing_ok (e : authPairing x h = .ok a) : x.verifies = true ∧ a.privilege = 0 ∧ a.scope = none ∧ a.seq = .partner := by
  unfold authPairing at e
  split at e
  · cases e
  · split at e
    · cases e
    · split at e
      next => cases e
      next sound =>
        cases e
        exact ⟨by simpa using fun k => sound (.inr (.inl k)), rfl, rfl, rfl⟩

/-- What a signature can give: the privilege and scope of the principal that signed. -/
theorem authSigned_ok (e : authSigned x h = .ok a) : x.verifies = true ∧
    ∃ who, principal a.principal h = some who ∧ a.privilege = who.privilege ∧ a.scope = who.scope ∧ a.principal = x.signer ∧ a.seq = .signed x.signer := by
  unfold authSigned at e
  extract_lets isOpen n at e
  split at e
  next => split at e <;> cases e
  next who known =>
    split at e
    next => cases e
    next sound =>
      rw [not_or, not_not] at sound
      cases e
      exact ⟨by simpa using sound.1, who, known, rfl, rfl, sound.2.symm, congrArg SeqOf.signed sound.2.symm⟩

/-- What a session can give: the privilege and scope of a live session on the same transport. -/
theorem authSession_ok (e : authSession via x h = .ok a) : x.verifies = true ∧
    ∃ v, v ∈ h.cmd.sessions ∧ v.number = x.hdr.session ∧ v.via = via ∧ idleOut v h = false
      ∧ a.principal = v.principal ∧ a.privilege = v.privilege ∧ a.scope = v.scope ∧ a.seq = .session v.number := by
  unfold authSession at e
  split at e
  next => cases e
  next v found =>
    have member : v ∈ h.cmd.sessions ∧ idleOut v h = false := by
      simpa [liveSessions] using List.mem_of_find?_eq_some found
    have number : v.number = x.hdr.session := by simpa using List.find?_some found
    split at e
    next => cases e
    next transport =>
      split at e
      next => cases e
      next =>
        split at e
        next => cases e
        next sound =>
          cases e
          exact ⟨by simpa using fun k => sound (.inl k), v, member.1, number, not_not.1 transport, member.2, rfl, rfl, rfl, rfl⟩

/-- Without AUTH only MOD.IDENTIFY passes, with no authority. -/
theorem step2_ok_of_no_auth (plain : bit x.hdr.flags 1 = false) (e : step2 via x h = .ok a) :
    x.hdr.opcode = 0x0101 ∧ a.privilege = 0 ∧ a.seq = .none := by
  rw [step2, if_pos plain] at e
  split at e
  next identify => cases e; exact ⟨identify, rfl, rfl⟩
  next => cases e

/-- With AUTH the transport and the session number say how a packet is authenticated. -/
theorem step2_of_auth (auth : bit x.hdr.flags 1 = true) :
    step2 via x h = if via = .pairing then authPairing x h else if x.hdr.session = 0 then authSigned x h else authSession via x h :=
  if_neg (by rw [auth]; decide)

/-- Settles O10: without AUTH there is no authority, and with it each of the three authentications says what it gives. -/
theorem authorityComesFromAuthentication : Obligations.AuthorityComesFromAuthentication := by
  intro via x h a e
  refine ⟨fun plain => step2_ok_of_no_auth plain e, fun auth => ?_⟩
  rw [step2_of_auth auth] at e
  split at e
  next link =>
    obtain ⟨verifies, authority⟩ := authPairing_ok e
    exact ⟨verifies, fun _ => authority, fun other => absurd link other, fun other => absurd link other⟩
  next other =>
    split at e
    next signed =>
      obtain ⟨verifies, authority⟩ := authSigned_ok e
      exact ⟨verifies, fun link => absurd link other, fun _ _ => authority, fun _ session => absurd signed session⟩
    next session =>
      obtain ⟨verifies, authority⟩ := authSession_ok e
      exact ⟨verifies, fun link => absurd link other, fun _ signed => absurd signed session, fun _ _ => authority⟩

/-! ### Step 3: the sequence (R474) -/

/-- The rule of R474 for a signed packet or one of the partner: later than the last one and, but in time class 7, within 30 s of
station time modulo 2^32 s (log 44). -/
def PassesSigned (last : Option Nat) (seq : Nat) (h : Hw) : Prop :=
  (∀ l, last = some l → l < seq) ∧ (timeClass h = 7 ∨ ∃ k : Int, ((seq : Int) * 2 ^ 32 + k * 2 ^ 96 - (h.time.now : Int)).natAbs ≤ 30 * 2 ^ 64)

/-- A sequence is later than the last one, where there is one. -/
theorem later_iff (last : Option Nat) (seq : Nat) : last.elim true (fun l => decide (l < seq)) = true ↔ ∀ l, last = some l → l < seq := by
  cases last <;> simp

/-- The distance of two times on a circle of 2^96 is at most 30 s when some number of turns brings them that near. -/
theorem near_iff (seq now : Nat) :
    ((seq * 2 ^ 32 + 2 ^ 96 - now % 2 ^ 96) % 2 ^ 96 ≤ 30 * 2 ^ 64 ∨ 2 ^ 96 - (seq * 2 ^ 32 + 2 ^ 96 - now % 2 ^ 96) % 2 ^ 96 ≤ 30 * 2 ^ 64)
      ↔ ∃ k : Int, ((seq : Int) * 2 ^ 32 + k * 2 ^ 96 - (now : Int)).natAbs ≤ 30 * 2 ^ 64 := by
  constructor
  · rintro (ahead | behind)
    · exact ⟨1 + (now / 2 ^ 96 : Nat) - ((seq * 2 ^ 32 + 2 ^ 96 - now % 2 ^ 96) / 2 ^ 96 : Nat), by omega⟩
    · exact ⟨(now / 2 ^ 96 : Nat) - ((seq * 2 ^ 32 + 2 ^ 96 - now % 2 ^ 96) / 2 ^ 96 : Nat), by omega⟩
  · rintro ⟨k, near⟩
    omega

theorem signedRule_iff (last : Option Nat) (seq : Nat) (h : Hw) : signedRule last seq h = true ↔ PassesSigned last seq h := by
  unfold signedRule PassesSigned secUnit
  rw [Bool.and_eq_true, Bool.or_eq_true, Bool.or_eq_true, later_iff, beq_iff_eq, decide_eq_true_iff, decide_eq_true_iff, or_assoc, near_iff]

/-- A sequence that is not later than the last one does not pass, whatever the time. -/
theorem signedRule_of_spent {seq low : Nat} (spent : low ≤ seq) (h : Hw) : signedRule (some seq) low h = false := by
  simp [signedRule, Nat.not_lt.2 spent]

/-- A session passes a sequence when it is later than the last one of every entry of its number. -/
theorem seqOk_session_iff (n seq : Nat) (h : Hw) :
    seqOk (.session n) seq h = true ↔ ∀ v ∈ h.cmd.sessions, v.number = n → ∀ l, v.last = some l → l < seq := by
  simp only [seqOk, List.all_eq_true, Bool.or_eq_true, bne_iff_ne, ne_eq, later_iff, imp_iff_not_or]

/-- After a packet of a session, the session's entries hold its sequence, and those of others what they held. -/
theorem mem_sessions_seqTake (n seq : Nat) (h : Hw) {v : Session} (member : v ∈ (seqTake (.session n) seq h).cmd.sessions) :
    ∃ w, w ∈ h.cmd.sessions ∧ v.number = w.number ∧ v.last = if w.number = n then some seq else w.last := by
  obtain ⟨w, old, rfl⟩ := List.mem_map.1 member
  refine ⟨w, old, ?_⟩
  split <;> exact ⟨rfl, rfl⟩

/-- After a packet of a session, no packet of it with the same or a lower sequence passes. -/
theorem seqOk_session_of_spent {n seq low : Nat} (spent : low ≤ seq) (known : h.cmd.sessions.any (fun v => v.number == n) = true) (t : TimeState) :
    seqOk (.session n) low { seqTake (.session n) seq h with time := t } = false := by
  obtain ⟨v, member, number⟩ := List.any_eq_true.1 known
  have number : v.number = n := by simpa using number
  have taken : { v with last := some seq, usedAt := h.time.mono } ∈ (seqTake (.session n) seq h).cmd.sessions :=
    List.mem_map.2 ⟨v, member, if_pos number⟩
  rw [Bool.eq_false_iff, Ne, seqOk_session_iff]
  exact fun pass => Nat.not_lt.2 spent (pass _ taken number seq rfl)

/-- Settles O11: the rule of each kind of sequence, and that a sequence taken is the last one from then on. -/
theorem sequencesAreSpentOnce : Obligations.SequencesAreSpentOnce := by
  refine ⟨?rule, rfl, rfl, fun _ => rfl, ?take, ?session, ?signed, ?partner⟩
  case rule => exact fun n seq h => ⟨seqOk_session_iff n seq h, signedRule_iff _ _ _, signedRule_iff _ _ _⟩
  case take =>
    refine fun n seq h => ⟨fun v => mem_sessions_seqTake n seq h, fun m => ?_, rfl⟩
    split
    next same => subst same; exact tfind_tset_self _ _ _
    next other => exact tfind_tset_ne _ _ _ _ other
  case session => exact fun n seq low h now spent known => seqOk_session_of_spent spent known _
  case signed =>
    intro n seq low h now spent
    have last : tfind (seqTake (.signed n) seq h).cmd.lastSigned n = some seq := tfind_tset_self _ _ _
    exact (congrArg (fun l => signedRule l low _) last).trans (signedRule_of_spent spent _)
  case partner => exact fun seq low h now spent => signedRule_of_spent spent _

/-! ### The order of the steps (R469, R470, R477) -/

theorem packetRx_of_step1 (first : step1 via x h = some (st, rc)) : packetRx via x h = rejectPacket via x st rc h := by
  simp only [packetRx, first]

/-- While slot 4 holds a CVK, step 2 follows step 1. -/
theorem packetRx_of_step2_error (owned : (keySlot 4 h).state ≠ 0) (first : step1 via x h = none) (second : step2 via x h = .error (st, rc)) :
    packetRx via x h = rejectPacket via x st rc h := by
  simp only [packetRx, first, owned, if_false, second]

theorem packetRx_of_replay (owned : (keySlot 4 h).state ≠ 0) (first : step1 via x h = none) (second : step2 via x h = .ok a)
    (third : seqOk a.seq x.hdr.sequence h = false) :
    packetRx via x h = answer { hdr := x.hdr, via := via, key := a.key } 0 stReplay rcModReplay [] h := by
  simp only [packetRx, first, owned, if_false, second, third, Bool.false_eq_true]

/-- A packet that passes steps 1 to 3 takes its sequence and is executed with its authority. -/
theorem packetRx_of_passes (owned : (keySlot 4 h).state ≠ 0) (first : step1 via x h = none) (second : step2 via x h = .ok a)
    (third : seqOk a.seq x.hdr.sequence h = true) : packetRx via x h = execute via x a (seqTake a.seq x.hdr.sequence h) := by
  simp only [packetRx, first, owned, if_false, second, third, if_true]

/-- The call that a packet makes with the authority it carries. -/
def callOf (via : Transport) (x : Packet) (a : Authority) : Call :=
  { hdr := x.hdr, via := via, principal := a.principal, privilege := a.privilege, scope := a.scope, key := a.key, crypto := x.crypto }

theorem execute_of_known {m : Cmd} (known : cmdOf x.hdr.opcode = some m) :
    execute via x a h = bootIfDue (runCmd m (callOf via x a) x.params h) := by
  simp only [execute, known]
  rfl

theorem execute_of_unknown (unknown : cmdOf x.hdr.opcode = none) :
    execute via x a h = answer (callOf via x a) 0 stUnknownOpcode rcModOpcode [] h := by
  simp only [execute, unknown]
  rfl

theorem runsAll_commandPacketRx {s : State} {g : Hw} (live : delivers via s.hw = true) (e : packetRx via x s.hw = g) :
    RunsAll (.commandPacketRx via x) s g :=
  runsAll_lift (f := fun h => onlyIf (delivers via h) (packetRx via x) h) rfl ((onlyIf_of_true live).trans e)

/-- Settles O9: the first step that fails decides, and a packet that fails none runs its command; the pairing link is a transport
like the others. -/
theorem packetsRunInTheOrderOfTheirChecks : Obligations.PacketsRunInTheOrderOfTheirChecks := by
  refine ⟨fun via x s live owned => ⟨?step1, ?step2, ?replay, ?pass⟩, fun x s _ => rfl, ?partner⟩
  case step1 => exact fun st rc first => runsAll_commandPacketRx live (packetRx_of_step1 first)
  case step2 => exact fun st rc first second => runsAll_commandPacketRx live (packetRx_of_step2_error owned first second)
  case replay => exact fun a first second third => runsAll_commandPacketRx live (packetRx_of_replay owned first second third)
  case pass =>
    intro a first second third
    have passes := packetRx_of_passes owned first second third
    exact ⟨fun m known => runsAll_commandPacketRx live (passes.trans (execute_of_known known)),
      fun unknown => runsAll_commandPacketRx live (passes.trans (execute_of_unknown unknown))⟩
  case partner =>
    intro x s m key live owned first second third known
    exact runsAll_lift (f := fun h => onlyIf (delivers .pairing h) (packetRx .pairing x) h) rfl ((onlyIf_of_true live).trans ((packetRx_of_passes owned first second third).trans (execute_of_known known)))

end Sys2Proof.Machine
end

section
/-! The module right after reset, and BAR0: doorbells, rings, interrupts and registers (R475, R479, R493, R494, R495, R496, R554). -/
namespace Sys2Proof.Machine

variable {h : Hw} {v : Word64}

/-! ### Reset -/

/-- Settles O5: the slots of the key store but 0 to 3 are not listed at reset. -/
theorem resetLeavesTheModuleInBoot : Obligations.ResetLeavesTheModuleInBoot := by
  refine ⟨rfl, rfl, rfl, rfl, rfl, rfl, rfl, ⟨rfl, rfl, rfl, rfl, rfl, rfl⟩, ⟨rfl, rfl, rfl, rfl, rfl, rfl⟩, rfl, rfl, rfl, rfl, rfl, rfl, fun n => ?_,
    rfl, rfl⟩
  match n with
  | 0 | 1 | 2 | 3 => rfl
  | n + 4 => simp [keySlot, tget, State.reset]

/-! ### Which registers answer (R479, R493) -/

/-- Where BAR0 takes writes the module has its supply, and is not in HALTED. -/
theorem bar0Live_iff : bar0Live h = true ↔ offline h = false ∧ h.mode ≠ .halted := by
  simp [bar0Live]

/-- In HALTED the module has its supply. -/
theorem offline_of_halted (halted : h.mode = .halted) : offline h = false := by
  unfold offline; rw [halted]; rfl

/-! ### Doorbells and rings (R475, R495) -/

theorem cmdDoorbell_of_live (prod : Nat) (l : List (Option Packet)) (live : bar0Live h = true) :
    cmdDoorbell prod l false h = takeCommands { fillSlots h.cmd.cmdRing.prod l h with
      cmd := { (fillSlots h.cmd.cmdRing.prod l h).cmd with
        cmdRing := { (fillSlots h.cmd.cmdRing.prod l h).cmd.cmdRing with prod := prod % 2 ^ 32 } } } := by
  simp only [cmdDoorbell, live, Bool.false_and, Bool.false_eq_true, Bool.true_eq_false, if_false]

theorem rspDoorbell_of_live (cons : Nat) (live : bar0Live h = true) :
    rspDoorbell cons h = runRings { h with cmd := { h.cmd with rspRing := { h.cmd.rspRing with cons := cons % 2 ^ 32 } } } :=
  if_neg (by rw [live]; decide)

/-- A configuration in range that raises ENABLE zeroes the indices and lets the rings go on. -/
theorem ringCfg_rsp_of_enabled (live : bar0Live h = true) (off : h.cmd.rspRing.enable = false) (least : 2 ≤ v.toNat % 16) (most : v.toNat % 16 ≤ 10)
    (shift : v.toNat / 256 % 16 ≤ 6) (on : v.getLsbD 63 = true) :
    ringCfg true v h = runRings { h with cmd := { h.cmd with
      rspRing := { h.cmd.rspRing with log2Slots := v.toNat % 16, slotShift := v.toNat / 256 % 16, enable := true, prod := 0, cons := 0 } } } := by
  simp [ringCfg, ringAfter, ringOk, live, off, on, least, most, shift]

/-- A ring that is enabled keeps its configuration. -/
theorem ringCfg_of_enabled {rsp : Bool} (on : (if rsp then h.cmd.rspRing else h.cmd.cmdRing).enable = true) : ringCfg rsp v h = h :=
  if_pos (.inr on)

/-! ### Interrupts and the other registers (R493, R496, R554) -/

theorem intStatusWrite_of_live (live : bar0Live h = true) :
    intStatusWrite v h = { h with cmd := { h.cmd with intStatus := h.cmd.intStatus &&& ~~~(v &&& 0x1F#64) } } := if_pos live

/-- MSI-X vector 0 rises when the new enables let a status bit through where none was. -/
theorem intEnableWrite_of_live (live : bar0Live h = true) :
    intEnableWrite v h = if h.cmd.intStatus &&& h.cmd.intEnable = 0#64 ∧ h.cmd.intStatus &&& (v &&& 0x1F#64) ≠ 0#64
      then { h with cmd := { h.cmd with intEnable := v &&& 0x1F#64 }, out := .msix :: h.out }
      else { h with cmd := { h.cmd with intEnable := v &&& 0x1F#64 } } :=
  if_neg (by rw [live]; decide)

theorem registerWrite_cursor (live : bar0Live h = true) : registerWrite 0x0200 v h = { h with evr := { h.evr with cursor := v } } :=
  if_neg (by rw [live]; decide)

theorem registerWrite_cmdRingBase (live : bar0Live h = true) (off : h.cmd.cmdRing.enable = false) :
    registerWrite 0x0020 v h = { h with cmd := { h.cmd with cmdRing := { h.cmd.cmdRing with base := v.toNat / 4096 } } } := by
  have write : registerWrite 0x0020 v h = ringBase false v h := if_neg (by rw [live]; decide)
  rw [write]
  exact if_neg (Bool.eq_false_iff.1 off)

/-- A read-only or reserved offset ignores the write. -/
theorem registerWrite_of_ignored {offset : Nat} (live : bar0Live h = true)
    (ignored : offset ∉ [0x0010, 0x0018, 0x0020, 0x0028, 0x0030, 0x0038, 0x0100, 0x0108, 0x0200]) : registerWrite offset v h = h := by
  unfold registerWrite
  rw [if_neg (by rw [live]; decide)]
  split
  case h_10 => rfl
  all_goals exact absurd (by decide) ignored

/-! ### Reads (R479, R493, R494, R495, R496, R554) -/

/-- Between EVR_CURSOR and the window of the recorder every register reads zero. -/
theorem registerRead_of_reserved {offset : Nat} (live : bar0Live h = true) (aligned : offset % 8 = 0) (above : 0x0200 < offset)
    (below : offset < 0x1000) : registerRead offset h = some 0 := by
  obtain ⟨on, running⟩ := bar0Live_iff.1 live
  unfold registerRead
  dsimp only
  rw [if_neg (by simp only [on, running, Bool.false_eq_true, false_and, false_or, or_false]; omega)]
  split
  case h_12 => rw [if_neg (by omega)]
  all_goals omega

/-- In HALTED the registers at 0 and 8 alone are readable. -/
theorem registerRead_isSome_of_halted (offset : Nat) (halted : h.mode = .halted) : (registerRead offset h).isSome = true ↔ offset = 0 ∨ offset = 8 := by
  unfold registerRead
  dsimp only
  split
  next silent =>
    simp only [offline_of_halted halted, halted, Bool.false_eq_true, true_and, false_or] at silent
    simp only [Option.isSome_none, Bool.false_eq_true, false_iff]
    omega
  next answers =>
    simp only [offline_of_halted halted, halted, Bool.false_eq_true, true_and, false_or] at answers
    simp only [Option.isSome_some, true_iff]
    omega

/-- Settles O14: each register's write and read is the case of its offset. -/
theorem bar0WritesComplete : Obligations.Bar0WritesComplete := by
  refine ⟨?cmdDoorbell, ?rspDoorbell, ?rspCfg, ?enabled, ?intStatus, ?intEnable, ?cursor, ?base, ?ignored, ?read, ?halted⟩
  case cmdDoorbell => exact fun prod l s live => runsAll_lift rfl (cmdDoorbell_of_live prod l live)
  case rspDoorbell => exact fun cons s live => runsAll_lift rfl (rspDoorbell_of_live cons live)
  case rspCfg =>
    exact fun v s live off least most shift on => runsAll_lift rfl (ringCfg_rsp_of_enabled live off least most shift on)
  case enabled => exact fun rsp v s on => runsAll_lift rfl (ringCfg_of_enabled on)
  case intStatus => exact fun v s live => runs_lift rfl (intStatusWrite_of_live live)
  case intEnable => exact fun v s live => runs_lift rfl (intEnableWrite_of_live live)
  case cursor => exact fun v s live => runsAll_lift rfl (registerWrite_cursor live)
  case base => exact fun v s live off => runsAll_lift rfl (registerWrite_cmdRingBase live off)
  case ignored => exact fun offset v s live ignored => runsAll_lift rfl (registerWrite_of_ignored live ignored)
  case read =>
    intro h live
    obtain ⟨on, running⟩ := bar0Live_iff.1 live
    refine ⟨?_, ?_, ?_, ?_, ?_, ?_, ?_, fun offset aligned above below => registerRead_of_reserved live aligned above below⟩ <;>
      simp [registerRead, on, running]
  case halted => exact fun h offset halted => registerRead_isSome_of_halted offset halted

end Sys2Proof.Machine
end

section
/-! The rows of the command catalogue (R506). -/
namespace Sys2Proof.Machine

/-- An opcode is unknown when no row has it. -/
theorem cmdOf_eq_none_iff (op : Nat) : cmdOf op = none ↔ op ∉ allCmds.map (fun m => m.row.opcode) := by
  simp [cmdOf, List.find?_eq_none]

/-- The group bytes of the catalogue are 0x01 to 0x14. -/
theorem group_of_mem_catalogue : ∀ op ∈ allCmds.map (fun m => m.row.opcode), op / 256 ≠ 0 ∧ op / 256 < 0x15 := by decide +kernel

/-- Settles O17: the rows are those of the tables, and what no row has is unknown. -/
theorem catalogueRows : Obligations.CatalogueRows := by
  refine ⟨rfl, rfl, cmdOf_eq_none_iff, fun op group => (cmdOf_eq_none_iff op).2 fun listed => ?_, fun via x a h => execute_of_unknown⟩
  obtain ⟨least, most⟩ := group_of_mem_catalogue op listed
  omega

end Sys2Proof.Machine
end

section
/-! Where the CFG commands complete (R483, R486, R487, R490), and the events of a load and of a swap (R483, R488, R489, R499, R517). -/
namespace Sys2Proof.Machine

variable {p : List Byte} {h : Hw} {b : Image} {w : Swap}

/-! ### CFG commands -/

/-- The fields of a fragment that belongs to a load of its total (R483). -/
theorem fragmentOk_of_fields {most total fragment fragments length : Nat} (least : 1 ≤ total) (limit : total ≤ most)
    (count : fragments = (total + 65535) / 65536) (lt : fragment < fragments)
    (size : length = if fragment + 1 < fragments then 65536 else total - fragment * 65536) : fragmentOk most total fragment fragments length = true := by
  simp only [fragmentOk, least, limit, lt, ← count, ← size, decide_true, beq_self_eq_true, Bool.and_self]

/-- The load that its first fragment starts. -/
def firstFragment (p : List Byte) : BudLoad := { total := u32 p 0, fragments := u16 p 6, received := [(u16 p 4, slice p 16 (u32 p 8))] }

/-- The first fragment of a load makes the Bud invalid; one that completes its load goes to the check. -/
theorem cfgLoad_of_first (free : h.cfg.swap = none) (new : h.cfg.load = none) (sound : fragmentOk 268435456 (u32 p 0) (u16 p 4) (u16 p 6) (u32 p 8) = true) :
    cfgLoad p h = if 1 < u16 p 6
      then .ok { h with cfg := { h.cfg with bud := none, load := some (firstFragment p) } } (zeros 16)
      else .accepted { h with cfg := { h.cfg with bud := none, load := some { firstFragment p with checking := true } } } .load := by
  simp [cfgLoad, free, new, sound, firstFragment, tset]

/-- The instant lies where R487 allows a swap: 0 in IDLE, else 10 ms to a day ahead. -/
theorem cfgSwap_of_allowed (bud : h.cfg.bud = some b) (free : h.cfg.swap = none) (idle : h.mode = .idle → u64 p 0 = 0)
    (ahead : h.mode ≠ .idle → (100 * h.time.now + 2 ^ 64) * fGrid h ≤ u64 p 0 * 100 * 2 ^ 64 ∧ u64 p 0 * 2 ^ 64 ≤ (h.time.now + 86400 * 2 ^ 64) * fGrid h)
    (onGrid : u64 p 0 * gridHz b.grid % fGrid h = 0) (sound : checkSwap b h = none) :
    cfgSwap p h = .accepted { h with cfg := { h.cfg with swap := some { ks := u64 p 0 } } } .swap := by
  have allowed : ¬(if h.mode = .idle then u64 p 0 ≠ 0
      else u64 p 0 * 100 * 2 ^ 64 < (100 * h.time.now + 2 ^ 64) * fGrid h ∨ (h.time.now + 86400 * 2 ^ 64) * fGrid h < u64 p 0 * 2 ^ 64) := by
    split
    next resting => exact not_not_intro (idle resting)
    next other => exact not_or.2 ⟨Nat.not_lt.2 (ahead other).1, Nat.not_lt.2 (ahead other).2⟩
  unfold cfgSwap
  rw [bud, free]
  dsimp only
  rw [Option.isSome_none, if_neg Bool.false_ne_true, if_neg allowed, if_neg (not_not_intro onGrid), sound]

theorem cfgSwapCancel_of_pending (pending : h.cfg.swap = some w) (open_ : w.committed = false) :
    cfgSwapCancel h = done (abortSwap rcCfgSwapCancelled 0xFF 0xFF 0 h) := by
  simp only [cfgSwapCancel, pending, open_, Bool.false_eq_true, if_false]

/-- A function of the Bloom is disabled, or enabled where the Bloom with it enabled passes the check. -/
theorem cfgFnEnable_of_sound {f : FnConfig} (bloom : h.cfg.bloom = some b) (found : b.fns.find? (fun f => f.slice == u16 p 0 && f.index == u16 p 2) = some f)
    (sound : u8 p 4 = 0 ∨ (u8 p 4 = 1 ∧ checkImage { b with fns := b.fns.map (fun x => if x = f then { x with enabled := true } else x) } h = none)) :
    cfgFnEnable p h = .ok { h with cfg := { h.cfg with
      enables := tset h.cfg.enables (u16 p 0 * 65536 + u16 p 2)
        ((h.ing.nextOpen, h.cfg.bloomSeq, u8 p 4 == 1) :: tget h.cfg.enables (u16 p 0 * 65536 + u16 p 2) []) } } (zeros 16) := by
  simp only [cfgFnEnable, bloom, Option.bind_some, found, Option.map_some]
  obtain off | ⟨on, passes⟩ := sound
  · simp [off]
  · simp [on, passes]

theorem cfgCheck_of_sound (bud : h.cfg.bud = some b) (sound : checkSwap b h = none) : cfgCheck h = .ok h (zeros 16) := by
  simp only [cfgCheck, bud, sound]

/-- Settles O13: every clause is the equation of its command's own chapter, under the reply of its result. -/
theorem cfgCommandsComplete : Obligations.CfgCommandsComplete := by
  refine ⟨fun c p s q => runs_ok rfl q rfl, ?load, ?swap, ?cancel, ?enable, ?check⟩
  case load =>
    intro c p s q free new least limit count lt size
    have first := cfgLoad_of_first free new (fragmentOk_of_fields least limit count lt size)
    exact ⟨fun more => runs_ok rfl q (first.trans (if_pos more)), fun whole => runs_accepted rfl q (first.trans (if_neg (by omega)))⟩
  case swap =>
    exact fun c p s b q bud free idle ahead onGrid sound => runs_accepted rfl q (cfgSwap_of_allowed bud free idle ahead onGrid sound)
  case cancel => exact fun c p s w q pending open_ => runs_ok rfl q (cfgSwapCancel_of_pending pending open_)
  case enable => exact fun c p s b f q bloom found sound => runs_ok rfl q (cfgFnEnable_of_sound bloom found sound)
  case check => exact fun c p s b q bud sound => runs_ok rfl q (cfgCheck_of_sound bud sound)

/-! ### The end of a load (R483, R499) -/

/-- A load that waits for its check ends with it. -/
theorem loadChecked_of_unsigned {l : BudLoad} (loaded : h.cfg.load = some l) (checking : l.checking = true) :
    loadChecked b false h = complete .load stAuthFailed rcCfgSignature []
      (evr 0x0212 0x0000 (le 2 stAuthFailed ++ le 2 rcCfgSignature ++ zeros 16) { h with cfg := { h.cfg with load := none } }) := by
  simp only [loadChecked, loaded, checking, Bool.true_eq_false, if_false, if_true]

theorem loadChecked_of_sound {l : BudLoad} (loaded : h.cfg.load = some l) (checking : l.checking = true)
    (sound : checkImage (withHeader (loadBytes l) b) { h with cfg := { h.cfg with load := none } } = none) :
    loadChecked b true h = complete .load stOk 0 (zeros 16) (evr 0x0212 0x0000 (le 2 0 ++ le 2 0 ++ (withHeader (loadBytes l) b).fingerprint)
      { h with cfg := { h.cfg with load := none, bud := some (withHeader (loadBytes l) b) } }) := by
  simp only [loadChecked, loaded, checking, Bool.true_eq_false, if_false, sound]

/-! ### Votes and change-over (R488, R489) -/

/-- A region's vote counts: it is populated, and has not voted on a swap still open. -/
structure VoteCounts (region : Nat) (w : Swap) (h : Hw) : Prop where
  pending : h.cfg.swap = some w
  isOpen : w.committed = false
  populated : region ∈ populated h
  first : region ∉ w.votes

/-- Nothing of the swap stands against a vote that counts. -/
theorem VoteCounts.stands {region : Nat} (counts : VoteCounts region w h) :
    ¬(w.committed = true ∨ (Machine.populated h).contains region = false ∨ w.votes.contains region = true) := by
  obtain ⟨-, isOpen, isRegion, first⟩ := counts
  simp [isOpen, isRegion, first]

/-- Before the deadline, with nothing for the hub's check to refuse, the vote itself decides. -/
theorem swapVote_of_timely {region block reason : Nat} {ready : Bool} (counts : VoteCounts region w h)
    (timely : h.mode = .idle ∨ h.time.now < instantTime (fGrid h) (w.ks - 2)) (sound : ∀ b, h.cfg.bud = some b → checkSwap b h = none) :
    swapVote region block reason ready h =
      if ready = false then abortSwap rcCfgSwapLaggard region block reason h
      else if (populated h).all (fun r => (w.votes ++ [region]).contains r)
        then commitSwap { w with votes := w.votes ++ [region] } { h with cfg := { h.cfg with swap := some { w with votes := w.votes ++ [region] } } }
        else { h with cfg := { h.cfg with swap := some { w with votes := w.votes ++ [region] } } } := by
  have passes : (if region = 0 ∧ ready = true then h.cfg.bud.bind (fun b => checkSwap b h) else none) = none := by
    split
    · exact Option.bind_eq_none_iff.2 sound
    · rfl
  have early : ¬(h.mode ≠ .idle ∧ instantTime (fGrid h) (w.ks - 2) ≤ h.time.now) := by
    rintro ⟨other, late⟩
    exact timely.elim other (Nat.not_lt.2 late)
  simp only [swapVote, counts.pending, if_neg counts.stands, if_neg early, passes]
  rfl

/-- At the deadline the first region whose vote is missing is the laggard. -/
theorem voteDeadline_of_missing {r : Nat} (pending : h.cfg.swap = some w) (isOpen : w.committed = false) (busy : h.mode ≠ .idle)
    (late : instantTime (fGrid h) (w.ks - 2) ≤ h.time.now) (missing : (populated h).find? (fun r => !w.votes.contains r) = some r) :
    voteDeadline h = abortSwap rcCfgSwapLaggard r 0xFF 0 h := by
  have due : ¬(w.committed = true ∨ h.mode = .idle ∨ h.time.now < instantTime (fGrid h) (w.ks - 2)) := by
    simp [isOpen, busy, late]
  simp only [voteDeadline, pending, if_neg due, missing, Option.getD_some]

/-- A vote outside IDLE at or after the deadline comes too late. -/
theorem swapVote_of_late {region block reason : Nat} {ready : Bool} (counts : VoteCounts region w h) (busy : h.mode ≠ .idle)
    (late : instantTime (fGrid h) (w.ks - 2) ≤ h.time.now) : swapVote region block reason ready h = voteDeadline h := by
  simp only [swapVote, counts.pending, if_neg counts.stands]
  exact if_pos ⟨busy, late⟩

/-- At its instant a committed swap changes over. -/
theorem swapChange_of_due (pending : h.cfg.swap = some w) (bud : h.cfg.bud = some b) (committed : w.committed = true)
    (due : instantTime (fGrid h) w.ks ≤ h.time.now) : swapChange h = changeOver (w.ks * gridHz b.grid / fGrid h) w.ks h := by
  simp only [swapChange, pending, bud]
  exact if_neg (by simp [committed, due])

theorem flashWritten_of_due (bloom : h.cfg.bloom = some b) (due : h.cfg.storeDue = true) :
    flashWritten h = { h with cfg := { h.cfg with stored := b :: h.cfg.stored.take 1, storeDue := false } } := by
  simp only [flashWritten, bloom, due, if_true]

/-- Settles O16: a load ends by its signature and its check, a vote by the deadline, by what it says and by the votes it completes. -/
theorem loadAndSwapEventsComplete : Obligations.LoadAndSwapEventsComplete := by
  refine ⟨?load, ?vote, ?deadline, ?changeover, ?flash⟩
  case load =>
    exact fun b s l loaded checking => ⟨rfl, fun sound => runsAll_lift rfl (loadChecked_of_sound loaded checking sound),
      runsAll_lift rfl (loadChecked_of_unsigned loaded checking)⟩
  case vote =>
    intro region block reason s w pending isOpen isRegion first timely sound
    have counts : VoteCounts region w s.hw := ⟨pending, isOpen, isRegion, first⟩
    have ready := swapVote_of_timely (block := block) (reason := reason) (ready := true) counts timely sound
    rw [if_neg (by decide)] at ready
    refine ⟨fun missing => runsAll_lift rfl (ready.trans (if_neg ?_)), fun whole => runsAll_lift rfl (ready.trans (if_pos ?_)),
      runsAll_lift rfl ((swapVote_of_timely counts timely sound).trans (if_pos rfl))⟩
    · simpa using missing
    · simpa using whole
  case deadline =>
    intro s w r pending isOpen busy late missing
    have laggard := voteDeadline_of_missing pending isOpen busy late missing
    exact ⟨runsAll_lift rfl laggard, fun region block reason ready isRegion first =>
      runsAll_lift rfl ((swapVote_of_late ⟨pending, isOpen, isRegion, first⟩ busy late).trans laggard)⟩
  case changeover => exact fun s w b pending bud committed due => runsAll_lift rfl (swapChange_of_due pending bud committed due)
  case flash => exact fun s b bloom due => runs_lift rfl (flashWritten_of_due bloom due)

end Sys2Proof.Machine
end

section
/-! Two statements that the model does not keep: a write of EVR_CURSOR without supply (R479, R554), and a release of reset that lets the
rings go on (R475, R515). -/
namespace Sys2Proof.Machine

/-! ### What a settled state keeps -/

/-- Settling keeps the replies that wait. -/
theorem settle_waiting (h : Hw) : (settle h).cmd.waiting = h.cmd.waiting := by
  have settled : OnlySettled h (settle h) := repliesAndSettlingFrame.2 h
  rw [settled]
  rfl

/-- An event runs to one effect only. -/
theorem settle_eq_of_runs {i : Instr} {s : State} {f g : Hw} (a : Runs i s f) (b : Runs i s g) : settle f = settle g :=
  congrArg State.hw (Host.Outcome.next.inj (a.symm.trans b))

/-! ### EVR_CURSOR in OFF -/

/-- The module in OFF, else as it is right after reset. -/
def offState : State := { hw := { mode := .off } }

/-- Refutes O58: in OFF BAR0 takes no write, so EVR_CURSOR keeps its 0 when 1 is written. -/
theorem not_theEventRecorderRecords : ¬ Obligations.TheEventRecorderRecords := by
  intro holds
  obtain ⟨-, events, -⟩ := holds
  obtain ⟨-, -, -, -, -, cursor⟩ := events offState
  have ignored : Runs (.evrCursorWrite 1) offState offState.hw := runs_lift (f := registerWrite 0x0200 1) rfl rfl
  have same := congrArg (fun h => h.evr.cursor) (settle_eq_of_runs ignored (cursor 1))
  simp only [settle_frame] at same
  exact absurd same (by decide)

/-! ### RESET_RELEASE in HALTED -/

/-- The module in HALTED with an empty response ring and one reply that waits. -/
def waitingState : State := { hw := { mode := .halted, cmd := { rspRing := { enable := true }, waiting := [{ hdr := {} }] } } }

/-- Refutes O60: RESET_RELEASE lets the rings go on also where it releases no reset, so in HALTED a reply that waits is posted. -/
theorem not_startUpAndSupply : ¬ Obligations.StartUpAndSupply := by
  intro holds
  obtain ⟨release, -⟩ := holds
  obtain ⟨stays, -⟩ := release {} waitingState
  have posted : RunsAll (.resetRelease {}) waitingState (runRings (resetRelease {} waitingState.hw)) :=
    runsAll_lift (f := fun h => runRings (resetRelease {} h)) rfl rfl
  have same := congrArg (fun h => h.cmd.waiting) (settle_eq_of_runs posted stays)
  simp only [settle_waiting] at same
  have quiet : Quiet waitingState.hw := ⟨.inl rfl, rfl, rfl, rfl, rfl, rfl, rfl, rfl, rfl, rfl⟩
  have quietPosted : Quiet (runRings (resetRelease {} waitingState.hw)) := ⟨.inl rfl, rfl, rfl, rfl, rfl, rfl, rfl, rfl, rfl, rfl⟩
  have kept : resetRelease {} waitingState.hw = waitingState.hw := rfl
  rw [consume_quiet _ quietPosted (.inr (by decide)), kept, consume_quiet _ quiet (.inr (by decide))] at same
  exact absurd same (by decide)

end Sys2Proof.Machine
end

section
/-! Where the CYCLE commands complete (R320, R329, R331, R332, R335 to R338). -/
namespace Sys2Proof.Machine

variable {p : List Byte} {h : Hw} {i : CycleImage}

/-- A command on the program of a core that has one is its chapter's. -/
theorem onProgram_of_image {c : Nat} {f : CycleImage → Program → CmdResult} (core : c ≤ 3) (image : (progAt c h).image = some i) :
    onProgram c f h = f i (progAt c h) := by
  simp only [onProgram, image]
  exact if_neg (Nat.not_lt.2 core)

/-- A core without a program is refused. -/
theorem onProgram_of_none {c : Nat} {f : CycleImage → Program → CmdResult} (image : (progAt c h).image = none) :
    onProgram c f h = no stBadParam rcCycleNoProgram := by
  simp only [onProgram, image]

/-- A program is reported; the flag zeroes its four counters. -/
theorem cycleStatus_of_core (core : u8 p 0 ≤ 3) (image : (progAt (u8 p 0) h).image = some i) :
    cycleStatus p h = .ok (if bit (u8 p 1) 0 then putProg (u8 p 0) { progAt (u8 p 0) h with
      overlap := 0, writes := 0, inputLate := 0, notQueued := 0 } h else h) (cycleStatusBytes (u8 p 0) i (progAt (u8 p 0) h)) := by
  simp only [cycleStatus, onProgram_of_image core image]

theorem cycleStatus_of_none (image : (progAt (u8 p 0) h).image = none) : cycleStatus p h = no stBadParam rcCycleNoProgram := by
  simp only [cycleStatus, onProgram_of_none image]

theorem cycleForce_of_none (image : (progAt (u8 p 0) h).image = none) : cycleForce p h = no stBadParam rcCycleNoProgram := by
  simp only [cycleForce, onProgram_of_none image]

/-- A program starts where programs run (R320, log 35). -/
def startWhereRun (p : List Byte) (n : Nat) (h : Hw) : Hw := if programsRun h then startProgram n (u8 p 1 == 1) h else h

/-- CYCLE.START of FFH starts every loaded or faulted program. -/
theorem cycleStartCmd_of_all (mode : u8 p 1 ≤ 1) (all : u8 p 0 = 0xFF) :
    cycleStartCmd p h = done ([0, 1, 2, 3].foldl (fun g n => if (progAt n g).state = 1 ∨ (progAt n g).state = 3 then startWhereRun p n g else g) h) :=
  (if_neg (Nat.not_lt.2 mode)).trans (if_pos all)

/-- A core's number is not FFH, which stands for all of them. -/
theorem ne_all_of_core {n : Nat} (core : n ≤ 3) : n ≠ 0xFF := by omega

theorem cycleStartCmd_of_core (mode : u8 p 1 ≤ 1) (core : u8 p 0 ≤ 3) (image : (progAt (u8 p 0) h).image = some i) :
    cycleStartCmd p h = if (progAt (u8 p 0) h).state = 2 then no stBusy rcCycleNotStopped else done (startWhereRun p (u8 p 0) h) :=
  (if_neg (Nat.not_lt.2 mode)).trans ((if_neg (ne_all_of_core core)).trans (onProgram_of_image core image))

theorem cycleStop_of_core (core : u8 p 0 ≤ 3) (image : (progAt (u8 p 0) h).image = some i) : cycleStop p h = done (stopAtEnd (u8 p 0) h) :=
  (if_neg (ne_all_of_core core)).trans (onProgram_of_image core image)

/-- A station that a program owns is reported; the flag zeroes its counters. -/
theorem cycleStationStatus_of_owner {k : Nat} (owner : ownerOf (u8 p 0) h = some k) :
    let y := stationState (u8 p 0) (progAt k h)
    cycleStationStatus p h = .ok
      (if bit (u8 p 1) 0 then putProg k { progAt k h with
        stations := tset (progAt k h).stations (u8 p 0) { y with missed := 0, dropouts := 0, notQueued := 0, returns := 0, authFailures := 0 } } h else h)
      (le 1 (u8 p 0) ++ le 1 y.state ++ le 1 k ++ le 1 (min 255 y.missing) ++ le 4 (y.lastInput.getD 0) ++ le 4 y.missed ++ le 4 y.dropouts
        ++ le 4 y.notQueued ++ le 4 y.returns ++ le 4 y.authFailures ++ zeros 4) := by
  simp only [cycleStationStatus, owner]

/-- What CYCLE.READ gives of a symbol: its type, its flags and its value at the last cycle end; a free one where it has no single value. -/
def cycleReadEntry (x : Program) (i : CycleImage) (h : Hw) (k : Nat) : List Byte :=
  (symbolOf k i).elim [] fun y =>
    le 1 y.typ ++ le 1 (flag (tfind x.forces k).isSome 0 + flag y.retain.isSome 1) ++ zeros 6
      ++ le 8 (if y.single then tget x.read k y.initial else Config.freeNat h.free)

theorem cycleRead_of_known (core : u8 p 0 ≤ 3) (image : (progAt (u8 p 0) h).image = some i) (least : 1 ≤ u8 p 1) (most : u8 p 1 ≤ 16)
    (known : ∀ k ∈ entryKeys (u8 p 1) 8 p, (symbolOf k i).isSome) :
    cycleRead p h = .ok (drawn h) (le 4 (progAt (u8 p 0) h).ended ++ zeros 4 ++ (entryKeys (u8 p 1) 8 p).flatMap (cycleReadEntry (progAt (u8 p 0) h) i h)) := by
  have entries : (entryKeys (u8 p 1) 8 p).any (fun k => (symbolOf k i).isNone) = false := by
    simpa [← Option.isSome_iff_ne_none] using known
  simp only [cycleRead, onProgram_of_image core image]
  rw [if_neg (by omega), entries, if_neg Bool.false_ne_true]
  congr 3
  funext k
  unfold cycleReadEntry
  cases symbolOf k i <;> rfl

/-- A program whose parameters a profile sets, for its next cycle. -/
def profiledProgram (n : Nat) (minUs watchdogUs windowUs : Nat) (h : Hw) : Hw :=
  putProg n { progAt n h with
    paramsNext := some { (progAt n h).paramsNext.getD (progAt n h).params with minUs := minUs, watchdogUs := watchdogUs, windowUs := windowUs }
    tuned := true } h

theorem cycleProfile_of_core (core : u8 p 0 ≤ 3) (image : (progAt (u8 p 0) h).image = some i) :
    (u8 p 1 = 1 → cycleProfile p h = done (profiledProgram (u8 p 0) 0 1000 100 h))
    ∧ (u8 p 1 = 2 → cycleProfile p h = done (profiledProgram (u8 p 0) 1000 10000 250 h))
    ∧ (u8 p 1 = 3 → cycleProfile p h = done (profiledProgram (u8 p 0) 10000 100000 1000 h)) := by
  simp only [cycleProfile, onProgram_of_image core image]
  refine ⟨fun e => ?_, fun e => ?_, fun e => ?_⟩ <;> rw [e] <;> rfl

/-- An entry of CYCLE.WRITE names a single, unforced symbol and a value in its width. -/
def Writable (x : Program) (i : CycleImage) (e : Nat × Nat) : Prop :=
  ∃ y, symbolOf e.1 i = some y ∧ y.single = true ∧ tfind x.forces e.1 = none ∧ e.2 < 2 ^ y.width

/-- The entries of CYCLE.WRITE: a key and a value. -/
def writeEntries (p : List Byte) : List (Nat × Nat) := (List.range (u8 p 1)).map (fun j => (u64 p (8 + 16 * j), u64 p (16 + 16 * j)))

theorem cycleWrite_of_writable (core : u8 p 0 ≤ 3) (image : (progAt (u8 p 0) h).image = some i) (least : 1 ≤ u8 p 1) (most : u8 p 1 ≤ 16)
    (writable : ∀ e ∈ writeEntries p, Writable (progAt (u8 p 0) h) i e) :
    cycleWrite p h = done (putProg (u8 p 0) { progAt (u8 p 0) h with waiting := (progAt (u8 p 0) h).waiting ++ [writeEntries p] } h) := by
  have refused (b : Nat × Nat → Bool) (sound : ∀ e, Writable (progAt (u8 p 0) h) i e → b e = false) : ¬(writeEntries p).any b = true := by
    rw [List.any_eq_true]
    rintro ⟨e, listed, bad⟩
    exact Bool.false_ne_true ((sound e (writable e listed)).symm.trans bad)
  simp only [cycleWrite, onProgram_of_image core image]
  rw [if_neg (by omega)]
  refine (if_neg (refused _ ?_)).trans ((if_neg (refused _ ?_)).trans ((if_neg (refused _ ?_)).trans (if_neg (refused _ ?_)))) <;>
    rintro e ⟨y, found, single, free, lt⟩
  · simp only [found, Option.isNone_some]
  · simp only [found, single, Bool.not_true]
  · simp only [free, Option.isSome_none]
  · simp only [found, decide_eq_false_iff_not, Nat.not_le, lt]

/-- The parameters that CYCLE.TUNE asks for, over those that wait or are in force. -/
def tunedCycleParams (p : List Byte) (x : Program) : CycleParams :=
  let base := x.paramsNext.getD x.params
  { base with
    teu := if u8 p 1 = 0 then none else if u8 p 1 = 1 then some (u8 p 2) else base.teu, stale := keepOr (u8 p 3) 0 base.stale
    minUs := keepOr (u32 p 4) 0xFFFFFFFF base.minUs, watchdogUs := keepOr (u32 p 8) 0 base.watchdogUs, windowUs := keepOr (u32 p 12) 0 base.windowUs }

theorem cycleTune_of_inRange (core : u8 p 0 ≤ 3) (image : (progAt (u8 p 0) h).image = some i) (source : u8 p 1 ≤ 1 ∨ u8 p 1 = 0xFF)
    (unit : u8 p 2 ≤ 15) (range : cycleRange (tunedCycleParams p (progAt (u8 p 0) h)) = true)
    (armed : u8 p 1 = 1 → (tget h.time.teus (u8 p 2) {}).armed = true ∧ (tget h.time.teus (u8 p 2) {}).cfg.target = 3
      ∧ (tget h.time.teus (u8 p 2) {}).cfg.index = u8 p 0) :
    cycleTune p h = done (putProg (u8 p 0) { progAt (u8 p 0) h with paramsNext := some (tunedCycleParams p (progAt (u8 p 0) h)), tuned := true } h) := by
  simp only [cycleTune, onProgram_of_image core image]
  refine (if_neg ?inRange).trans (if_neg ?armed)
  case inRange =>
    rintro (k | k | k)
    · omega
    · omega
    · exact Bool.false_ne_true (k.symm.trans range)
  case armed =>
    rintro ⟨teu, k⟩
    obtain ⟨on, target, index⟩ := armed teu
    simp [on, target, index] at k

/-- CYCLE.FORCE on a core with a program: release one, set one, release all. -/
theorem cycleForce_of_release (core : u8 p 0 ≤ 3) (image : (progAt (u8 p 0) h).image = some i) (op : u8 p 1 = 0)
    (set : (tfind (progAt (u8 p 0) h).forces (u64 p 8)).isSome) :
    cycleForce p h = done (forceRecord (u8 p 0) 1 (u64 p 8) (putProg (u8 p 0) { progAt (u8 p 0) h with
      forces := tdel (progAt (u8 p 0) h).forces (u64 p 8) } h)) := by
  simp only [cycleForce, onProgram_of_image core image, op]
  exact if_neg (by simpa [← Option.isSome_iff_ne_none] using set)

theorem cycleForce_of_set (core : u8 p 0 ≤ 3) (image : (progAt (u8 p 0) h).image = some i) (op : u8 p 1 = 1) {y : Symbol}
    (found : symbolOf (u64 p 8) i = some y) (single : y.single = true) (lt : u64 p 16 < 2 ^ y.width)
    (room : (tfind (progAt (u8 p 0) h).forces (u64 p 8)).isSome ∨ (progAt (u8 p 0) h).forces.length < 256) :
    cycleForce p h = done (forceRecord (u8 p 0) 0 (u64 p 8) (putProg (u8 p 0) { progAt (u8 p 0) h with
      forces := tset (progAt (u8 p 0) h).forces (u64 p 8) (u64 p 16) } h)) := by
  have fits : ¬((tfind (progAt (u8 p 0) h).forces (u64 p 8)).isNone = true ∧ 256 ≤ (progAt (u8 p 0) h).forces.length) := by
    rintro ⟨absent, full⟩
    obtain set | free := room
    · simp [Option.isNone_iff_eq_none.1 absent] at set
    · omega
  simp only [cycleForce, onProgram_of_image core image, op, found, single, Bool.true_eq_false, if_false]
  exact (if_neg (Nat.not_le.2 lt)).trans (if_neg fits)

theorem cycleForce_of_clear (core : u8 p 0 ≤ 3) (image : (progAt (u8 p 0) h).image = some i) (op : u8 p 1 = 2) :
    cycleForce p h = done ((progAt (u8 p 0) h).forces.foldl (fun g f => forceRecord (u8 p 0) 1 f.1 g)
      (putProg (u8 p 0) { progAt (u8 p 0) h with forces := [] } h)) := by
  simp only [cycleForce, onProgram_of_image core image, op]

/-- Settles O47: every clause is the equation of its command's own chapter, under the reply that ST_OK gives or under the refusal. -/
theorem cycleCommandsComplete : Obligations.CycleCommandsComplete := by
  refine fun c p s => ⟨?startAll, ?stopAll, ?station, fun i core image => ⟨?status, ?start, ?stop, ?read, ?profile, ?write, ?tune, ?force⟩, ?none⟩
  case startAll => exact fun q mode all => runs_ok rfl q (cycleStartCmd_of_all mode all)
  case stopAll => exact fun q all => runs_ok rfl q (if_pos all)
  case station => exact fun k q owner => runs_ok rfl q (cycleStationStatus_of_owner owner)
  case status => exact fun q => runs_ok rfl q (cycleStatus_of_core core image)
  case start =>
    intro q mode
    have start := cycleStartCmd_of_core mode core image
    exact ⟨fun rests => runs_ok rfl q (start.trans (if_neg rests)), fun runs => runs_refuse rfl q (start.trans (if_pos runs))⟩
  case stop =>
    intro q
    have stop := cycleStop_of_core core image
    exact ⟨fun rests => runs_ok rfl q (stop.trans (congrArg done (if_pos rests))),
      fun runs => runs_ok rfl q (stop.trans (congrArg done (if_neg (not_not_intro runs))))⟩
  case read =>
    intro q least most known
    have entry : (fun k => match symbolOf k i with
        | none => []
        | some y => le 1 y.typ ++ le 1 (flag (tfind (progAt (u8 p 0) s.hw).forces k).isSome 0 + flag y.retain.isSome 1) ++ zeros 6
            ++ le 8 (if y.single then tget (progAt (u8 p 0) s.hw).read k y.initial else Config.freeNat s.hw.free))
        = cycleReadEntry (progAt (u8 p 0) s.hw) i s.hw := by
      funext k
      unfold cycleReadEntry
      cases symbolOf k i <;> rfl
    have read := cycleRead_of_known core image least most known
    rw [← entry] at read
    exact runs_ok rfl q read
  case profile =>
    intro q
    obtain ⟨fast, medium, slow⟩ := cycleProfile_of_core (p := p) core image
    exact ⟨fun e => runs_ok rfl q (fast e), fun e => runs_ok rfl q (medium e), fun e => runs_ok rfl q (slow e)⟩
  case write => exact fun q least most writable => runs_ok rfl q (cycleWrite_of_writable core image least most writable)
  case tune => exact fun q source unit range armed => runs_ok rfl q (cycleTune_of_inRange core image source unit range armed)
  case force =>
    exact fun q => ⟨fun op set => runs_ok rfl q (cycleForce_of_release core image op set),
      fun y op found single lt room => runs_ok rfl q (cycleForce_of_set core image op found single lt room),
      fun op => runs_ok rfl q (cycleForce_of_clear core image op)⟩
  case none =>
    exact fun image => ⟨fun q => runs_refuse rfl q (cycleStatus_of_none image), fun q => runs_refuse rfl q (cycleForce_of_none image)⟩

end Sys2Proof.Machine
end

section
/-! A cycle's phases: its start, its inputs, its body and its end, and what abandons it (R321 to R323, R325, R327 to R329, R331, R333). -/
namespace Sys2Proof.Machine

variable {n : Nat} {h : Hw} {i : CycleImage}

/-! ### CYCLE_START_EVENT (R321, R325, R329, R331) -/

/-- A waiting image is adopted first. -/
def adoptNext (n : Nat) (h : Hw) : Hw := match (progAt n h).next with | some i => adoptImage n i h | none => h

/-- The program as its next cycle begins: parameters, waiting writes and then the forces are in force, and the snapshot is taken. -/
def begunProgram (p : Program) (h : Hw) : Program :=
  { p with
    params := p.paramsNext.getD p.params, paramsNext := none
    vars := p.forces.foldl (fun t f => tset t f.1 f.2) (p.waiting.foldl (fun t w => w.foldl (fun t e => tset t e.1 e.2) t) p.vars)
    forcing := p.forces, writes := sat32 (p.writes + p.waiting.length), waiting := []
    cycle := if p.begun then (p.cycle + 1) % 2 ^ 32 else 0, begun := true, phase := 1, startedAt := h.time.mono, edge := false, snapshot := takeSnapshot h
    stations := tmap p.stations (fun _ x => { x with answered := false }) }

/-- The stations of a program. -/
abbrev stationsOf (p : Program) : List StationIo := (p.image.map (fun i => i.stations)).getD []

theorem cycleStart_of_not_due (e : cycleDue (progAt n h) h = false) : cycleStart n h = h := if_pos e

/-- One input request on each pair that a station of the program is on. -/
def requestInputs (n cycle : Nat) : List StationIo → Hw → Hw
  | [], h => h
  | x :: rest, h => ((x :: rest).map (fun y => y.pair)).eraseDups.foldl (fun g pair => stationFrame 1 0 n 0xFFFF cycle [] { x with pair := pair } g) h

theorem cycleStart_of_due (e : cycleDue (progAt n h) h = true) :
    let p := begunProgram (progAt n (adoptNext n h)) (adoptNext n h)
    cycleStart n h = requestInputs n p.cycle (stationsOf p) (putProg n p (adoptNext n h)) := by
  have due : ¬cycleDue (progAt n h) h = false := by rw [e]; decide
  simp only [cycleStart, if_neg due]
  split
  next stations => exact (congrArg (fun l => requestInputs n _ l _) stations).symm
  next stations => exact (congrArg (fun l => requestInputs n _ l _) stations).symm

/-! ### Station I/O frames (R325) -/

/-- Every station frame carries the next stNum of its control block, 1 first. -/
theorem nextStNum_eq (ref : List Byte) (h : Hw) :
    nextStNum ref h = ((h.cycle.stNums.find? (fun e => e.1 == ref)).map (fun e => (e.2 + 1) % 2 ^ 32)).getD 1 := by
  unfold nextStNum
  cases h.cycle.stNums.find? (fun e => e.1 == ref) <;> rfl

/-! ### STATION_INPUT_RX (R325, R327, R333) -/

/-- The station of a received input, where the core's program has it. -/
abbrev inputStation (b : StationInput) (h : Hw) : Option StationIo := (stationsOf (progAt b.core h)).find? (fun y => y.station == b.station)

/-- The input authenticates under the station's key. -/
def InputGenuine (b : StationInput) (io : StationIo) (h : Hw) : Prop := b.authentic = true ∧ ∃ k, io.key = some k ∧ keyUsable k h = true

/-- The input has the version, the kind and the length of the station's. -/
def InputFormed (b : StationInput) (io : StationIo) : Prop := b.version = 1 ∧ b.kind = 2 ∧ b.data.length = io.inLen

/-- The input belongs to the cycle that runs. -/
def InputCurrent (b : StationInput) (p : Program) : Prop := p.phase ≠ 0 ∧ p.state = 2 ∧ b.cycle = p.cycle

theorem not_inputGenuine_iff (b : StationInput) (io : StationIo) (h : Hw) :
    (b.authentic = false ∨ io.key.elim true (fun k => !keyUsable k h) = true) ↔ ¬InputGenuine b io h := by
  unfold InputGenuine
  cases io.key <;> simp [imp_iff_not_or]

theorem not_inputFormed_iff (b : StationInput) (io : StationIo) :
    (b.version ≠ 1 ∨ b.kind ≠ 2 ∨ b.data.length ≠ io.inLen) ↔ ¬InputFormed b io := by
  simp only [InputFormed, not_and_or, ne_eq]

theorem not_inputCurrent_iff (b : StationInput) (p : Program) : (p.phase = 0 ∨ p.state ≠ 2 ∨ b.cycle ≠ p.cycle) ↔ ¬InputCurrent b p := by
  simp only [InputCurrent, not_and_or, ne_eq, not_not]

/-- An input of a station that the program does not have changes nothing. -/
theorem stationInput_of_stranger {b : StationInput} (found : inputStation b h = none) : stationInput b h = h := by
  simp only [stationInput, found]

/-- An input that fails authentication is counted for its station. -/
theorem stationInput_of_forged {b : StationInput} {io : StationIo} (found : inputStation b h = some io) (forged : ¬InputGenuine b io h) :
    let x := stationState b.station (progAt b.core h)
    stationInput b h = putProg b.core { progAt b.core h with
      stations := tset (progAt b.core h).stations b.station ({ x with authFailures := inc32 x.authFailures }) } h := by
  simp only [stationInput, found]
  exact if_pos ((not_inputGenuine_iff b io h).2 forged)

/-- A genuine input is looked at for its form, and then for its cycle. -/
theorem stationInput_of_genuine {b : StationInput} {io : StationIo} (found : inputStation b h = some io) (genuine : InputGenuine b io h) :
    let p := progAt b.core h
    stationInput b h = if b.version ≠ 1 ∨ b.kind ≠ 2 ∨ b.data.length ≠ io.inLen then h
      else if p.phase = 0 ∨ p.state ≠ 2 ∨ b.cycle ≠ p.cycle then putProg b.core { p with inputLate := inc32 p.inputLate } h
      else setStation b.core b.station 0 (fun x => { x with
        answered := true, missing := 0, lastInput := some p.cycle, image := b.data, seen := if p.phase = 1 then b.data else x.seen
        present := x.present || stationPath io h, returns := if x.state = 1 ∨ x.state = 2 then inc32 x.returns else x.returns }) h := by
  simp only [stationInput, found]
  exact if_neg (mt (not_inputGenuine_iff b io h).1 (not_not_intro genuine))

/-! ### INPUT_WINDOW_END (R321, R327) -/

/-- The input phase ends: every station that is ONLINE has answered, or the window is over. -/
def InputsEnded (p : Program) (h : Hw) : Prop :=
  p.phase = 1 ∧ ((∀ e ∈ p.stations, e.2.state = 0 → e.2.answered = true) ∨ nsUnits (1000 * p.params.windowUs) ≤ h.time.mono - p.startedAt)

theorem not_inputsEnded_iff (p : Program) (h : Hw) :
    (p.phase ≠ 1 ∨ (p.stations.all (fun e => e.2.state != 0 || e.2.answered) = false ∧ h.time.mono - p.startedAt < nsUnits (1000 * p.params.windowUs)))
      ↔ ¬InputsEnded p h := by
  have answered : p.stations.all (fun e => e.2.state != 0 || e.2.answered) = true ↔ ∀ e ∈ p.stations, e.2.state = 0 → e.2.answered = true := by
    simp only [List.all_eq_true, Bool.or_eq_true, bne_iff_ne, ne_eq, imp_iff_not_or]
  rw [InputsEnded, ← answered, not_and_or, not_or, Bool.not_eq_true, Nat.not_le]

/-- Stations that have not answered by the end of the phase are missed, and the inputs enter the variables. -/
def closeInputs (n : Nat) (h : Hw) : Hw :=
  let g := (stationsOf (progAt n h)).foldl (fun g x => missStation n x g) h
  putProg n { progAt n g with phase := 2, vars := inputValues (progAt n g) (progAt n g).vars } g

theorem inputEnd_of_ended (e : InputsEnded (progAt n h) h) : inputEnd n h = closeInputs n h :=
  if_neg (mt (not_inputsEnded_iff _ _).1 (not_not_intro e))

theorem inputEnd_of_not_ended (e : ¬InputsEnded (progAt n h) h) : inputEnd n h = h := if_pos ((not_inputsEnded_iff _ _).2 e)

/-! ### CYCLE_BODY_END (R321, R328, R331, R338) -/

theorem bodyEnd_of_resting {ops : List BodyOp} (image : (progAt n h).image = some i) (e : (progAt n h).phase ≠ 2 ∨ (progAt n h).state ≠ 2) :
    bodyEnd n ops h = h := by
  simp only [bodyEnd, image]
  exact if_pos e

/-- What the body's operations and the outputs leave. -/
def outputsDone (n : Nat) (ops : List BodyOp) (i : CycleImage) (h : Hw) : Hw :=
  i.stations.foldl (fun g x => outputTo n x g) (putProg n (ops.foldl (bodyOp i) (progAt n h)) h)

/-- The program at the end of its cycle: its image is committed, its values are read, and its times are kept. -/
def endedProgram (q : Program) (i : CycleImage) (g : Hw) : Program :=
  let ns := (g.time.mono - q.startedAt) * 1000000000 / 2 ^ 64
  { q with
    phase := 0, retained := some (retainOf i q.vars q.sequence), retainOk := true, ended := q.cycle, read := q.vars, lastNs := sat32 ns
    longestNs := max q.longestNs (sat32 ns), meanNs := sat32 (roundOpen (mkRat ((q.meanNs * 255 + ns : Nat) : Int) 256) g).toNat }

theorem bodyEnd_of_running {ops : List BodyOp} (image : (progAt n h).image = some i) (phase : (progAt n h).phase = 2) (state : (progAt n h).state = 2) :
    let g := outputsDone n ops i h
    let e := drawn (putProg n (endedProgram (progAt n g) i g) g)
    bodyEnd n ops h = if (endedProgram (progAt n g) i g).stopDue then stopProgram n e else e := by
  simp only [bodyEnd, image, phase, state, ne_eq, not_true_eq_false, or_self, if_false]
  rfl

/-- A body writes the value of an unforced symbol, in its width. -/
theorem writeVar_of_free {p : Program} {key value : Nat} {y : Symbol} (found : symbolOf key i = some y) (free : tfind p.forcing key = none) :
    writeVar i p key value = { p with vars := tset p.vars key (value % 2 ^ y.width) } := by
  unfold symbolOf at found
  simp only [writeVar, found, free, Option.isSome_none, Bool.false_eq_true, if_false]

/-- It writes no other. -/
theorem writeVar_of_barred {p : Program} {key value : Nat} (e : symbolOf key i = none ∨ (tfind p.forcing key).isSome = true) :
    writeVar i p key value = p := by
  unfold writeVar
  split
  next y known => exact if_pos (e.resolve_left (Option.ne_none_iff_exists'.2 ⟨y, known⟩))
  next => rfl

/-! ### What abandons a cycle (R323, R333) -/

theorem watchdogExpiry_of_overrun (running : (progAt n h).state = 2) (phase : (progAt n h).phase ≠ 0)
    (late : nsUnits (1000 * (progAt n h).params.watchdogUs) ≤ h.time.mono - (progAt n h).startedAt) : watchdogExpiry n h = faultProgram n 1 h := by
  refine if_neg ?_
  rintro (k | k | k)
  · exact k running
  · exact phase k
  · exact Nat.not_lt.2 late k

/-- Settles O48: an event's clauses are its own conditions, and what it does in each is its own effect. -/
theorem cyclesRunTheirPhases : Obligations.CyclesRunTheirPhases := by
  refine ⟨?start, ?frame, ?inputs, ?body, ?write, ?abandon, ?input⟩
  case start =>
    intro n s core
    have begins : onlyIf (decide (n ≤ 3)) (cycleStart n) s.hw = cycleStart n s.hw := onlyIf_of_true (decide_eq_true core)
    refine ⟨fun e => runs_lift rfl (begins.trans (cycleStart_of_not_due e)), fun e => ⟨fun alone => ?_, fun x rest stations => ?_⟩⟩
    · exact runs_lift rfl (begins.trans ((cycleStart_of_due e).trans (congrArg (fun l => requestInputs n _ l _) alone)))
    · exact runs_lift rfl (begins.trans ((cycleStart_of_due e).trans (congrArg (fun l => requestInputs n _ l _) stations)))
  case frame =>
    intro kind flags n station cycle data x h
    dsimp only
    rw [← nextStNum_eq]
    rfl
  case inputs => exact fun n s => ⟨fun e => runs_lift rfl (inputEnd_of_ended e), fun e => runs_lift rfl (inputEnd_of_not_ended e)⟩
  case body =>
    exact fun n ops s i image => ⟨fun phase state => runs_lift rfl (bodyEnd_of_running image phase state), fun e => runs_lift rfl (bodyEnd_of_resting image e)⟩
  case write =>
    intro i p key value
    exact ⟨fun y found free => writeVar_of_free found free, writeVar_of_barred⟩
  case abandon =>
    exact fun n s => ⟨fun running phase late => runs_lift rfl (watchdogExpiry_of_overrun running phase late),
      fun early => runs_lift rfl (if_pos (.inr (.inr early))), fun running => runs_lift rfl (if_neg (not_not_intro running)),
      fun e => runs_lift rfl (if_pos (e.elim .inl fun phase => .inr (.inl phase))), fun rests => runs_lift rfl (if_pos rests)⟩
  case input =>
    intro b s
    refine ⟨fun found => runs_lift rfl (stationInput_of_stranger found), fun io found => ?_⟩
    refine ⟨fun forged => runs_lift rfl (stationInput_of_forged found forged), fun genuine broken => ?_, fun genuine formed stale => ?_,
      fun genuine formed current => ?_⟩ <;> refine runs_lift rfl ((stationInput_of_genuine found genuine).trans ?_)
    · exact if_pos ((not_inputFormed_iff b io).2 broken)
    · exact (if_neg (mt (not_inputFormed_iff b io).1 (not_not_intro formed))).trans (if_pos ((not_inputCurrent_iff b _).2 stale))
    · exact (if_neg (mt (not_inputFormed_iff b io).1 (not_not_intro formed))).trans
        (if_neg (mt (not_inputCurrent_iff b _).1 (not_not_intro current)))

end Sys2Proof.Machine
end

section
/-! Where the NET commands complete (R362 to R367). -/
namespace Sys2Proof.Machine

variable {c : Call} {p : List Byte} {h : Hw}

/-- A port is reported; the flag clears its counters. -/
theorem netPortStatus_of_inRange (port : u8 p 0 ≤ 19) :
    netPortStatus p h = .ok (if bit (u8 p 1) 0 then putPort (u8 p 0) (clearPort (portAt (u8 p 0) h)) h else h) (portStatusBytes (u8 p 0) h) :=
  if_neg (Nat.not_lt.2 port)

/-- Entries of a pair's node table that are there are read. -/
theorem netNodeRead_of_inRange (pair : u8 p 0 ≤ 4) (least : 1 ≤ u16 p 4) (most : u16 p 4 ≤ 64) (first : u16 p 2 < (netPair (u8 p 0) h).nodes.length) :
    let l := ((netPair (u8 p 0) h).nodes.drop (u16 p 2)).take (u16 p 4)
    netNodeRead p h = .ok h (le 2 (netPair (u8 p 0) h).nodes.length ++ le 2 l.length ++ zeros 4 ++ l.flatMap (fun x => nodeEntry (u8 p 0) x h)) :=
  (if_neg (by omega)).trans (if_neg (Nat.not_le.2 first))

/-! ### NET.MIRROR_SET (R362, R363, R366) -/

/-- The rule that NET.MIRROR_SET gives. -/
def givenRule (p : List Byte) : MirrorRule :=
  { enable := bit (u8 p 1) 0, rx := bit (u8 p 1) 1, tx := bit (u8 p 1) 2, drops := bit (u8 p 1) 3, etype := u16 p 2, ports := u32 p 4, n := u16 p 8 }

/-- A rule of the 16 is set while the mirror is stopped. -/
theorem netMirrorSet_of_rule (rule : u8 p 0 ≤ 15) (count : u16 p 8 ≠ 0) :
    netMirrorSet c p h = if h.net.mirror.running then no stBusy rcNetMirrorRunning
      else .ok { h with net := { h.net with mirror := { h.net.mirror with rules := tset h.net.mirror.rules (u8 p 0) (givenRule p) } } } (zeros 8) :=
  (if_pos (by omega)).trans (if_neg (by omega))

theorem netMirrorSet_of_stop (all : u8 p 0 = 0xFF) (stop : u8 p 13 = 0) :
    netMirrorSet c p h = .ok { h with
      net := { h.net with mirror := { h.net.mirror with running := false, ring := [] } }, acq := { h.acq with mirrorSegments := 0 } } (zeros 8) :=
  (if_neg (not_not_intro all)).trans ((if_neg (by omega)).trans (if_pos stop))

/-- A start with 1 to 8 segments turns on whether the mirror runs. -/
theorem netMirrorSet_of_start (all : u8 p 0 = 0xFF) (start : u8 p 13 = 1) (least : 1 ≤ u8 p 12) (most : u8 p 12 ≤ 8) :
    netMirrorSet c p h = if h.net.mirror.running then (if u8 p 12 = h.acq.mirrorSegments then .ok h (zeros 8) else no stBusy rcNetMirrorRunning)
      else if 8 < h.acq.segments + u8 p 12 then .refuse stResourceConflict rcNetSramHeld (le 2 h.acq.holder.1 ++ le 2 0x0903 ++ le 4 h.acq.holder.2)
      else .ok { h with
        net := { h.net with mirror := { h.net.mirror with
          running := true, ring := [], written := 0, window := (0, 0), rules := tmap h.net.mirror.rules (fun _ r => { r with count := 0 }) } }
        acq := { h.acq with mirrorSegments := u8 p 12, mirrorHolder := (c.hdr.slice, 0xFF) } } (zeros 8) :=
  (if_neg (not_not_intro all)).trans ((if_neg (by omega)).trans ((if_neg (by omega)).trans (if_neg (by omega))))

/-- Entries that are still in the ring are read. -/
theorem netMirrorRead_of_held (least : 1 ≤ u32 p 4) (most : u32 p 4 ≤ 64) (oldest : h.net.mirror.written - h.net.mirror.ring.length ≤ u32 p 0)
    (newest : u32 p 0 + u32 p 4 ≤ h.net.mirror.written) (some_ : h.net.mirror.ring ≠ []) :
    netMirrorRead p h = .ok h (le 4 (h.net.mirror.written - h.net.mirror.ring.length) ++ le 4 (h.net.mirror.written - 1) ++ zeros 8
      ++ (List.range (u32 p 4)).flatMap (fun j => mirrorBytes (h.net.mirror.ring.getD (h.net.mirror.written - 1 - (u32 p 0 + j)) {}))) :=
  (if_neg (by omega)).trans (if_neg (not_or.2 ⟨Nat.not_lt.2 oldest, not_or.2 ⟨Nat.not_lt.2 newest, some_⟩⟩))

/-! ### Values of a port and of the switch (R366) -/

theorem netPortEnable_of_external (port : u8 p 0 ≤ 11) (op : u8 p 1 ≤ 1) :
    netPortEnable p h = done (pump (u8 p 0) (refreshPort (u8 p 0) (modPort (u8 p 0) (fun x => { x with forced := some (u8 p 1 == 1) }) h))) :=
  (if_neg (Nat.not_lt.2 port)).trans (if_neg (Nat.not_lt.2 op))

/-- The values of a port that NET.TUNE gives, keep marks keeping one. -/
def tunedPort (p : List Byte) (h : Hw) : PortConfig :=
  let x := (portAt (u8 p 0) h).cfg
  { x with
    pcp := keepOr (u8 p 1) 0xFF x.pcp, floor := keepOr (u8 p 2) 0xFF x.floor, high := keepOr (u32 p 4) 0 x.high
    low := keepOr (u32 p 8) 0 x.low, cap := keepOr (u32 p 12) 0 x.cap }

/-- Values in range are set; a timeout is one of a pair's port. -/
theorem netTune_of_inRange (port : u8 p 0 ≤ 19) (range : portRange 0 (tunedPort p h) = true)
    (timeout : u32 p 16 = 0 ∨ (10 ≤ u32 p 16 ∧ u32 p 16 ≤ 60000 ∧ u8 p 0 ≤ 9)) :
    let g := putPort (u8 p 0) { portAt (u8 p 0) h with cfg := tunedPort p h, step := max (portAt (u8 p 0) h).step (tunedPort p h).floor } h
    netTune p h = done (if u32 p 16 = 0 then g
      else refreshPort (u8 p 0) (putNetPair (u8 p 0 / 2) { netPair (u8 p 0 / 2) g with timeoutMs := u32 p 16 } g)) := by
  have inRange : ¬(portRange 0 (tunedPort p h) = false ∨ (u32 p 16 ≠ 0 ∧ (u32 p 16 < 10 ∨ 60000 < u32 p 16 ∨ 9 < u8 p 0))) := by
    rw [range]
    simp only [Bool.true_eq_false, false_or]
    omega
  exact (if_neg (Nat.not_lt.2 port)).trans (if_neg inRange)

theorem netAgeingSet_of_inRange (range : ∀ v ∈ (List.range 8).map (fun j => u32 p (4 * j)), v = 0 ∨ (10 ≤ v ∧ v ≤ 100000)) :
    netAgeingSet p h = done { h with net := { h.net with
      ageing := ((List.range 8).map (fun j => u32 p (4 * j))).zipIdx.map (fun e => keepOr e.1 0 (h.net.ageing.getD e.2 0)) } } := by
  refine if_neg ?_
  rw [List.any_eq_true]
  rintro ⟨v, listed, beyond⟩
  have bounds := range v listed
  simp at beyond
  omega

/-- Settles O49: every clause is the equation of its command's own chapter, under the reply that ST_OK gives or under the refusal. -/
theorem netCommandsComplete : Obligations.NetCommandsComplete := by
  refine fun c p s => ⟨fun q => runs_ok rfl q rfl, ?port, ?nodes, ?rule, ?mirror, ?mirrorRead, ?enable, ?tune, ?ageing⟩
  case port => exact fun q port => runs_ok rfl q (netPortStatus_of_inRange port)
  case nodes => exact fun q pair least most first => runs_ok rfl q (netNodeRead_of_inRange pair least most first)
  case rule =>
    intro q rule count
    exact ⟨fun stopped => runs_ok rfl q ((netMirrorSet_of_rule rule count).trans (if_neg (Bool.eq_false_iff.1 stopped))),
      fun runs => runs_refuse rfl q ((netMirrorSet_of_rule rule count).trans (if_pos runs))⟩
  case mirror =>
    intro q all
    refine ⟨fun stop => runs_ok rfl q (netMirrorSet_of_stop all stop), fun start least most stopped free => ?_, fun start least most runs same => ?_⟩
    · exact runs_ok rfl q ((netMirrorSet_of_start all start least most).trans ((if_neg (Bool.eq_false_iff.1 stopped)).trans (if_neg (Nat.not_lt.2 free))))
    · exact runs_ok rfl q ((netMirrorSet_of_start all start least most).trans ((if_pos runs).trans (if_pos same)))
  case mirrorRead => exact fun q least most oldest newest some_ => runs_ok rfl q (netMirrorRead_of_held least most oldest newest some_)
  case enable => exact fun q port op => runs_ok rfl q (netPortEnable_of_external port op)
  case tune =>
    intro q port x t k g range
    refine ⟨fun keep => ?_, fun least most pair => ?_⟩
    · exact runs_ok rfl q ((netTune_of_inRange port range (.inl keep)).trans (congrArg done (if_pos keep)))
    · exact runs_ok rfl q ((netTune_of_inRange port range (.inr ⟨least, most, pair⟩)).trans (congrArg done (if_neg (Nat.ne_of_gt (Nat.lt_of_lt_of_le (by decide) least)))))
  case ageing =>
    intro q l range
    exact runs_ok rfl q (netAgeingSet_of_inRange range)

end Sys2Proof.Machine
end

section
/-! Frames on their way in and out of the ports (R344, R345, R348, R349, R351, R360, R363, R367). -/
namespace Sys2Proof.Machine

variable {port : Nat} {bs : List Byte} {h : Hw} {f : QFrame}

/-! ### ETH_FRAME_RX (R344, R345, R363, R367) -/

/-- The frame that the mirror sees: of a PRP pair without its trailer. -/
def mirroredFrame (port : Nat) (bs : List Byte) (h : Hw) : QFrame :=
  { frameOf port bs h with
    length := if port < 10 ∧ (netPair (port / 2) h).mode = 0 ∧ (parseFrame bs).prp.isSome = true then bs.length - 6 else bs.length }

/-- A frame that passes the receive checks counts with its octets, and the mirror sees it. -/
def receivedFrame (port : Nat) (bs : List Byte) (h : Hw) : Hw :=
  mirror 0 port 0 (mirroredFrame port bs h) (modPort port (fun x => { x with rxFrames := x.rxFrames + 1, rxBytes := x.rxBytes + (bs.length + 4) }) h)

/-- The frame is PAUSE. -/
abbrev IsPause (bs : List Byte) : Prop := (parseFrame bs).etype = 0x8808 ∧ beFld bs (parseFrame bs).body 2 = 1

/-- Where a frame that has been received goes: to PAUSE, to its pair's redundancy protocol, or to its units. -/
def routeFrame (port : Nat) (bs : List Byte) (g : Hw) : Hw :=
  if IsPause bs then pauseRx port (beFld bs ((parseFrame bs).body + 2) 2) g
  else if 10 ≤ port then dispatchFrame port [] bs g
  else match (netPair (port / 2) g).mode with
    | 0 => prpRx port bs g
    | 1 => hsrRx port bs g
    | _ => dispatchFrame port [] bs g

theorem routeFrame_of_pause (pause : IsPause bs) : routeFrame port bs h = pauseRx port (beFld bs ((parseFrame bs).body + 2) 2) h := if_pos pause

theorem routeFrame_of_prp (data : ¬IsPause bs) (pair : port < 10) (mode : (netPair (port / 2) h).mode = 0) : routeFrame port bs h = prpRx port bs h := by
  simp only [routeFrame, if_neg data, if_neg (Nat.not_le.2 pair), mode]

theorem routeFrame_of_hsr (data : ¬IsPause bs) (pair : port < 10) (mode : (netPair (port / 2) h).mode = 1) : routeFrame port bs h = hsrRx port bs h := by
  simp only [routeFrame, if_neg data, if_neg (Nat.not_le.2 pair), mode]

/-- A port without a redundancy protocol dispatches the frame as it is. -/
theorem routeFrame_of_plain (data : ¬IsPause bs) (plain : 10 ≤ port ∨ 2 ≤ (netPair (port / 2) h).mode) :
    routeFrame port bs h = dispatchFrame port [] bs h := by
  unfold routeFrame
  rw [if_neg data]
  split
  · rfl
  · split
    · omega
    · omega
    · rfl

/-- A port that is down, or not an external one, receives nothing. -/
theorem ethRx_of_down {ok : Bool} (e : portUp port h = false ∨ 12 ≤ port) : ethRx port bs ok h = h := if_pos e.symm

/-- The receive checks at a port that is up, in their order. -/
theorem ethRx_of_up {ok : Bool} (up : portUp port h = true) (external : port < 12) :
    ethRx port bs ok h =
      if ok = false then mirror 2 port 1 (mirroredFrame port bs h) (modPort port (fun x => { x with fcsErr := inc32 x.fcsErr }) h)
      else if bs.length + 4 < 64 then mirror 2 port 2 (mirroredFrame port bs h) (modPort port (fun x => { x with runt := inc32 x.runt }) h)
      else if 2048 < bs.length + 4 then mirror 2 port 2 (mirroredFrame port bs h) (modPort port (fun x => { x with oversize := inc32 x.oversize }) h)
      else routeFrame port bs (receivedFrame port bs h) := by
  have receives : ¬(12 ≤ port ∨ portUp port h = false) := by simp [up, external]
  simp only [ethRx, if_neg receives]
  rfl

/-- A frame that passes the checks is received and goes on its way. -/
theorem ethRx_of_sound (up : portUp port h = true) (external : port < 12) (least : 64 ≤ bs.length + 4) (most : bs.length + 4 ≤ 2048) :
    ethRx port bs true h = routeFrame port bs (receivedFrame port bs h) := by
  rw [ethRx_of_up up external, if_neg (by decide), if_neg (by omega), if_neg (by omega)]

/-! ### PRP and HSR (R348, R349) -/

/-- A second copy on a PRP pair is dropped as a duplicate. -/
theorem prpRx_of_second {seq lan : Nat} {w : List SeqWindow} (tag : (parseFrame bs).prp = some (seq, lan)) (own : lan = 10 + port % 2)
    (second : let g := nodeSeen (port / 2) (port % 2) (parseFrame bs).src true h
      seeSequence true g.time.mono (parseFrame bs).src seq (netPair (port / 2) g).windows = (1, w)) :
    let g := nodeSeen (port / 2) (port % 2) (parseFrame bs).src true h
    let e := putNetPair (port / 2) { netPair (port / 2) g with windows := w } g
    prpRx port bs h = dropDup port (frameOf port (bs.take (bs.length - 6)) e) e := by
  simp only [prpRx, tag, own, ne_eq, not_true_eq_false, if_false]
  dsimp only at second
  rw [second]
  rfl

/-- An HSR frame of the module's own that comes back is dropped and counted, with a tag or without. -/
theorem hsrRx_of_own (own : (parseFrame bs).src = ownMac port h) :
    hsrRx port bs h = mirror 2 port 7 (frameOf port bs h) (modPort port (fun x => { x with ownReturn := inc32 x.ownReturn }) h) := if_pos own

/-- An HSR frame without a tag for another node is passed on, and delivered where the module takes it. -/
theorem hsrRx_of_untagged (tag : (parseFrame bs).hsr = none) (foreign : (parseFrame bs).src ≠ ownMac port h) (other : (parseFrame bs).dest ≠ ownMac port h) :
    hsrRx port bs h = passAndDeliver port [(if port % 2 = 0 then port + 1 else port - 1, frameOf port bs h)] bs h := by
  simp only [hsrRx, if_neg foreign, tag, beq_false_of_ne other, Bool.false_eq_true, if_false]

theorem passAndDeliver_of_taken {extra : List (Nat × QFrame)} (taken : forModule port (parseFrame bs) bs h = true) :
    passAndDeliver port extra bs h = dispatchFrame port extra bs h := if_pos taken

theorem passAndDeliver_of_not_taken {e : Nat × QFrame} {extra : List (Nat × QFrame)} (left : forModule port (parseFrame bs) bs h = false) :
    passAndDeliver port (e :: extra) bs h = forward (e :: extra) h :=
  (if_neg (Bool.eq_false_iff.1 left)).trans (if_neg (List.cons_ne_nil e extra))

/-! ### FRAME_TRANSMIT_END (R351, R367) -/

/-- The port when its frame has left: the frame counts with its octets. -/
def sentFrame (port : Nat) (f : QFrame) (h : Hw) : Hw :=
  putPort port { portAt port h with
    sending := none, txFrames := (portAt port h).txFrames + 1, txBytes := (portAt port h).txBytes + f.bytes.length + 4 } h

theorem transmitEnd_of_external (sending : (portAt port h).sending = some f) (external : port < 12) :
    transmitEnd port h = pump port (emit (.frame port f.bytes false) (sentFrame port f h)) := by
  simp only [transmitEnd, sending, if_pos external]
  rfl

theorem transmitEnd_of_hub (sending : (portAt 19 h).sending = some f) :
    transmitEnd 19 h = pump 19 (ipAnswer f (emit (.toHub f.bytes) (sentFrame 19 f h))) := by
  simp only [transmitEnd, sending]
  rfl

/-- A frame for a die goes to its slice, where that runs. -/
theorem transmitEnd_of_slice {n : Nat} (sending : (portAt port h).sending = some f) (internal : 12 ≤ port) (die : port ≠ 19) (slice : f.slice = some n) :
    let g := sentFrame port f h
    transmitEnd port h = pump port (if (sliceAt n g).state ≠ 1 then putSlice n { sliceAt n g with quiesceDrop := inc32 (sliceAt n g).quiesceDrop } g
      else { g with slc := { g.slc with rxFrames := g.slc.rxFrames ++ [{ slice := n, generation := f.generation, since := g.time.mono, bytes := f.bytes }] } }) := by
  simp only [transmitEnd, sending, if_neg (Nat.not_lt.2 internal), if_neg die, slice]
  rfl

theorem transmitEnd_of_no_slice (sending : (portAt port h).sending = some f) (internal : 12 ≤ port) (die : port ≠ 19) (slice : f.slice = none) :
    transmitEnd port h = pump port (sentFrame port f h) := by
  simp only [transmitEnd, sending, if_neg (Nat.not_lt.2 internal), if_neg die, slice]
  rfl

theorem transmitEnd_of_idle (idle : (portAt port h).sending = none) : transmitEnd port h = h := by
  simp only [transmitEnd, idle]

/-! ### TX_UNDERRUN and START_STEP_DECAY (R359, R360) -/

theorem txUnderrun_of_idle (idle : (portAt port h).sending = none) : txUnderrun port h = h := by
  simp only [txUnderrun, idle]

/-- At step 4 the whole frame is there, and none underruns. -/
theorem txUnderrun_of_whole (sending : (portAt port h).sending = some f) (whole : 4 ≤ (portAt port h).step) : txUnderrun port h = h := by
  simp only [txUnderrun, sending, if_pos whole]

/-- A port's last step record is at least a second old, or there is none. -/
def stepRecordDue (x : Port) (h : Hw) : Bool := match x.stepRecord with | some t => decide (t + secUnit ≤ h.time.mono) | none => true

/-- Below step 4 the frame is cut off and counted, and the start step rises. -/
theorem txUnderrun_of_cut (sending : (portAt port h).sending = some f) (low : (portAt port h).step < 4) :
    let x := portAt port h
    let due := stepRecordDue x h
    let g := mirror 2 port 5 f (putPort port { x with
      sending := none, underrun := inc32 x.underrun, step := x.step + 1, stepAt := h.time.mono, stepRecord := if due then some h.time.mono else x.stepRecord } h)
    let g := if port < 12 then emit (.frame port f.bytes true) g else g
    txUnderrun port h = pump port (if due then evr 0x0E12 (0x0200 + port) (netPayload port x.step (x.step + 1) 0xFF 0xFF 0 g) g else g) := by
  simp only [txUnderrun, sending, if_neg (Nat.not_le.2 low)]
  rfl

theorem stepDecay_of_due (other : port ≠ 11) (above : (portAt port h).cfg.floor < (portAt port h).step) (quiet : secUnit ≤ h.time.mono - (portAt port h).stepAt) :
    stepDecay port h = putPort port { portAt port h with step := (portAt port h).step - 1, stepAt := h.time.mono } h :=
  if_neg (not_or.2 ⟨other, not_or.2 ⟨Nat.not_le.2 above, Nat.not_lt.2 quiet⟩⟩)

theorem stepDecay_of_not_due (e : ¬(port ≠ 11 ∧ (portAt port h).cfg.floor < (portAt port h).step ∧ secUnit ≤ h.time.mono - (portAt port h).stepAt)) :
    stepDecay port h = h :=
  if_pos (by simpa only [not_and_or, ne_eq, not_not, Nat.not_lt, Nat.not_le] using e)

/-- Settles O50: a frame's clauses are those of the check that decides, of its pair's protocol and of the port at which it leaves. -/
theorem framesAreReceivedAndSent : Obligations.FramesAreReceivedAndSent := by
  refine ⟨?receive, ?prp, ?hsr, ?own, ?sent, ?idle, ?decay⟩
  case receive =>
    intro port bs ok s
    refine ⟨fun e => runs_lift rfl (ethRx_of_down e), fun up external => ⟨?_, ?_, ?_, ?_⟩⟩
    · rintro rfl
      exact runs_lift rfl ((ethRx_of_up up external).trans (if_pos rfl))
    · rintro rfl runt
      exact runs_lift rfl ((ethRx_of_up up external).trans ((if_neg (by decide)).trans (if_pos runt)))
    · rintro rfl oversize
      exact runs_lift rfl ((ethRx_of_up up external).trans ((if_neg (by decide)).trans ((if_neg (by omega)).trans (if_pos oversize))))
    · rintro rfl least most
      have sound := ethRx_of_sound up external least most
      exact ⟨fun pause => runs_lift rfl (sound.trans (routeFrame_of_pause pause)), fun data pair mode => runs_lift rfl (sound.trans (routeFrame_of_prp data pair mode)),
        fun data pair mode => runs_lift rfl (sound.trans (routeFrame_of_hsr data pair mode)), fun data plain => runs_lift rfl (sound.trans (routeFrame_of_plain data plain))⟩
  case prp => exact fun port bs seq lan w h tag own second => prpRx_of_second tag own second
  case hsr =>
    intro port bs h tag foreign other
    have passes := hsrRx_of_untagged tag foreign other
    exact ⟨fun taken => passes.trans (passAndDeliver_of_taken taken), fun left => passes.trans (passAndDeliver_of_not_taken left)⟩
  case own => exact fun port bs h own => hsrRx_of_own own
  case sent =>
    intro port s f sending
    refine ⟨⟨fun external => runs_lift rfl (transmitEnd_of_external sending external), ?_, fun n internal die slice => ⟨fun running => ?_, fun resting => ?_⟩,
      fun internal die slice => runs_lift rfl (transmitEnd_of_no_slice sending internal die slice)⟩,
      fun whole => runs_lift rfl (txUnderrun_of_whole sending whole), fun low => runs_lift rfl ((txUnderrun_of_cut sending low).trans ?_)⟩
    · rintro rfl
      exact runs_lift rfl (transmitEnd_of_hub sending)
    · exact runs_lift rfl ((transmitEnd_of_slice sending internal die slice).trans (congrArg (pump port) (if_neg (not_not_intro running))))
    · exact runs_lift rfl ((transmitEnd_of_slice sending internal die slice).trans (congrArg (pump port) (if_pos resting)))
    · rfl
  case idle => exact fun port s idle => ⟨runs_lift rfl (transmitEnd_of_idle idle), runs_lift rfl (txUnderrun_of_idle idle)⟩
  case decay =>
    exact fun port s => ⟨fun ⟨other, above, quiet⟩ => runs_lift rfl (stepDecay_of_due other above quiet), fun e => runs_lift rfl (stepDecay_of_not_due e)⟩

end Sys2Proof.Machine
end

section
/-! Links, PAUSE, ageing, supervision and the fabric of the switch (R348, R350, R353, R356 to R358, R361, R363, R367, R368). -/
namespace Sys2Proof.Machine

variable {port quanta : Nat} {h : Hw}

/-! ### PORT_LINK_CHANGE (R350, R368) -/

theorem linkChange_of_same {up : Bool} (same : (portAt port h).link = up) : linkChange port up h = h := if_pos (.inr (.inr same))

/-- A change of link of an enabled external port is noted and recorded, and looks at the nodes of its path. -/
theorem linkChange_of_change {up : Bool} (external : port < 12) (enabled : portEnabled port h = true) (change : (portAt port h).link ≠ up) :
    let x := portAt port h
    let g := putPort port { x with link := up, linkLosses := if up then x.linkLosses else inc32 x.linkLosses } h
    linkChange port up h =
      pump port (refreshPort port (evr 0x0E10 (0x0200 + port) (netPayload port (flag (!up) 0) (flag up 0) 0xFF 0xFF 0 g) g)) := by
  refine if_neg ?_
  rintro (internal | disabled | same)
  · omega
  · exact Bool.false_ne_true (disabled.symm.trans enabled)
  · exact change same

/-! ### PAUSE (R357, R358, R363, R367) -/

/-- A received PAUSE holds a port that honours it, and is counted. -/
theorem pauseRx_of_honoured (there : portExists port h = true) (honours : honoursPause port = true) :
    pauseRx port quanta h = pump port (modPort port (fun x => { x with
      held := some (h.time.mono + quanta * 512 * 2 ^ 64 / wireRate port h), pauseRx := inc32 x.pauseRx }) h) :=
  (if_neg (by rw [there]; decide)).trans (if_pos honours)

theorem pauseRx_of_ignored (there : portExists port h = true) (ignores : honoursPause port = false) :
    pauseRx port quanta h = modPort port (fun x => { x with pauseIgnored := inc32 x.pauseIgnored }) h :=
  (if_neg (by rw [there]; decide)).trans (if_neg (Bool.eq_false_iff.1 ignores))

/-- A port exists by the variant alone. -/
theorem portExists_congr {g : Hw} (variant : g.variant = h.variant) : portExists port g = portExists port h := by
  unfold portExists computeDies
  rw [variant]

/-- What a PAUSE frame finds: at an external port it counts as received, and the mirror sees it. -/
def pauseArrived (port quanta : Nat) (h : Hw) : Hw :=
  if 12 ≤ port then h
  else enterSwitch port (frameOf port (pauseBytes ((List.range 6).map (fun i => Config.freeByte (h.free * 4096 + i))) quanta) h) (drawn h)

theorem portExists_pauseArrived : portExists port (pauseArrived port quanta h) = portExists port h := by
  refine portExists_congr ?_
  unfold pauseArrived
  split
  · rfl
  · simp only [enterSwitch_frame, drawn_frame]

theorem pauseFrameRx_of_up (up : 12 ≤ port ∨ portUp port h = true) : pauseFrameRx port quanta h = pauseRx port quanta (pauseArrived port quanta h) := by
  unfold pauseFrameRx pauseArrived
  split
  next => rfl
  next external => rw [if_neg (by rw [up.resolve_left external]; decide)]

theorem pauseFrameRx_of_down (external : port < 12) (down : portUp port h = false) : pauseFrameRx port quanta h = h :=
  (if_neg (Nat.not_le.2 external)).trans (if_pos down)

/-- The hold ends when its time is over. -/
theorem holdExpiry_of_ended (held : (portAt port h).held.isSome) (ended : isHeld port h = false) :
    holdExpiry port h = pump port (modPort port (fun x => { x with held := none }) h) :=
  if_neg (not_or.2 ⟨by simpa [← Option.isSome_iff_ne_none] using held, Bool.eq_false_iff.1 ended⟩)

theorem holdExpiry_of_free (e : (portAt port h).held = none ∨ isHeld port h = true) : holdExpiry port h = h :=
  if_pos (e.imp_left Option.isNone_iff_eq_none.2)

theorem pauseSend_of_silent (e : sendsPause port = false ∨ portEnabled port h = false) : pauseSend port h = h := if_pos e

/-- An enabled port that sends PAUSE compares its occupancy with the watermarks. -/
theorem pauseSend_of_sender (sends : sendsPause port = true) (enabled : portEnabled port h = true) :
    pauseSend port h =
      if (portAt port h).pausing = false ∧ 16 * (portAt port h).cfg.high ≤ occupancy port h then sendPause port 0xFFFF true h
      else if (portAt port h).pausing = true ∧ occupancy port h ≤ 16 * (portAt port h).cfg.low then sendPause port 0 false h
      else h :=
  if_neg (by simp [sends, enabled])

/-! ### Supervision (R350) -/

/-- The pair's protocol has supervision, and one of its ports is enabled. -/
abbrev Supervised (n : Nat) (g : Hw) : Prop := (netPair n g).mode ≠ 2 ∧ (portEnabled (2 * n) g = true ∨ portEnabled (2 * n + 1) g = true)

theorem not_supervised_iff (n : Nat) (g : Hw) :
    ((netPair n g).mode = 2 ∨ (portEnabled (2 * n) g = false ∧ portEnabled (2 * n + 1) g = false)) ↔ ¬Supervised n g := by
  simp only [Supervised, not_and_or, not_or, ne_eq, not_not, Bool.not_eq_true]

/-- One pair's supervision frame. -/
theorem supervise_step (g : Hw) (n : Nat) :
    (if (netPair n g).mode = 2 ∨ (portEnabled (2 * n) g = false ∧ portEnabled (2 * n + 1) g = false) then g else emit (.supervision n) g)
      = if Supervised n g then emit (.supervision n) g else g := by
  by_cases e : Supervised n g
  · rw [if_neg (mt (not_supervised_iff n g).1 (not_not_intro e)), if_pos e]
  · rw [if_pos ((not_supervised_iff n g).2 e), if_neg e]

theorem supervise_of_due (due : h.net.superviseAt ≤ h.time.mono) :
    supervise h = (List.range 5).foldl (fun g n => if Supervised n g then emit (.supervision n) g else g)
      { h with net := { h.net with superviseAt := h.time.mono + 2 * secUnit } } := by
  simp only [← supervise_step]
  exact if_neg (Nat.not_lt.2 due)

/-! ### The fabric (R353) -/

/-- The scheduler's pointers alone are new. -/
def OnlyPointers (n m : NetState) : Prop := m = { n with grants := m.grants, accepts := m.accepts }

theorem OnlyPointers.trans {n m k : NetState} (a : OnlyPointers n m) (b : OnlyPointers m k) : OnlyPointers n k :=
  calc k = { m with grants := k.grants, accepts := k.accepts } := b
    _ = { ({ n with grants := m.grants, accepts := m.accepts } : NetState) with grants := k.grants, accepts := k.accepts } :=
      congrArg (fun m : NetState => { m with grants := k.grants, accepts := k.accepts }) a
    _ = { n with grants := k.grants, accepts := k.accepts } := rfl

theorem onlyPointers_schedRound (first : Bool) (want : List (Nat × Nat)) (a : List (Nat × Nat) × NetState) :
    OnlyPointers a.2 (schedRound first want a).2 := by
  unfold schedRound
  dsimp only
  split <;> rfl

theorem onlyPointers_schedMatching (want : List (Nat × Nat)) (n : NetState) : OnlyPointers n (schedMatching want n).2 :=
  ((onlyPointers_schedRound true want ([], n)).trans (onlyPointers_schedRound _ _ _)).trans (onlyPointers_schedRound _ _ _)

theorem onlyPointers_moveCells (l : List (Nat × Nat × Nat)) (n : NetState) : OnlyPointers n (moveCells l n).2 :=
  onlyPointers_schedMatching _ n

/-- Cells move without a change in any queue: by induction on the cell times. -/
theorem onlyPointers_transfer (fuel : Nat) (l : List (Nat × Nat × Nat)) (n : NetState) : OnlyPointers n (transfer fuel l n) := by
  induction fuel generalizing l n with
  | zero => rfl
  | succ fuel ih =>
    unfold transfer
    split
    · rfl
    · exact ((onlyPointers_moveCells _ _).trans (onlyPointers_moveCells _ _)).trans (ih _ _)

/-- The mirror does not touch the ports. -/
theorem mirror_ports (dir port reason : Nat) (q : QFrame) (h : Hw) : (mirror dir port reason q h).net.ports = h.net.ports := by
  unfold mirror
  dsimp only
  split
  · rfl
  · split
    · rfl
    · split <;> split <;> rfl

/-! ### The statement -/

/-- Settles O51: an event's clauses are its own conditions, and the scheduler's rounds move its pointers alone. -/
theorem networkTimersAndLinks : Obligations.NetworkTimersAndLinks := by
  refine ⟨?link, ?pause, ?pauseDown, ?hold, ?timers, ?answer, ?enter, onlyPointers_transfer, ?nodes⟩
  case link =>
    exact fun port up s external enabled => ⟨fun same => runs_lift rfl (linkChange_of_same same),
      fun change => runs_lift rfl (linkChange_of_change external enabled change)⟩
  case pause =>
    intro port quanta s there small up
    have arrives : pauseFrameRx port (quanta % 65536) s.hw = pauseRx port quanta (pauseArrived port quanta s.hw) := by
      rw [Nat.mod_eq_of_lt small]
      exact pauseFrameRx_of_up up
    have there : portExists port (pauseArrived port quanta s.hw) = true := portExists_pauseArrived.trans there
    exact ⟨fun honours => runs_lift rfl (arrives.trans (pauseRx_of_honoured there honours)),
      fun ignores => runs_lift rfl (arrives.trans (pauseRx_of_ignored there ignores))⟩
  case pauseDown => exact fun port quanta s external down => runs_lift rfl (pauseFrameRx_of_down external down)
  case hold =>
    intro port s
    refine ⟨fun held ended => runs_lift rfl (holdExpiry_of_ended held ended), fun e => runs_lift rfl (holdExpiry_of_free e),
      fun e => runs_lift rfl (pauseSend_of_silent e), fun sends enabled => ⟨fun quiet high => ?_, fun quiet low => ?_, fun pausing low => ?_, fun pausing high => ?_⟩,
      fun due => runs_lift rfl (if_pos due), fun e => runs_lift rfl (if_neg e)⟩ <;>
      refine runs_lift rfl ((pauseSend_of_sender sends enabled).trans ?_)
    · exact if_pos ⟨quiet, high⟩
    · rw [if_neg (by omega), if_neg (by simp [quiet])]
    · rw [if_neg (by simp [pausing]), if_pos ⟨pausing, low⟩]
    · rw [if_neg (by simp [pausing]), if_neg (by omega)]
  case timers =>
    exact fun s => ⟨fun due => runs_lift rfl (if_neg (Nat.not_lt.2 due)), fun early => runs_lift rfl (if_pos early),
      fun due => runs_lift rfl (supervise_of_due due), fun early => runs_lift rfl (if_pos early)⟩
  case answer => exact fun q h => ⟨fun asks => if_pos asks, fun other => if_neg (Bool.eq_false_iff.1 other)⟩
  case enter => exact fun port q h => mirror_ports _ _ _ _ _
  case nodes =>
    exact fun pair mac s le => ⟨runs_lift rfl (onlyIf_of_true (decide_eq_true le)), runs_lift rfl (onlyIf_of_true (decide_eq_true le))⟩

end Sys2Proof.Machine
end

section
/-! Where the PAIR and CONST commands complete (R393 to R397, R402, R403, R413 to R415). -/
namespace Sys2Proof.Machine

variable {c : Call} {p : List Byte} {h : Hw}

/-! ### PAIR -/

theorem paired_of_section {f : Hw → CmdResult} (section_ : (pairOf h).isSome) : paired f h = f h := by
  obtain ⟨k, pair⟩ := Option.isSome_iff_exists.1 section_
  simp only [paired, pair, Option.isNone_some, Bool.false_eq_true, if_false]

theorem paired_of_none {f : Hw → CmdResult} (none_ : pairOf h = none) : paired f h = no stStateRefused rcPairNotPaired := by
  simp only [paired, none_, Option.isNone_none, if_true]

/-- An active module hands over to a live, fit partner that stands by. -/
theorem pairSwitch_of_fit (active : h.pair.role = 1) (path0 : (pathAt 0 h).live = true) (path1 : (pathAt 1 h).live = true) (standby : h.pair.partnerRole = 2)
    (serving : h.pair.partnerState = 6 ∨ h.pair.partnerState = 7) (fit : h.pair.partnerVerdict = 0) (same : h.pair.mismatch = false) :
    pairSwitch h = done (relinquish 4 h) :=
  (if_neg (not_not_intro active)).trans (if_pos ⟨path0, path1, standby, serving, fit, same⟩)

theorem pairStageRead_of_heard {st : StageOut} {x : StageStatus} {t : Nat} (stage : tfind h.spec.stages (u16 p 0) = some st) (stands : st.dropped = false)
    (heard : tfind h.pair.status (u16 p 0) = some (x, t)) :
    pairStageRead p h = .ok h (le 4 (sat32 ((h.time.mono - t) * 1000000 / 2 ^ 64)) ++ zeros 4 ++ stageStatusBytes x) := by
  simp only [pairStageRead, stage, heard, stands, Bool.false_eq_true, if_false]

/-- An interval that is kept or lies in its range is none that PAIR.TUNE refuses. -/
theorem tunable {v lo hi : Nat} (range : v = 0 ∨ (lo ≤ v ∧ v ≤ hi)) : (v != 0 && (decide (v < lo) || decide (hi < v))) = false := by
  rcases range with zero | ⟨least, most⟩
  · simp [zero]
  · simp [Nat.not_lt.2 least, Nat.not_lt.2 most]

theorem pairTune_of_inRange (scrub : u32 p 0 = 0 ∨ (3600 ≤ u32 p 0 ∧ u32 p 0 ≤ 604800)) (core : u32 p 4 = 0 ∨ (100 ≤ u32 p 4 ∧ u32 p 4 ≤ 60000))
    (kat : u32 p 8 = 0 ∨ (1 ≤ u32 p 8 ∧ u32 p 8 ≤ 3600)) :
    pairTune p h = done { h with pair := { h.pair with
      scrubPeriod := if u32 p 0 = 0 then h.pair.scrubPeriod else u32 p 0, coreInterval := if u32 p 4 = 0 then h.pair.coreInterval else u32 p 4
      katInterval := if u32 p 8 = 0 then h.pair.katInterval else u32 p 8 } } := by
  simp only [pairTune, tunable scrub, tunable core, tunable kat, Bool.or_self, Bool.false_eq_true, if_false]

/-! ### CONST -/

theorem withSection_of_section {f : ConstSection → CmdResult} {k : ConstSection} (section_ : constOf h = some k) : withSection f h = f k := by
  simp only [withSection, section_]

theorem withSection_of_none {f : ConstSection → CmdResult} (none_ : constOf h = none) : withSection f h = no stStateRefused rcConstNoSection := by
  simp only [withSection, none_]

/-- Entries that the committed manifest has are read. -/
theorem constManifestRead_of_inRange {m : Manifest} (committed : h.const.manifest = some m) (least : 1 ≤ u16 p 2) (most : u16 p 2 ≤ 64)
    (listed : u16 p 0 + u16 p 2 ≤ m.entries.length) :
    constManifestRead p h = .ok h (manifestHeader m ++ (((m.entries.drop (u16 p 0)).take (u16 p 2)).map entryBytes).flatten) := by
  simp only [constManifestRead, committed]
  exact if_neg (by omega)

theorem constTune_of_inRange (dissent : u16 p 0 ≤ 600) (time : u16 p 2 ≤ 3600) (absent : u16 p 4 = 0 ∨ (200 ≤ u16 p 4 ∧ u16 p 4 ≤ 10000)) :
    constTune p h = done { h with const := { h.const with
      dissentHold := if u16 p 0 = 0 then h.const.dissentHold else u16 p 0, timeHold := if u16 p 2 = 0 then h.const.timeHold else u16 p 2
      absentMs := if u16 p 4 = 0 then h.const.absentMs else u16 p 4 } } :=
  if_neg (by omega)

/-! ### CONST.MANIFEST_LOAD (R402, R403) -/

/-- The load that a fragment goes on with: the staged one of its sequence, or a new one. -/
def stagedOn (old : Option Staged) (p : List Byte) : Staged :=
  match old with
  | some g => if g.sequence = u32 p 0 then g else { sequence := u32 p 0, fragments := u16 p 6 }
  | none => { sequence := u32 p 0, fragments := u16 p 6 }

/-- The load with the fragment kept. -/
def stagedWith (old : Option Staged) (p : List Byte) : Staged :=
  { stagedOn old p with parts := tset (stagedOn old p).parts (u16 p 4) (p.drop 16) }

/-- The bytes of a load, in the order of its fragments. -/
def stagedData (g : Staged) : List Byte := (g.parts.map (fun e => e.2)).flatten

/-- A fragment that R403 takes: in its numbers, of the size of its place, and of no load older than the staged one nor cut in another way. -/
def TakesFragment (old : Option Staged) (p : List Byte) : Prop :=
  (1 ≤ u16 p 6 ∧ u16 p 6 ≤ 41 ∧ 1 ≤ u32 p 8 ∧ u32 p 8 ≤ 4096) ∧ (u16 p 4 < u16 p 6 ∧ (u16 p 4 + 1 = u16 p 6 ∨ u32 p 8 = 4096))
    ∧ ∀ g, old = some g → g.sequence < u32 p 0 ∨ (g.sequence = u32 p 0 ∧ g.fragments = u16 p 6)

/-- A fragment that goes on with the staged load, or is the first of a newer one, is not out of sequence. -/
theorem not_stale {old : Option Staged} {seq n : Nat} (follows : ∀ g, old = some g → g.sequence < seq ∨ (g.sequence = seq ∧ g.fragments = n)) :
    old.elim false (fun g => decide (seq < g.sequence) || (seq == g.sequence && g.fragments != n)) = false := by
  cases old with
  | none => rfl
  | some g =>
    rcases follows g rfl with newer | ⟨same, cut⟩
    · simp [Nat.not_lt.2 (Nat.le_of_lt newer), Nat.ne_of_gt newer]
    · simp [same, cut]

/-- What a fragment that is taken comes to: it is kept, or completes the load. -/
theorem constManifestLoad_of_taken (k : ConstSection) (taken : TakesFragment h.const.staged p) :
    let g := stagedWith h.const.staged p
    let pay := le 4 (stagedData g).length ++ zeros 4
    constManifestLoad k c p h = if g.parts.length < u16 p 6 then .ok { h with const := { h.const with staged := some g } } pay
      else if c.crypto.signed = false then no stAuthFailed rcConstManifestSig
      else match readManifest (stagedData g) with
        | none => no stBadParam rcConstManifestFormat
        | some m =>
          if m.constellation ≠ k.constellation ∨ m.sequence ≠ u32 p 0 then no stBadParam rcConstManifestFormat
          else if h.const.manifest.elim false (fun x => m.sequence ≤ x.sequence) then no stReplay rcConstManifestOld
          else .ok (commitManifest m h) pay := by
  obtain ⟨numbers, place, follows⟩ := taken
  have inRange : ¬(u16 p 6 = 0 ∨ 41 < u16 p 6 ∨ u32 p 8 = 0 ∨ 4096 < u32 p 8) := by omega
  have inPlace : ¬(u16 p 6 ≤ u16 p 4 ∨ (u16 p 4 + 1 < u16 p 6 ∧ u32 p 8 ≠ 4096)
      ∨ h.const.staged.elim false (fun g => decide (u32 p 0 < g.sequence) || (u32 p 0 == g.sequence && g.fragments != u16 p 6)) = true) := by
    rw [not_stale follows]
    simp only [Bool.false_eq_true, or_false]
    omega
  exact (if_neg inRange).trans (if_neg inPlace)

/-- A manifest is not older than the committed one. -/
theorem not_older {old : Option Manifest} {seq : Nat} (newer : ∀ x, old = some x → x.sequence < seq) :
    old.elim false (fun x => decide (seq ≤ x.sequence)) = false := by
  cases old with
  | none => rfl
  | some x => exact decide_eq_false (Nat.not_le.2 (newer x rfl))

section
variable {k : ConstSection} (taken : TakesFragment h.const.staged p)
include taken

theorem constManifestLoad_of_more (more : (stagedWith h.const.staged p).parts.length < u16 p 6) :
    constManifestLoad k c p h = .ok { h with const := { h.const with staged := some (stagedWith h.const.staged p) } }
      (le 4 (stagedData (stagedWith h.const.staged p)).length ++ zeros 4) :=
  (constManifestLoad_of_taken k taken).trans (if_pos more)

variable (whole : u16 p 6 ≤ (stagedWith h.const.staged p).parts.length)
include whole

theorem constManifestLoad_of_unsigned (unsigned : c.crypto.signed = false) : constManifestLoad k c p h = no stAuthFailed rcConstManifestSig :=
  (constManifestLoad_of_taken k taken).trans ((if_neg (Nat.not_lt.2 whole)).trans (if_pos unsigned))

/-- A signed whole manifest of the constellation and of its load's sequence turns on whether it is newer than the committed one. -/
theorem constManifestLoad_of_read {m : Manifest} (signed : c.crypto.signed = true) (read : readManifest (stagedData (stagedWith h.const.staged p)) = some m)
    (same : m.constellation = k.constellation) (sequence : m.sequence = u32 p 0) :
    constManifestLoad k c p h = if h.const.manifest.elim false (fun x => m.sequence ≤ x.sequence) then no stReplay rcConstManifestOld
      else .ok (commitManifest m h) (le 4 (stagedData (stagedWith h.const.staged p)).length ++ zeros 4) := by
  refine (constManifestLoad_of_taken k taken).trans ((if_neg (Nat.not_lt.2 whole)).trans ((if_neg (Bool.eq_false_iff.1.mt (by simp [signed]))).trans ?_))
  rw [read]
  exact if_neg (not_or.2 ⟨not_not_intro same, not_not_intro sequence⟩)

end

/-- A due swap changes over before the command runs. -/
theorem runsAll_constManifestLoad {s : State} {g : Hw} (e : runCmd cmdConstManifestLoad c p (swapChange s.hw) = g) : RunsAll (.constManifestLoad c p) s g :=
  runsAll_lift (f := fun h => runCmd cmdConstManifestLoad c p (swapChange h)) rfl e

/-- Settles O52: every clause is the equation of its command's own chapter, under the reply of its result; without a section the group is refused. -/
theorem pairAndConstCommandsComplete : Obligations.PairAndConstCommandsComplete := by
  intro c p s
  refine ⟨fun q => runs_ok rfl q rfl, fun section_ => ⟨?switch, ?notActive, ?stage, ?tune⟩, ?unpaired, fun q => runs_ok rfl q rfl, ?const, ?noSection, ?load⟩
  case switch =>
    exact fun q active path0 path1 standby serving fit same =>
      runsAll_ok rfl q ((paired_of_section section_).trans (pairSwitch_of_fit active path0 path1 standby serving fit same))
  case notActive =>
    exact fun q notActive => runsAll_lift rfl (runCmd_refuse q ((paired_of_section section_).trans (if_pos notActive)))
  case stage =>
    exact fun st x t q stage stands heard => runs_ok rfl q ((paired_of_section section_).trans (pairStageRead_of_heard stage stands heard))
  case tune => exact fun q scrub core kat => runs_ok rfl q ((paired_of_section section_).trans (pairTune_of_inRange scrub core kat))
  case unpaired =>
    exact fun none_ => ⟨fun q => runsAll_lift rfl (runCmd_refuse q (paired_of_none none_)), fun q => runs_refuse rfl q (paired_of_none none_),
      fun q => runs_refuse rfl q (paired_of_none none_)⟩
  case const =>
    refine fun k section_ => ⟨fun q first least most filt => ?_, fun m q committed least most listed => ?_, fun q dissent time absent => ?_⟩
    · exact runs_ok rfl q ((withSection_of_section section_).trans (if_neg (by omega)))
    · exact runs_ok rfl q ((withSection_of_section section_).trans (constManifestRead_of_inRange committed least most listed))
    · exact runs_ok rfl q ((withSection_of_section section_).trans (constTune_of_inRange dissent time absent))
  case noSection =>
    exact fun none_ => ⟨fun q => runs_refuse rfl q (withSection_of_none none_), fun q => runs_refuse rfl q (withSection_of_none none_),
      fun q => runs_refuse rfl q (withSection_of_none none_)⟩
  case load =>
    refine fun q => ⟨fun none_ => runsAll_constManifestLoad (runCmd_refuse q (withSection_of_none none_)), fun k section_ => ?_⟩
    intro n len old least most some_ limit place size follows base g data
    have body {r : CmdResult} (e : constManifestLoad k c p (swapChange s.hw) = r) : cmdConstManifestLoad.body c p (swapChange s.hw) = r :=
      (withSection_of_section section_).trans e
    have taken : TakesFragment (swapChange s.hw).const.staged p := ⟨⟨least, most, some_, limit⟩, ⟨place, size⟩, follows⟩
    refine ⟨fun more => ?_, fun whole unsigned => ?_, fun m whole signed read same sequence newer => ?_,
      fun m x whole signed read same sequence committed old => ?_⟩
    · exact runsAll_constManifestLoad (runCmd_ok q (body (constManifestLoad_of_more taken more)))
    · exact runsAll_constManifestLoad (runCmd_refuse q (body (constManifestLoad_of_unsigned taken whole unsigned)))
    · refine runsAll_constManifestLoad (runCmd_ok q (body ((constManifestLoad_of_read taken whole signed read same sequence).trans (if_neg ?_))))
      exact Bool.eq_false_iff.1 (not_older newer)
    · refine runsAll_constManifestLoad (runCmd_refuse q (body ((constManifestLoad_of_read taken whole signed read same sequence).trans (if_pos ?_))))
      rw [committed]
      exact decide_eq_true old

end Sys2Proof.Machine
end

section
/-! Heartbeats, silence, claims and the role (R372 to R384). -/
namespace Sys2Proof.Machine

variable {h : Hw}

/-! ### Heartbeats out -/

/-- A heartbeat of the path is due: the engine of a paired module runs, and no heartbeat of this due time has left. -/
def HeartbeatDue (path : Nat) (h : Hw) : Prop :=
  heartbeatStates h = true ∧ h.pair.stopped = false ∧ (pairOf h).isSome ∧ path ≤ 1
    ∧ h.time.now * 1000000000 / (heartbeatPeriodNs path * 2 ^ 64) ≠ (pathAt path h).nextDue

/-- `heartbeatSend` asks for what a due heartbeat is not. -/
theorem not_heartbeatDue_iff (path : Nat) (h : Hw) :
    (heartbeatStates h = false ∨ h.pair.stopped = true ∨ (pairOf h).isNone = true ∨ 1 < path
      ∨ h.time.now * 1000000000 / (heartbeatPeriodNs path * 2 ^ 64) = (pathAt path h).nextDue) ↔ ¬HeartbeatDue path h := by
  simp only [HeartbeatDue, not_and_or, Bool.not_eq_true, Bool.not_eq_false, Option.isSome_eq_false_iff, Option.isNone_iff_eq_none, not_le, ne_eq, not_not]

theorem heartbeatSend_of_due {path : Nat} (due : HeartbeatDue path h) :
    let n := h.time.now * 1000000000 / (heartbeatPeriodNs path * 2 ^ 64)
    heartbeatSend path h = sendHeartbeat (if h.pair.relinquish then 2 else 1) path (nsUnits (n * heartbeatPeriodNs path))
      (putPath path { pathAt path h with nextDue := n } h) :=
  if_neg (fun e => (not_heartbeatDue_iff path h).1 e due)

theorem heartbeatSend_of_not_due {path : Nat} (early : ¬HeartbeatDue path h) : heartbeatSend path h = h :=
  if_pos ((not_heartbeatDue_iff path h).2 early)

theorem sendHeartbeat_of_section {k : PairSection} (section_ : pairOf h = some k) (kind path due : Nat) :
    sendHeartbeat kind path due h = sendGoose k.key (heartbeatGoose path h.time.now (pathAt path h).sent k (heartbeatPayload kind path due k h))
      (putPath path { pathAt path h with sent := ((pathAt path h).sent + 1) % 2 ^ 32 } h) := by
  simp only [sendHeartbeat, section_]

/-! ### Heartbeats in -/

theorem heartbeatRx_of_invalid {b : Heartbeat} {k : PairSection} (section_ : pairOf h = some k) (invalid : heartbeatValid b k h = false) :
    heartbeatRx b h = { h with pair := { h.pair with invalid := inc32 h.pair.invalid } } := by
  simp only [heartbeatRx, section_]
  exact if_pos invalid

/-- The partner publishes with a claim above the module's own, which publishes too (R383). -/
def HigherClaim (b : Heartbeat) (g : Hw) : Prop :=
  (g.pair.role = 1 ∨ g.pair.role = 3) ∧ (b.stateWord / 16 % 16 = 1 ∨ b.stateWord / 16 % 16 = 3) ∧ g.pair.claim < b.claim

/-- The partner does not serve, and is UNFIT or leaves the claim to rank 1 (R376, R379). -/
def PartnerUnfit (b : Heartbeat) (k : PairSection) (g : Hw) : Prop :=
  (b.stateWord / 16 % 16 = 2 ∨ (b.stateWord % 16 ≠ 6 ∧ b.stateWord % 16 ≠ 7)) ∧ (b.verdict = 2 ∨ (k.rank = 1 ∧ 8 ≤ g.pair.partnerStandby))

/-- What a valid heartbeat comes to, the partner having been heard. -/
theorem heartbeatRx_of_valid {b : Heartbeat} {k : PairSection} (section_ : pairOf h = some k) (valid : heartbeatValid b k h = true) :
    let g := noteClash b (hearPartner b k h)
    (b.kind = 2 → heartbeatRx b h = claimOn 1 g)
    ∧ (b.kind ≠ 2 → HigherClaim b g → heartbeatRx b h = yieldTo b.claim 0xFFFF g)
    ∧ (b.kind ≠ 2 → ¬HigherClaim b g → PartnerUnfit b k g → heartbeatRx b h = claimOn (if b.verdict = 2 then 6 else 2) g)
    ∧ (b.kind ≠ 2 → ¬HigherClaim b g → ¬PartnerUnfit b k g → heartbeatRx b h = g) := by
  intro g
  simp only [heartbeatRx, section_, valid, Bool.true_eq_false, if_false]
  exact ⟨fun kind => if_pos kind, fun kind higher => (if_neg kind).trans (if_pos higher),
    fun kind lower unfit => (if_neg kind).trans ((if_neg lower).trans (if_pos unfit)),
    fun kind lower fit => (if_neg kind).trans ((if_neg lower).trans (if_neg fit))⟩

/-! ### Silence (R375, R376) -/

theorem pathSilent_of_heard {path : Nat} (heard : h.time.mono - (pathAt path h).lastValid < nsUnits (silenceNs path)) : pathSilent path h = h :=
  if_pos (.inr (.inr (.inr heard)))

/-- The path with its silence noted. -/
def silenced (path : Nat) (h : Hw) : Hw := putPath path { pathAt path h with live := false, silent := true } h

/-- A path that falls silent: a path fault beside a live one, else the loss of the partner where the other is silent too. -/
theorem pathSilent_of_late {path : Nat} (paired : (pairOf h).isSome) (isPath : path ≤ 1) (was : (pathAt path h).silent = false)
    (late : nsUnits (silenceNs path) ≤ h.time.mono - (pathAt path h).lastValid) :
    pathSilent path h = if (pathAt (1 - path) h).live then pathFault path (silenced path h)
      else if (pathAt (1 - path) h).silent ∧ (silenced path h).pair.partnerLost = false then
        (let e := { silenced path h with pair := { (silenced path h).pair with partnerLost := true } }
         if e.pair.role = 1 then contest 0 e else if e.pair.hold then e else claimOn 0 e)
      else silenced path h := by
  refine if_neg ?_
  simp only [Option.isNone_eq_false_iff.2 paired, was, Bool.false_eq_true, false_or]
  omega

/-! ### Claims at their times (R379, R382, R384) -/

theorem startupTimeout_of_entered {t : Nat} (entered : h.pair.entered = some t) :
    startupTimeout h = if h.pair.heardSince = false ∧ h.pair.hold = false ∧ nsUnits 3250000 ≤ h.time.mono - t then claimOn 2 h else h := by
  simp only [startupTimeout, entered]

theorem contestTimeout_of_contest {t : Nat} (contests : h.pair.contestAt = some t) :
    contestTimeout h = if h.pair.role = 3 ∧ nsUnits 2000000 ≤ h.time.mono - t then
      winContest ((reachable h).isEmpty || (reachable h).any (fun s => !echoes h s)) 0xFFFF h else h := by
  simp only [contestTimeout, contests]

/-- Every reachable stage calls the claim not live. -/
theorem all_not_live_iff (l : List StageStatus) : l.all (fun x => !bit x.flags 1) = true ↔ ∀ x ∈ l, bit x.flags 1 = false := by
  simp only [List.all_eq_true, Bool.not_eq_true']

theorem yieldHoldClear_of_since {t : Nat} (since : h.pair.notLiveSince = some t) :
    yieldHoldClear h = if h.pair.hold = true ∧ nsUnits 4000000 ≤ h.time.mono - t ∧ reachable h ≠ [] ∧ ∀ x ∈ reachable h, bit x.flags 1 = false then
      (let g := { h with pair := { h.pair with hold := false, notLiveSince := none } }
       if (pathAt 0 h).live = true ∨ (pathAt 1 h).live = true then g else claimOn 0 g) else h := by
  simp only [yieldHoldClear, since, all_not_live_iff]
  rfl

/-! ### A contest from STANDBY (R379 to R381) -/

@[simp] theorem sendGoose_pair (key : Option Nat) (f : Goose) (h : Hw) : (sendGoose key f h).pair = h.pair := by
  unfold sendGoose
  split
  · split
    · simp
    · rfl
  · rfl

@[simp] theorem newState_pair (x : StageOut) (h : Hw) : (newState x h).pair = h.pair := by
  unfold newState sendCgo
  dsimp only
  split <;> simp [putStage]

@[simp] theorem announceAll_pair (h : Hw) : (announceAll h).pair = h.pair :=
  foldl_keeps Hw.pair _ (fun g e => by split <;> simp) _ _

/-- Rebuilding the channel tables puts stages. -/
theorem rebuildChannels_keeps {β : Type} (f : Hw → β) (keeps : ∀ x g, f (putStage x g) = f g) (h : Hw) : f (rebuildChannels h) = f h :=
  foldl_keeps f _ (fun g _ => keeps _ g) _ _

/-- A change of role enters the new one and leaves claim and contest as they are. -/
theorem setRole_pair (new cause flags other stage : Nat) (h : Hw) :
    (setRole new cause flags other stage h).pair.role = new ∧ (setRole new cause flags other stage h).pair.contestAt = h.pair.contestAt
      ∧ (setRole new cause flags other stage h).pair.claim = h.pair.claim := by
  unfold setRole
  dsimp only
  split
  · next same => exact ⟨same, rfl, rfl⟩
  · simp

theorem contest_of_unfit (unfit : verdictOf h = 2) (cause : Nat) : contest cause h = h := if_pos unfit

theorem contest_of_exhausted (fit : verdictOf h ≠ 2) (exhausted : 0xFFFFFF ≤ highestEpoch h) (cause : Nat) :
    contest cause h = pairRecord 0x0F12 3 0 h.pair.partnerClaim 0xFFFF h :=
  (if_neg fit).trans (if_pos (Nat.lt_succ_of_le exhausted))

/-- A fit STANDBY module contests from now on with the EPOCH after the highest that it knows. -/
theorem contest_of_standby (standby : h.pair.role = 2) (fit : verdictOf h ≠ 2) (room : highestEpoch h < 0xFFFFFF) (cause : Nat) :
    (contest cause h).pair.role = 3 ∧ (contest cause h).pair.contestAt = some h.time.mono
      ∧ (contest cause h).pair.claim = (highestEpoch h + 1) * 256 + rankOf h := by
  have time : (rebuildChannels h).time = h.time := rebuildChannels_keeps Hw.time (fun _ _ => rfl) h
  have rank : rankOf (rebuildChannels h) = rankOf h := rebuildChannels_keeps rankOf (fun _ _ => rfl) h
  unfold contest
  simp only [if_neg fit, if_neg (show ¬0xFFFFFF < highestEpoch h + 1 by omega), standby, if_true, announceAll_pair]
  obtain ⟨role, contestAt, claim⟩ := setRole_pair 3 cause 0 _ 0xFFFF _
  exact ⟨role, contestAt.trans (congrArg (fun t : TimeState => some t.mono) time), claim.trans (congrArg (fun r => (highestEpoch h + 1) * 256 + r) rank)⟩

/-- Settles O53: each event of the pair by what is due, what is heard and what the module then knows. -/
theorem rolesFollowHeartbeats : Obligations.RolesFollowHeartbeats := by
  refine ⟨?send, ?receive, ?silence, ?startup, ?contest, ?hold, ?claim, ?frame⟩
  case send =>
    exact fun path s => ⟨fun due => runsAll_lift rfl (heartbeatSend_of_due due), fun early => runsAll_lift rfl (heartbeatSend_of_not_due early)⟩
  case receive =>
    intro b s k section_
    refine ⟨fun invalid => runsAll_lift rfl (heartbeatRx_of_invalid section_ invalid), fun valid => ?_, fun valid => ?_, fun valid => ?_, fun valid => ?_⟩
    all_goals obtain ⟨relinquishes, higher, unfit, none_⟩ := heartbeatRx_of_valid section_ valid
    · exact fun kind => runsAll_lift rfl (relinquishes kind)
    · exact fun kind claim => runsAll_lift rfl (higher kind claim)
    · exact fun kind lower trigger => runsAll_lift rfl (unfit kind lower trigger)
    · exact fun kind lower fit => runsAll_lift rfl (none_ kind lower fit)
  case silence =>
    refine fun path s paired isPath was => ⟨fun heard => runsAll_lift rfl (pathSilent_of_heard heard), fun late => ?_⟩
    have silent := pathSilent_of_late paired isPath was late
    refine ⟨fun live => runsAll_lift rfl (silent.trans ((if_pos live).trans ?_)), fun dead lost first => ?_, fun dead known => ?_⟩
    · simp only [pathFault, silenced, pathAt_putPath_self]
    · have both := silent.trans ((if_neg (Bool.eq_false_iff.1 dead)).trans (if_pos ⟨lost, first⟩))
      exact ⟨fun active => runsAll_lift rfl (both.trans (if_pos active)),
        fun other hold => runsAll_lift rfl (both.trans ((if_neg other).trans (if_pos hold))),
        fun other free => runsAll_lift rfl (both.trans ((if_neg other).trans (if_neg (Bool.eq_false_iff.1 free))))⟩
    · refine runsAll_lift rfl (silent.trans ((if_neg (Bool.eq_false_iff.1 dead)).trans (if_neg ?_)))
      rintro ⟨both, first⟩
      rcases known with heard | lost
      · exact Bool.eq_false_iff.1 heard both
      · exact Bool.eq_false_iff.1 first lost
  case startup =>
    exact fun t s entered => ⟨fun due => runsAll_lift rfl ((startupTimeout_of_entered entered).trans (if_pos due)),
      fun early => runsAll_lift rfl ((startupTimeout_of_entered entered).trans (if_neg early))⟩
  case contest =>
    exact fun t s contests => ⟨fun due => runsAll_lift rfl ((contestTimeout_of_contest contests).trans (if_pos due)),
      fun early => runsAll_lift rfl ((contestTimeout_of_contest contests).trans (if_neg early))⟩
  case hold =>
    intro t s since
    refine ⟨fun due live => ?_, fun due dead0 dead1 => ?_, fun early => runsAll_lift rfl ((yieldHoldClear_of_since since).trans (if_neg early))⟩
    · exact runsAll_lift rfl ((yieldHoldClear_of_since since).trans ((if_pos due).trans (if_pos live)))
    · exact runsAll_lift rfl ((yieldHoldClear_of_since since).trans ((if_pos due).trans (if_neg (by simp [dead0, dead1]))))
  case claim =>
    refine fun n h standby => ⟨fun unfit => contest_of_unfit unfit n, fun fit exhausted => contest_of_exhausted fit exhausted n, fun fit room rank => ?_⟩
    obtain ⟨role, contestAt, claim⟩ := contest_of_standby standby fit room n
    exact ⟨role, contestAt, by omega⟩
  case frame =>
    intro kind path due h k section_ isPath
    refine ⟨sendHeartbeat_of_section section_ kind path due, rfl, rfl, rfl, rfl, fun shows => if_pos shows, fun hides => ?_⟩
    rw [ownClaim, if_neg (Bool.eq_false_iff.1 hides), rankOf, section_]
    rfl

end Sys2Proof.Machine
end

section
/-! Stage status, retain images and the constellation's peers (R386, R391, R404 to R410). -/
namespace Sys2Proof.Machine

variable {h : Hw}

/-! ### Stage status (R386) -/

/-- A status of a stage that is not authentic under its control block. -/
def FalseStatus (x : StageStatus) (st : StageOut) (h : Hw) : Prop :=
  x.authentic = false ∨ stageKeyUsable st h = false ∨ x.mac ≠ st.cfg.statusMac ∨ x.gocbRef ≠ st.cfg.statusRef ∨ x.goId ≠ st.cfg.statusGoId

theorem stageStatusRx_of_false {x : StageStatus} {st : StageOut} (stage : tfind h.spec.stages x.stage = some st) (false_ : FalseStatus x st h) :
    stageStatusRx x h = h := by
  simp only [stageStatusRx, stage]
  exact if_pos false_

/-- A STANDBY module keeps an authentic status and stays in its role: it neither yields nor wins. -/
theorem stageStatusRx_of_standby {x : StageStatus} {st : StageOut} (stage : tfind h.spec.stages x.stage = some st) (true_ : ¬FalseStatus x st h)
    (standby : h.pair.role = 2) :
    let g := stageStatusRx x h
    g.pair.status = tset h.pair.status x.stage (x, h.time.mono) ∧ g.pair.role = 2
      ∧ g.pair.epochSeen = max h.pair.epochSeen (max (x.accepted / 256) (x.rejected / 256)) := by
  unfold FalseStatus at true_
  simp only [stageStatusRx, stage, if_neg true_, keepStatus, putStage, standby, Nat.reduceEqDiff, or_self, false_and, if_false, and_self]

/-! ### Retain images (R391) -/

/-- Retain images are due: the role publishes and 100 ms have passed. -/
def RetainDue (h : Hw) : Prop := retainOn h = true ∧ (h.pair.role = 1 ∨ h.pair.role = 3) ∧ h.pair.retainAt ≤ h.time.mono

theorem not_retainDue_iff (h : Hw) :
    (retainOn h = false ∨ (h.pair.role ≠ 1 ∧ h.pair.role ≠ 3) ∨ h.time.mono < h.pair.retainAt) ↔ ¬RetainDue h := by
  simp only [RetainDue, not_and_or, not_or, Bool.not_eq_true, not_le, ne_eq]

theorem retainSend_of_due (due : RetainDue h) :
    retainSend h = [0, 1, 2, 3].foldl (fun g n => sendRetain n g) { h with pair := { h.pair with retainAt := h.time.mono + nsUnits 100000000 } } :=
  if_neg (fun e => (not_retainDue_iff h).1 e due)

theorem retainSend_of_not_due (early : ¬RetainDue h) : retainSend h = h := if_pos ((not_retainDue_iff h).2 early)

/-- A load of retain fragments that has its first one. -/
def firstPartial (f : RetainFragment) : RetainPartial :=
  { image := f.image, fragments := f.fragments, crc := f.crc, identity := f.identity, parts := [(f.fragment, f.data)] }

/-- The first fragment of an image: kept, unless it is the whole image and its check verifies; then the newest such image stands. -/
theorem retainFrameRx_of_first {f : RetainFragment} {k : PairSection} (section_ : pairOf h = some k) (valid : fragmentValid f k h = true)
    (fresh : (tget h.pair.partials f.core {}).parts = []) :
    retainFrameRx f h = if 1 = f.fragments ∧ crc32c f.data = f.crc then { h with pair := { h.pair with
        partials := tdel h.pair.partials f.core
        partnerRetain := if (match tfind h.pair.partnerRetain f.core with | some (r, _) => laterSeq f.image r.sequence | none => true) = false then h.pair.partnerRetain
          else tset h.pair.partnerRetain f.core ({ sequence := f.image, identity := f.identity, data := f.data }, h.time.mono) } }
      else { h with pair := { h.pair with partials := tset h.pair.partials f.core (firstPartial f) } } := by
  simp only [retainFrameRx, section_, valid, fresh, ne_eq, not_true_eq_false, and_false, false_and, if_false, Bool.true_eq_false]
  have whole : (List.map (fun e : Nat × List Byte => e.2) (tset [] f.fragment f.data)).flatten = f.data := by simp [tset]
  rw [whole]
  rfl

/-! ### Beacons (R404 to R406) -/

/-- A beacon is due: a member's state, and one due time more has passed. -/
def BeaconDue (n : Nat) (h : Hw) : Prop := beaconStates h = true ∧ n + 1 ≠ h.const.nextBeacon ∧ beaconDue n h.moduleId ≤ h.time.now

theorem not_beaconDue_iff (n : Nat) (h : Hw) :
    (beaconStates h = false ∨ n + 1 = h.const.nextBeacon ∨ h.time.now < beaconDue n h.moduleId) ↔ ¬BeaconDue n h := by
  simp only [BeaconDue, not_and_or, Bool.not_eq_true, not_le, ne_eq, not_not]

/-- The number of the last beacon's due time that has passed. -/
def beaconNumber (h : Hw) : Nat := (h.time.now * 40960 / 2 ^ 64 - h.moduleId) / 4096

theorem beaconSend_of_not_due {k : ConstSection} (section_ : constOf h = some k) (early : ¬BeaconDue (beaconNumber h) h) : beaconSend h = h := by
  simp only [beaconSend, section_]
  exact if_pos ((not_beaconDue_iff (beaconNumber h) h).2 early)

/-- The module as a due beacon finds it, its own causes evaluated. -/
def beaconView (h : Hw) : Hw := evalConst true { h with const := { h.const with nextBeacon := beaconNumber h + 1 } }

/-- The same with the beacon's sequence taken. -/
def beaconTaken (h : Hw) : Hw :=
  { beaconView h with const := { (beaconView h).const with sequence := ((beaconView h).const.sequence + 1) % 2 ^ 32 } }

/-- A due beacon leaves under a usable key, and takes its sequence without one. -/
theorem beaconSend_of_due {k : ConstSection} (section_ : constOf h = some k) (due : BeaconDue (beaconNumber h) h) :
    let e := beaconTaken h
    beaconSend h = if k.key.elim false (fun x => keyUsable x e) then
        sendGoose k.key (beaconGoose k (beaconPayload (beaconDue (beaconNumber h) (beaconView h).moduleId) (beaconView h)) e)
          { e with const := { e.const with sent := inc32 e.const.sent } }
      else e := by
  simp only [beaconSend, section_]
  exact if_neg (fun e => (not_beaconDue_iff (beaconNumber h) h).1 e due)

/-- A beacon under a usable key of the version in use. -/
def GoodBeacon (b : Beacon) (k : ConstSection) (h : Hw) : Prop :=
  b.authentic = true ∧ (∃ key, k.key = some key ∧ keyUsable key h = true) ∧ b.version = 1

theorem not_goodBeacon_iff (b : Beacon) (k : ConstSection) (h : Hw) :
    (b.authentic = false ∨ k.key.elim true (fun x => !keyUsable x h) = true ∨ b.version ≠ 1) ↔ ¬GoodBeacon b k h := by
  cases key : k.key <;> simp [GoodBeacon, key, imp_iff_not_or]

section
variable {b : Beacon} {k : ConstSection} (section_ : constOf h = some k) (least : 4 ≤ modeCode h.mode) (most : modeCode h.mode ≤ 7)
include section_ least most

theorem beaconRx_of_bad (bad : ¬GoodBeacon b k h) : beaconRx b h = { h with const := { h.const with invalid := inc32 h.const.invalid } } := by
  simp only [beaconRx, section_]
  exact (if_neg (by omega)).trans (if_pos ((not_goodBeacon_iff b k h).2 bad))

variable (good : GoodBeacon b k h)
include good

/-- The module's own ID: an echo of its own, or a clash. -/
theorem beaconRx_of_own (own : b.moduleId = h.moduleId) :
    let g := { h with const := { h.const with clashes := inc32 h.const.clashes, clashSecond := some (secOf h.time.now) } }
    beaconRx b h = if b.ownMac then { h with const := { h.const with invalid := inc32 h.const.invalid } }
      else if h.const.clashSecond ≠ some (secOf h.time.now) then evrOpen 0x10 0x0000 g else g := by
  simp only [beaconRx, section_]
  exact (if_neg (by omega)).trans ((if_neg (fun e => (not_goodBeacon_iff b k h).1 e good)).trans (if_pos own))

variable (peer : b.moduleId ≠ h.moduleId)
include peer

/-- A peer's beacon that is not later than its last. -/
theorem beaconRx_of_old (old : (tfind h.const.peers b.moduleId).elim false (fun p => !laterSeq b.sequence p.beacon.sequence) = true) :
    beaconRx b h = { h with const := { h.const with invalid := inc32 h.const.invalid } } := by
  simp only [beaconRx, section_, if_neg (show ¬(modeCode h.mode < 4 ∨ 7 < modeCode h.mode) by omega),
    if_neg (fun e => (not_goodBeacon_iff b k h).1 e good), if_neg peer, old, if_true]

/-- A later one settles its peer's view. -/
theorem beaconRx_of_later (later : (tfind h.const.peers b.moduleId).elim false (fun p => !laterSeq b.sequence p.beacon.sequence) = false) :
    let g := { h with const := { h.const with received := inc32 h.const.received, heard := max h.const.heard b.manifest } }
    beaconRx b h = setPeer b.moduleId (viewOf b (inverted b g) { (tfind h.const.peers b.moduleId).getD {} with at_ := h.time.mono, absent := false } g) g := by
  simp only [beaconRx, section_, if_neg (show ¬(modeCode h.mode < 4 ∨ 7 < modeCode h.mode) by omega),
    if_neg (fun e => (not_goodBeacon_iff b k h).1 e good), if_neg peer, later, Bool.false_eq_true, if_false]

end

/-! ### Absence and the suspect hold -/

theorem peerAbsent_of_peer {id : Nat} {q : Peer} (peer : tfind h.const.peers id = some q) :
    peerAbsent id h = if q.absent = false ∧ q.at_ + nsUnits (h.const.absentMs * 1000000) ≤ h.time.mono then setPeer id { q with absent := true } h else h := by
  simp only [peerAbsent, peer]

theorem suspectExpiry_of_since {t : Nat} (since : h.const.cleanSince = some t) :
    suspectExpiry h = if h.const.suspect = true ∧ t + h.const.timeHold * secUnit ≤ h.time.mono then setOwnFlags h.const.dissenting false h else h := by
  simp only [suspectExpiry, since]

/-- Settles O54: a status, a fragment and a beacon by what they are checked for; what is sent and what ends by what is due. -/
theorem peersAndStagesAreHeard : Obligations.PeersAndStagesAreHeard := by
  refine ⟨?status, ?retainSend, ?retainFrame, ?beaconSend, ?beaconRx, ?absent, ?hold⟩
  case status =>
    refine fun x s st stage => ⟨fun false_ => runsAll_lift rfl (stageStatusRx_of_false stage false_), runsAll_lift rfl rfl, ?_⟩
    intro authentic key mac ref id standby
    have true_ : ¬FalseStatus x st s.hw := by simp [FalseStatus, authentic, key, mac, ref, id]
    obtain ⟨status, role, epoch⟩ := stageStatusRx_of_standby stage true_ standby
    refine ⟨by rw [status]; exact tfind_tset_self .., role, ?_, ?_⟩ <;> rw [epoch] <;> omega
  case retainSend => exact fun s => ⟨fun due => runs_lift rfl (retainSend_of_due due), fun early => runs_lift rfl (retainSend_of_not_due early)⟩
  case retainFrame =>
    intro f s k key section_ keyed usable authentic version sender here core least most place size fresh
    have valid : fragmentValid f k s.hw = true := by
      simp [fragmentValid, authentic, keyed, usable, version, sender, here, core, most, place, size, Nat.ne_of_gt least]
    have first := retainFrameRx_of_first section_ valid fresh
    exact ⟨fun whole check => runs_lift rfl (first.trans (if_pos ⟨whole.symm, check⟩)), fun more => runs_lift rfl (first.trans (if_neg (by omega)))⟩
  case beaconSend =>
    refine fun s k section_ => ⟨fun early => runs_lift rfl (beaconSend_of_not_due section_ early), fun due => ⟨fun key keyed usable => ?_, fun none_ => ?_⟩⟩
    · refine ⟨runs_lift rfl ((beaconSend_of_due section_ due).trans (if_pos ?_)), rfl, rfl, rfl, rfl⟩
      rw [keyed]
      exact usable
    · refine runs_lift rfl ((beaconSend_of_due section_ due).trans (if_neg ?_))
      cases keyed : k.key with
      | none => exact Bool.false_ne_true
      | some key => exact Bool.eq_false_iff.1 (none_ key keyed)
  case beaconRx =>
    refine fun b s k section_ least most => ⟨fun bad => ?_, fun good own echo => ?_, fun good own other => ⟨fun same => ?_, fun new => ?_⟩,
      fun q good peer known old => ?_, fun good peer later => ?_⟩
    · exact runs_lift rfl (beaconRx_of_bad section_ least most bad)
    · exact runs_lift rfl ((beaconRx_of_own section_ least most good own).trans (if_pos echo))
    · exact runs_lift rfl ((beaconRx_of_own section_ least most good own).trans ((if_neg (Bool.eq_false_iff.1 other)).trans (if_neg (not_not_intro same))))
    · exact runs_lift rfl ((beaconRx_of_own section_ least most good own).trans ((if_neg (Bool.eq_false_iff.1 other)).trans (if_pos new)))
    · exact runs_lift rfl (beaconRx_of_old section_ least most good peer (by rw [known, Option.elim_some, old]; rfl))
    · refine runs_lift rfl (beaconRx_of_later section_ least most good peer ?_)
      cases known : tfind s.hw.const.peers b.moduleId with
      | none => rfl
      | some q => rw [Option.elim_some, later q known]; rfl
  case absent =>
    exact fun id s q peer => ⟨fun due => runs_lift rfl ((peerAbsent_of_peer peer).trans (if_pos due)),
      fun early => runs_lift rfl ((peerAbsent_of_peer peer).trans (if_neg early))⟩
  case hold =>
    exact fun t s since => ⟨fun due => runs_lift rfl ((suspectExpiry_of_since since).trans (if_pos due)),
      fun early => runs_lift rfl ((suspectExpiry_of_since since).trans (if_neg early))⟩

end Sys2Proof.Machine
end

section
/-! Where the KEY commands complete, and what opens a wrapped block (R423 to R441). -/
namespace Sys2Proof.Machine

variable {c : Call} {p : List Byte} {h g : Hw} {op : Nat} {pay : List Byte}

/-! ### One at a time (R429, R430, R436) -/

/-- A key command behind one that waits waits. -/
theorem keyBody_of_waiting (busy : h.keys.waiting ≠ []) : keyBody op c p h = .later (waitKey { opcode := op, call := c, params := p } h) := if_pos busy

section
variable (idle : h.keys.waiting = [])
include idle

theorem keyBody_of_now (e : keyOp op c p h = .now g pay) : keyBody op c p h = .ok g pay := by
  simp only [keyBody, idle, ne_eq, not_true_eq_false, if_false, e]

/-- A command that brings its effect with the table waits for the write. -/
theorem keyBody_of_write (e : keyOp op c p h = .write g pay) : keyBody op c p h = .later (waitKey { opcode := op, call := c, params := p } h) := by
  simp only [keyBody, idle, ne_eq, not_true_eq_false, if_false, e]

theorem keyBody_of_forced {st id : Nat} (e : keyOp op c p h = .forced g pay st id) :
    keyBody op c p h = .later (waitKey { opcode := op, call := c, params := p, ready := some (pay, st, id) } g) := by
  simp only [keyBody, idle, ne_eq, not_true_eq_false, if_false, e]

theorem keyBody_of_refuse {st rc : Nat} (e : keyOp op c p h = .refuse st rc pay) : keyBody op c p h = .refuseIn (keyRefused op st rc p h) st rc pay := by
  simp only [keyBody, idle, ne_eq, not_true_eq_false, if_false, e]

end

/-- A refusal other than that of KEY.VERIFY changes nothing. -/
theorem keyRefused_of_other {st rc : Nat} (other : op ≠ 0x1107) : keyRefused op st rc p h = h := if_neg (fun e => other e.1)

/-- A store that is not ZEROISED runs the command of the opcode. -/
theorem keyOp_of_open (open_ : h.keys.zeroised = false) {r : KeyResult} (e : (match op with
      | 0x1101 => keyStatus h
      | 0x1102 => keyInfoRead c p h
      | 0x1103 => keyPublicRead c p h
      | 0x1104 => keyDerive c p h
      | 0x1105 => keyImport c p h
      | 0x1106 => keyStage c p h
      | 0x1107 => keyVerify c p h
      | 0x1108 => keyCommit c p h
      | 0x1109 => keyAbandon c p h
      | 0x110A => keyInvalidate c p h
      | 0x110B => keyAttest c p h
      | 0x1110 => keyAedgen c p h
      | _ => keyKatRun c h) = r) : keyOp op c p h = r :=
  (if_neg (fun z => Bool.eq_false_iff.1 open_ z.1)).trans e

theorem keyOp_of_zeroised (zeroised : h.keys.zeroised = true) (status : op ≠ 0x1101) (public_ : op ≠ 0x1103) :
    keyOp op c p h = kno stStateRefused rcKeyZeroised :=
  if_pos ⟨zeroised, status, fun e => public_ e.1⟩

/-- The command brings its effect with the write of the table. -/
def Writes (r : KeyResult) : Prop := ∃ g pay, r = .write g pay

theorem writes_of_eq {r t : KeyResult} (e : r = t) (w : Writes t) : Writes r := e ▸ w

theorem keyBody_of_writes (idle : h.keys.waiting = []) (w : Writes (keyOp op c p h)) :
    keyBody op c p h = .later (waitKey { opcode := op, call := c, params := p } h) := by
  obtain ⟨g, pay, e⟩ := w
  exact keyBody_of_write idle e

/-! ### Handles (R421, R424) -/

/-- The handle names a key of the caller that is not ORPHANED. -/
def Named (c : Call) (x : Nat) (h : Hw) : Prop := validHandle x h = true ∧ mayName c (hdlSlot x) h = true ∧ (keySlot (hdlSlot x) h).state ≠ 4

theorem not_unknown {x n : Nat} (valid : validHandle x h = true) (may : mayName c n h = true) : ¬(validHandle x h = false ∨ mayName c n h = false) := by
  simp [valid, may]

theorem onKey_of_named {x : Nat} (named : Named c x h) (f : Nat → KeySlot → KeyResult) : onKey c x h f = f (hdlSlot x) (keySlot (hdlSlot x) h) := by
  obtain ⟨valid, may, live⟩ := named
  exact (if_neg (not_unknown valid may)).trans (if_neg live)

/-- A key from slot 2 on can be replaced. -/
theorem fixedKey_of_le {n : Nat} (least : 2 ≤ n) : ¬fixedKey n = true := by
  simp only [fixedKey, decide_eq_true_eq]
  omega

/-! ### Reading (R438, R441) -/

theorem keyStatus_of_open (open_ : h.keys.zeroised = false) :
    keyStatus h = .now h (le 2 (slotsUsed h) ++ le 2 (1013 - slotsUsed h) ++ le 1 (if h.keys.selftestFailed then 2 else 0) ++ le 1 h.keys.epoch
      ++ le 2 (slotsIn 4 h) ++ le 2 (slotsIn 2 h) ++ le 2 (slotsIn 3 h) ++ le 8 h.keys.counter ++ le 4 h.keys.passed ++ le 4 h.keys.failed ++ zeros 4) := by
  simp only [keyStatus, open_, Bool.false_eq_true, if_false]

theorem keyInfoRead_of_named (valid : validHandle (u32 p 0) h = true) (may : mayName c (hdlSlot (u32 p 0)) h = true) :
    ∃ pay, keyInfoRead c p h = .now h pay :=
  ⟨_, if_neg (not_unknown valid may)⟩

section
variable (named : Named c (u32 p 0) h)
include named

/-- A public key is that of the key, or of its successor. -/
theorem keyPublicRead_of_named (use : (keySlot (hdlSlot (u32 p 0)) h).use = 2 ∨ (keySlot (hdlSlot (u32 p 0)) h).use = 3) (which : u8 p 4 ≤ 1) :
    let k := keySlot (hdlSlot (u32 p 0)) h
    keyPublicRead c p h = if u8 p 4 = 1 then
        (match k.succ with
        | some u => if k.state = 3 then .now h (le 4 (u32 p 0) ++ le 4 u.version ++ successorPublic (hdlSlot (u32 p 0)) h ++ zeros 3) else kno stStateRefused rcKeySequence
        | none => kno stStateRefused rcKeySequence)
      else .now h (le 4 (u32 p 0) ++ le 4 k.version ++ publicOf (hdlSlot (u32 p 0)) h ++ zeros 3) :=
  (onKey_of_named named _).trans (if_neg (by omega))

theorem keyPublicRead_of_unverified (use : (keySlot (hdlSlot (u32 p 0)) h).use = 2 ∨ (keySlot (hdlSlot (u32 p 0)) h).use = 3) (next : u8 p 4 = 1)
    (unverified : (keySlot (hdlSlot (u32 p 0)) h).state ≠ 3) : keyPublicRead c p h = kno stStateRefused rcKeySequence := by
  refine (keyPublicRead_of_named named use (by omega)).trans ((if_pos next).trans ?_)
  split
  · exact if_neg unverified
  · rfl

theorem keyAttest_of_named (sound : h.keys.selftestFailed = false) :
    ∃ body : List Byte, keyAttest c p h = .now h (body ++ slice (Config.sign (keyValue 8 1 h) body) 0 132) :=
  ⟨_, (if_neg (Bool.eq_false_iff.1 sound)).trans (onKey_of_named named _)⟩

/-! ### Derivation and import (R423, R425) -/

/-- The derived key below a parent that a derivation with this use and label has made before. -/
def derivedBefore (p : List Byte) (h : Hw) : Option (Nat × KeySlot) :=
  h.keys.slots.find? (fun e => e.2.state != 0 && e.2.state != 4 && e.2.parent == hdlSlot (u32 p 0) && e.2.parentGen == (keySlot (hdlSlot (u32 p 0)) h).gen
    && e.2.use == u8 p 4 && e.2.label == labelAt 8 (u16 p 6) p && e.2.origin == 0 && 0 < e.2.depth)

section
variable (sound : h.keys.selftestFailed = false) (parent : (keySlot (hdlSlot (u32 p 0)) h).use = 1) (least : 1 ≤ u16 p 6) (most : u16 p 6 ≤ 64)
include sound parent least most

theorem keyDerive_of_before (use : u8 p 4 ∈ [1, 2, 3, 8]) {e : Nat × KeySlot} (before : derivedBefore p h = some e) :
    keyDerive c p h = .now h (le 4 (handleOf e.1 e.2)) := by
  simp only [List.mem_cons, List.not_mem_nil, or_false] at use
  unfold derivedBefore at before
  refine (if_neg (Bool.eq_false_iff.1 sound)).trans ((onKey_of_named named _).trans ((if_neg (by omega)).trans ?_))
  rw [before]

theorem keyDerive_of_new (use : u8 p 4 ∈ [1, 2, 3, 8]) (new : derivedBefore p h = none) (depth : (keySlot (hdlSlot (u32 p 0)) h).depth ≤ 5) {j : Nat}
    (free : freeSlot h = some j) : Writes (keyDerive c p h) := by
  simp only [List.mem_cons, List.not_mem_nil, or_false] at use
  unfold derivedBefore at new
  refine writes_of_eq ((if_neg (Bool.eq_false_iff.1 sound)).trans ((onKey_of_named named _).trans (if_neg (by omega)))) ?_
  rw [new]
  refine writes_of_eq (if_neg (by omega)) ?_
  rw [free]
  exact ⟨_, _, rfl⟩

theorem keyImport_of_opened (mac : 5 ≤ u8 p 4) (isMac_ : u8 p 4 ≤ 7) (depth : (keySlot (hdlSlot (u32 p 0)) h).depth ≤ 5) {v : List Byte} {j : Nat}
    (opened : unwrapBlock c 16 (u8 p 4) (u32 p 0) (u32 p 8) p h = some v) (free : freeSlot h = some j) :
    Writes (keyImport c p h) := by
  refine writes_of_eq ((if_neg (Bool.eq_false_iff.1 sound)).trans ((if_neg (by omega)).trans ((onKey_of_named named _).trans
    ((if_neg (by omega)).trans ((if_neg (by omega)).trans (if_neg (by omega))))))) ?_
  rw [opened]
  dsimp only
  rw [free]
  exact ⟨_, _, rfl⟩

end

/-! ### Replacement (R427, R428) -/

section
variable (least : 2 ≤ hdlSlot (u32 p 0)) (calm : ancestorBusy 8 (hdlSlot (u32 p 0)) h = false)
include least calm

theorem keyStage_of_opened (sound : h.keys.selftestFailed = false) (mac : isMac (keySlot (hdlSlot (u32 p 0)) h).use = true)
    (zero : zeroAt p 212 132 = true) (current : inReplacement (keySlot (hdlSlot (u32 p 0)) h) = false)
    (below : ∀ m ∈ subtree (hdlSlot (u32 p 0)) h, inReplacement (keySlot m h) = false) {v : List Byte}
    (opened : unwrapBlock c 16 (keySlot (hdlSlot (u32 p 0)) h).use (u32 p 0) (u32 p 4) p h = some v) :
    Writes (keyStage c p h) := by
  have quiet : (subtree (hdlSlot (u32 p 0)) h).any (fun m => inReplacement (keySlot m h)) = false := List.any_eq_false.2 (fun m member => by simp [below m member])
  refine writes_of_eq ((if_neg (Bool.eq_false_iff.1 sound)).trans ((onKey_of_named named _).trans ((if_neg (fixedKey_of_le least)).trans
    ((if_neg (by simp [mac, zero])).trans ((if_neg (by simp only [current, calm, quiet]; decide)).trans (if_pos mac)))))) ?_
  rw [opened]
  exact ⟨_, _, rfl⟩

/-- KEY.VERIFY of a staged MAC key turns on its check value. -/
theorem keyVerify_of_staged (mac : isMac (keySlot (hdlSlot (u32 p 0)) h).use = true) (staged : (keySlot (hdlSlot (u32 p 0)) h).state = 2) {u : Successor}
    (successor : (keySlot (hdlSlot (u32 p 0)) h).succ = some u) :
    keyVerify c p h = if u.kcv = u64 p 8 then
        .now (writeArea ((replaceSet (hdlSlot (u32 p 0)) h).foldl
          (fun g m => if (keySlot m g).state = 2 then putKey m { keySlot m g with state := 3 } g else g) h)) []
      else .refuse stAuthFailed rcKeyKcv [] := by
  refine (onKey_of_named named _).trans ((if_neg (fixedKey_of_le least)).trans ((if_neg (by simp [mac])).trans ((if_neg (by simp [staged, calm])).trans ?_)))
  simp only [successor, mac, if_true, beq_iff_eq]

theorem keyCommit_of_verified (verified : (keySlot (hdlSlot (u32 p 0)) h).state = 3) : Writes (keyCommit c p h) :=
  ⟨_, _, (onKey_of_named named _).trans ((if_neg (fixedKey_of_le least)).trans (if_neg (by simp [verified, calm])))⟩

theorem keyAbandon_of_replaced (replaced : inReplacement (keySlot (hdlSlot (u32 p 0)) h) = true) :
    keyAbandon c p h = .now (writeArea (dropSuccessors (hdlSlot (u32 p 0)) h)) [] :=
  (onKey_of_named named _).trans ((if_neg (fixedKey_of_le least)).trans (if_neg (by simp [replaced, calm])))

end

/-! ### Invalidation (R434, R435) -/

/-- KEY.INVALIDATE of a key that stands turns on the bound keys of it and below. -/
theorem keyInvalidate_of_named (least : 2 ≤ hdlSlot (u32 p 0)) (other : hdlSlot (u32 p 0) ≠ 4) :
    let n := hdlSlot (u32 p 0)
    let k := keySlot n h
    let b := boundUnder n h
    keyInvalidate c p h = if b.1 = 0 then
        .write (keyRecord 0x1112 0x0C00 (u32 p 0) k.state 0 0 0 k.keyId ((withSubtree n h).reverse.foldl (fun h m => freeKey m h) h)) (boundPayload b)
      else if forced c then .forced (forceInvalidate n h) (boundPayload b) k.state k.keyId else .refuse stKeyInUse rcKeyInUse (boundPayload b) := by
  obtain ⟨valid, may, live⟩ := named
  exact (if_neg (not_unknown valid may)).trans ((if_neg (by omega)).trans (if_neg live))

end

/-! ### AEDGEN and wrapped blocks (R425, R432) -/

theorem keyAedgen_of_opened (signed : c.crypto.signed = true) (zero0 : zeroAt p 81 7 = true) (zero1 : zeroAt p 221 3 = true) (version : u8 p 0 = 1)
    (kind : u8 p 1 = 1) (least : 16 ≤ u16 p 2) (most : u16 p 2 ≤ 1023) (mac : isMac (u8 p 80) = true) (device : slice p 16 64 = h.keys.idkDigest)
    (newer : h.keys.counter < u64 p 8) (current : (keySlot (u16 p 2) h).state = 1) (use : (keySlot (u16 p 2) h).use = u8 p 80) {v : List Byte}
    (opened : unwrapBlock c 88 (u8 p 80) (handleOf (u16 p 2) (keySlot (u16 p 2) h)) (u32 p 4) p h = some v) :
    Writes (keyAedgen c p h) := by
  have inRange : ¬(u8 p 0 ≠ 1 ∨ u8 p 1 ≠ 1 ∨ u16 p 2 < 16 ∨ 1023 < u16 p 2 ∨ isMac (u8 p 80) = false) := by
    simp only [mac, version, kind, ne_eq, not_true_eq_false, Bool.true_eq_false, or_false, false_or]
    omega
  refine writes_of_eq ((if_neg (by simp [signed])).trans ((if_neg (by simp [zero0, zero1])).trans ((if_neg inRange).trans ((if_neg (not_not_intro device)).trans
    ((if_neg (Nat.not_le.2 newer)).trans (if_neg (by simp [current, use]))))))) ?_
  rw [opened]
  exact ⟨_, _, rfl⟩

theorem unwrapBlock_of_fails {o use hdl id : Nat} (fails : c.crypto.tagPasses = false ∨ (keySlot 2 h).state = 0 ∨ (keySlot 2 h).state = 4) :
    unwrapBlock c o use hdl id p h = none := if_pos fails

theorem unwrapBlock_of_passes {o use hdl id : Nat} (passes : c.crypto.tagPasses = true) (there : (keySlot 2 h).state ≠ 0) (live : (keySlot 2 h).state ≠ 4) :
    unwrapBlock c o use hdl id p h = some (slice (Config.gcmOpen (wrappingKey o hdl id p h) (slice p (o + 136) 12) (wrapContext hdl id)
      (slice p (o + 148) 32) (slice p (o + 180) 16)) 0 (macLength use)) :=
  if_neg (by simp [passes, there, live])

/-- Settles O55: each command by its own chapter, under the reply of its result or among those that wait for the table. -/
theorem keyCommandsComplete : Obligations.KeyCommandsComplete := by
  refine fun c p s => ⟨fun idle open_ => ⟨?status, ?info, ?read, ?attest, ?derive, ?import_, ?stage, ?verify, ?commit, ?abandon, ?invalidate, ?aedgen, ?kat⟩,
    ?block, ?behind, ?zeroised⟩
  case status => exact fun q => runs_ok rfl q (keyBody_of_now idle (keyOp_of_open open_ (keyStatus_of_open open_)))
  case info =>
    intro q valid may
    obtain ⟨pay, read⟩ := keyInfoRead_of_named valid may
    exact ⟨pay, read, runs_ok rfl q (keyBody_of_now idle (keyOp_of_open open_ read))⟩
  case read =>
    refine fun q named use => ⟨fun own => ?_, fun u next successor verified => ?_, fun next unverified => ?_⟩
    · exact runs_ok rfl q (keyBody_of_now idle (keyOp_of_open open_ ((keyPublicRead_of_named named use (by omega)).trans (if_neg (by omega)))))
    · refine runs_ok rfl q (keyBody_of_now idle (keyOp_of_open open_ ((keyPublicRead_of_named named use (by omega)).trans ((if_pos next).trans ?_))))
      rw [successor]
      exact if_pos verified
    · exact runs_refuseIn rfl q (keyBody_of_refuse idle (keyOp_of_open open_ (keyPublicRead_of_unverified named use next unverified)))
  case attest =>
    intro q sound named
    obtain ⟨body, attests⟩ := keyAttest_of_named (p := p) named sound
    exact ⟨body, runs_ok rfl q (keyBody_of_now idle (keyOp_of_open open_ attests))⟩
  case derive =>
    refine fun q sound named parent use least most => ⟨fun e before => ?_, fun j new depth free => ?_⟩
    · exact runs_ok rfl q (keyBody_of_now idle (keyOp_of_open open_ (keyDerive_of_before named sound parent least most use before)))
    · exact runs_later rfl q (keyBody_of_writes idle (writes_of_eq (keyOp_of_open open_ rfl) (keyDerive_of_new named sound parent least most use new depth free)))
  case import_ =>
    intro q sound named parent mac isMac_ least most depth v j opened free
    exact runs_later rfl q (keyBody_of_writes idle (writes_of_eq (keyOp_of_open open_ rfl)
      (keyImport_of_opened named sound parent least most mac isMac_ depth opened free)))
  case stage =>
    intro v q sound named least mac _ zero current calm below opened
    exact runs_later rfl q (keyBody_of_writes idle (writes_of_eq (keyOp_of_open open_ rfl) (keyStage_of_opened named least calm sound mac zero current below opened)))
  case verify =>
    intro u q named least mac staged calm successor
    have verify := keyVerify_of_staged named least calm mac staged successor
    exact ⟨fun same => runs_ok rfl q (keyBody_of_now idle (keyOp_of_open open_ (verify.trans (if_pos same)))),
      fun other => runs_refuseIn rfl q (keyBody_of_refuse (op := 0x1107) (c := c) (p := p) idle (keyOp_of_open open_ (verify.trans (if_neg other))))⟩
  case commit =>
    intro q named least verified calm
    exact runs_later rfl q (keyBody_of_writes idle (writes_of_eq (keyOp_of_open open_ rfl) (keyCommit_of_verified named least calm verified)))
  case abandon =>
    exact fun q named least replaced calm => runs_ok rfl q (keyBody_of_now idle (keyOp_of_open open_ (keyAbandon_of_replaced named least calm replaced)))
  case invalidate =>
    intro q named least other
    have invalidate := keyInvalidate_of_named named least other
    refine ⟨fun unbound => ?_, fun bound unforced => ?_, fun bound forces => ?_⟩
    · exact runs_later rfl q (keyBody_of_write idle (keyOp_of_open open_ (invalidate.trans (if_pos unbound))))
    · exact runs_refuseIn rfl q (keyBody_of_refuse idle (keyOp_of_open open_ (invalidate.trans ((if_neg bound).trans (if_neg (Bool.eq_false_iff.1 unforced))))))
    · exact runs_later rfl q (keyBody_of_forced idle (keyOp_of_open open_ (invalidate.trans ((if_neg bound).trans (if_pos forces)))))
  case aedgen =>
    intro m v q signed zero0 zero1 version kind least most mac device newer current use opened
    exact runs_later rfl q (keyBody_of_writes idle (writes_of_eq (keyOp_of_open open_ rfl)
      (keyAedgen_of_opened signed zero0 zero1 version kind least most mac device newer current use opened)))
  case kat => exact fun q => runsAll_ok rfl q (keyBody_of_now idle (keyOp_of_open open_ rfl))
  case block => exact fun o use hdl id => ⟨unwrapBlock_of_fails, unwrapBlock_of_passes⟩
  case behind => exact fun busy => ⟨fun q => runs_later rfl q (keyBody_of_waiting busy), fun q => runs_later rfl q (keyBody_of_waiting busy)⟩
  case zeroised =>
    exact fun idle zeroised q => runs_refuseIn rfl q (keyBody_of_refuse idle (keyOp_of_zeroised zeroised (by decide) (by decide)))

end Sys2Proof.Machine
end

section
/-! The sealed table, tamper and the fuse (R429, R430, R435 to R437). -/
namespace Sys2Proof.Machine

variable {h : Hw} {x : KeyPending}

/-! ### KEY_TABLE_WRITTEN -/

theorem tableWritten_of_idle (idle : h.keys.waiting = []) : tableWritten h = h := by simp only [tableWritten, idle]

section
variable (head : h.keys.waiting = [x])
include head

/-- A command that waits alone takes its effect with the table. -/
theorem tableWritten_of_write {g : Hw} {pay : List Byte} (due : x.ready = none) (writes : keyOp x.opcode x.call x.params h = .write g pay) :
    tableWritten h = answer x.call (keyMask x.opcode) stOk 0 pay { writeArea g with keys := { (writeArea g).keys with waiting := [] } } := by
  simp only [tableWritten, head, due, writes]
  rfl

/-- A forced invalidation, which is in force, is recorded. -/
theorem tableWritten_of_ready {pay : List Byte} {st id : Nat} (ready : x.ready = some (pay, st, id)) :
    let w := keyRecord 0x1112 0x0C00 (u32 x.params 0) st 0 0 0 id (writeArea h)
    tableWritten h = if h.keys.zeroised then answer x.call (keyMask x.opcode) stStateRefused rcKeyZeroised [] { h with keys := { h.keys with waiting := [] } }
      else answer x.call (keyMask x.opcode) stOk 0 pay { w with keys := { w.keys with waiting := [] } } := by
  simp only [tableWritten, head, ready]
  rfl

end

/-- The older sealed area holds the new table. -/
theorem writeArea_areas (g : Hw) :
    (writeArea g).keys.areas.head? = some { epoch := g.keys.epoch, slots := g.keys.slots, counter := g.keys.counter } ∧ (writeArea g).keys.areas.length ≤ 2 :=
  ⟨rfl, List.length_take_le ..⟩

/-! ### Tamper (R436, R437) -/

/-- A ZEROISED store keeps no slot's value or replacement. -/
theorem zeroise_slots (h : Hw) : ∀ e ∈ (zeroise h).keys.slots, e.2.value = [] ∧ e.2.succ = none ∧ e.2.state ≠ 2 ∧ e.2.state ≠ 3 := by
  intro e member
  obtain ⟨k, _, rfl⟩ := List.mem_map.1 member
  refine ⟨rfl, rfl, ?_⟩
  simp only [inReplacement, Bool.or_eq_true, beq_iff_eq]
  split <;> omega

/-- A report of Hollyhock's keeps the state of the module. -/
theorem reporting_mode {f : Hw → Hw} (keeps : (f h).mode = h.mode) : (reporting f h).mode = h.mode := by
  unfold reporting
  dsimp only
  split
  · split
    · exact keeps
    · simpa using keeps
  · rfl

/-- So does a record of Hollyhock's protected log. -/
theorem logProtected_mode (isTamper : Bool) (code : Nat) (pay : List Byte) (h : Hw) : (logProtected isTamper code pay h).mode = h.mode := by
  unfold logProtected
  dsimp only
  split <;> split <;> rfl

/-- TAMPER_N is low, and the module in another state than OFF and RETAIN has zeroised its store and recorded it. -/
def tampered (h : Hw) : Hw :=
  reporting meterTamper (keyRecord 0x1110 0x0C00 0 0 0 0 0 0 (zeroise { h with keys := { h.keys with tamperLow := true, fuseDue := decide (h.keys.epoch < 64) } }))

theorem tampered_mode (h : Hw) : (tampered h).mode = h.mode := by
  refine (reporting_mode ?_).trans (by simp [keyRecord, zeroise])
  exact (logProtected_mode _ _ _ _).trans (by simp [modLupin])

theorem tamper_of_low (low : h.keys.tamperLow = true) : tamper h = h := if_pos low

section
variable (high : h.keys.tamperLow = false)
include high

theorem tamper_of_offline (off : offline h = true) : tamper h = { h with keys := { h.keys with tamperLow := true } } :=
  (if_neg (Bool.eq_false_iff.1 high)).trans (if_pos off)

variable (on : offline h = false)
include on

/-- Away from OFF and RETAIN what else happens turns on the state. -/
theorem tamper_of_online :
    tamper h = if h.mode = .idle ∨ running h.mode = true then dropBloom (changeState .idle rcKeyZeroised (abortSwap rcCfgSwapState 0xFF 0xFF 0 (tampered h)))
      else tampered h := by
  rw [← tampered_mode h]
  exact (if_neg (Bool.eq_false_iff.1 high)).trans (if_neg (Bool.eq_false_iff.1 on))

theorem tamper_of_serving (mode : h.mode = .idle ∨ h.mode = .ready ∨ h.mode = .serving ∨ h.mode = .test) :
    tamper h = dropBloom (changeState .idle rcKeyZeroised (abortSwap rcCfgSwapState 0xFF 0xFF 0 (tampered h))) := by
  refine (tamper_of_online high on).trans (if_pos ?_)
  rcases mode with e | e | e | e <;> rw [e] <;> decide

theorem tamper_of_other (mode : h.mode = .boot ∨ h.mode = .snowdrop ∨ h.mode = .halted) : tamper h = tampered h := by
  refine (tamper_of_online high on).trans (if_neg ?_)
  rcases mode with e | e | e <;> rw [e] <;> decide

end

theorem runs_tamperRelease {s : State} : Runs .tamperRelease s { s.hw with keys := { s.hw.keys with tamperLow := false } } :=
  runs_lift (f := fun h => { h with keys := { h.keys with tamperLow := false } }) rfl rfl

/-- Settles O56: the head of the key commands by what it waits for; TAMPER_N by its level, the supply and the state. -/
theorem theKeyStoreKeepsItsTable : Obligations.TheKeyStoreKeepsItsTable := by
  refine ⟨?write, ?ready, fun s idle => runs_lift rfl (tableWritten_of_idle idle), ?zeroised, ?tamper, ?fuse, fun s => runs_tamperRelease⟩
  case write => exact fun s x g pay head due writes => ⟨runs_lift rfl (tableWritten_of_write head due writes), writeArea_areas g⟩
  case ready =>
    exact fun s x pay st id head ready => ⟨fun zeroised => runs_lift rfl ((tableWritten_of_ready head ready).trans (if_pos zeroised)),
      fun open_ => runs_lift rfl ((tableWritten_of_ready head ready).trans (if_neg (Bool.eq_false_iff.1 open_)))⟩
  case zeroised => exact fun h => ⟨rfl, rfl, rfl, zeroise_slots h⟩
  case tamper =>
    exact fun s => ⟨fun low => runsAll_lift rfl (tamper_of_low low), fun high off => runsAll_lift rfl (tamper_of_offline high off),
      fun high on mode => runsAll_lift rfl (tamper_of_serving high on mode), fun high on mode => runsAll_lift rfl (tamper_of_other high on mode)⟩
  case fuse =>
    exact fun s => ⟨fun due => runs_lift rfl (if_pos due), fun none_ => runs_lift rfl (if_neg (Bool.eq_false_iff.1 none_))⟩

end Sys2Proof.Machine
end

section
/-! What Hollyhock takes of the tap (R447, R449 to R454). -/
namespace Sys2Proof.Machine

variable {h : Hw}

/-- What a tap block settles of Hollyhock's state: the queue, the own time, the state and the last block with its grid and its instant. -/
def lupinMarks (l : LupinState) : List TapBlock × Nat × Nat × Option Nat × Nat × Option Nat := (l.inbox, l.own, l.base, l.grid, l.lastTapAt, l.live.lastK)

/-- The same of the module, with its time. -/
def tapMarks (h : Hw) := (lupinMarks h.lupin, h.time)

/-! ### What metering leaves -/

theorem tapMarks_modLupin {f : LupinState → LupinState} (keeps : ∀ l, lupinMarks (f l) = lupinMarks l) (h : Hw) : tapMarks (modLupin f h) = tapMarks h :=
  congrArg (fun m => (m, h.time)) (keeps h.lupin)

@[simp] theorem tapMarks_drawn (h : Hw) : tapMarks (drawn h) = tapMarks h := rfl

@[simp] theorem tapMarks_modRegs (n : Nat) (f : MeterRegs → MeterRegs) (h : Hw) : tapMarks (modRegs n f h) = tapMarks h := rfl

@[simp] theorem tapMarks_logRing (code point : Nat) (pay : List Byte) (h : Hw) : tapMarks (logRing code point pay h) = tapMarks h := rfl

@[simp] theorem tapMarks_demandOf (e : Rat) (n f : Nat) (h : Hw) : tapMarks (demandOf e n f h).2 = tapMarks h := by
  unfold demandOf
  split <;> rfl

@[simp] theorem tapMarks_closeSecond (n stop f grid : Nat) (pt : MeterPoint) (s : MeterSum) (h : Hw) :
    tapMarks (closeSecond n stop f grid pt s h) = tapMarks h := by
  unfold closeSecond
  exact (tapMarks_modLupin (fun _ => rfl) _).trans ((tapMarks_demandOf ..).trans (tapMarks_demandOf ..))

@[simp] theorem tapMarks_beginPeriod (n k f utc : Nat) (pt : MeterPoint) (h : Hw) : tapMarks (beginPeriod n k f utc pt h) = tapMarks h := by
  simp only [beginPeriod, tapMarks_modRegs, apply_ite tapMarks, tapMarks_logRing, ite_self]

@[simp] theorem tapMarks_closePeriod (n stop f grid : Nat) (forced : Bool) (pt : MeterPoint) (s : MeterSum) (h : Hw) :
    tapMarks (closePeriod n stop f grid forced pt s h) = tapMarks h := by
  simp only [closePeriod]
  rw [tapMarks_modLupin, tapMarks_modRegs]
  · simp only [apply_ite tapMarks, tapMarks_modRegs, tapMarks_logRing, ite_self, tapMarks_demandOf]
  · exact fun _ => rfl

@[simp] theorem tapMarks_closeUpTo (n k f grid utc : Nat) (pt : MeterPoint) (h : Hw) : tapMarks (closeUpTo n k f grid utc pt h) = tapMarks h := by
  have seconds (l : List Nat) (sec : MeterSum) : tapMarks (l.foldl (fun h _ =>
      closeSecond n ((tget h.lupin.seconds n sec).start - (tget h.lupin.seconds n sec).start % f + f) f grid pt (tget h.lupin.seconds n sec) h) h) = tapMarks h :=
    foldl_keeps tapMarks _ (fun g _ => tapMarks_closeSecond ..) l h
  unfold closeUpTo
  dsimp only
  split
  · rw [tapMarks_beginPeriod, seconds]
  · rw [foldl_keeps tapMarks, seconds]
    intro g _
    split
    · rfl
    · rw [tapMarks_beginPeriod, tapMarks_closePeriod]

@[simp] theorem tapMarks_addWindow (n w f : Nat) (pq : F64 × F64) (h : Hw) : tapMarks (addWindow n w f pq h) = tapMarks h := rfl

@[simp] theorem tapMarks_meterInstant (b : TapBlock) (f : Nat) (stranger : Bool) (n : Nat) (pt : MeterPoint) (h : Hw) :
    tapMarks (meterInstant b f stranger n pt h) = tapMarks h := by
  simp only [meterInstant]
  rw [apply_ite tapMarks, tapMarks_addWindow, ite_self]
  rfl

theorem tapMarks_eachPoint {f : Nat → MeterPoint → Hw → Hw} (keeps : ∀ n pt g, tapMarks (f n pt g) = tapMarks g) (h : Hw) :
    tapMarks (eachPoint f h) = tapMarks h :=
  foldl_keeps tapMarks _ (fun g (e : MeterPoint × Nat) => keeps e.2 e.1 g) _ h

@[simp] theorem tapMarks_spuriousRate (k : Nat) (h : Hw) : tapMarks (spuriousRate k h) = tapMarks h := by
  unfold spuriousRate
  split
  · rfl
  · split <;> rfl

@[simp] theorem tapMarks_rateCheck (k f : Nat) (h : Hw) : tapMarks (rateCheck k f h) = tapMarks h := by
  unfold rateCheck
  split
  · exact tapMarks_spuriousRate ..
  · split
    · exact tapMarks_spuriousRate ..
    · dsimp only
      split <;> rfl

/-- The input queue and the own time. -/
def tapInput (h : Hw) : List TapBlock × Nat := (h.lupin.inbox, h.lupin.own)

theorem tapInput_of_marks {g : Hw} (e : tapMarks g = tapMarks h) : tapInput g = tapInput h := congrArg (fun m => (m.1.1, m.1.2.1)) e

/-- A change of grid leaves them. -/
theorem tapInput_gridChange (old k new : Nat) (h : Hw) : tapInput (gridChange old k new h) = tapInput h := by
  have closed (stop : Nat) : tapMarks (eachPoint (fun n pt g => match (regsOf n g).period with
      | some s => closePeriod n stop (gridHz old) old true pt s g
      | none => g) h) = tapMarks h := tapMarks_eachPoint (fun n pt g => by split <;> simp) h
  exact (congrArg (fun m => (m.1.1, m.1.2.1)) (closed ((h.lupin.live.lastK.map (fun k => k + 1)).getD 0)) :)

/-- What an accepted block settles: it is the last one, and Hollyhock measures. -/
def afterBlock (b : TapBlock) (m : (List TapBlock × Nat × Nat × Option Nat × Nat × Option Nat) × TimeState) :
    (List TapBlock × Nat × Nat × Option Nat × Nat × Option Nat) × TimeState :=
  ((m.1.1, m.1.2.1, 2, some b.grid, m.2.mono, some b.k), m.2)

theorem tapMarks_tapAccepted (b : TapBlock) (gap : Bool) (h : Hw) : tapMarks (tapAccepted b gap h) = afterBlock b (tapMarks h) := by
  have strangers (l : List (List Byte)) (g : Hw) : tapMarks (l.foldl (fun h t => if h.lupin.strangers.contains t then h
      else logRing 0x06 0xFF t (modLupin (fun l => { l with strangers := l.strangers ++ [t] }) h)) g) = tapMarks g :=
    foldl_keeps tapMarks _ (fun g t => by split <;> rfl) l g
  simp only [tapAccepted]
  rw [tapMarks_rateCheck, tapMarks_eachPoint, apply_ite tapMarks, tapMarks_modLupin, ite_self, strangers]
  · rfl
  · exact fun _ => rfl
  · exact fun n pt g => by rw [tapMarks_closeUpTo, tapMarks_meterInstant, tapMarks_closeUpTo]

theorem tapInput_tapAccepted (b : TapBlock) (gap : Bool) (h : Hw) : tapInput (tapAccepted b gap h) = tapInput h :=
  congrArg (fun m => (m.1.1, m.1.2.1)) (tapMarks_tapAccepted b gap h)

/-- The records of a gap leave the tap as it is. -/
theorem tapMarks_gap (b : TapBlock) (last skipped : Nat) (h : Hw) :
    let g := eachPoint (fun n pt h => if periodLength (gridHz b.grid) pt < skipped then logRing 0x09 n (le 8 last) h else h) h
    tapMarks (if skipped = 0 then g else modLupin (fun l => { l with rateSlip := none }) g) = tapMarks h := by
  have kept := tapMarks_eachPoint (f := fun n pt h => if periodLength (gridHz b.grid) pt < skipped then logRing 0x09 n (le 8 last) h else h)
    (fun n pt g => by split <;> rfl) h
  intro g
  split
  · exact kept
  · exact (tapMarks_modLupin (fun _ => rfl) g).trans kept

/-! ### HOLLYHOCK_TAP_RX -/

theorem tapRx_of_empty {own : Nat} (empty : h.lupin.inbox = []) : tapRx own h = h := by simp only [tapRx, empty]

/-- The oldest block out of the queue, at the own time. -/
def takeOldest (own : Nat) (rest : List TapBlock) (h : Hw) : Hw := modLupin (fun l => { l with inbox := rest, own := own }) h

/-- The tap on the grid of the block. -/
def regrid (b : TapBlock) (h : Hw) : Hw :=
  match h.lupin.grid with
  | some g => if g = b.grid then h else gridChange g b.k b.grid h
  | none => h

/-- The block by its instant: a repeated one is recorded at most once a second, any later one is accepted with its gap recorded. -/
def orderBlock (b : TapBlock) (own : Nat) (h : Hw) : Hw :=
  match h.lupin.live.lastK with
  | none => tapAccepted b true h
  | some last =>
    if b.k ≤ last then
      if h.lupin.repeatedAt.elim true (fun t => decide (t + 1000000000 ≤ own)) then
        logRing 0x09 0xFF (le 8 last) (modLupin (fun l => { l with repeatedAt := some own }) h)
      else h
    else
      let skipped := b.k - last - 1
      let h := eachPoint (fun n pt h => if periodLength (gridHz b.grid) pt < skipped then logRing 0x09 n (le 8 last) h else h) h
      tapAccepted b (decide (0 < skipped)) (if skipped = 0 then h else modLupin (fun l => { l with rateSlip := none }) h)

/-- The block of HOLLYHOCK_TAP_RX goes through these three. -/
theorem tapRx_of_block {own : Nat} {b : TapBlock} {rest : List TapBlock} (oldest : h.lupin.inbox = b :: rest) :
    tapRx own h = orderBlock b own (regrid b (takeOldest own rest h)) := by
  simp only [tapRx, oldest]
  rfl

theorem tapInput_regrid (b : TapBlock) (h : Hw) : tapInput (regrid b h) = tapInput h := by
  unfold regrid
  split
  · split
    · rfl
    · exact tapInput_gridChange ..
  · rfl

theorem regrid_of_same {b : TapBlock} (same : h.lupin.grid = some b.grid) : regrid b h = h := by
  simp only [regrid, same, if_true]

theorem tapInput_orderBlock (b : TapBlock) (own : Nat) (h : Hw) : tapInput (orderBlock b own h) = tapInput h := by
  unfold orderBlock
  split
  · exact tapInput_tapAccepted ..
  · split
    · split <;> rfl
    · exact (tapInput_tapAccepted ..).trans (tapInput_of_marks (tapMarks_gap ..))

theorem tapMarks_orderBlock_of_later {b : TapBlock} (later : ∀ k, h.lupin.live.lastK = some k → k < b.k) (own : Nat) :
    tapMarks (orderBlock b own h) = afterBlock b (tapMarks h) := by
  unfold orderBlock
  split
  · exact tapMarks_tapAccepted ..
  · next last e =>
    rw [if_neg (Nat.not_le.2 (later last e))]
    exact (tapMarks_tapAccepted ..).trans (congrArg (afterBlock b) (tapMarks_gap ..))

section
variable {own : Nat} {b : TapBlock} {rest : List TapBlock} (oldest : h.lupin.inbox = b :: rest)
include oldest

/-- The oldest block leaves the queue at the own time given. -/
theorem tapInput_tapRx : tapInput (tapRx own h) = (rest, own) := by
  rw [tapRx_of_block oldest, tapInput_orderBlock, tapInput_regrid]
  rfl

/-- A later block on the same grid moves the last instant on. -/
theorem tapMarks_tapRx (grid : h.lupin.grid = some b.grid) (later : ∀ k, h.lupin.live.lastK = some k → k < b.k) :
    tapMarks (tapRx own h) = ((rest, own, 2, some b.grid, h.time.mono, some b.k), h.time) := by
  have same : regrid b (takeOldest own rest h) = takeOldest own rest h := regrid_of_same grid
  rw [tapRx_of_block oldest, same, tapMarks_orderBlock_of_later (h := takeOldest own rest h) later]
  rfl

end

end Sys2Proof.Machine
end

section
/-! The LUPIN commands, and what Hollyhock publishes, commits and adopts (R454 to R465). -/
namespace Sys2Proof.Machine

variable {c : Call} {p : List Byte} {h g : Hw}

/-! ### Reports (R462) -/

/-- The module as it is reported: a change of Hollyhock's reported state since `l` writes CODE 0x1210. -/
def reportedSince (l : LupinState) (g : Hw) : Hw := if lupinReport g.lupin = lupinReport l then g else evr 0x1210 0x1FFF (freeBytes 48 g) (drawn g)

theorem reporting_of_absent {f : Hw → Hw} (absent : hollyhock h = false) : reporting f h = h := if_neg (Bool.eq_false_iff.1 absent)

section
variable {f : Hw → Hw} (there : hollyhock h = true)
include there

theorem reporting_of_there (e : f h = g) : reporting f h = reportedSince h.lupin g := e ▸ if_pos there

/-- An effect that leaves the reported state writes none. -/
theorem reporting_of_same (e : f h = g) (same : lupinReport g.lupin = lupinReport h.lupin) : reporting f h = g :=
  (reporting_of_there there e).trans (if_pos same)

end

/-! ### Commands (R463 to R465) -/

theorem linked_of_up {f : Hw → CmdResult} (up : h.lupin.linkDown = false) : linked f h = f h := if_neg (Bool.eq_false_iff.1 up)

theorem linked_of_down {f : Hw → CmdResult} (down : h.lupin.linkDown = true) : linked f h = no stInternal rcLupinLinkDown := if_pos down

/-- The snapshots held of a point and a kind. -/
def heldSnapshots (p : List Byte) (h : Hw) : List MeterSnapshot := tget (if u8 p 1 = 1 then h.lupin.periodSnaps else h.lupin.secondSnaps) (u8 p 0) []

theorem lupinSnapshotRead_of_held {x : MeterSnapshot} (point : u8 p 0 ≤ 15) (metered : u8 p 0 < h.lupin.points.length) (kind : u8 p 1 = 1 ∨ u8 p 1 = 2)
    (newest : u32 p 4 = 0xFFFFFFFF → (heldSnapshots p h).head? = some x)
    (named : u32 p 4 ≠ 0xFFFFFFFF → (heldSnapshots p h).find? (fun y => y.sequence == u32 p 4) = some x) :
    lupinSnapshotRead p h = .ok h x.bytes := by
  have found : (if u32 p 4 = 0xFFFFFFFF then (heldSnapshots p h).head? else (heldSnapshots p h).find? (fun y => y.sequence == u32 p 4)) = some x := by
    split
    · next e => exact newest e
    · next e => exact named e
  unfold heldSnapshots at found
  refine (if_neg (by omega)).trans ((if_neg (by omega)).trans ?_)
  dsimp only
  rw [found]

/-- The area of the log that is read. -/
def logArea (p : List Byte) (h : Hw) : List (List Byte) := if u8 p 0 = 0 then h.lupin.live.ring else h.lupin.live.protected_

/-- The records that are read: from the first named on, those held. -/
def logHeld (p : List Byte) (h : Hw) : List (List Byte) :=
  (List.range (u8 p 1)).filterMap (fun i => (logArea p h).find? (fun r => u32 r 0 == u32 p 4 + i))

theorem lupinLogRead_of_area {a b : List Byte} (area : u8 p 0 ≤ 1) (least : 1 ≤ u8 p 1) (most : u8 p 1 ≤ 64) (oldest : (logArea p h).getLast? = some a)
    (newest : (logArea p h).head? = some b) :
    lupinLogRead p h = if (logHeld p h).length = u8 p 1 then .ok h (le 4 (u32 a 0) ++ le 4 (u32 b 0) ++ (logHeld p h).flatten)
      else no stBadParam rcLupinNoRecord := by
  unfold logHeld
  unfold logArea at *
  refine (if_neg (by omega)).trans ?_
  rw [oldest, newest]

/-- A fragment of R463: in its numbers, and of the size of its place. -/
def SoundFragment (p : List Byte) : Prop :=
  1 ≤ u32 p 0 ∧ u32 p 0 ≤ 2097152 ∧ u16 p 6 = (u32 p 0 + 4095) / 4096 ∧ u16 p 4 < u16 p 6 ∧ 1 ≤ u32 p 8 ∧ u32 p 8 = min 4096 (u32 p 0 - 4096 * u16 p 4)

/-- The fragments of the offer with this one. -/
def offered (p : List Byte) (h : Hw) : Tbl (List Byte) := tset ((h.lupin.offer.map (fun o => o.received)).getD []) (u16 p 4) (slice p 16 (u32 p 8))

/-- The offer with the fragment kept. -/
def withFragment (p : List Byte) (h : Hw) : Hw :=
  { h with lupin := { h.lupin with offer := some { total := u32 p 0, fragments := u16 p 6, received := offered p h } } }

section
variable (sound : SoundFragment p)
include sound

theorem lupinUpdateOffer_of_updating (updating : h.lupin.updating = true) : lupinUpdateOffer p h = no stBusy rcLupinUpdateBusy := by
  obtain ⟨least, most, fragments, place, some_, size⟩ := sound
  exact (if_neg (by omega)).trans (if_pos updating)

theorem lupinUpdateOffer_of_sound (free : h.lupin.updating = false)
    (follows : ∀ o, h.lupin.offer = some o → o.total = u32 p 0 ∧ o.fragments = u16 p 6 ∧ tfind o.received (u16 p 4) = none) :
    lupinUpdateOffer p h = if (offered p h).length < u16 p 6 then done (withFragment p h)
      else .accepted (reporting (modLupin (fun l => { l with updating := true })) (withFragment p h)) .lupinOffer := by
  obtain ⟨least, most, fragments, place, some_, size⟩ := sound
  have goesOn : (match h.lupin.offer with
      | some o => o.total != u32 p 0 || o.fragments != u16 p 6 || (tfind o.received (u16 p 4)).isSome
      | none => false) = false := by
    split
    · next o e =>
      obtain ⟨total, cut, new⟩ := follows o e
      rw [total, cut, new]
      simp
    · rfl
  refine (if_neg (by omega)).trans ((if_neg (Bool.eq_false_iff.1 free)).trans (if_neg ?_))
  refine not_or.2 ⟨fun e => Bool.eq_false_iff.1 goesOn e, by omega⟩

end

/-! ### Publishing (R454, R455) -/

theorem noTap_of_late (measures : h.lupin.base = 2) (late : h.lupin.lastTapAt + nsUnits 1000000000 ≤ h.time.mono) :
    noTap h = { h with lupin := { h.lupin with base := 3 } } := if_pos ⟨measures, late⟩

theorem noTap_of_other (other : h.lupin.base ≠ 2 ∨ h.time.mono < h.lupin.lastTapAt + nsUnits 1000000000) : noTap h = h :=
  if_neg (by omega)

theorem periodSnapshot_of_none (none_ : h.lupin.unsent = []) : periodSnapshot h = h := by simp only [periodSnapshot, none_]

/-- The oldest waiting snapshot is signed and kept, and leaves over a live link. -/
theorem periodSnapshot_of_waiting {n q : Nat} {body : List Byte} {rest : List (Nat × Nat × List Byte)} {pt : MeterPoint}
    (oldest : h.lupin.unsent = (n, q, body) :: rest) (point : h.lupin.points[n]? = some pt) :
    let x : MeterSnapshot := { sequence := q, bytes := signSnapshot body h }
    let g := { h with lupin := { h.lupin with unsent := rest, periodSnaps := tmod h.lupin.periodSnaps n [] (fun y => (x :: y).take 4096) } }
    periodSnapshot h = if h.lupin.linkDown then g else sendSnapshot pt x.bytes g := by
  simp only [periodSnapshot, oldest, modLupin, point]
  rfl

/-! ### Updates (R459, R460) -/

theorem updateVerify_of_none {own : Nat} {u : UpdateImage} (none_ : h.lupin.updating = false) : updateVerify own u h = h := if_pos none_

/-- A write to the protected log keeps what an update settles. -/
theorem logProtected_update (isTamper : Bool) (code : Nat) (pay : List Byte) (h : Hw) :
    (logProtected isTamper code pay h).lupin.sealCount = h.lupin.sealCount ∧ (logProtected isTamper code pay h).lupin.points = h.lupin.points := by
  unfold logProtected
  dsimp only
  split <;> split <;> exact ⟨rfl, rfl⟩

/-- An adopted image counts the seal, brings its points, and ends the update and what a tamper left. -/
theorem adoptUpdate_lupin (u : UpdateImage) (h : Hw) :
    (adoptUpdate u h).lupin.sealCount = h.lupin.sealCount + 1 ∧ (adoptUpdate u h).lupin.points = u.points ∧ (adoptUpdate u h).lupin.void = false :=
  ⟨congrArg (· + 1) (logProtected_update ..).1, rfl, rfl⟩

/-- A rejected image leaves a record and ends the update. -/
def rejectUpdate (r : Nat) (h : Hw) : Hw :=
  let q := logProtected false 0x04 (le 1 r) h
  { q with lupin := { q.lupin with updating := false } }

/-- The module with the offer decided. -/
def decideOffer (own : Nat) (u : UpdateImage) (h : Hw) : Hw :=
  let g := { h with lupin := { h.lupin with own := own } }
  let r := updateResult u g.lupin
  let t := if r = 0 then adoptUpdate u g else rejectUpdate r g
  { t with lupin := { t.lupin with offer := none } }

theorem updateVerify_of_offer {own : Nat} {u : UpdateImage} (updating : h.lupin.updating = true) :
    let r := updateResult u { h.lupin with own := own }
    updateVerify own u h = complete .lupinOffer stOk 0 [] (evr 0x1211 0x1FFF (le 1 r ++ le 4 (decideOffer own u h).lupin.sealCount) (decideOffer own u h)) :=
  if_neg (by simp [updating])

theorem decideOffer_lupin (own : Nat) (u : UpdateImage) (h : Hw) :
    let r := updateResult u { h.lupin with own := own }
    let t := decideOffer own u h
    t.lupin.updating = false ∧ t.lupin.offer = none
      ∧ (r = 0 → t.lupin.sealCount = h.lupin.sealCount + 1 ∧ t.lupin.points = u.points ∧ t.lupin.void = false)
      ∧ (r ≠ 0 → t.lupin.sealCount = h.lupin.sealCount ∧ t.lupin.points = h.lupin.points) := by
  intro r t
  by_cases adopted : r = 0
  · have e : t = { adoptUpdate u { h with lupin := { h.lupin with own := own } } with
        lupin := { (adoptUpdate u { h with lupin := { h.lupin with own := own } }).lupin with offer := none } } :=
      congrArg (fun t : Hw => { t with lupin := { t.lupin with offer := none } }) (if_pos adopted)
    rw [e]
    exact ⟨rfl, rfl, fun _ => adoptUpdate_lupin u { h with lupin := { h.lupin with own := own } }, fun other => absurd adopted other⟩
  · have e : t = { rejectUpdate r { h with lupin := { h.lupin with own := own } } with
        lupin := { (rejectUpdate r { h with lupin := { h.lupin with own := own } }).lupin with offer := none } } :=
      congrArg (fun t : Hw => { t with lupin := { t.lupin with offer := none } }) (if_neg adopted)
    rw [e]
    exact ⟨rfl, rfl, fun zero => absurd zero adopted, fun _ => logProtected_update false 0x04 (le 1 r) { h with lupin := { h.lupin with own := own } }⟩

/-- Settles O57: a command by the link and its parameters, an event by what is due; the report follows every effect. -/
theorem hollyhockMetersAndAnswers : Obligations.HollyhockMetersAndAnswers := by
  refine ⟨fun c p s => ⟨fun q => runs_ok rfl q rfl, fun up => ⟨?snapshot, ?log, ?identity, ?offer⟩, ?down⟩,
    fun own u s there => ⟨?empty, ?tap, ?noTap, ?hasTap, ?nothing, ?publish, ?commit, ?warning, ?powerUp, ?noOffer, ?verify⟩, ?absent⟩
  case snapshot =>
    exact fun x q point metered kind newest named => runs_ok rfl q ((linked_of_up up).trans (lupinSnapshotRead_of_held point metered kind newest named))
  case log =>
    intro n held got a b q area least most oldest newest
    have read := (linked_of_up (f := lupinLogRead p) up).trans (lupinLogRead_of_area area least most oldest newest)
    exact ⟨fun whole => runs_ok rfl q (read.trans (if_pos whole)), fun missing => runs_refuse rfl q (read.trans (if_neg missing))⟩
  case identity => exact fun q => runs_ok rfl q (linked_of_up (f := fun h => .ok h (lupinIdentityBytes h)) up)
  case offer =>
    intro total frag n len q least most fragments place some_ size
    have sound : SoundFragment p := ⟨least, most, fragments, place, some_, size⟩
    refine ⟨fun updating => runs_refuse rfl q ((linked_of_up up).trans (lupinUpdateOffer_of_updating sound updating)), fun free follows => ?_⟩
    have offer := (linked_of_up (f := lupinUpdateOffer p) up).trans (lupinUpdateOffer_of_sound sound free follows)
    exact ⟨fun more => runs_ok rfl q (offer.trans (if_pos more)), fun whole => runs_accepted rfl q (offer.trans (if_neg (Nat.not_lt.2 whole)))⟩
  case down =>
    exact fun down => ⟨fun q => runs_refuse rfl q (linked_of_down down), fun q => runs_refuse rfl q (linked_of_down down),
      fun q => runs_refuse rfl q (linked_of_down (f := fun h => .ok h (lupinIdentityBytes h)) down), fun q => runs_refuse rfl q (linked_of_down down)⟩
  case empty => exact fun empty => runs_lift rfl (reporting_of_same there (tapRx_of_empty empty) rfl)
  case tap =>
    intro b rest oldest g
    have input := tapInput_tapRx (own := own) oldest
    refine ⟨runs_lift rfl (reporting_of_there there rfl), congrArg Prod.fst input, congrArg Prod.snd input, fun grid later => ?_⟩
    have marks := tapMarks_tapRx (own := own) oldest grid later
    exact ⟨congrArg (fun m => m.1.2.2.2.2.2) marks, congrArg (fun m => m.1.2.2.1) marks, congrArg (fun m => m.1.2.2.2.1) marks,
      congrArg (fun m => m.1.2.2.2.2.1) marks⟩
  case noTap => exact fun measures late => runs_lift rfl (reporting_of_there there (noTap_of_late measures late))
  case hasTap => exact fun other => runs_lift rfl (reporting_of_same there (noTap_of_other other) rfl)
  case nothing => exact fun none_ => runs_lift rfl (reporting_of_same there (periodSnapshot_of_none none_) rfl)
  case publish =>
    intro n q body rest pt oldest point
    have snapshot := periodSnapshot_of_waiting oldest point
    exact ⟨fun down => runs_lift rfl (reporting_of_same there (snapshot.trans (if_pos down)) rfl),
      fun up => runs_lift rfl (reporting_of_there there (snapshot.trans (if_neg (Bool.eq_false_iff.1 up))))⟩
  case commit => exact runs_lift rfl (reporting_of_same there rfl rfl)
  case warning => exact runs_lift rfl (reporting_of_same there rfl rfl)
  case powerUp => exact runs_lift rfl (reporting_of_there there rfl)
  case noOffer => exact fun none_ => runs_lift rfl (reporting_of_same there (updateVerify_of_none none_) rfl)
  case verify => exact fun updating => ⟨runs_lift rfl (reporting_of_there there (updateVerify_of_offer updating)), decideOffer_lupin own u s.hw⟩
  case absent =>
    intro own u s absent i member
    simp only [List.mem_cons, List.not_mem_nil, or_false] at member
    rcases member with rfl | rfl | rfl | rfl | rfl | rfl | rfl <;> exact runs_lift rfl (reporting_of_absent absent)

end Sys2Proof.Machine
end

section
/-! Where the DIAG commands complete (R530, R532, R541 to R543). -/
namespace Sys2Proof.Machine

variable {c : Call} {p : List Byte} {h : Hw}

/-! ### DIAG.FAULT_READ -/

/-- The entries of the log, oldest first, that are read: from the sequence named on. -/
def faultsFrom (p : List Byte) (h : Hw) : List FaultEntry := ((h.fault.log.reverse).dropWhile (fun e => e.sequence != u32 p 0)).take (u16 p 4)

theorem diagFaultRead_of_held {a b : FaultEntry} (least : 1 ≤ u16 p 4) (most : u16 p 4 ≤ 64) (oldest : h.fault.log.reverse.head? = some a)
    (newest : h.fault.log.head? = some b) (held : faultsFrom p h ≠ []) :
    diagFaultRead p h = .ok h (le 4 a.sequence ++ le 4 b.sequence ++ zeros 8 ++ ((faultsFrom p h).map faultEntryBytes).flatten) := by
  obtain ⟨e, rest, got⟩ := List.exists_cons_of_ne_nil held
  refine (if_neg (by omega)).trans ?_
  unfold faultsFrom at got
  simp only [faultsFrom, oldest, newest, got]

theorem diagFaultRead_of_gone (least : 1 ≤ u16 p 4) (most : u16 p 4 ≤ 64) (gone : faultsFrom p h = []) : diagFaultRead p h = no stBadParam rcDiagNoEntry := by
  refine (if_neg (by omega)).trans ?_
  unfold faultsFrom at gone
  simp only [gone]
  cases h.fault.log.reverse.head? <;> cases h.fault.log.head? <;> rfl

/-! ### DIAG.SELFTEST -/

/-- The blocks that DIAG.SELFTEST names. -/
def pickedBlocks (p : List Byte) (h : Hw) : List Nat :=
  (List.range (blockCount h)).filter (fun n => (u8 p 1 == 0xFF || n / 4 == u8 p 1) && (u8 p 2 == 0xFF || n % 4 == u8 p 2))

/-- One of the four tests, or all. -/
def runTest (p : List Byte) (i : Nat) (f : Hw → Hw) (h : Hw) : Hw := if u8 p 0 = 0 ∨ u8 p 0 = i then f h else h

/-- A scrub pass begins. -/
def beginScrub (h : Hw) : Hw := { h with pair := { h.pair with scrubAt := h.time.mono } }

section
variable (die : u8 p 1 ≤ 5 ∨ u8 p 1 = 0xFF) (block : u8 p 2 ≤ 3 ∨ u8 p 2 = 0xFF) (test : u8 p 0 ≤ 4)
include die block test

theorem diagSelftest_of_fenced (fenced : u8 p 1 ∈ h.fault.fenced) : diagSelftest c p h = no stStateRefused rcDiagFenced :=
  (if_neg (by omega)).trans ((if_neg (by omega)).trans ((if_neg (by omega)).trans (if_pos (List.contains_iff_mem.2 fenced))))

theorem diagSelftest_of_open (open_ : u8 p 1 ∉ h.fault.fenced) :
    diagSelftest c p h = done (runTest p 4 beginScrub (runTest p 3 (katTest c.crypto.selftest) (runTest p 2 (loopbackTest c.crypto.selftest)
      (runTest p 1 (coreTest (pickedBlocks p h) c.crypto.selftest) h)))) :=
  (if_neg (by omega)).trans ((if_neg (by omega)).trans ((if_neg (by omega)).trans (if_neg (mt List.contains_iff_mem.1 open_))))

end

/-! ### DIAG.QUARANTINE (R530, R532) -/

/-- The cells that a target names. -/
def targetCells (x : Nat) : List Nat := if x = 0xFF then List.range 8 else [x]

/-- Cells that stay in service without a target, a block below 4 cells counting none. -/
def cellsLeft (n x : Nat) (h : Hw) : Nat :=
  let rest := ((cellsInService n h).filter (fun y => !(targetCells x).contains y)).length
  ((List.range (blockCount h)).filter (fun b => b != n)).foldl (fun a b => a + (cellsInService b h).length) 0 + (if rest < 4 then 0 else rest)

/-- The module with a target released: its cells take work, and their errors are forgotten. -/
def released (n x : Nat) (h : Hw) : Hw :=
  let cells := targetCells x
  let b := blockAt n h
  let g := putBlock n { b with
    badCells := b.badCells.filter (fun y => !cells.contains y), quarantined := if x = 0xFF then false else b.quarantined
    emptySince := cells.foldl (fun t y => tset t y h.time.mono) b.emptySince } h
  let g := modFault (fun f => { f with cellErrors := f.cellErrors.filter (fun e => !(cells.map (fun y => n * 8 + y)).contains e.1) }) g
  { g with pair := { g.pair with corePassed := sat32 (g.pair.corePassed + cells.length) } }

/-- What DIAG.QUARANTINE of a target comes to on a die that is not fenced. -/
theorem diagQuarantine_of_target {n x : Nat} (target : targetOf (u16 p 0) = some (n, x)) (open_ : n / 4 ∉ h.fault.fenced) (op : u8 p 2 ≤ 1) :
    diagQuarantine c p h = if u8 p 2 = 1 then
        (if cellsLeft n x h = 0 then no stDenied rcDiagLastCell
        else done (if x = 0xFF then quarantineBlock n (regionSource (regionOf n)) 0 h else quarantineCell n x 0 h))
      else if (targetCells x).filter (fun y => c.crypto.selftest.cells.contains (n * 8 + y)) ≠ [] then no stDenied rcDiagSelftestFailed
      else done (released n x h) := by
  simp only [diagQuarantine, target]
  exact (if_neg (Nat.not_lt.2 op)).trans (if_neg (mt List.contains_iff_mem.1 open_))

/-- A released target is in no list of bad cells, and no other block has changed. -/
theorem released_blocks (n x : Nat) (h : Hw) :
    (∀ y ∈ targetCells x, y ∉ (blockAt n (released n x h)).badCells) ∧ (x = 0xFF → (blockAt n (released n x h)).quarantined = false)
      ∧ ∀ m, m ≠ n → blockAt m (released n x h) = blockAt m h := by
  have self : blockAt n (released n x h) = { blockAt n h with
      badCells := (blockAt n h).badCells.filter (fun y => !(targetCells x).contains y), quarantined := if x = 0xFF then false else (blockAt n h).quarantined
      emptySince := (targetCells x).foldl (fun t y => tset t y h.time.mono) (blockAt n h).emptySince } := blockAt_putBlock_self ..
  rw [self]
  refine ⟨fun y member bad => ?_, fun whole => if_pos whole, fun m other => blockAt_putBlock_ne n m _ h other⟩
  have kept := (List.mem_filter.1 bad).2
  rw [List.contains_iff_mem.2 member] at kept
  exact Bool.false_ne_true kept

/-! ### DIAG.INJECT (R543) -/

/-- Errors that a cell can show are injected one by one, marked as injected. -/
theorem diagInject_of_cell {n x : Nat} (kind : u8 p 0 = 1 ∨ u8 p 0 = 2 ∨ u8 p 0 = 4 ∨ u8 p 0 = 5) (target : targetOf (u16 p 2) = some (n, x)) (cell : x < 8)
    (open_ : n / 4 ∉ h.fault.fenced) (least : 1 ≤ u32 p 4) (most : u32 p 4 ≤ 1000) :
    let g := (List.range (u32 p 4)).foldl (fun g _ => injectOne (u8 p 0) (u16 p 2) g)
      { h with fault := { h.fault with injected := true }, evr := { h.evr with injecting := true } }
    diagInject p h = done { g with evr := { g.evr with injecting := false } } := by
  have known : [1, 2, 4, 5, 10].contains (u8 p 0) = true := by rcases kind with e | e | e | e <;> rw [e] <;> decide
  have other : u8 p 0 ≠ 10 := by omega
  have named : (targetOf (u16 p 2)).bind (fun t => if t.2 < 8 then some t.1 else none) = some n := by
    rw [target]
    exact if_pos cell
  have inRange : ¬([1, 2, 4, 5, 10].contains (u8 p 0) = false ∨ u32 p 4 = 0 ∨ 1000 < u32 p 4) := by
    rw [known]
    simp only [Bool.true_eq_false, false_or]
    omega
  refine (if_neg inRange).trans ?_
  simp only [named, if_neg other, Option.map_some, Option.elim_some, Option.isNone_some, Bool.false_eq_true, if_false]
  exact if_neg (mt List.contains_iff_mem.1 open_)

/-! ### DIAG.FW_LOAD (R541) -/

theorem diagFwLoad_of_running (sound : fragmentOk 33554432 (u32 p 0) (u16 p 4) (u16 p 6) (u32 p 8) = true) (image : u8 p 12 ≤ 1) (mode : h.mode ≠ .snowdrop)
    (running : u8 p 12 = h.boot.running) : diagFwLoad c p h = no stDenied rcDiagFwRunning :=
  (if_neg (by simp only [sound, Bool.true_eq_false, false_or]; omega)).trans (if_pos ⟨mode, running⟩)

/-- A load that has its first fragment. -/
def firstFwFragment (c : Call) (p : List Byte) : FwLoad :=
  { session := c.hdr.session, total := u32 p 0, fragments := u16 p 6, image := u8 p 12, received := [(u16 p 4, slice p 16 (u32 p 8))], prefer := bit (u8 p 13) 0 }

/-- The first fragment makes the image in flash invalid; it is kept, or it is the whole image, whose check is owed. -/
theorem diagFwLoad_of_first (sound : fragmentOk 33554432 (u32 p 0) (u16 p 4) (u16 p 6) (u32 p 8) = true) (image : u8 p 12 ≤ 1)
    (other : h.mode = .snowdrop ∨ u8 p 12 ≠ h.boot.running) (first : h.boot.load = none) :
    let g := putImage (u8 p 12) invalidImage h
    diagFwLoad c p h = if 1 < u16 p 6 then .ok { g with boot := { g.boot with load := some (firstFwFragment c p) } } (fwBytes (fwReceived (firstFwFragment c p)) (u8 p 12) 0 0 (zeros 8))
      else .accepted { g with boot := { g.boot with load := some { firstFwFragment c p with verifying := true } } } .fwLoad := by
  have notRunning : ¬(h.mode ≠ .snowdrop ∧ u8 p 12 = h.boot.running) := fun e => other.elim e.1 (fun k => k e.2)
  refine (if_neg (by simp only [sound, Bool.true_eq_false, false_or]; omega)).trans ((if_neg notRunning).trans ?_)
  simp only [first, Option.getD_none, ne_eq, not_true_eq_false, Bool.false_eq_true, or_self, if_false, Option.isSome_none]
  rfl

end Sys2Proof.Machine
end

section
/-! Errors, quarantine, links and self-tests (R390, R528 to R537, R544), and the end of a firmware load. -/
namespace Sys2Proof.Machine

variable {n x : Nat} {h : Hw}

/-! ### ECC_ERROR (R528) -/

theorem eccError_l1_corrected (block : n < blockCount h) (cell : x < 8) :
    eccError (.l1 n x true) h = noteCorrected (regionSource (regionOf n)) 1 { h with fault := { h.fault with l1Corr := inc32 h.fault.l1Corr } } :=
  if_pos ⟨block, cell⟩

theorem eccError_l2_corrected (block : n < blockCount h) (cell : x < 8) :
    eccError (.l2 n x true) h = noteCorrected (regionSource (regionOf n)) 3 { h with fault := { h.fault with l2Corr := inc32 h.fault.l2Corr } } :=
  if_pos ⟨block, cell⟩

theorem eccError_l1_of_on (on : x ∈ cellsInService n h) :
    eccError (.l1 n x false) h = attribute_ n x 2 (failRunning n x 2 (latch 0 true { h with fault := { h.fault with l1Unc := inc32 h.fault.l1Unc } })) :=
  if_pos (List.contains_iff_mem.2 on)

theorem eccError_l2_of_on (on : x ∈ cellsInService n h) :
    eccError (.l2 n x false) h = attribute_ n x 4 (failRunning n x 4 (latch 0 true { h with fault := { h.fault with l2Unc := inc32 h.fault.l2Unc } })) :=
  if_pos (List.contains_iff_mem.2 on)

theorem eccError_l1_of_off (off : x ∉ cellsInService n h) : eccError (.l1 n x false) h = h := if_neg (mt List.contains_iff_mem.1 off)

theorem eccError_l2_of_off (off : x ∉ cellsInService n h) : eccError (.l2 n x false) h = h := if_neg (mt List.contains_iff_mem.1 off)

section
variable {m : Nat} {cell : Option (Nat × Nat)}

theorem eccError_dram_of_none (beyond : 3 < m) (corrected : Bool) : eccError (.dram m cell corrected) h = h := by
  cases corrected <;> exact if_pos beyond

theorem eccError_dram_corrected (controller : m ≤ 3) :
    eccError (.dram m cell true) h = noteCorrected (0x0E00 + m) 12 { h with fault := { h.fault with dramCorr := inc32 h.fault.dramCorr } } :=
  if_neg (Nat.not_lt.2 controller)

/-- An uncorrected DRAM error counts and sets finding 0. -/
def dramFound (h : Hw) : Hw := latch 0 true { h with fault := { h.fault with dramUnc := inc32 h.fault.dramUnc } }

/-- The running item that a DRAM error has struck. -/
def struckItem (cell : Option (Nat × Nat)) (h : Hw) : Option ((Nat × Nat) × Run) :=
  cell.bind (fun e => (tfind (blockAt e.1 h).running e.2).map (fun r => (e, r)))

theorem eccError_dram_of_no_item (controller : m ≤ 3) (none_ : ∀ e, cell = some e → tfind (blockAt e.1 h).running e.2 = none) :
    eccError (.dram m cell false) h = latch 8 true (logFault (0x0E00 + m) 13 0 0xFFFF 0xFFFF (dramFound h)) := by
  have item : struckItem cell (dramFound h) = none := by
    cases at_ : cell with
    | none => rfl
    | some e => exact congrArg (Option.map (fun r => (e, r))) (none_ e at_)
  refine (if_neg (Nat.not_lt.2 controller)).trans ?_
  unfold struckItem dramFound at item
  unfold modFault
  dsimp only
  rw [item]
  rfl

theorem eccError_dram_of_item (controller : m ≤ 3) (at_ : cell = some (n, x)) {r : Run} (runs : tfind (blockAt n h).running x = some r) :
    eccError (.dram m cell false) h = failItem n x 13 r (retire n x (dramFound h)) := by
  have item : struckItem cell (dramFound h) = some ((n, x), r) := by
    rw [at_]
    exact congrArg (Option.map (fun r => ((n, x), r))) runs
  refine (if_neg (Nat.not_lt.2 controller)).trans ?_
  unfold struckItem dramFound at item
  unfold modFault
  dsimp only
  rw [item]
  rfl

end

/-! ### Quarantine of a block (R532) -/

/-- The blocks out of service. -/
def isQuarantined (m : Nat) (h : Hw) : Bool := (blockAt m h).quarantined

/-- A block put with the quarantine it had. -/
theorem isQuarantined_putBlock {k : Nat} {b : Block} (m : Nat) (same : b.quarantined = (blockAt k h).quarantined) :
    isQuarantined m (putBlock k b h) = isQuarantined m h := by
  unfold isQuarantined
  by_cases e : m = k
  · rw [e, blockAt_putBlock_self, same]
  · rw [blockAt_putBlock_ne _ _ _ _ e]

/-- Moving work quarantines no block and releases none. -/
theorem isQuarantined_moveItem (m n : Nat) (delayed : Bool) (i : Item) (h : Hw) : isQuarantined m (moveItem n delayed i h) = isQuarantined m h := by
  unfold moveItem
  split
  · rfl
  · next t _ =>
    have emptied := isQuarantined_putBlock (h := h) (k := n) (b := { blockAt n h with ready := (blockAt n h).ready.erase i, delay := (blockAt n h).delay.erase i }) m rfl
    have moved (g : Hw) : isQuarantined m (putBlock t (if delayed then { blockAt t g with delay := (blockAt t g).delay ++ [i] }
        else { blockAt t g with ready := (blockAt t g).ready ++ [i] }) g) = isQuarantined m g :=
      isQuarantined_putBlock m (by split <;> rfl)
    dsimp only
    split
    · exact (moved _).trans emptied
    · exact (moved _).trans emptied

theorem isQuarantined_relocate (m n : Nat) (h : Hw) : isQuarantined m (relocate n h) = isQuarantined m h := by
  unfold relocate
  dsimp only
  rw [foldl_keeps (isQuarantined m), foldl_keeps (isQuarantined m), foldl_keeps (isQuarantined m)]
  · exact fun g i => isQuarantined_moveItem ..
  · exact fun g i => isQuarantined_moveItem ..
  · intro g e
    split <;> rfl

theorem isQuarantined_regionPlace (m n : Nat) (h : Hw) : isQuarantined m (regionPlace n h) = isQuarantined m h :=
  foldl_keeps (isQuarantined m) _ (fun g f => by split <;> rfl) _ h

/-- Blocks put out of service are so afterwards. -/
theorem isQuarantined_foldl (m : Nat) (l : List Nat) (h : Hw) :
    isQuarantined m (l.foldl (fun h n => putBlock n { blockAt n h with quarantined := true } h) h) = (l.contains m || isQuarantined m h) := by
  induction l generalizing h with
  | nil => rfl
  | cons a l ih =>
    rw [List.foldl_cons, ih, List.contains_cons]
    by_cases e : m = a
    · simp [e, isQuarantined]
    · rw [beq_eq_false_iff_ne.2 e, Bool.false_or]
      exact congrArg (fun b : Block => l.contains m || b.quarantined) (blockAt_putBlock_ne a m _ h e)

/-- A fence leaves the blocks of its die out of service. -/
theorem isQuarantined_fenceDie (n source kind : Nat) (h : Hw) (was : isQuarantined n h = true) : isQuarantined n (fenceDie (n / 4) source kind h) = true := by
  unfold fenceDie
  split
  · exact was
  · have member : [4 * (n / 4), 4 * (n / 4) + 1, 4 * (n / 4) + 2, 4 * (n / 4) + 3].contains n = true := by
      simp only [List.contains_eq_mem, List.mem_cons, List.not_mem_nil, or_false, decide_eq_true_eq]
      omega
    refine (isQuarantined_foldl n _ _).trans ?_
    rw [member]
    rfl

theorem isQuarantined_quarantineBlock (source kind : Nat) (open_ : blockOpen n h = true) : isQuarantined n (quarantineBlock n source kind h) = true := by
  have placed (g : Hw) : isQuarantined n (relocate n (regionPlace n (modFault (fun f => { f with cause := (source, kind) })
      (putBlock n { blockAt n g with quarantined := true } g)))) = true := by
    rw [isQuarantined_relocate, isQuarantined_regionPlace]
    exact congrArg Block.quarantined (blockAt_putBlock_self n _ g)
  unfold quarantineBlock
  rw [if_neg (by simp [open_])]
  dsimp only
  split
  · exact isQuarantined_fenceDie _ _ _ _ (placed _)
  · exact placed _

theorem blockError_of_closed (closed : blockOpen n h = false) (pll : Bool) : blockError n pll h = h := if_pos closed

/-- A slot stands empty for 50 µs although its block holds an item for it. -/
def Stalls (n x : Nat) (h : Hw) : Prop :=
  x ∈ cellsInService n h ∧ tfind (blockAt n h).slots x = none ∧ (∃ t, tfind (blockAt n h).emptySince x = some t ∧ t + nsUnits 50000 ≤ h.time.mono) ∧ pickClass n x h ≠ none

/-- `dispatcherStall` asks for that. -/
theorem stalls_iff (n x : Nat) (h : Hw) :
    ((cellsInService n h).contains x = true ∧ (tfind (blockAt n h).slots x).isNone = true
      ∧ (match tfind (blockAt n h).emptySince x with | some t => decide (t + nsUnits 50000 ≤ h.time.mono) | none => false) = true
      ∧ (pickClass n x h).isSome = true) ↔ Stalls n x h := by
  unfold Stalls
  rw [List.contains_iff_mem, Option.isNone_iff_eq_none, Option.isSome_iff_ne_none]
  cases tfind (blockAt n h).emptySince x <;> simp

theorem dispatcherStall_of_stalls (late : Stalls n x h) : dispatcherStall n x h = quarantineBlock n (cellSource n 0xFF) 7 h := if_pos ((stalls_iff n x h).2 late)

theorem dispatcherStall_of_not (early : ¬Stalls n x h) : dispatcherStall n x h = h := if_neg (fun e => early ((stalls_iff n x h).1 e))

/-! ### DIE_LINK_ERROR and placement (R534, R535) -/

/-- The replays are counted. -/
def replayed (replays : Nat) (h : Hw) : Hw := { h with fault := { h.fault with replays := sat32 (h.fault.replays + replays) } }

section
variable {region replays : Nat} {noc : Bool}

theorem dieLinkError_of_other (other : region = 0 ∨ 7 < region) : dieLinkError region noc replays h = replayed replays h :=
  (if_neg (by omega)).trans (if_pos (by omega))

theorem dieLinkError_of_compute (least : 2 ≤ region) (most : region ≤ 7) :
    dieLinkError region noc replays h
      = fenceDie (region - 2) (if noc then region * 4096 + 0xFFF else 0x0F10 + region) (if noc then 9 else 10) (replayed replays h) :=
  (if_neg (by omega)).trans (if_neg (by omega))

/-- On region 1 what happens turns on Hollyhock's link. -/
theorem dieLinkError_of_lupin (lupin : region = 1) :
    dieLinkError region noc replays h = if hollyhock h = true ∧ noc = false ∧ h.lupin.linkDown = false then
      reporting (modLupin (fun l => { l with linkDown := true })) (logFault 0x0F11 10 0 0xFFFF 0xFFFF (replayed replays h)) else replayed replays h :=
  if_pos lupin

end

/-- Without a function that waits, placement only moves work. -/
theorem placeSlices_of_none (none_ : ∀ f ∈ fnsOf h, homeless f h = false ∧ f.slice ∉ h.fault.unplaced) :
    placeSlices h = ((List.range (blockCount h)).filter (fun n => !blockOpen n h)).foldl (fun g n => relocate n g) h := by
  have waiting : (fnsOf h).filter (fun f => homeless f h || h.fault.unplaced.contains f.slice) = [] := by
    rw [List.filter_eq_nil_iff]
    intro f member
    obtain ⟨housed, placed⟩ := none_ f member
    simp [housed, placed]
  simp only [placeSlices, waiting, List.map_nil, List.eraseDups_nil, List.mergeSort_nil, List.foldl_nil]

/-! ### HUB_FATAL_ERROR (R536) -/

theorem owed_setIrq (i : Nat) (h : Hw) : (setIrq i h).cmd.owed = h.cmd.owed := by
  unfold setIrq
  dsimp only
  split <;> rfl

/-- A record leaves the completions owed. -/
theorem owed_evrFlagged (extra code source sl : Nat) (pay : List Byte) (h : Hw) : (evrFlagged extra code source sl pay h).cmd.owed = h.cmd.owed := by
  unfold evrFlagged
  dsimp only
  split
  · rfl
  · split
    · split <;> rfl
    · split
      · rfl
      · exact owed_setIrq ..

theorem owed_evrDirect (code source : Nat) (pay : List Byte) (h : Hw) : (evrDirect code source pay h).cmd.owed = h.cmd.owed := by
  unfold evrDirect
  split
  · rfl
  · exact owed_setIrq ..

theorem owed_logFault (source kind action sl fn : Nat) (h : Hw) : (logFault source kind action sl fn h).cmd.owed = h.cmd.owed := by
  unfold logFault
  dsimp only
  split
  · exact owed_evrFlagged ..
  · rfl

theorem cfg_logFault (source kind action sl fn : Nat) (h : Hw) : (logFault source kind action sl fn h).cfg = h.cfg := by
  unfold logFault
  dsimp only
  split <;> simp

theorem owed_setMode (m : ModState) (cause : Nat) (h : Hw) : (setMode m cause h).cmd.owed = h.cmd.owed := owed_evrFlagged ..

theorem mode_setMode (m : ModState) (cause : Nat) (h : Hw) : (setMode m cause h).mode = m := by simp [setMode]

/-- The save of the events stops the recorder, and leaves the state, the sets and the completions owed. -/
theorem saveEvents_halts (cause : Nat) (h : Hw) :
    (saveEvents cause h).mode = h.mode ∧ (saveEvents cause h).cfg = h.cfg ∧ (saveEvents cause h).cmd.owed = h.cmd.owed ∧ (saveEvents cause h).evr.stopped = true := by
  unfold saveEvents
  split
  · next stopped => exact ⟨rfl, rfl, rfl, stopped⟩
  · exact ⟨by simp, by simp, owed_evrDirect .., rfl⟩

/-- The states that HUB_FATAL_ERROR ends. -/
def Halts (h : Hw) : Prop := h.mode = .idle ∨ h.mode = .ready ∨ h.mode = .serving ∨ h.mode = .test

theorem hubFatal_of_other {source : Nat} {evrRuns pairRuns : Bool} (other : ¬Halts h) : hubFatal source evrRuns pairRuns h = h := if_neg other

/-- The module as HUB_FATAL_ERROR leaves it: the swap forgotten, the error logged, the state entered and the events saved. -/
def haltedBy (source : Nat) (g : Hw) : Hw :=
  saveEvents 2 (setMode .halted 0 (logFault source 14 8 0xFFFF 0xFFFF (forget .swap { g with cfg := { g.cfg with swap := none } })))

/-- HALTED, with the recorder stopped and without a swap or its completion. -/
theorem haltedBy_halts (source : Nat) (g : Hw) :
    (haltedBy source g).mode = .halted ∧ (haltedBy source g).evr.stopped = true ∧ (haltedBy source g).cfg.swap = none
      ∧ ∀ o ∈ (haltedBy source g).cmd.owed, o.kind ≠ .swap := by
  unfold haltedBy
  obtain ⟨mode, cfg, owed, stopped⟩ := saveEvents_halts 2 (setMode .halted 0 (logFault source 14 8 0xFFFF 0xFFFF (forget .swap { g with cfg := { g.cfg with swap := none } })))
  refine ⟨mode.trans (mode_setMode ..), stopped, ?_, fun o member => ?_⟩
  · rw [cfg, (setMode_frame ..).2.2.2.1, cfg_logFault]
    rfl
  · rw [owed, owed_setMode, owed_logFault] at member
    exact bne_iff_ne.1 (List.mem_filter.1 member).2

theorem hubFatal_of_halts {source : Nat} {evrRuns pairRuns : Bool} (on : Halts h) : ∃ g, hubFatal source evrRuns pairRuns h = haltedBy source g :=
  ⟨_, if_pos on⟩

/-- A hub unit's SOURCE is one of region H, a link's that of a populated region. -/
theorem hubUnit_source {source : Nat} (unit_ : hubUnit source h = true) : source / 4096 = 0 ∧ (0x0F11 ≤ source → source - 0x0F10 ∈ populated h) := by
  simp only [hubUnit, hubSource, Bool.and_eq_true, Bool.or_eq_true, decide_eq_true_eq, List.contains_iff_mem] at unit_
  obtain ⟨⟨small, _⟩, link⟩ := unit_
  exact ⟨by omega, fun far => link.resolve_left (by omega)⟩

/-! ### CORRECTED_ERROR_REPORT (R544) -/

/-- The corrected errors of a region since its last report, with the time of that and what the last error was. -/
def correctedOf (region : Nat) (h : Hw) : Nat × Option Nat × Nat × Nat := tget h.fault.corrected region (0, none, 0, 0)

/-- A report holds while none is due: nothing was corrected, or the last report is not 60 s ago. -/
theorem reportHeld_iff (n : Nat) (at_ : Option Nat) (now wait : Nat) :
    (n = 0 ∨ at_.elim false (fun t => decide (now < t + wait)) = true) ↔ n = 0 ∨ ∃ t, at_ = some t ∧ now < t + wait := by
  cases at_ with
  | none => simp only [Option.elim_none, Bool.false_eq_true, reduceCtorEq, false_and, exists_false]
  | some t => simp only [Option.elim_some, decide_eq_true_eq, Option.some.injEq, exists_eq_left']

/-- A report turns on the corrected errors since the last one and on its time. -/
theorem correctedReport_of_errors {region n kind src : Nat} {at_ : Option Nat} (errors : correctedOf region h = (n, at_, kind, src)) :
    let g := { h with fault := { h.fault with corrected := tset h.fault.corrected region (0, some h.time.mono, kind, src) } }
    ((n = 0 ∨ ∃ t, at_ = some t ∧ h.time.mono < t + 60 * secUnit) → correctedReport region h = h)
    ∧ (¬(n = 0 ∨ ∃ t, at_ = some t ∧ h.time.mono < t + 60 * secUnit) →
        correctedReport region h = evr 0x1411 src (faultPayload src kind 0 ((h.fault.next + 2 ^ 32 - 1) % 2 ^ 32) 0xFFFF 0xFFFF n g) g) := by
  unfold correctedOf at errors
  simp only [correctedReport, errors]
  exact ⟨fun held => if_pos ((reportHeld_iff ..).2 held), fun due => if_neg (mt (reportHeld_iff ..).1 due)⟩

/-! ### The die links (R23, R534, R537) -/

/-- The source served next is one that waits. -/
theorem nextSource_mem {last s : Nat} {waiting : List Nat} (next : nextSource last waiting = some s) : s ∈ waiting := by
  have least (a : Nat) (l : List Nat) : l.foldl min a = a ∨ l.foldl min a ∈ l := by
    induction l generalizing a with
    | nil => exact .inl rfl
    | cons b l ih =>
      rw [List.foldl_cons]
      rcases ih (min a b) with e | e
      · rcases Nat.le_total a b with k | k
        · exact .inl (e.trans (Nat.min_eq_left k))
        · exact .inr (List.mem_cons.2 (.inl (e.trans (Nat.min_eq_right k))))
      · exact .inr (List.mem_cons_of_mem _ e)
  have chosen (a : Nat) (l : List Nat) : l.foldl min a ∈ a :: l := List.mem_cons.2 (least a l)
  unfold nextSource at next
  split at next
  · next a r after =>
    obtain rfl := Option.some.inj next
    exact (List.mem_filter.1 (after ▸ chosen a r)).1
  · split at next
    · next a r _ =>
      obtain rfl := Option.some.inj next
      exact chosen a r
    · cases next

/-- A source is served next where one waits. -/
theorem nextSource_ne_none (last : Nat) {waiting : List Nat} (some_ : waiting ≠ []) : nextSource last waiting ≠ none := by
  unfold nextSource
  split
  · simp
  · split
    · simp
    · exact absurd rfl some_

/-- The sources of the flits that wait on a channel. -/
def sourcesOn (waiting : List (Nat × Nat)) (vc : Nat) : List Nat := (waiting.filter (fun w => w.1 == vc)).map (fun w => w.2)

theorem mem_sourcesOn {waiting : List (Nat × Nat)} {vc s : Nat} : s ∈ sourcesOn waiting vc ↔ (vc, s) ∈ waiting := by
  simp only [sourcesOn, List.mem_map, List.mem_filter, beq_iff_eq]
  constructor
  · rintro ⟨w, ⟨member, rfl⟩, rfl⟩
    exact member
  · exact fun member => ⟨(vc, s), ⟨member, rfl⟩, rfl⟩

/-- The flit of a channel: the next source in turn, where the channel has a credit. -/
def flitOf (x : DieLink) (waiting : List (Nat × Nat)) (vc : Nat) : Option (Nat × Nat) :=
  if maySend x vc then (nextSource (x.turn.getD vc 0) (sourcesOn waiting vc)).map (fun s => (vc, s)) else none

/-- A channel's flit is one that waits on it, and takes a credit that the channel has. -/
theorem flitOf_some {x : DieLink} {waiting : List (Nat × Nat)} {vc : Nat} {w : Nat × Nat} (flit : flitOf x waiting vc = some w) :
    w.1 = vc ∧ 0 < creditsOf x vc ∧ w ∈ waiting := by
  unfold flitOf at flit
  split at flit
  · next credit =>
    obtain ⟨s, next, rfl⟩ := Option.map_eq_some_iff.1 flit
    exact ⟨rfl, of_decide_eq_true credit, mem_sourcesOn.1 (nextSource_mem next)⟩
  · cases flit

/-- A channel with a credit on which a flit waits has a flit to send. -/
theorem flitOf_ne_none {x : DieLink} {waiting : List (Nat × Nat)} {w : Nat × Nat} (waits : w ∈ waiting) (credit : 0 < creditsOf x w.1) :
    flitOf x waiting w.1 ≠ none := by
  have some_ : sourcesOn waiting w.1 ≠ [] := List.ne_nil_of_mem (mem_sourcesOn.2 waits)
  unfold flitOf
  rw [if_pos (show maySend x w.1 = true from decide_eq_true credit), ne_eq, Option.map_eq_none_iff]
  exact nextSource_ne_none _ some_

/-- A channel stands before another: VC7 first, then by number. -/
def ChannelFirst (a b : Nat) : Prop := a = 7 ∨ (b ≠ 7 ∧ a ≤ b)

theorem channelOrder_pairwise : channelOrder.Pairwise ChannelFirst := by
  unfold channelOrder ChannelFirst
  decide

theorem mem_channelOrder {vc : Nat} (channel : vc ≤ 7) : vc ∈ channelOrder := by
  unfold channelOrder
  simp only [List.mem_cons, List.not_mem_nil, or_false]
  omega

/-- The arbiter sends a flit that waits with a credit, of the first channel that has one. -/
theorem arbitrate_some {x : DieLink} {waiting : List (Nat × Nat)} {vc src : Nat} (chosen : arbitrate x waiting = some (vc, src)) :
    0 < creditsOf x vc ∧ (vc, src) ∈ waiting ∧ ∀ w ∈ waiting, 0 < creditsOf x w.1 → w.1 ≤ 7 → ChannelFirst vc w.1 := by
  have first : channelOrder.findSome? (flitOf x waiting) = some (vc, src) := chosen
  obtain ⟨before, c, after, order, flit, none_⟩ := List.findSome?_eq_some_iff.1 first
  obtain ⟨same_, credit, waits⟩ := flitOf_some flit
  obtain rfl : vc = c := same_
  refine ⟨credit, waits, fun w member has channel => ?_⟩
  have later : w.1 ∈ vc :: after := by
    have listed := mem_channelOrder channel
    rw [order, List.mem_append] at listed
    exact listed.resolve_left (fun e => flitOf_ne_none member has (none_ w.1 e))
  rcases List.mem_cons.1 later with same | behind
  · exact (em (vc = 7)).imp_right (fun e => ⟨same.trans_ne e, Nat.le_of_eq same.symm⟩)
  · have pairs := channelOrder_pairwise
    rw [order, List.pairwise_append, List.pairwise_cons] at pairs
    exact pairs.2.1.1 w.1 behind

/-- A flit takes one credit of its own channel. -/
theorem creditsOf_sendFlit (w : Nat × Nat) (x : DieLink) (vc : Nat) :
    creditsOf (sendFlit w x) vc = if vc = w.1 then creditsOf x vc - 1 else creditsOf x vc := by
  simp only [creditsOf, sendFlit, takeCredit, List.getD_eq_getElem?_getD, List.getElem?_set]
  split
  · next e =>
    subst e
    rw [if_pos rfl]
    split
    · rfl
    · next beyond => simp [List.getElem?_eq_none (Nat.not_lt.1 beyond)]
  · next e => rw [if_neg (Ne.symm e)]

/-- A withdrawn link has no credit. -/
theorem linkTo_withdrawCredits (r : Nat) (h : Hw) : linkTo r (withdrawCredits r h) = { linkTo r h with credits := List.replicate 8 0, withdrawn := true } :=
  tget_tset_self ..

theorem maySend_withdrawCredits (r vc : Nat) (h : Hw) : maySend (linkTo r (withdrawCredits r h)) vc = false := by
  rw [linkTo_withdrawCredits, maySend, creditsOf]
  refine decide_eq_false (Nat.not_lt.2 (Nat.le_of_eq ?_))
  simp only [List.getD_eq_getElem?_getD, List.getElem?_replicate]
  split <;> rfl

/-! ### SELFTEST_DUE (R390) -/

/-- The module tests itself, in a state that does. -/
def SelfTests (h : Hw) : Prop := selfTesting h = true ∧ Halts h

theorem not_selfTests_iff (h : Hw) : (selfTesting h = false ∨ modeCode h.mode < 4 ∨ 7 < modeCode h.mode) ↔ ¬SelfTests h := by
  unfold SelfTests Halts
  cases selfTesting h <;> cases h.mode <;> simp [modeCode]

theorem selftestDue_of_not (off : ¬SelfTests h) (test : Nat) (found : SelfTest) : selftestDue test found h = h := if_pos ((not_selfTests_iff h).2 off)

/-- Each test runs at its interval. -/
theorem selftestDue_of_on (on : SelfTests h) (test : Nat) (found : SelfTest) :
    (test = 1 → selftestDue test found h = if decide (h.pair.coreAt + nsUnits (1000000 * h.pair.coreInterval) ≤ h.time.mono) then
        coreTest (List.range (blockCount h)) found h else h)
    ∧ (test = 2 → selftestDue test found h = if decide (h.pair.loopAt + secUnit ≤ h.time.mono) then loopbackTest found h else h)
    ∧ (test = 3 → selftestDue test found h = if decide (h.pair.katAt + h.pair.katInterval * secUnit ≤ h.time.mono) then katTest found h else h)
    ∧ (test = 4 → selftestDue test found h = if decide (h.pair.scrubAt + h.pair.scrubPeriod * secUnit ≤ h.time.mono) then scrubPass found h else h) := by
  unfold selftestDue
  rw [if_neg (mt (not_selfTests_iff h).1 (not_not_intro on))]
  split
  · exact ⟨fun _ => rfl, nofun, nofun, nofun⟩
  · exact ⟨nofun, fun _ => rfl, nofun, nofun⟩
  · exact ⟨nofun, nofun, fun _ => rfl, nofun⟩
  · exact ⟨nofun, nofun, nofun, fun _ => rfl⟩
  · next core loopback kat scrub => exact ⟨fun e => (core e).elim, fun e => (loopback e).elim, fun e => (kat e).elim, fun e => (scrub e).elim⟩

/-! ### FW_LOAD_VERIFY_DONE -/

theorem fwVerified_of_none (none_ : h.boot.load = none) (image : FlashImage) (flashOk : Bool) : fwVerified image flashOk h = h := by
  simp only [fwVerified, none_]

section
variable {l : FwLoad} (load : h.boot.load = some l) (image : FlashImage)
include load

theorem fwVerified_of_loading (loading : l.verifying = false) (flashOk : Bool) : fwVerified image flashOk h = h := by
  simp only [fwVerified, load, loading, if_true]

variable (verifying : l.verifying = true)
include verifying

theorem fwVerified_of_flash : fwVerified image false h = complete .fwLoad stInternal rcDiagFwFlash [] { h with boot := { h.boot with load := none } } := by
  simp only [fwVerified, load, verifying, Bool.true_eq_false, if_false, if_true]

theorem fwVerified_of_unsigned (unsigned : image.firstStageOk = false ∨ image.firmwareOk = false) :
    fwVerified image true h = complete .fwLoad stAuthFailed rcDiagFwSignature [] { h with boot := { h.boot with load := none } } := by
  have bad : (image.firstStageOk && image.firmwareOk) = false := Bool.and_eq_false_iff.2 unsigned
  simp only [fwVerified, load, verifying, Bool.true_eq_false, if_false, bad, if_true]

/-- A sound image is in flash, preferred where the load asks for it. -/
theorem fwVerified_of_sound (first : image.firstStageOk = true) (firmware : image.firmwareOk = true) :
    let g := putImage l.image { image with bytes := (l.received.map (fun e => e.2)).flatten } { h with boot := { h.boot with load := none } }
    let g := { g with boot := { g.boot with preferred := if l.prefer then l.image else g.boot.preferred } }
    fwVerified image true h = complete .fwLoad stOk 0 (fwBytes l.total l.image 1 image.compat image.hash) g := by
  simp only [fwVerified, load, verifying, Bool.true_eq_false, if_false, first, firmware, Bool.and_self]
  split <;> rfl

end

/-- Settles O59: a command, an error and a report each by the equation of its own chapter. -/
theorem errorsAreCountedAndContained : Obligations.ErrorsAreCountedAndContained := by
  refine ⟨fun c p s => ⟨fun q => runs_ok rfl q rfl, ?faultRead, ?selftest, ?quarantine, ?inject, ?fwLoad⟩, ?errors, fun n x kind h => rfl, ?links,
    fun s => ⟨runsAll_lift rfl rfl, placeSlices_of_none⟩, ?fatal, ?report, ?arbiter, ?due, ?verified⟩
  case faultRead =>
    exact fun q least most => ⟨fun a b oldest newest held => runs_ok rfl q (diagFaultRead_of_held least most oldest newest held),
      fun gone => runs_refuse rfl q (diagFaultRead_of_gone least most gone)⟩
  case selftest =>
    intro found picked scrub q die block test
    refine ⟨fun fenced => runsAll_lift rfl (runCmd_refuse q (diagSelftest_of_fenced die block test fenced)), fun open_ => ?_⟩
    have tests := diagSelftest_of_open (c := c) die block test open_
    refine ⟨fun core => ?_, fun loopback => ?_, fun kat => ?_, fun scrub => ?_, fun all => ?_⟩
    · exact runsAll_ok rfl q (tests.trans (by simp only [runTest, core]; rfl))
    · exact runsAll_ok rfl q (tests.trans (by simp only [runTest, loopback]; rfl))
    · exact runsAll_ok rfl q (tests.trans (by simp only [runTest, kat]; rfl))
    · exact runsAll_ok rfl q (tests.trans (by simp only [runTest, scrub]; rfl))
    · exact runsAll_ok rfl q (tests.trans (by simp only [runTest, all]; rfl))
  case quarantine =>
    intro n x target q open_ cells rest others left
    refine ⟨fun op last => ?_, fun op some_ whole => ?_, fun op some_ cell => ?_, fun op bad => ?_, fun op sound => ?_⟩
    all_goals have quarantine := diagQuarantine_of_target (c := c) target open_ (by omega)
    · exact runsAll_lift rfl (runCmd_refuse q (quarantine.trans ((if_pos op).trans (if_pos last))))
    · exact runsAll_ok rfl q (quarantine.trans ((if_pos op).trans ((if_neg some_).trans (congrArg done (if_pos whole)))))
    · exact runsAll_ok rfl q (quarantine.trans ((if_pos op).trans ((if_neg some_).trans (congrArg done (if_neg cell)))))
    · obtain ⟨y, member, fails⟩ := bad
      refine runsAll_lift rfl (runCmd_refuse q (quarantine.trans ((if_neg (by omega)).trans (if_pos ?_))))
      exact List.ne_nil_of_mem (List.mem_filter.2 ⟨member, List.contains_iff_mem.2 fails⟩)
    · refine ⟨released n x s.hw, runsAll_ok rfl q (quarantine.trans ((if_neg (by omega)).trans (if_neg (not_not_intro ?_)))), released_blocks n x s.hw⟩
      exact List.filter_eq_nil_iff.2 (fun y member => mt List.contains_iff_mem.1 (sound y member))
  case inject =>
    exact fun n x kind target cell open_ q least most => runsAll_ok rfl q (diagInject_of_cell kind target cell open_ least most)
  case fwLoad =>
    intro total i n image q sound least
    refine ⟨fun mode running => runs_refuse rfl q (diagFwLoad_of_running sound least mode running), fun other first => ?_⟩
    have load := diagFwLoad_of_first (c := c) sound least other first
    exact ⟨fun more => runs_ok rfl q (load.trans (if_pos more)), fun whole => runs_accepted rfl q (load.trans (if_neg (Nat.not_lt.2 whole)))⟩
  case errors =>
    refine fun n x s => ⟨fun block cell => ⟨runsAll_lift rfl (eccError_l1_corrected block cell), runsAll_lift rfl (eccError_l2_corrected block cell)⟩,
      fun m cell => ⟨fun beyond corrected => runsAll_lift rfl (eccError_dram_of_none beyond corrected), fun controller => ⟨?_, ?_, ?_⟩⟩,
      fun on => ⟨runsAll_lift rfl (eccError_l1_of_on on), runsAll_lift rfl (eccError_l2_of_on on)⟩,
      fun off => ⟨runsAll_lift rfl (eccError_l1_of_off off), runsAll_lift rfl (eccError_l2_of_off off)⟩,
      fun closed pll => runsAll_lift rfl (blockError_of_closed closed pll),
      fun open_ pll => ⟨runsAll_lift rfl rfl, isQuarantined_quarantineBlock _ _ open_⟩,
      fun late => runsAll_lift rfl (dispatcherStall_of_stalls late), fun early => runsAll_lift rfl (dispatcherStall_of_not early)⟩
    · exact runsAll_lift rfl (eccError_dram_corrected controller)
    · exact fun none_ => runsAll_lift rfl (eccError_dram_of_no_item controller none_)
    · exact fun r at_ runs => runsAll_lift rfl (eccError_dram_of_item controller at_ runs)
  case links =>
    refine fun region replays noc s => ⟨fun other => runsAll_lift rfl (dieLinkError_of_other other),
      fun least most => runsAll_lift rfl (dieLinkError_of_compute least most), fun lupin none_ => ?_, fun lupin there link up => ?_⟩
    · refine runsAll_lift rfl ((dieLinkError_of_lupin lupin).trans (if_neg ?_))
      rintro ⟨there, link, up⟩
      rcases none_ with e | e | e
      · exact Bool.eq_false_iff.1 e there
      · exact Bool.eq_false_iff.1 link e
      · exact Bool.eq_false_iff.1 up e
    · exact runsAll_lift rfl ((dieLinkError_of_lupin lupin).trans (if_pos ⟨there, link, up⟩))
  case fatal =>
    refine fun source evrRuns pairRuns s => ⟨fun unit_ => ?_, fun other => ?_, hubUnit_source, hubFatal_of_other, fun on => ?_⟩
    · exact runsAll_lift (f := fun h => onlyIf (hubUnit source h) (hubFatal source evrRuns pairRuns) h) rfl (onlyIf_of_true unit_)
    · exact runsAll_lift (f := fun h => onlyIf (hubUnit source h) (hubFatal source evrRuns pairRuns) h) rfl (onlyIf_of_false other)
    · obtain ⟨g, fatal⟩ := hubFatal_of_halts (source := source) (evrRuns := evrRuns) (pairRuns := pairRuns) on
      rw [fatal]
      exact haltedBy_halts source g
  case report =>
    intro region s
    obtain ⟨held, due⟩ := correctedReport_of_errors (h := s.hw) (region := region) rfl
    refine ⟨fun none_ => runs_lift rfl (held (.inl none_)), fun t at_ soon => runs_lift rfl (held (.inr ⟨t, at_, soon⟩)), fun some_ late => runs_lift rfl (due ?_)⟩
    rintro (none_ | ⟨t, at_, soon⟩)
    · exact some_ none_
    · exact Nat.not_lt.2 (late t at_) soon
  case arbiter =>
    exact fun x waiting => ⟨fun vc src => arbitrate_some, fun w vc => creditsOf_sendFlit w x vc,
      fun r h => ⟨congrArg DieLink.withdrawn (linkTo_withdrawCredits r h), fun vc => maySend_withdrawCredits r vc h, fun q other => tget_tset_ne _ _ _ _ _ other⟩,
      fun withdrawn vc => if_pos withdrawn⟩
  case due =>
    refine fun test found s => ⟨fun off => runsAll_lift rfl (selftestDue_of_not off test found), fun on named due => ?_, fun on named due => ?_,
      fun on named due => ?_, fun on named due => ?_⟩
    all_goals obtain ⟨core, loopback, kat, scrub⟩ := selftestDue_of_on on test found
    · exact runsAll_lift rfl ((core named).trans (if_pos (decide_eq_true due)))
    · exact runsAll_lift rfl ((loopback named).trans (if_pos (decide_eq_true due)))
    · exact runsAll_lift rfl ((kat named).trans (if_pos (decide_eq_true due)))
    · exact runsAll_lift rfl ((scrub named).trans (if_pos (decide_eq_true due)))
  case verified =>
    refine fun image flashOk s => ⟨fun none_ => runs_lift rfl (fwVerified_of_none none_ image flashOk),
      fun l load => ⟨fun loading => runs_lift rfl (fwVerified_of_loading load image loading flashOk), fun verifying => ⟨?_, ?_, ?_⟩⟩⟩
    · rintro rfl
      exact runs_lift rfl (fwVerified_of_flash load image verifying)
    · rintro rfl unsigned
      exact runs_lift rfl (fwVerified_of_unsigned load image verifying unsigned)
    · rintro rfl first firmware
      exact runs_lift rfl (fwVerified_of_sound load image verifying first firmware)

end Sys2Proof.Machine
end
